-- ==== Sys2Proof/Word.lean ====
section
/-! DEFINITION. The words the specification counts in (00_scope R8 to R10): bytes of records and
memories, 32-bit registers, and the records themselves as byte strings. -/

namespace Sys2Proof

/-- One byte of a record, a memory or a frame. -/
abbrev Byte := BitVec 8

/-- One 32-bit register word. -/
abbrev Word := BitVec 32

/-- A record of R14: bytes at rising offsets, lowest address first (R10). -/
abbrev Rec := List Byte

end Sys2Proof
end

