-- ==== Sys2Proof/Syntax.lean ====
section
/-! DEFINITION. The commands the block takes: one constructor per row of spec/opcode_table.json, with the row's
operands. A mailbox command carries its origin, header and request record; an event carries what the outside gives
it (levels, measured values, received bytes). -/

namespace Sys2Proof

/-- Who sends a mailbox command (18_mailbox_commands R399, R413): the board host on a channel, the baseband in a
management frame with its TAG, or firmware itself (17_boot_firmware_profiles R394, as host). -/
inductive Requester where
  | host (channel : Nat)
  | baseband (tag : Nat)
  | firmware
  deriving DecidableEq, Repr

/-- A mailbox command as its sender gives it: SEQ, TXN_ID and the request record of 18 R400; OPCODE is the row's and
LEN the record's length. -/
structure Call where
  src : Requester
  seq : Nat
  txn : Nat
  req : Rec
  deriving DecidableEq, Repr

/-- A reading of a campaign (13_array_survey): kind 0 T_e, 1 R_e, 2 Y from sheet a to sheet b, 3 K_s; the samples of the blocks of A and of B. -/
structure Reading where
  kind : Nat
  a : Nat
  b : Nat
  blocksA : List (List (Int × Int))
  blocksB : List (List (Int × Int))
  deriving DecidableEq, Repr


inductive Instr where
  /-- POWER_UP (R342): VAO_IN rises through 4.4 V; the AO regulator starts and the power sequencer begins raising the rails. -/
  | powerUp
  /-- AO_UNDERVOLTAGE_LOCKOUT (R341): VAO_IN falls through 4.1 V; PSEQ_EN6 to PSEQ_EN0 fall in turn and always-on memory is lost except the triplicated words. -/
  | aoUndervoltageLockout
  /-- AO_LOGIC_RELEASE (R342): 1 ms after t_p the AO logic is released on the RC oscillator and the triplicated words are read by majority. -/
  | aoLogicRelease
  /-- POWER_GOOD_HELD (R342): PSEQ_PGk has been high for 100 µs; the next rail enable rises, or CTRL, MBX and HK wake after PSEQ_PG6. -/
  | powerGoodHeld (rail : Nat)
  /-- RAIL_FAULT (R343): A power-good input low for 2 µs, or not high within 10 ms, forces every domain but AO OFF, drops the rails and asserts FAULT_N. -/
  | railFault (rail : Nat)
  /-- RAIL_RESTART_TIMEOUT (R343): 100 ms after a rail fault the sequencer repeats the rail bring-up, a reset of cause RAIL_FAULT, unless three faults fell within 10 minutes. -/
  | railRestartTimeout
  /-- PWR_CTRL_RESTART (R343): A host write of PWR.CTRL.RESTART restarts the rails after the third rail fault. -/
  | pwrCtrlRestart
  /-- PWR_CTRL_WAKE (R340): A host write of PWR.CTRL.WAKE wakes CTRL and MBX from RETENTION, or from OFF as a reset of cause WAKE_FROM_OFF. -/
  | pwrCtrlWake
  /-- RESET (R381): A reset of any cause starts at t_0: outputs muted, sheets to SLEEP, transactions and logs discarded, CTRL restarted. -/
  | reset (cause : Nat)
  /-- RESET_N_ASSERT (R379): RESET_N held low for 1 µs or longer is accepted and holds the control processor in reset. -/
  | resetNAssert (lowNs : Nat)
  /-- RESET_N_RELEASE (R379): The rising edge of RESET_N latches PROF0 and PROF1 and releases the processor at t_r. -/
  | resetNRelease (prof : Nat)
  /-- WATCHDOG_EXPIRY (R380): The hardware watchdog is not serviced within its timeout and resets the device with cause WATCHDOG. -/
  | watchdogExpiry
  /-- LOCKSTEP_MISMATCH (R380): The lockstep cores disagree; a fault latches to FAULT_N and a reset of cause LOCKSTEP starts within 1 µs. -/
  | lockstepMismatch
  /-- COMMAND_RESET_TIMEOUT (R398): 1 ms after the response of SYS_RESET, FW_ACTIVATE with RESET_NOW or PROFILE_SELECT with RESET, a reset of cause COMMAND starts. -/
  | commandResetTimeout
  /-- TEST_EN_CHANGE (R460): TEST_EN rises, holding the device as if RESET_N were low, or falls, releasing it as a reset of cause PIN. -/
  | testEnChange (high : Bool)
  /-- BOOT_ROM_START (R388): At t_r the boot ROM starts, reads the triplicated words, updates cause, count and slot state, and initializes processor SRAM. -/
  | bootRomStart
  /-- IMAGE_HEADER_CHECK (R386): The header of the chosen slot is read and checks 1 to 6 are run. -/
  | imageHeaderCheck (flashOk : Bool)
  /-- IMAGE_PAYLOAD_LOADED (R388): The payload read completes, hashed and written to processor SRAM and engine microcode memories. -/
  | imagePayloadLoaded
  /-- SIGNATURE_VERIFIED (R388): The image signature check completes; the image is accepted and firmware jumps to ENTRY, or the slot is marked BAD. -/
  | signatureVerified
  /-- FIRMWARE_START (R464): Firmware starts at ENTRY: writes the start record, brings every command setting to its Reset value, checks microcode ABIs and raises carried faults. -/
  | firmwareStart
  /-- ROM_SAFE_PROFILE (R396): The boot ROM runs the safe profile when no slot starts or SYS_RESET requests it. -/
  | romSafeProfile
  /-- TRIAL_TIMEOUT (R390): Firmware from a TRIAL slot runs TRIAL_TIMEOUT without FW_CONFIRM and starts a reset of cause TRIAL_TIMEOUT. -/
  | trialTimeout
  /-- CRASH_COUNT_CLEAR (R389): Firmware has run 10 minutes without a watchdog or lockstep reset and clears CRASH_COUNT. -/
  | crashCountClear
  /-- PROFILE_APPLY (R394): Firmware starts applying the selected profile as host: wakes DATUM and arms alignment before the first entry. -/
  | profileApply
  /-- PROFILE_ENTRY (R394): Firmware executes the next profile entry, grouping transactional entries into one transaction committed immediately. -/
  | profileEntry
  /-- PROFILE_WAIT_EXPIRY (R394): The time of a WAIT entry passes and the next entry runs. -/
  | profileWaitExpiry
  /-- PROFILE_REF_TIMEOUT (R394): REF is absent for 2 s while applying a profile; application fails with STATE. -/
  | profileRefTimeout
  /-- HOST_PORT_READ (R423): A quad-SPI READ transaction returns words from the host window, or 0 with an error flag for a failed access. -/
  | hostPortRead (addr : Nat) (words : Nat)
  /-- PORT_STATUS (R423): A quad-SPI PORT_STATUS transaction returns the ERR, IRQ, FAULT and READY flags from the AO domain. -/
  | portStatus
  /-- SHADOW_LO_READ (R426): A read of the LO word of a 64-bit pair returns bits 31:0 and copies bits 63:32 into the requester's HI shadow. -/
  | shadowLoRead (cpu : Bool) (addr : Nat)
  /-- SHADOW_HI_READ (R426): A read of the HI word of a 64-bit pair returns the requester's shadow. -/
  | shadowHiRead (cpu : Bool) (addr : Nat)
  /-- REGISTER_WRITE (R37): A write to a register with no row of its own takes effect at once; a direct write to GRAT, TXD, DPD, SHEETn or SURVEY is logged. -/
  | registerWrite (cpu : Bool) (addr : Nat) (value : Nat) (cut : Bool)
  /-- DIRECT_WRITE_CAPTURE_DRAIN (R37): Firmware drains the 16-entry direct-write capture into the commit log. -/
  | directWriteCaptureDrain
  /-- DOORBELL_RING (R403): A write of 1 to an MBX.DOORBELL bit queues the channel's command, or replays the stored response for a repeated SEQ and OPCODE. -/
  | doorbellRing (mask : Nat)
  /-- DONE_ACKNOWLEDGE (R403): The host writes 1 to an MBX.DONE bit, clearing it and the mailbox interrupt leaf. -/
  | doneAcknowledge (mask : Nat)
  /-- FAULT_STATUS_CLEAR (R428): Writing 1 to a PWR.FAULT_STATUS bit clears it unless its condition still holds. -/
  | faultStatusClear (mask : Nat)
  /-- FAULT_BIT_SET (R428): A fault source sets its FAULT_STATUS bit and FAULT_N, waking CTRL from RETENTION if the bit drives FAULT_N. -/
  | faultBitSet (source : Nat)
  /-- P_COMMAND_COMPLETE (R406): A parked command finishes in the background and its response is written. -/
  | pCommandComplete (index : Nat) (ok : Bool) (data : Rec)
  /-- INBAND_COMMAND (R414): Firmware takes a management command frame from queue 31, runs it on channel 7 and sends the response frame on queue 63. -/
  | inbandCommand
  /-- EVENT_RAISE (R430): An event enters the event log with the next SEQ and, if enabled and the link is UP, is sent in-band. -/
  | eventRaise (code : Nat) (unit : Nat) (data : List Nat)
  /-- SYS_CAP_READ (R416): Returns the capability record with unit service states. -/
  | sysCapRead (c : Call)
  /-- SYS_RESET (R398): Requests a reset of cause COMMAND 1 ms after the response, optionally into ROM safe mode. -/
  | sysReset (c : Call)
  /-- SYS_BOOT_STATUS (R398): Returns boot state, triplicated words, slot versions and reasons, and counters. -/
  | sysBootStatus (c : Call)
  /-- FW_WRITE (R390): Writes a chunk of the non-running firmware slot; with FINAL it runs the image checks. -/
  | fwWrite (c : Call)
  /-- FW_ACTIVATE (R390): Makes a STAGED slot TRIAL and PREFERRED, or a CONFIRMED non-running slot PREFERRED. -/
  | fwActivate (c : Call)
  /-- FW_CONFIRM (R390): Confirms the running TRIAL slot and advances the firmware security counter. -/
  | fwConfirm (c : Call)
  /-- SYS_FUSE_PROGRAM (R384): Programs or revokes an owner key slot or advances the profile counter in fuses. -/
  | sysFuseProgram (c : Call)
  /-- EVENT_READ (R433): Returns up to seven event records and, from the host, acknowledges records before FIRST_SEQ. -/
  | eventRead (c : Call)
  /-- EVENT_MASK_SET (R433): Sets the host class mask of the EVENT interrupt leaf. -/
  | eventMaskSet (c : Call)
  /-- MBX_INBAND_SET (R414): Enables or disables in-band management on channel 7 and sets the in-band event mask. -/
  | mbxInbandSet (c : Call)
  /-- MBX_STATUS (R405): Returns mailbox status, in-band and replay counters and last SEQ values. -/
  | mbxStatus (c : Call)
  /-- COMMIT_LOG_READ (R40): Returns up to six commit-log records from FIRST_SEQ. -/
  | commitLogRead (c : Call)
  /-- PWR_DOMAIN_SET (R361): Moves named power domains between ON, RETENTION and OFF, with drain, keep and wake-after settings. -/
  | pwrDomainSet (c : Call)
  /-- PWR_STATUS (R361): Returns domain states, RETFAIL masks and power counters. -/
  | pwrStatus (c : Call)
  /-- PWR_CASK_CLEAR (R337): Initializes one cask and ends its RETFAIL state. -/
  | pwrCaskClear (c : Call)
  /-- PWR_SAVELIST_SET (R339): Writes save-list entries, discarding their captured values. -/
  | pwrSavelistSet (c : Call)
  /-- PWR_SAVELIST_GET (R339): Returns save-list entries with saved values. -/
  | pwrSavelistGet (c : Call)
  /-- KILN_CONFIG (R356): Sets kiln mode, reduction order, floors, timing and temperature thresholds. -/
  | kilnConfig (c : Call)
  /-- KILN_BUDGET_SET (R348): Sets the budget schedule, burst, peak, feed ratio and feed-low threshold. -/
  | kilnBudgetSet (c : Call)
  /-- KILN_MODEL_SET (R347): Sets front-end and auxiliary power terms of the kiln model. -/
  | kilnModelSet (c : Call)
  /-- KILN_STATUS (R361): Returns kiln levels, powers, credit, temperatures, grants and counters. -/
  | kilnStatus (c : Call)
  /-- DRAIN_COMPLETE (R333): The last outstanding transfer of a quiescing domain completes and power-down proceeds. -/
  | drainComplete (dom : Nat)
  /-- DRAIN_TIMEOUT_EXPIRY (R333): DRAIN passes with transfers outstanding; the domain stays ON, or under FORCE the transfers are aborted and power-down proceeds. -/
  | drainTimeoutExpiry (dom : Nat) (left : List (Nat × Nat))
  /-- POWER_SWITCH_CLOSE (R335): A waking domain's power switch closes in the fixed order, 5 µs after the previous one, and memory preparation starts. -/
  | powerSwitchClose (dom : Nat)
  /-- MEMORY_INIT_DONE (R336): Memory initialization of a waking domain completes. -/
  | memoryInitDone (dom : Nat)
  /-- WAKE_SCRUB_DONE (R337): The wake scrub of kept casks completes; casks with a changed canary or uncorrectable word become RETFAIL and are poisoned. -/
  | wakeScrubDone (dom : Nat) (bad : Nat)
  /-- SAVELIST_RESTORE (R339): Captured save-list values are written back into a domain waking from OFF. -/
  | savelistRestore (dom : Nat) (bad : List Nat)
  /-- DOMAIN_ON (R332): A waking domain's bridge is released and it enters ON with the wake consequences of its domain. -/
  | domainOn (dom : Nat)
  /-- DOMAIN_OFF (R332): After clamps the power switch of a domain opens; its save list is captured when going to OFF. -/
  | domainOff (dom : Nat)
  /-- WAKE_AFTER_EXPIRY (R340): WAKE_AFTER expires and CTRL and MBX wake from RETENTION. -/
  | wakeAfterExpiry
  /-- FIO_START (R335): FIO starts within 20 µs of a wake request or stops once every other domain is in RETENTION or OFF. -/
  | fioStart
  /-- KILN_EVALUATE (R345): Every 1 ms the kiln updates credit, levels, feed state, budget entry and grants, and declares reductions or restorations. -/
  | kilnEvaluate
  /-- DATUM_STATUS (R107): Returns servo state, time, offsets, grandmaster data and datum counters. -/
  | datumStatus (c : Call)
  /-- DATUM_CONFIG (R111): Sets time source, PTP parameters, outputs, board delays and FRAME_OFFSET, a change of which is a step. -/
  | datumConfig (c : Call)
  /-- DATUM_TIME_SET (R111): Sets extended time by a step, at once or at the next PPS_IN edge, and sets TIME_VALID. -/
  | datumTimeSet (c : Call)
  /-- DATUM_STEP (R109): Steps or slews datum time, or accepts a refused step. -/
  | datumStep (c : Call)
  /-- DATUM_FREQ_SET (R107): Sets the increment offset in free run. -/
  | datumFreqSet (c : Call)
  /-- ECPRI_OWD (R120): Sends an eCPRI one-way delay request or reads stored results. -/
  | ecpriOwd (c : Call)
  /-- DATUM_CTRL_STEP (R111): The processor sets DATUM.CTRL.STEP; the counter adds STEP_NS and the step consequences follow. -/
  | datumCtrlStep
  /-- INCREMENT_WRITE (R95): A write of DATUM.INCR_HI loads the new increment together with FRAC_LO at the next DATUM cycle. -/
  | incrementWrite (value : Nat)
  /-- TOD_REFERENCE_WRITE (R98): A write of DATUM.TOD_N makes all four TOD reference registers take effect together. -/
  | todReferenceWrite (value : Nat)
  /-- TOD_REFRESH (R98): Firmware refreshes the reference triple at least every 0.5 s. -/
  | todRefresh
  /-- PTP_MESSAGE (R105): Firmware processes a received PTP message from the PTP ring: BMCA, servo measurement, lock or step judgement. -/
  | ptpMessage
  /-- DELAY_REQ_SEND (R105): Firmware sends a Delay_Req at its configured interval. -/
  | delayReqSend
  /-- ANNOUNCE_TIMEOUT (R107): No Announce for 3 intervals or no Sync for 1 s; the servo enters HOLDOVER. -/
  | announceTimeout
  /-- DATUM_HOLDOVER_EXPIRED (R107): HOLDOVER lasts longer than HOLDOVER_LIMIT. -/
  | datumHoldoverExpired
  /-- PTP_TRANSMIT (R106): A frame from the processor transmit ring is launched as the next MAC frame and its timestamp returned. -/
  | ptpTransmit (capture : Nat) (fecPos : Nat)
  /-- PPS_OUT_EDGE (R117): The counter crosses PPS_NEXT; PPS_OUT rises, and firmware writes the next target. -/
  | ppsOutEdge
  /-- PPS_OUT_FALL (R117): PPS_OUT falls after PPS_WIDTH. -/
  | ppsOutFall
  /-- PPS_IN_EDGE (R119): A PPS_IN edge is captured, disciplines the servo under SOURCE 2 and applies an AT_PPS time set. -/
  | ppsInEdge (falling : Bool)
  /-- PPS_IN_TIMEOUT (R119): PPS_IN edges are missing for 2 s and the servo enters HOLDOVER. -/
  | ppsInTimeout
  /-- ECPRI_OWD_RESPONSE (R120): Firmware stores the delay of a received action 0x02 response. -/
  | ecpriOwdResponse
  /-- CLOCK_WINDOW (R29): A 1 µs FIO monitoring window ends and each monitored clock is judged good or bad. -/
  | clockWindow (good : Nat)
  /-- CPU_CLOCK_SWITCH (R28): Once REF is present, the CPU domain switches from FIO to the control PLL. -/
  | cpuClockSwitch
  /-- ARM_ALIGNMENT (R31): A write of CLK.ALIGN_CTRL.ARM arms alignment at TARGET, or sets REFUSED while a sheet is in RX or TX. -/
  | armAlignment
  /-- DASYNC (R31): The first REF edge at or after the armed target, or every 10 ms after, issues DASYNC, captures RESID and checks pointer distances. -/
  | dasync (dist : List Nat)
  /-- ELASTIC_BUFFER_RESET (R31): Eight REF periods after the aligning DASYNC every fixed-latency buffer resets its read pointer. -/
  | elasticBufferReset
  /-- D2D_CRC_FAIL (R19): A die-to-die data-lane group fails its CRC; D2D_CRC_ERR counts and 16 failures in 1 ms start a lane test. -/
  | d2dCrcFail (link : Nat) (group : Nat)
  /-- D2D_LANE_TEST_DONE (R19): The background lane test finds the failing lane, which is replaced at the next alignment pulse or takes the sheet out of service. -/
  | d2dLaneTestDone (link : Nat) (lane : Nat)
  /-- COMMIT_BOUNDARY (R24): A commit boundary is reached and every commit due applies in the fixed order and is logged. -/
  | commitBoundary (b : Nat)
  /-- TXN_SHADOW_LOAD (R69): Before B − L_TXMAX the transaction controller loads staged values into shadow banks and sends committed tuner data. -/
  | txnShadowLoad (id : Nat)
  /-- TXN_EXPIRE (R65): An OPEN transaction unnamed for 10 s becomes EXPIRED and releases its locks. -/
  | txnExpire (id : Nat)
  /-- TXN_BEGIN (R65): Opens a transaction and returns its TXN_ID. -/
  | txnBegin (c : Call)
  /-- TXN_STAGE_REG (R66): Stages up to 20 masked register writes in an OPEN transaction. -/
  | txnStageReg (c : Call)
  /-- TXN_COMMIT (R68): Validates an OPEN transaction and commits it for a boundary. -/
  | txnCommit (c : Call)
  /-- TXN_ABORT (R70): Discards an OPEN, or not yet too close COMMITTED, transaction. -/
  | txnAbort (c : Call)
  /-- TXN_STATUS (R65): Returns the state of a live or recently closed transaction. -/
  | txnStatus (c : Call)
  /-- OWNER_SET (R72): Changes ownership of areas between host and baseband. -/
  | ownerSet (c : Call)
  /-- SECTION_READ (R55): Returns up to three section-table entries of a page. -/
  | sectionRead (c : Call)
  /-- SECTION_STATS (R57): Returns and optionally clears the section counters. -/
  | sectionStats (c : Call)
  /-- PROFILE_WRITE (R392): Writes a chunk of the profile copy that would not be loaded; with FINAL it runs the checks. -/
  | profileWrite (c : Call)
  /-- PROFILE_SELECT (R392): Writes the profile selection word, optionally with a reset. -/
  | profileSelect (c : Call)
  /-- PROFILE_STATUS (R392): Returns version and check reason of both copies of a profile. -/
  | profileStatus (c : Call)
  /-- LANE_SIGNAL_CHANGE (R75): Signal, CDR or alignment-marker lock changes on fronthaul lanes, moving the link to ALIGNING or DOWN. -/
  | laneSignalChange (signal : Nat) (cdr : Nat) (am : Nat)
  /-- LINK_UP (R75): All locks held for 1 ms without fault; the link enters UP. -/
  | linkUp
  /-- LINK_DOWN (R75): The link leaves UP; eligible egress frames are flushed. -/
  | linkDown
  /-- LANE_FAILED (R76): A receive lane is declared failed after its condition persists; the link falls back or goes DOWN. -/
  | laneFailed (lane : Nat)
  /-- FEC_WINDOW_END (R76): A 10 ms FEC window of a lane ends and its corrected-symbol ratio is judged. -/
  | fecWindowEnd (lane : Nat) (corrected : Nat) (received : Nat) (uncorr : Nat)
  /-- FALLBACK_TIMEOUT (R78): FALLBACK_TIMEOUT passes without UP after a lane failure; the link moves to the next eligible rung. -/
  | fallbackTimeout
  /-- FH_LINK_SET (R77): Sets the link enable, fallback ladder, MTU, addresses and VLAN, clearing failed lanes. -/
  | fhLinkSet (c : Call)
  /-- FH_LINK_STATUS (R75): Returns link and lane status. -/
  | fhLinkStatus (c : Call)
  /-- FH_FLOW_SET (R89): Sets a flow context binding eAxC to carrier, layer, queue and compression. -/
  | fhFlowSet (c : Call)
  /-- FH_FLOW_GET (R89): Returns a flow context. -/
  | fhFlowGet (c : Call)
  /-- FH_QUEUE_SET (R89): Sets a queue's buffer base and size. -/
  | fhQueueSet (c : Call)
  /-- FH_STATS (R94): Returns and optionally clears fronthaul counters. -/
  | fhStats (c : Call)
  /-- FH_FLOW_STATS (R94): Returns and optionally clears per-flow counters. -/
  | fhFlowStats (c : Call)
  /-- FRAME_RECEIVED (R81): A received Ethernet frame is classified and dropped, routed to a ring or queue, or its sections placed or matched. -/
  | frameReceived (fcsOk : Bool) (frame : Rec) (capture : Nat) (deskew : Nat) (fecPos : Nat)
  /-- PAGE_CLEAR (R54): At the start of subframe k + 3, or on a stale page, the hardware starts clearing the pages of subframe k. -/
  | pageClear
  /-- PAGE_CLEAR_COMPLETE (R54): A page clear completes within 64 µs. -/
  | pageClearComplete (page : Nat)
  /-- AIR_SYMBOL_DL (R91): A downlink air-symbol comparator fires; the symbol is judged complete and sent, or muted whole. -/
  | airSymbolDl (carrier : Nat)
  /-- AIR_SYMBOL_UL (R113): An uplink air-symbol comparator fires and the symbol's sections are fixed. -/
  | airSymbolUl (carrier : Nat)
  /-- UPLANE_MESSAGE_BUILD (R92): An uplink symbol's U-plane messages are compressed, framed and queued with LAUNCH_NS. -/
  | uplaneMessageBuild (carrier : Nat) (codes : List (Nat × List (Int × Int)))
  /-- EGRESS_LAUNCH (R93): An egress head descriptor's launch comparator fires; it becomes eligible, late or discarded. -/
  | egressLaunch (queue : Nat)
  /-- MAC_FRAME_START (R93): The MAC starts the next eligible frame when the wire is free. -/
  | macFrameStart
  /-- GRAT_CONFIG (R140): Sets a direction's layer source, output shift and PRB group sizes. -/
  | gratConfig (c : Call)
  /-- GRAT_BEAM_WRITE (R134): Writes one beam into the inactive beam-table copy and flips the copy at the boundary. -/
  | gratBeamWrite (c : Call)
  /-- GRAT_BEAM_READ (R134): Returns one beam from the active copy. -/
  | gratBeamRead (c : Call)
  /-- GRAT_WEIGHT_WRITE (R137): Writes one layer of one slot into the inactive bank and marks it pending. -/
  | gratWeightWrite (c : Call)
  /-- GRAT_WEIGHT_READ (R137): Returns one layer of one slot from a bank. -/
  | gratWeightRead (c : Call)
  /-- GRAT_WEIGHT_SWAP (R138): Stages a swap of every pending slot of a direction. -/
  | gratWeightSwap (c : Call)
  /-- GRAT_STATUS (R143): Returns active masks, pending counts and graticule counters. -/
  | gratStatus (c : Call)
  /-- UL_BANK_RELEASE (R139): 250 µs after an uplink swap the old banks become writable. -/
  | ulBankRelease
  /-- MASH_CONFIG (R157): Sets Mash algorithm, scheduling, commit kind, deadline and thresholds. -/
  | mashConfig (c : Call)
  /-- MASH_CTX_SET (R146): Sets a sounding context. -/
  | mashCtxSet (c : Call)
  /-- MASH_CTX_GET (R146): Returns a sounding context. -/
  | mashCtxGet (c : Call)
  /-- MASH_STATUS (R150): Returns Mash status and counters. -/
  | mashStatus (c : Call)
  /-- MASH_PORT_STATUS (R154): Returns per-port SNR, frequency offset and counters of a context. -/
  | mashPortStatus (c : Call)
  /-- MASH_EST_READ (R155): Returns a stored channel estimate. -/
  | mashEstRead (c : Call)
  /-- SRS_OCCASION_END (R149): The last SRS symbol of a slot ends at T_end; a refresh starts and estimation begins. -/
  | srsOccasionEnd
  /-- MASH_CUT (R149): At T_cut the refresh's inputs are fixed and prerequisites checked; it is held, dropped or proceeds to solving. -/
  | mashCut
  /-- MASH_PREREQ (R41): A Mash prerequisite lapses. -/
  | mashPrereq
  /-- MASH_SET_READY (R150): A refresh's weight set is complete in the pending banks. -/
  | mashSetReady
  /-- TX_CARRIER_SET (R164): Sets a downlink carrier. -/
  | txCarrierSet (c : Call)
  /-- TX_CARRIER_GET (R164): Returns a downlink carrier. -/
  | txCarrierGet (c : Call)
  /-- TX_PATH_SET (R174): Sets a transmit path's mute, trim, mute code and I/Q correction. -/
  | txPathSet (c : Call)
  /-- TX_PATH_GET (R174): Returns a transmit path setting. -/
  | txPathGet (c : Call)
  /-- TX_CFR_SET (R171): Sets crest-factor reduction. -/
  | txCfrSet (c : Call)
  /-- TX_TONE_SET (R170): Sets a sheet's tone generator. -/
  | txToneSet (c : Call)
  /-- TX_SHEET_SET (R175): Sets a sheet's transmit advance. -/
  | txSheetSet (c : Call)
  /-- TX_STATUS (R184): Returns transmit status, latencies and counters of a sheet. -/
  | txStatus (c : Call)
  /-- TX_CFR_GET (R172): Returns cancellation pulse taps. -/
  | txCfrGet (c : Call)
  /-- TXMUTE_N_FALL (R181): TXMUTE_N falls; every DAC carries its mute code within 100 ns. -/
  | txmuteNFall
  /-- TXMUTE_N_RISE (R181): TXMUTE_N rises; the release is awaited. -/
  | txmuteNRise
  /-- TXMUTE_RELEASE (R181): 1,000 ns after the rise with the pin held high, the release is accepted. -/
  | txmuteRelease
  /-- HOLD_END (R181): A transmit hold ends at the first symbol start at or after its release time. -/
  | holdEnd (sheet : Nat)
  /-- SHEET_READY (R182): T_rdy is reached after T_done and the sheet becomes ready in TX or RX. -/
  | sheetReady (sheet : Nat)
  /-- DPD_CONFIG (R210): Sets predistortion adaptation parameters. -/
  | dpdConfig (c : Call)
  /-- DPD_PATH_SET (R187): Sets a path's predistortion mode and structure. -/
  | dpdPathSet (c : Call)
  /-- DPD_PATH_GET (R187): Returns a path's predistortion setting. -/
  | dpdPathGet (c : Call)
  /-- DPD_COEF_WRITE (R190): Writes half a table into the pending bank. -/
  | dpdCoefWrite (c : Call)
  /-- DPD_COEF_READ (R190): Returns half a table from a bank. -/
  | dpdCoefRead (c : Call)
  /-- DPD_COEF_SWAP (R210): Stages bringing pending sets of named paths into force. -/
  | dpdCoefSwap (c : Call)
  /-- DPD_STATUS (R210): Returns predistortion status and counters of a sheet. -/
  | dpdStatus (c : Call)
  /-- DPD_PATH_STATUS (R199): Returns a path's adaptation state and results. -/
  | dpdPathStatus (c : Call)
  /-- ORX_COUPLER_SET (R194): Sets a path's coupler map. -/
  | orxCouplerSet (c : Call)
  /-- ORX_COUPLER_GET (R194): Returns a path's coupler map. -/
  | orxCouplerGet (c : Call)
  /-- ORX_STATUS (R197): Returns a receiver's status and lease counters. -/
  | orxStatus (c : Call)
  /-- ORX_SERVICE (R209): Takes an observation receiver out of service or returns it. -/
  | orxService (c : Call)
  /-- LEASE_START (R197): A 50 µs observation lease starts and the kiln grants it to survey, predistortion or capture. -/
  | leaseStart (orx : Nat)
  /-- DPD_CAPTURE_START (R201): COUPLER_SETTLE after the lease start the capture begins. -/
  | dpdCaptureStart (orx : Nat)
  /-- DPD_CAPTURE_COMPLETE (R201): The capture completes, is checked for validity and the solve starts. -/
  | dpdCaptureComplete (orx : Nat) (path : Nat) (start : Nat) (samples : Nat) (i : List Int) (q : List Int)
  /-- LEASE_END (R201): The lease ends and the coupler off write is triggered. -/
  | leaseEnd (orx : Nat)
  /-- DPD_SOLVE_DONE (R204): A predistortion solve ends; the set is staged or rejected. -/
  | dpdSolveDone (path : Nat)
  /-- DPD_STARVED (R208): No set has come into force for STALE_MAX on an adapting path. -/
  | dpdStarved (path : Nat)
  /-- ORX_FAILED (R209): An observation receiver is declared failed and isolated. -/
  | orxFailed (orx : Nat)
  /-- DPD_COEF_ECC (R192): An uncorrectable coefficient read switches the path to bypass. -/
  | dpdCoefEcc (path : Nat)
  /-- RX_CARRIER_SET (R211): Sets an uplink carrier. -/
  | rxCarrierSet (c : Call)
  /-- RX_CARRIER_GET (R211): Returns an uplink carrier. -/
  | rxCarrierGet (c : Call)
  /-- RX_PATH_SET (R222): Sets a receive path's DC control, trim and attenuation. -/
  | rxPathSet (c : Call)
  /-- RX_PATH_GET (R222): Returns a receive path setting. -/
  | rxPathGet (c : Call)
  /-- RX_IMAGE_SET (R216): Loads a receive image tap set. -/
  | rxImageSet (c : Call)
  /-- RX_IMAGE_GET (R216): Returns the image set with last measurement results. -/
  | rxImageGet (c : Call)
  /-- RX_STATUS (R234): Returns receive status, latencies and counters of a sheet. -/
  | rxStatus (c : Call)
  /-- RX_LEVEL (R223): Returns the last half-subframe level measurements. -/
  | rxLevel (c : Call)
  /-- RX_FO (R233): Returns the per-carrier frequency offset reports of a sheet. -/
  | rxFo (c : Call)
  /-- HALF_SUBFRAME_LEVEL (R223): At the end of a half-subframe each path's RMS, peak and clip count are stored. -/
  | halfSubframeLevel (codes : List (Nat × List (Int × Int)))
  /-- FO_SLOT_END (R233): At each slot end firmware forms FO and QUAL from the accumulators. -/
  | foSlotEnd (carrier : Nat)
  /-- PRACH_OCCASION_DONE (R230): A PRACH repetition's extraction completes and its resource elements pass to the egress path. -/
  | prachOccasionDone (flow : Nat) (id : Nat) (k : Nat) (slot : Nat) (startSym : Nat) (rep : Nat) (codes : List (Nat × List (Int × Int)))
  /-- CONV_CAL_SET (R246): Sets converter freeze, dither and skew tracking parameters of a sheet. -/
  | convCalSet (c : Call)
  /-- CONV_STATUS (R257): Returns converter states and counters of a sheet. -/
  | convStatus (c : Call)
  /-- CONV_SLICE_READ (R257): Returns slice or cell trims and positions of a converter. -/
  | convSliceRead (c : Call)
  /-- CONV_SLICE_SERVICE (R257): Declares a slice failed or returns it after two offline measurements. -/
  | convSliceService (c : Call)
  /-- CONVERTER_INIT_DONE (R238): INIT of a converter completes with slices placed, entering RUN, NO_SPARE or FAILED. -/
  | converterInitDone (conv : Nat) (a : List (List (Int × Int))) (b : List (List (Int × Int)))
  /-- SPARE_VISIT_START (R239): A spare visit starts and its input switches to internal references. -/
  | spareVisitStart (conv : Nat)
  /-- AGREEMENT_TEST (R240): Measurements A and B end and are tested for agreement; trims set or visit repeated. -/
  | agreementTest (conv : Nat) (aOffset : Int) (bOffset : Int) (aGain : Int) (bGain : Int)
  /-- HANDOVER (R241): After the shadow the spare takes its position on one instant, or the handover is refused. -/
  | handover (conv : Nat) (mean : Int) (meanSquare : Nat)
  /-- CELL_VISIT (R249): A DAC spare-cell visit measures, sets and exchanges cells on its 32 µs timeline. -/
  | cellVisit (conv : Nat) (a : Int) (b : Int)
  /-- ESTIMATION_WINDOW_END (R242): A 65,536-sample estimation window closes; a valid pair may move SKEW or THRESH one tap. -/
  | estimationWindowEnd (conv : Nat) (pos : Nat) (samples : List (List (Int × Int × Int)))
  /-- HK_SEQ_SET (R251): Sets the housekeeping conversion sequence. -/
  | hkSeqSet (c : Call)
  /-- HK_READ (R252): Returns housekeeping channel values. -/
  | hkRead (c : Call)
  /-- HK_LIMIT_SET (R253): Sets a channel's limit window. -/
  | hkLimitSet (c : Call)
  /-- HK_CONVERSION (R252): A sequence entry's averaged conversion completes and the channel VALUE is updated. -/
  | hkConversion (conversions : List Nat)
  /-- SHEET_TEMP_UPDATE (R252): A sheet sends its temperatures over the die-to-die control lanes every 100 µs. -/
  | sheetTempUpdate (sheet : Nat) (t0 : Int) (t1 : Int)
  /-- RS_TIMER_SET (R268): Arms, replaces or cancels a radio-state timer. -/
  | rsTimerSet (c : Call)
  /-- RS_PATTERN_SET (R271): Sets a sheet's TDD pattern. -/
  | rsPatternSet (c : Call)
  /-- RS_PATTERN_GET (R271): Returns a sheet's TDD pattern. -/
  | rsPatternGet (c : Call)
  /-- RS_STATUS (R275): Returns radio-state and LO status and counters of a sheet. -/
  | rsStatus (c : Call)
  /-- LO_SET (R263): Commits the channel; other than a no-op it starts a channel change at B. -/
  | loSet (c : Call)
  /-- LO_STATUS (R275): Returns the channel and last calibration data of a sheet. -/
  | loStatus (c : Call)
  /-- TDD_STROBE_SET (R272): Sets a TDD strobe's function, polarity and delays. -/
  | tddStrobeSet (c : Call)
  /-- TDD_STROBE_GET (R272): Returns a TDD strobe setting. -/
  | tddStrobeGet (c : Call)
  /-- SHEET_SERVICE (R274): Takes a sheet out of service or returns it through SLEEP, STANDBY, SYNTH and a quick survey. -/
  | sheetService (c : Call)
  /-- PATTERN_ARM (R271): The pattern engine arms the next entry on a free timer no later than 100 µs before its firing. -/
  | patternArm (sheet : Nat)
  /-- RS_TIMER_FIRE (R268): A radio-state timer fires at t_e − Δ and starts a transition, defers it, or is discarded as late. -/
  | rsTimerFire (sheet : Nat) (timer : Nat)
  /-- RS_TRANSITION_END (R267): At t_e the new radio state applies; a deferred timer may then start. -/
  | rsTransitionEnd (sheet : Nat)
  /-- STROBE_EDGE (R272): A TDD strobe edge is placed at its datum time relative to a transition. -/
  | strobeEdge (sheet : Nat) (strobe : Nat)
  /-- SYNTH_CAL_START (R261): A synthesizer calibration starts on a sheet, gating LOs and invalidating readiness and dependent state. -/
  | synthCalStart (sheet : Nat)
  /-- SYNTH_LOCK (R261): Both synthesizers declare lock and outputs are ungated; the quick survey follows. -/
  | synthLock (sheet : Nat) (txBand : Nat) (rxBand : Nat)
  /-- SYNTH_CAL_TIMEOUT (R261): Lock is not declared by t_s + 500 µs; the calibration repeats once or the sheet goes out of service. -/
  | synthCalTimeout (sheet : Nat)
  /-- LO_UNLOCK (R260): An unplanned loss of lock holds transmit and zeroes receive within 100 ns. -/
  | loUnlock (sheet : Nat) (which : Nat)
  /-- RECAL_AFTER_UNLOCK (R260): 1 µs after an unplanned loss the synthesizers recalibrate at the committed frequency. -/
  | recalAfterUnlock (sheet : Nat)
  /-- SURVEY_CONFIG (R300): Sets survey tracking, steeping, agreement and level parameters. -/
  | surveyConfig (c : Call)
  /-- SURVEY_RUN (R285): Starts a full campaign. -/
  | surveyRun (c : Call)
  /-- SURVEY_STATUS (R300): Returns survey status, reject codes and counters. -/
  | surveyStatus (c : Call)
  /-- SURVEY_NET_SET (R277): Sets an element's calibration network transmission. -/
  | surveyNetSet (c : Call)
  /-- SURVEY_NET_GET (R277): Returns an element's network transmission. -/
  | surveyNetGet (c : Call)
  /-- SURVEY_CORR_SET (R293): Loads an element's corrections through a transaction. -/
  | surveyCorrSet (c : Call)
  /-- SURVEY_CORR_GET (R293): Returns an element's corrections and drift terms. -/
  | surveyCorrGet (c : Call)
  /-- SURVEY_TEMP_SET (R296): Sets an element's temperature coefficients. -/
  | surveyTempSet (c : Call)
  /-- SURVEY_TEMP_GET (R296): Returns an element's temperature coefficients. -/
  | surveyTempGet (c : Call)
  /-- QUICK_SURVEY_START (R287): A quick survey starts at t_k after the last lock of its sheets. -/
  | quickSurveyStart (sheets : Nat)
  /-- SURVEY_SOLVE_DONE (R290): A campaign's solve and agreement complete and sheets are accepted or rejected. -/
  | surveySolveDone (campaign : Nat) (bench : List Reading) (paths : List Reading) (orx : List (Nat × List (Int × Int)))
  /-- QUICK_SURVEY_DONE (R287): At B_q the quick survey's results come into force; this is T_done of its sheets. -/
  | quickSurveyDone (campaign : Nat)
  /-- QS_RETRY (R265): After repeated rejection, a lone quick survey is retried every 10 ms. -/
  | qsRetry (sheet : Nat)
  /-- FULL_CAMPAIGN_COMMIT (R289): A full campaign's results come into force at the first immediate boundary satisfying R64. -/
  | fullCampaignCommit (campaign : Nat)
  /-- TRACK_CAPTURE (R297): A tracking capture is taken in a survey lease and accumulated. -/
  | trackCapture (orx : Nat) (blocks : List (Nat × List (Int × Int))) (i : List Int) (q : List Int)
  /-- TRACK_EVALUATE (R298): When every element holds an agreed measurement, tracking evaluates a direction and may start a steeping. -/
  | trackEvaluate (sheet : Nat) (dir : Nat)
  /-- TEMP_COMPARE (R296): At each slot boundary of REF_CARRIER firmware compares sheet temperature with the latched value. -/
  | tempCompare
  /-- BIAS_SET (R303): Sets a bias DAC's codes, limits, slew and coefficients. -/
  | biasSet (c : Call)
  /-- BIAS_GET (R303): Returns a bias DAC setting. -/
  | biasGet (c : Call)
  /-- BIAS_GAIN_SET (R307): Sets a bias code from a magnitude-only gain word. -/
  | biasGainSet (c : Call)
  /-- BIAS_STATUS (R329): Returns bias status and counters of a sheet. -/
  | biasStatus (c : Call)
  /-- BIAS_RESTORE (R311): Ends a latched bias clear and moves outputs back to eff. -/
  | biasRestore (c : Call)
  /-- BIASCLR_N_ACCEPT (R311): BIASCLR_N low for 40 ns is accepted; every sheet is held and outputs go to CLR_CODE. -/
  | biasclrNAccept (lowNs : Nat)
  /-- BIAS_CLEAR_PHASE_END (R304): A configured or disabled DAC finishes its 20 µs at CLR_CODE and moves to eff or high impedance. -/
  | biasClearPhaseEnd (dac : Nat)
  /-- BIAS_SETTLED (R305): A bias output reaches its target after the deglitcher and slew. -/
  | biasSettled (dac : Nat)
  /-- SPAN_SWITCH (R306): A span change switches span at B + 2 µs and applies eff at B + 22 µs. -/
  | spanSwitch (dac : Nat)
  /-- BIAS_SUPERVISE_SAMPLE (R309): A supervision sample of a configured output declares or clears short, compliance or open-load conditions. -/
  | biasSuperviseSample (dac : Nat) (excess : Bool) (far : Bool)
  /-- RFFE_MASTER_SET (R313): Enables an RFFE master and sets its clock divider. -/
  | rffeMasterSet (c : Call)
  /-- RFFE_XFER (R316): Sends one immediate RFFE message. -/
  | rffeXfer (c : Call)
  /-- RFFE_SCHED (R317): Queues a scheduled triggered write. -/
  | rffeSched (c : Call)
  /-- RFFE_BIND_SET (R319): Sets a bound triggered write tied to radio-state transitions. -/
  | rffeBindSet (c : Call)
  /-- RFFE_STATUS (R329): Returns master status and counters. -/
  | rffeStatus (c : Call)
  /-- RFFE_MESSAGE_START (R316): An idle master starts the first due message of its critical, scheduled or immediate queue. -/
  | rffeMessageStart (master : Nat)
  /-- RFFE_MESSAGE_DONE (R314): An RFFE message ends and the bus becomes idle. -/
  | rffeMessageDone (master : Nat) (parityGood : Bool) (data : Rec)
  /-- TUNER_SET (R320): Sets a path's tuner codes and mismatch measurement. -/
  | tunerSet (c : Call)
  /-- TUNER_GET (R320): Returns a path's tuner setting. -/
  | tunerGet (c : Call)
  /-- TUNER_STATUS (R323): Returns a path's mismatch result and counters. -/
  | tunerStatus (c : Call)
  /-- MISMATCH_INTERVAL (R322): A path's INTERVAL passes and a mismatch measurement lease is requested. -/
  | mismatchInterval (path : Nat)
  /-- MISMATCH_RESULT (R323): The forward and reverse blocks are reduced to Γ and stored. -/
  | mismatchResult (path : Nat) (orx : Nat) (forward : List (Int × Int)) (reverse : List (Int × Int))
  /-- COEX_SET (R325): Sets coexistence role and timing. -/
  | coexSet (c : Call)
  /-- COEX_STATUS (R328): Returns coexistence status and counters. -/
  | coexStatus (c : Call)
  /-- COEX_ROLE_TAKE_EFFECT (R325): 10 µs after a role change boundary the new role takes effect. -/
  | coexRoleTakeEffect
  /-- COEX_REQ_RAISE (R326): As requester, REQ rises REQ_LEAD before the first transition into TX. -/
  | coexReqRaise
  /-- COEX_REQ_DROP (R326): As requester, REQ falls REQ_TAIL after the last sheet leaves TX. -/
  | coexReqDrop
  /-- COEX_GNT_SAMPLE (R326): GNT is sampled at t_e − GNT_SETUP; low GNT mutes or is counted. -/
  | coexGntSample
  /-- COEX_GNT_CHANGE (R326): As requester, GNT rises ending a hold, or falls placing a hold within 100 ns. -/
  | coexGntChange (level : Bool)
  /-- COEX_REQ_CHANGE (R327): As arbiter, REQ rises or falls and GNT is raised, deferred or dropped. -/
  | coexReqChange (req : Bool) (pri : Bool)
  /-- MEM_CONFIG (R373): Sets hard-fault limit and remap enable. -/
  | memConfig (c : Call)
  /-- MEM_STATUS (R377): Returns a memory's integrity state and counters. -/
  | memStatus (c : Call)
  /-- MEM_REMAP_READ (R374): Returns spare-row remap entries. -/
  | memRemapRead (c : Call)
  /-- MEM_INJECT (R377): Flips stored bits of one unit for test. -/
  | memInject (c : Call)
  /-- MEM_TMR_READ (R376): Returns the triplicated words. -/
  | memTmrRead (c : Call)
  /-- MEM_TMR_WRITE (R376): Writes a host persistent triplicated word. -/
  | memTmrWrite (c : Call)
  /-- SPARGE_VISIT (R370): A sparge channel visits a unit and writes back, poisons or leaves it. -/
  | spargeVisit (code : Nat)
  /-- PRIORITY_SPARGE_VISIT (R369): A unit queued by a corrected normal read is visited within 10 µs. -/
  | prioritySpargeVisit (code : Nat)
  /-- SPARGE_PASS_END (R368): A sparge pass reaches its last unit, ages tracking entries and restarts. -/
  | spargePassEnd (code : Nat)
  /-- REMAP_COPY_DONE (R374): A row's copy to its spare completes. -/
  | remapCopyDone (code : Nat) (spare : Nat)
  /-- MEM_UNCORR (R367): An uncorrectable or poisoned read is delivered as its requester's defined outcome. -/
  | memUncorr (code : Nat) (off : Nat) (requester : Nat)
  /-- CAPTURE_SET (R417): Arms a capture slot at a tap. -/
  | captureSet (c : Call)
  /-- CAPTURE_STATUS (R418): Returns a capture slot's state. -/
  | captureStatus (c : Call)
  /-- CAPTURE_READ (R419): Returns bytes of a DONE or ABORTED capture. -/
  | captureRead (c : Call)
  /-- CAPTURE_RELEASE (R419): Returns a capture slot to IDLE. -/
  | captureRelease (c : Call)
  /-- TESTGEN_SET (R420): Sets a downlink test pattern on masked paths. -/
  | testgenSet (c : Call)
  /-- TESTGEN_GET (R420): Returns a test pattern setting. -/
  | testgenGet (c : Call)
  /-- ANALYSE (R421): Compares a tap-2 capture with a test pattern and returns EVM, gain and power. -/
  | analyse (c : Call)
  /-- CAPTURE_START (R418): The counter crosses START_NS, or a priority-3 lease is granted, and the capture starts RUNNING. -/
  | captureStart (slot : Nat) (firstNs : Nat)
  /-- CAPTURE_DONE (R418): A capture records LEN samples and becomes DONE. -/
  | captureDone (slot : Nat) (samples : Nat) (data : Rec)
  /-- CAPTURE_ABORT (R418): A capture is aborted because its domain leaves ON or TEST becomes held. -/
  | captureAbort (slot : Nat)
  /-- CAPTURE_LEASE_TIMEOUT (R418): A tap-5 capture finds no lease within 100 ms and is aborted. -/
  | captureLeaseTimeout (slot : Nat)
  /-- DC_ACQ_END (R214): After 65,536 updating samples since a clear, a path's DC blocker leaves its acquisition shift K − 6, returns to K, and RXD.STATUS.DC_ACQ follows. -/
  | dcAcqEnd (path : Nat)
  /-- TAP_TCK_EDGE (R460): A rising edge of TCK while TEST_EN is high advances the IEEE 1149.1 TAP, shifting or updating the instruction register, IDCODE, BYPASS or the boundary register of R461 and R462. -/
  | tapTckEdge (tms : Bool) (tdi : Bool) (trstN : Bool) (inputs : Nat)
  deriving DecidableEq, Repr

end Sys2Proof
end

