-- ==== Sys2Proof/Decode.lean ====
section
/-! DEFINITION. The command that a word of spec/opcode_table.json spells, and the OPCODE of each mailbox command. The table
gives no row any bits: a mailbox command is named by its OPCODE in a record of many bytes (18_mailbox_commands R400, R422), an
event by no word at all. -/

namespace Sys2Proof

/-- The command a word of `nbits` bits spells by the table's bits: none, no row having bits. -/
def decodeTableWord (_nbits _w : Nat) : Option Instr := none

/-- OPCODE and call of a mailbox command (18 R422), none of an event. -/
def Instr.call : Instr → Option (Nat × Call)
  | .powerUp => none
  | .aoUndervoltageLockout => none
  | .aoLogicRelease => none
  | .powerGoodHeld _ => none
  | .railFault _ => none
  | .railRestartTimeout => none
  | .pwrCtrlRestart => none
  | .pwrCtrlWake => none
  | .reset _ => none
  | .resetNAssert _ => none
  | .resetNRelease _ => none
  | .watchdogExpiry => none
  | .lockstepMismatch => none
  | .commandResetTimeout => none
  | .testEnChange _ => none
  | .bootRomStart => none
  | .imageHeaderCheck _ => none
  | .imagePayloadLoaded => none
  | .signatureVerified => none
  | .firmwareStart => none
  | .romSafeProfile => none
  | .trialTimeout => none
  | .crashCountClear => none
  | .profileApply => none
  | .profileEntry => none
  | .profileWaitExpiry => none
  | .profileRefTimeout => none
  | .hostPortRead _ _ => none
  | .portStatus => none
  | .shadowLoRead _ _ => none
  | .shadowHiRead _ _ => none
  | .registerWrite _ _ _ _ => none
  | .directWriteCaptureDrain => none
  | .doorbellRing _ => none
  | .doneAcknowledge _ => none
  | .faultStatusClear _ => none
  | .faultBitSet _ => none
  | .pCommandComplete _ _ _ => none
  | .inbandCommand => none
  | .eventRaise _ _ _ => none
  | .sysCapRead c => some (0x0101, c)
  | .sysReset c => some (0x0102, c)
  | .sysBootStatus c => some (0x0103, c)
  | .fwWrite c => some (0x0104, c)
  | .fwActivate c => some (0x0105, c)
  | .fwConfirm c => some (0x0106, c)
  | .sysFuseProgram c => some (0x0107, c)
  | .eventRead c => some (0x0108, c)
  | .eventMaskSet c => some (0x0109, c)
  | .mbxInbandSet c => some (0x0110, c)
  | .mbxStatus c => some (0x0111, c)
  | .commitLogRead c => some (0x0120, c)
  | .pwrDomainSet c => some (0x0201, c)
  | .pwrStatus c => some (0x0202, c)
  | .pwrCaskClear c => some (0x0203, c)
  | .pwrSavelistSet c => some (0x0204, c)
  | .pwrSavelistGet c => some (0x0205, c)
  | .kilnConfig c => some (0x0210, c)
  | .kilnBudgetSet c => some (0x0211, c)
  | .kilnModelSet c => some (0x0212, c)
  | .kilnStatus c => some (0x0213, c)
  | .drainComplete _ => none
  | .drainTimeoutExpiry _ _ => none
  | .powerSwitchClose _ => none
  | .memoryInitDone _ => none
  | .wakeScrubDone _ _ => none
  | .savelistRestore _ _ => none
  | .domainOn _ => none
  | .domainOff _ => none
  | .wakeAfterExpiry => none
  | .fioStart => none
  | .kilnEvaluate => none
  | .datumStatus c => some (0x0301, c)
  | .datumConfig c => some (0x0302, c)
  | .datumTimeSet c => some (0x0303, c)
  | .datumStep c => some (0x0304, c)
  | .datumFreqSet c => some (0x0305, c)
  | .ecpriOwd c => some (0x0306, c)
  | .datumCtrlStep => none
  | .incrementWrite _ => none
  | .todReferenceWrite _ => none
  | .todRefresh => none
  | .ptpMessage => none
  | .delayReqSend => none
  | .announceTimeout => none
  | .datumHoldoverExpired => none
  | .ptpTransmit _ _ => none
  | .ppsOutEdge => none
  | .ppsOutFall => none
  | .ppsInEdge _ => none
  | .ppsInTimeout => none
  | .ecpriOwdResponse => none
  | .clockWindow _ => none
  | .cpuClockSwitch => none
  | .armAlignment => none
  | .dasync _ => none
  | .elasticBufferReset => none
  | .d2dCrcFail _ _ => none
  | .d2dLaneTestDone _ _ => none
  | .commitBoundary _ => none
  | .txnShadowLoad _ => none
  | .txnExpire _ => none
  | .txnBegin c => some (0x0F01, c)
  | .txnStageReg c => some (0x0F02, c)
  | .txnCommit c => some (0x0F03, c)
  | .txnAbort c => some (0x0F04, c)
  | .txnStatus c => some (0x0F05, c)
  | .ownerSet c => some (0x0F06, c)
  | .sectionRead c => some (0x0F07, c)
  | .sectionStats c => some (0x0F08, c)
  | .profileWrite c => some (0x0F10, c)
  | .profileSelect c => some (0x0F11, c)
  | .profileStatus c => some (0x0F12, c)
  | .laneSignalChange _ _ _ => none
  | .linkUp => none
  | .linkDown => none
  | .laneFailed _ => none
  | .fecWindowEnd _ _ _ _ => none
  | .fallbackTimeout => none
  | .fhLinkSet c => some (0x0401, c)
  | .fhLinkStatus c => some (0x0402, c)
  | .fhFlowSet c => some (0x0403, c)
  | .fhFlowGet c => some (0x0404, c)
  | .fhQueueSet c => some (0x0405, c)
  | .fhStats c => some (0x0406, c)
  | .fhFlowStats c => some (0x0407, c)
  | .frameReceived _ _ _ _ _ => none
  | .pageClear => none
  | .pageClearComplete _ => none
  | .airSymbolDl _ => none
  | .airSymbolUl _ => none
  | .uplaneMessageBuild _ _ => none
  | .egressLaunch _ => none
  | .macFrameStart => none
  | .gratConfig c => some (0x0501, c)
  | .gratBeamWrite c => some (0x0503, c)
  | .gratBeamRead c => some (0x0504, c)
  | .gratWeightWrite c => some (0x0505, c)
  | .gratWeightRead c => some (0x0506, c)
  | .gratWeightSwap c => some (0x0507, c)
  | .gratStatus c => some (0x0508, c)
  | .ulBankRelease => none
  | .mashConfig c => some (0x0601, c)
  | .mashCtxSet c => some (0x0602, c)
  | .mashCtxGet c => some (0x0603, c)
  | .mashStatus c => some (0x0604, c)
  | .mashPortStatus c => some (0x0605, c)
  | .mashEstRead c => some (0x0606, c)
  | .srsOccasionEnd => none
  | .mashCut => none
  | .mashPrereq => none
  | .mashSetReady => none
  | .txCarrierSet c => some (0x0701, c)
  | .txCarrierGet c => some (0x0702, c)
  | .txPathSet c => some (0x0703, c)
  | .txPathGet c => some (0x0704, c)
  | .txCfrSet c => some (0x0705, c)
  | .txToneSet c => some (0x0706, c)
  | .txSheetSet c => some (0x0707, c)
  | .txStatus c => some (0x0708, c)
  | .txCfrGet c => some (0x0709, c)
  | .txmuteNFall => none
  | .txmuteNRise => none
  | .txmuteRelease => none
  | .holdEnd _ => none
  | .sheetReady _ => none
  | .dpdConfig c => some (0x0901, c)
  | .dpdPathSet c => some (0x0902, c)
  | .dpdPathGet c => some (0x0903, c)
  | .dpdCoefWrite c => some (0x0904, c)
  | .dpdCoefRead c => some (0x0905, c)
  | .dpdCoefSwap c => some (0x0906, c)
  | .dpdStatus c => some (0x0907, c)
  | .dpdPathStatus c => some (0x0908, c)
  | .orxCouplerSet c => some (0x0909, c)
  | .orxCouplerGet c => some (0x090A, c)
  | .orxStatus c => some (0x090B, c)
  | .orxService c => some (0x090C, c)
  | .leaseStart _ => none
  | .dpdCaptureStart _ => none
  | .dpdCaptureComplete _ _ _ _ _ _ => none
  | .leaseEnd _ => none
  | .dpdSolveDone _ => none
  | .dpdStarved _ => none
  | .orxFailed _ => none
  | .dpdCoefEcc _ => none
  | .rxCarrierSet c => some (0x0801, c)
  | .rxCarrierGet c => some (0x0802, c)
  | .rxPathSet c => some (0x0803, c)
  | .rxPathGet c => some (0x0804, c)
  | .rxImageSet c => some (0x0805, c)
  | .rxImageGet c => some (0x0806, c)
  | .rxStatus c => some (0x0807, c)
  | .rxLevel c => some (0x0808, c)
  | .rxFo c => some (0x0809, c)
  | .halfSubframeLevel _ => none
  | .foSlotEnd _ => none
  | .prachOccasionDone _ _ _ _ _ _ _ => none
  | .convCalSet c => some (0x0B40, c)
  | .convStatus c => some (0x0B41, c)
  | .convSliceRead c => some (0x0B42, c)
  | .convSliceService c => some (0x0B43, c)
  | .converterInitDone _ _ _ => none
  | .spareVisitStart _ => none
  | .agreementTest _ _ _ _ _ => none
  | .handover _ _ _ => none
  | .cellVisit _ _ _ => none
  | .estimationWindowEnd _ _ _ => none
  | .hkSeqSet c => some (0x0D01, c)
  | .hkRead c => some (0x0D02, c)
  | .hkLimitSet c => some (0x0D03, c)
  | .hkConversion _ => none
  | .sheetTempUpdate _ _ _ => none
  | .rsTimerSet c => some (0x0B01, c)
  | .rsPatternSet c => some (0x0B02, c)
  | .rsPatternGet c => some (0x0B03, c)
  | .rsStatus c => some (0x0B04, c)
  | .loSet c => some (0x0B05, c)
  | .loStatus c => some (0x0B06, c)
  | .tddStrobeSet c => some (0x0B07, c)
  | .tddStrobeGet c => some (0x0B08, c)
  | .sheetService c => some (0x0B09, c)
  | .patternArm _ => none
  | .rsTimerFire _ _ => none
  | .rsTransitionEnd _ => none
  | .strobeEdge _ _ => none
  | .synthCalStart _ => none
  | .synthLock _ _ _ => none
  | .synthCalTimeout _ => none
  | .loUnlock _ _ => none
  | .recalAfterUnlock _ => none
  | .surveyConfig c => some (0x0A01, c)
  | .surveyRun c => some (0x0A02, c)
  | .surveyStatus c => some (0x0A03, c)
  | .surveyNetSet c => some (0x0A04, c)
  | .surveyNetGet c => some (0x0A05, c)
  | .surveyCorrSet c => some (0x0A06, c)
  | .surveyCorrGet c => some (0x0A07, c)
  | .surveyTempSet c => some (0x0A08, c)
  | .surveyTempGet c => some (0x0A09, c)
  | .quickSurveyStart _ => none
  | .surveySolveDone _ _ _ _ => none
  | .quickSurveyDone _ => none
  | .qsRetry _ => none
  | .fullCampaignCommit _ => none
  | .trackCapture _ _ _ _ => none
  | .trackEvaluate _ _ => none
  | .tempCompare => none
  | .biasSet c => some (0x0C01, c)
  | .biasGet c => some (0x0C02, c)
  | .biasGainSet c => some (0x0C03, c)
  | .biasStatus c => some (0x0C04, c)
  | .biasRestore c => some (0x0C05, c)
  | .biasclrNAccept _ => none
  | .biasClearPhaseEnd _ => none
  | .biasSettled _ => none
  | .spanSwitch _ => none
  | .biasSuperviseSample _ _ _ => none
  | .rffeMasterSet c => some (0x0C10, c)
  | .rffeXfer c => some (0x0C11, c)
  | .rffeSched c => some (0x0C12, c)
  | .rffeBindSet c => some (0x0C13, c)
  | .rffeStatus c => some (0x0C14, c)
  | .rffeMessageStart _ => none
  | .rffeMessageDone _ _ _ => none
  | .tunerSet c => some (0x0C20, c)
  | .tunerGet c => some (0x0C21, c)
  | .tunerStatus c => some (0x0C22, c)
  | .mismatchInterval _ => none
  | .mismatchResult _ _ _ _ => none
  | .coexSet c => some (0x0C30, c)
  | .coexStatus c => some (0x0C31, c)
  | .coexRoleTakeEffect => none
  | .coexReqRaise => none
  | .coexReqDrop => none
  | .coexGntSample => none
  | .coexGntChange _ => none
  | .coexReqChange _ _ => none
  | .memConfig c => some (0x0E01, c)
  | .memStatus c => some (0x0E02, c)
  | .memRemapRead c => some (0x0E03, c)
  | .memInject c => some (0x0E04, c)
  | .memTmrRead c => some (0x0E05, c)
  | .memTmrWrite c => some (0x0E06, c)
  | .spargeVisit _ => none
  | .prioritySpargeVisit _ => none
  | .spargePassEnd _ => none
  | .remapCopyDone _ _ => none
  | .memUncorr _ _ _ => none
  | .captureSet c => some (0x1001, c)
  | .captureStatus c => some (0x1002, c)
  | .captureRead c => some (0x1003, c)
  | .captureRelease c => some (0x1004, c)
  | .testgenSet c => some (0x1010, c)
  | .testgenGet c => some (0x1011, c)
  | .analyse c => some (0x1012, c)
  | .captureStart _ _ => none
  | .captureDone _ _ _ => none
  | .captureAbort _ => none
  | .captureLeaseTimeout _ => none
  | .dcAcqEnd _ => none
  | .tapTckEdge _ _ _ _ => none

end Sys2Proof
end

