-- ==== Sys2Proof/Machine/Bytes.lean ====
section
/-! DEFINITION. Byte strings, little-endian fields, tables and byte memories: the plain data helpers that every
block of the model shares (00_scope R10, 01_architecture R39). -/

namespace Sys2Proof.Machine

open Sys2Proof

/-! ### Little-endian fields (R10) -/

/-- The number whose little-endian bytes are the list. -/
def leNat : List Byte → Nat
  | [] => 0
  | b :: bs => b.toNat + 256 * leNat bs

/-- The lowest `w` bytes of `n`, lowest byte first. -/
def leBytes : Nat → Nat → Rec
  | 0, _ => []
  | w + 1, n => BitVec.ofNat 8 n :: leBytes w (n / 256)

/-- The unsigned field of `w` bytes at offset `off` (bytes past the end read 0). -/
def fld (r : Rec) (off w : Nat) : Nat := leNat ((r.drop off).take w)

/-- Two's complement reading of an unsigned `bits`-bit number (R10). -/
def toSigned (bits n : Nat) : Int :=
  if 2 ^ (bits - 1) ≤ n % 2 ^ bits then (n % 2 ^ bits : Nat) - (2 ^ bits : Nat) else ((n % 2 ^ bits : Nat) : Int)

/-- Two's complement encoding of an integer in `bits` bits. -/
def ofSigned (bits : Nat) (z : Int) : Nat := (z % ((2 ^ bits : Nat) : Int)).toNat

/-- The signed field of `w` bytes at offset `off`. -/
def sfld (r : Rec) (off w : Nat) : Int := toSigned (8 * w) (fld r off w)

/-- The signed value in `w` little-endian bytes. -/
def leSigned (w : Nat) (z : Int) : Rec := leBytes w (ofSigned (8 * w) z)

/-- The bit `k` of a field of `w` bytes at `off`. -/
def fbit (r : Rec) (off w k : Nat) : Bool := (fld r off w).testBit k

/-- `n` zero bytes. -/
def zeros (n : Nat) : Rec := List.replicate n 0

/-- A record cut or filled with zeros to exactly `n` bytes. -/
def padTo (n : Nat) (r : Rec) : Rec := r.take n ++ zeros (n - r.length)

/-- A record with the bytes `v` written at offset `off` (bytes past the end are dropped). -/
def putAt (r : Rec) (off : Nat) (v : Rec) : Rec :=
  (r.take off ++ v ++ r.drop (off + v.length)).take r.length

/-- One bit as a number. -/
def bit (b : Bool) : Nat := if b then 1 else 0

/-- The number whose bit `k` is the `k`-th Boolean. -/
def bitsOf : List Bool → Nat
  | [] => 0
  | b :: bs => bit b + 2 * bitsOf bs

/-- The field `[hi:lo]` of a number (R9). -/
def slice (n hi lo : Nat) : Nat := n / 2 ^ lo % 2 ^ (hi + 1 - lo)

/-- The numbers `0 … n − 1` whose bit is set in `m`. -/
def setBits (n m : Nat) : List Nat := (List.range n).filter fun k => m.testBit k

/-- The mask with the listed bits set. -/
def maskOf : List Nat → Nat
  | [] => 0
  | k :: ks => (2 ^ k) ||| maskOf ks

/-- `m` with the bits of `c` cleared. -/
def andNot (m c : Nat) : Nat := m - (m &&& c)

/-! ### Tables: sparse maps from numbers, keys rising -/

/-- A map from numbers to values held as a list with rising keys; an unlisted key has the value its reader names. -/
abbrev Tab (α : Type) := List (Nat × α)

/-- The listed value of a key. -/
def tfind {α : Type} : Tab α → Nat → Option α
  | [], _ => none
  | (k, v) :: t, q => if k = q then some v else tfind t q

/-- The value of a key, `d` where it is not listed. -/
def tget {α : Type} (d : α) (t : Tab α) (q : Nat) : α := (tfind t q).getD d

/-- The table with the key set to the value. -/
def tset {α : Type} : Tab α → Nat → α → Tab α
  | [], q, w => [(q, w)]
  | (k, v) :: t, q, w =>
    if q < k then (q, w) :: (k, v) :: t
    else if q = k then (q, w) :: t
    else (k, v) :: tset t q w

/-- The table without the key. -/
def tdel {α : Type} : Tab α → Nat → Tab α
  | [], _ => []
  | (k, v) :: t, q => if k = q then tdel t q else (k, v) :: tdel t q

/-- The table with one function applied to the value of a key. -/
def tmod {α : Type} (d : α) (t : Tab α) (q : Nat) (f : α → α) : Tab α := tset t q (f (tget d t q))

/-- Keys rise strictly along the table. -/
def tordered {α : Type} : Tab α → Bool
  | [] => true
  | [_] => true
  | (k, _) :: (j, w) :: t => decide (k < j) && tordered ((j, w) :: t)

/-! ### Byte memories in canonical form -/

/-- A byte memory: cells at strictly rising addresses, no cell equal to what an unlisted address reads as. -/
abbrev Mem := List Host.Cell

/-- The byte memories a host or a command addresses byte by byte (16_memory_integrity R362, 09 R192). -/
inductive MemId where
  | mailbox | weight | tun | coef | queue
  deriving DecidableEq, Repr

/-- What an unlisted address of a byte memory reads as: what initialization fills the memory with (15 R336):
0x8000 in every CB16 word of the weight store but its reserved area (06 R132), zeros in every other memory (assumption
log 5). -/
def memDefault : MemId → Nat → Byte
  | .weight, a => if a % 2 = 1 ∧ ¬ (0x40000 ≤ a ∧ a < 0x100000) then 0x80 else 0
  | _, _ => 0

/-- The byte at an address. -/
def memGet (i : MemId) : Mem → Nat → Byte
  | [], a => memDefault i a
  | (k, v) :: t, a => if k = a then v else memGet i t a

/-- The memory with one byte written, in canonical form: writing the unlisted value removes the cell. -/
def memSet (i : MemId) : Mem → Nat → Byte → Mem
  | [], a, b => if b = memDefault i a then [] else [(a, b)]
  | (k, v) :: t, a, b =>
    if a < k then (if b = memDefault i a then (k, v) :: t else (a, b) :: (k, v) :: t)
    else if a = k then (if b = memDefault i a then t else (a, b) :: t)
    else (k, v) :: memSet i t a b

/-- The memory with consecutive bytes written from an address on. -/
def memPut (i : MemId) (m : Mem) (a : Nat) : Rec → Mem
  | [] => m
  | b :: bs => memPut i (memSet i m a b) (a + 1) bs

/-- `n` consecutive bytes from an address. -/
def memRead (i : MemId) (m : Mem) (a : Nat) : Nat → Rec
  | 0 => []
  | n + 1 => memGet i m a :: memRead i m (a + 1) n

/-- Every cell's address is at least `lo` and the cells are canonical. -/
def memWfFrom (i : MemId) (lo : Nat) : Mem → Bool
  | [] => true
  | (k, v) :: t => decide (lo ≤ k) && decide (v ≠ memDefault i k) && memWfFrom i (k + 1) t

/-- The canonical form: addresses strictly rising, no cell equal to the unlisted value. -/
def memWf (i : MemId) (m : Mem) : Bool := memWfFrom i 0 m

/-! ### CRC-32 of IEEE 802.3 (R39, R392) -/

/-- One bit step of the reflected polynomial. -/
def crcBit (c : Nat) : Nat := if c % 2 = 1 then (c / 2) ^^^ 0xEDB88320 else c / 2

/-- One byte step. -/
def crcByte (c : Nat) (b : Byte) : Nat :=
  crcBit (crcBit (crcBit (crcBit (crcBit (crcBit (crcBit (crcBit (c ^^^ b.toNat))))))))

/-- CRC-32 over a byte string: bits taken least significant first, initial value all-ones, result inverted. -/
def crc32 (bs : Rec) : Nat := (bs.foldl crcByte 0xFFFFFFFF) ^^^ 0xFFFFFFFF

/-! ### Numbers modulo 2^32 and small arithmetic -/

/-- The signed 32-bit difference `(int32)(a − b)`. -/
def int32Diff (a b : Nat) : Int := toSigned 32 ((a % 2 ^ 32 + 2 ^ 32 - b % 2 ^ 32) % 2 ^ 32)

/-- Addition modulo 2^32 of a signed amount. -/
def add32 (a : Nat) (z : Int) : Nat := ofSigned 32 ((a : Int) + z)

/-- A value held in `[lo, hi]`. -/
def clampI (lo hi z : Int) : Int := if z < lo then lo else if hi < z then hi else z

/-- Rounding of `n / d` to nearest, ties to even, `d` positive. -/
def divRne (n : Int) (d : Nat) : Int :=
  let q := n / (d : Int)
  let r := n % (d : Int)
  if 2 * r < d then q else if (d : Int) < 2 * r then q + 1 else if q % 2 = 0 then q else q + 1

/-- Rounding of `n / d` to nearest, ties away from zero, `d` positive. -/
def divRna (n : Int) (d : Nat) : Int :=
  if 0 ≤ n then (2 * n + d) / (2 * d : Nat) else -((2 * -n + d) / (2 * d : Nat))

/-- Rounding up of `n / d`, `d` positive. -/
def ceilDiv (n d : Nat) : Nat := (n + d - 1) / d

/-- The sum of a list of integers. -/
def sumI (l : List Int) : Int := l.foldl (· + ·) 0

/-- The sum of a list of numbers. -/
def sumN (l : List Nat) : Nat := l.foldl (· + ·) 0

/-- The largest of a list, 0 for none. -/
def maxN (l : List Nat) : Nat := l.foldl Nat.max 0

/-- The distinct values of a list, first occurrences kept. -/
def distinct {α : Type} [DecidableEq α] : List α → List α
  | [] => []
  | a :: t => a :: (distinct t).filter (fun b => decide (b ≠ a))

/-- The list with the `i`-th element replaced (unchanged when there is none). -/
def setNth {α : Type} : List α → Nat → α → List α
  | [], _, _ => []
  | _ :: t, 0, w => w :: t
  | v :: t, i + 1, w => v :: setNth t i w

end Sys2Proof.Machine
end

