-- ==== Sys2Proof/Machine/Cb16.lean ====
section
/-! DEFINITION. The contour-bearing word (02_contour_bearing_units) and the exact arithmetic behind it: powers of ten
to the 80th, cosines, logarithms and angles are decided by comparing integers, so no rounding of a machine format
enters. -/

namespace Sys2Proof.Machine

open Sys2Proof

/-! ### Powers of ten in quarter-decibels -/

/-- `r − 1/2 ≤ a × 10^(m/80)`, decided on 80th powers. -/
def expGe (a : Nat) (m : Int) (r : Nat) : Bool :=
  decide ((2 * r - 1) ^ 80 * 10 ^ (-m).toNat ≤ (2 * a) ^ 80 * 10 ^ m.toNat) || r == 0

/-- Largest `r < lo + 2^k` at or above `lo` for which the test holds, the test holding up to it (bisection). -/
def bisect (test : Nat → Bool) : Nat → Nat → Nat
  | 0, lo => lo
  | k + 1, lo => if test (lo + 2 ^ k) then bisect test k (lo + 2 ^ k) else bisect test k lo

/-- `round(a × 10^(m/80))`, halves away from zero, for results below 2^24 (02 R47, 18 R420). -/
def expRound (a : Nat) (m : Int) : Nat := bisect (expGe a m) 24 0

/-- MAGT[m] (02 R47). -/
def magt (m : Int) : Nat := expRound 4096 m

/-! ### Cosine and sine of a fraction of a turn -/

/-- Binary places of the fixed-point cosine. -/
def trigBits : Nat := 120

/-- 2π × 2^120, rounded to nearest. -/
def twoPiFix : Nat := 8351785813007552717653752915327115495

/-- Terms of the cosine or sine series: `t` the last term, `n` its index, `x2` the squared angle. -/
def series (x2 : Int) : Nat → Nat → Int → Int → Int
  | 0, _, _, acc => acc
  | f + 1, n, t, acc =>
    let t' := -(t * x2 / (2 ^ trigBits : Nat)) / (((n + 1) * (n + 2) : Nat) : Int)
    series x2 f (n + 2) t' (acc + t')

/-- 2^120 × cos(2π × num / den). -/
def cosFix (num : Int) (den : Nat) : Int :=
  let x := (twoPiFix : Int) * (num % den) / den
  series (x * x / (2 ^ trigBits : Nat)) 40 0 (2 ^ trigBits : Nat) (2 ^ trigBits : Nat)

/-- 2^120 × sin(2π × num / den). -/
def sinFix (num : Int) (den : Nat) : Int :=
  let x := (twoPiFix : Int) * (num % den) / den
  series (x * x / (2 ^ trigBits : Nat)) 40 1 x x

/-- `round(scale × cos(2π num / den))`, halves away from zero. -/
def cosRound (scale : Nat) (num : Int) (den : Nat) : Int := divRna ((scale : Int) * cosFix num den) (2 ^ trigBits)

/-- `round(scale × sin(2π num / den))`, halves away from zero. -/
def sinRound (scale : Nat) (num : Int) (den : Nat) : Int := divRna ((scale : Int) * sinFix num den) (2 ^ trigBits)

/-- COSQ[k], k = 0 to 128 (02 R47). -/
def cosq (k : Nat) : Int := if k = 0 then 32767 else if k = 128 then 0 else cosRound 32768 k 512

/-! ### Fields and words (02 R43, R44) -/

/-- MAG of a word, signed. -/
def cbMag (w : Nat) : Int := toSigned 7 (w / 512 % 128)

/-- PH of a word. -/
def cbPh (w : Nat) : Nat := w % 512

/-- The word is null (02 R44). -/
def cbNull (w : Nat) : Bool := w / 512 % 128 == 64

/-- The null word the device generates. -/
def cbNullWord : Nat := 0x8000

/-- The word of a magnitude and a phase. -/
def cbMk (m : Int) (p : Int) : Nat := ofSigned 7 m * 512 + (p % 512).toNat

/-- Composition of words, with the saturation flag of 02 R46. -/
def cbCompose (ws : List Nat) : Nat × Bool :=
  if ws.any cbNull then (cbNullWord, false)
  else
    let m := sumI (ws.map cbMag)
    (cbMk (clampI (-63) 63 m) (sumN (ws.map cbPh) : Nat), decide (m < -63) || decide (63 < m))

/-- Quadrant terms (c, s) of a phase (02 R47). -/
def cbQuad (p : Nat) : Int × Int :=
  if p < 128 then (cosq p, cosq (128 - p))
  else if p < 256 then (-cosq (256 - p), cosq (p - 128))
  else if p < 384 then (-cosq (p - 256), -cosq (384 - p))
  else (cosq (512 - p), -cosq (p - 384))

/-- Cartesian pair of a word (02 R47). -/
def cbCart (w : Nat) : Int × Int :=
  if cbNull w then (0, 0)
  else
    let g : Int := magt (cbMag w)
    let q := cbQuad (cbPh w)
    (divRna (g * q.1) 32768, divRna (g * q.2) 32768)

/-! ### Forming words from values (02 R49) -/

/-- `m − 1/2 ≤ 40 × log10(n / d)` for positive `n`, `d`. -/
def logGe (n d : Nat) (m : Int) : Bool :=
  decide (d ^ 80 * 10 ^ (2 * m - 1).toNat ≤ n ^ 80 * 10 ^ (1 - 2 * m).toNat)

/-- Nearest integer to `40 × log10(n / d)` (a power ratio in qdB), halves to the larger, within −2,048 to 2,047. -/
def qdbPower (n d : Nat) : Int := (bisect (fun k => logGe n d ((k : Int) - 2048)) 12 0 : Nat) - (2048 : Int)

/-- The direction (2j + 1)/1,024 of a turn lies at or before the angle of (x, y). -/
def dirLe (x y : Int) (j : Nat) : Bool :=
  let low := decide (y < 0) || (decide (y = 0) && decide (x < 0))
  let tl := decide (256 ≤ j)
  if low && !tl then true
  else if !low && tl then false
  else decide (0 ≤ cosFix (2 * j + 1 : Nat) 1024 * y - sinFix (2 * j + 1 : Nat) 1024 * x)

/-- Nearest integer, modulo 512, to 512 × arg(x + jy) / 2π. -/
def phaseBu (x y : Int) : Nat := (bisect (fun k => k != 0 && dirLe x y (k - 1)) 9 0 + (if dirLe x y 511 then 1 else 0)) % 512

/-- The CB16 word of z = x + jy against a squared reference level n / d, with its saturation flag (02 R49): |z|² d / n. -/
def cbForm (x y : Int) (refNum refDen : Nat) : Nat × Bool :=
  let p := (x * x + y * y).toNat
  if p = 0 then (cbNullWord, false)
  else
    let m := qdbPower (p * refDen) refNum
    (cbMk (clampI (-63) 63 m) (phaseBu x y : Nat), decide (m < -63) || decide (63 < m))

/-- Conjugate of a word: PH negated modulo 512. -/
def cbConj (w : Nat) : Nat := if cbNull w then cbNullWord else cbMk (cbMag w) (-(cbPh w : Int))

/-- Inverse gain of a word: MAG and PH negated. -/
def cbInv (w : Nat) : Nat := if cbNull w then cbNullWord else cbMk (-cbMag w) (-(cbPh w : Int))

/-! ### The rules of a CB16 field (02 R50) -/

/-- What a CB16 field carries and accepts. -/
inductive CbUse where
  | bothNull | both | phaseOnly | magOnly
  deriving DecidableEq, Repr

/-- A record's word obeys the rules of its field. -/
def cbOk (u : CbUse) (w : Nat) : Bool :=
  match u with
  | .bothNull => true
  | .both => !cbNull w
  | .phaseOnly => !cbNull w && cbMag w == 0
  | .magOnly => !cbNull w && cbPh w == 0

/-- What a register write leaves in a CB16 field that held `old` (02 R50). -/
def cbWrite (u : CbUse) (old w : Nat) : Nat :=
  match u with
  | .bothNull => w % 65536
  | .both => if cbNull w then old else w % 65536
  | .phaseOnly => if cbNull w then old else cbPh w
  | .magOnly => if cbNull w then old else cbMk (cbMag w) 0

end Sys2Proof.Machine
end

