-- ==== Sys2Proof/Config.lean ====
section
/-! DEFINITION. What one part or one implementation fixes and the specification leaves open, as constants without a
body: no proof can see a value of theirs. -/

namespace Sys2Proof

/-- A free value: the `k`-th byte-pattern the model draws where the specification leaves a value open
(assumption log 3). -/
opaque Config.freeValue : Nat → BitVec 64

/-- Stepping code of the part, SYS.ID.STEPPING (19 R427, 17 R386): fused, not given by the manual
(assumption log 10). -/
opaque Config.stepping : BitVec 8

/-- Lowest and highest microcode ABI number engine `u` implements (17 R391): a property of the engines, not given by
the manual (assumption log 10). -/
opaque Config.engineAbi : Nat → Nat × Nat

/-- The unique MAC address fused at manufacture (17 R396), six octets (assumption log 10). -/
opaque Config.localMac : Nat → BitVec 8

/-- Fused WIDE_SKEW of an observation receiver, skew-trim taps (11_converters R247, assumption log 10). -/
opaque Config.wideSkew : Nat → BitVec 12

/-- Fused trim of a slice of a converter: SKEW for 0, THRESH[11] to THRESH[8] for 1 to 4 (11 R238, assumption log 10). -/
opaque Config.fusedTrim : Nat → Nat → Nat → Int

/-- Filter of the servo's offsets (05_datum_time R107): the filtered offset after the last one and a new measurement,
ns. The manual gives no filter (assumption log 18). -/
opaque Config.offsetFilter : Int → Int → Int

/-- Estimate of the master's frequency, ppt, after the last estimate and a filtered offset (05 R108, assumption log 18). -/
opaque Config.freqEstimate : Int → Int → Int

/-- Frequency correction the servo asks for at a filtered offset, ppt, before SLEW_MAX bounds it (05 R108, assumption
log 18). -/
opaque Config.servoLaw : Int → Int

/-- Bytes per PRB by which firmware budgets a flow whose COMP is a format R87 of 04 does not list (assumption log 10). -/
opaque Config.otherPrbBytes : Nat → Nat

/-- φ(n) of the low-PAPR base sequence of 12 or 24 elements, group u, of 3GPP TS 38.211 (07 R147): a table of that
document the manual does not repeat (assumption log 28). -/
opaque Config.shortSeq : Nat → Nat → Nat → Int

/-- Cosine and sine term of one Jacobi rotation from the two diagonal elements and the element off it (07 R158): the manual
gives the order of the rotations and not their arithmetic (assumption log 29). Values are binary32 as m × 2^e. -/
opaque Config.jacobi : Option (Int × Int) → Option (Int × Int) → Option (Int × Int) × Option (Int × Int) →
    Option (Int × Int) × (Option (Int × Int) × Option (Int × Int))

/-- Byte offset of a stored channel estimate in the estimate store (07 R152), by its key: the manual gives no layout
(assumption log 30). -/
opaque Config.estAddr : Nat → Nat

/-- Taps of the adapter's 64-tap low-pass by LIN_BW (09 R203: designed by firmware; assumption log 31). -/
opaque Config.dpdLowpass : Nat → List (Option (Int × Int))

/-- Fused gain and offset of a housekeeping channel: what a unit of the averaged code × 16 adds to VALUE, and VALUE at code 0, in
units of 2^−32 (11 R252, assumption log 10). -/
opaque Config.hkGain : Nat → Int

opaque Config.hkOffset : Nat → Int

/-- A dither LFSR after one cycle of the DATUM clock: the manual gives its width and seed, not its taps (11 R248, assumption
log 10). -/
opaque Config.ditherStep : Nat → Nat

/-- Loop term λ_s of a sheet (13 R277): MAG and PH in 2^−24 qdB and bu, fused (assumption log 10). -/
opaque Config.loopTerm : Nat → Int × Int

/-- Phase in bu of a tone of the survey's stimulus: by source, an element or 64 and a sheet for its benchmark transmitter, and by
tone (13 R278, assumption log 36). -/
opaque Config.tonePhase : Nat → Nat → Nat

end Sys2Proof
end

