-- ==== Sys2Proof/Machine/State.lean ====
section
/-! DEFINITION. The state of the block as plain data: every register, buffer, counter, mode and pin the specification
gives it, grouped by chapter, and the queue of waiting commands. A field's docstring gives its width, the chapter and
rule that name it, and its reset value. Sparse tables list only what differs from the value their reader names. -/

namespace Sys2Proof.Machine

open Sys2Proof

/-! ### Host port, mailbox, logs (18_mailbox_commands, 19_host_registers_faults, 01_architecture) -/

/-- A command as firmware takes it: header and request record (18 R400). -/
structure Cmd where
  src : Requester
  op : Nat
  seq : Nat
  txn : Nat
  req : Rec
  deriving DecidableEq, Repr

/-- The host port and the fault latch of the AO domain (19_host_registers_faults). -/
structure HostSt where
  /-- HI shadow of the host port. 32; 19 R426; reset 0x0000_0000 -/
  hiHost : Nat := 0
  /-- HI shadow of the control processor. 32; 19 R426; reset 0x0000_0000 -/
  hiCpu : Nat := 0
  /-- PWR.HOST_ERR, NOT_ON bit 0 to ABORTED bit 4. 5; 19 R425; reset 0 -/
  err : Nat := 0
  /-- PWR.HOST_ERR_ADDR. 32; 19 R425; reset 0x0000_0000 -/
  errAddr : Nat := 0
  /-- PWR.FAULT_STATUS. 9; 19 R428; reset 0x000 -/
  fault : Nat := 0
  /-- PWR.FAULT_EN. 9; 19 R428; reset 0x1FF -/
  faultEn : Nat := 0x1FF
  /-- PWR.IRQ_EN. 4; 19 R429; reset 0x0 -/
  irqEn : Nat := 0
  /-- AO copy of MBX.STATUS.READY. 1; 19 R423; reset 0 -/
  aoReady : Bool := false
  /-- Words the host port last returned (the SPI data lines). words; 19 R423; reset none listed -/
  lastRead : List Nat := []
  /-- Last status byte of PORT_STATUS. 8; 19 R423; reset 0 (DESIGN CHOICE 0, log 7) -/
  lastPort : Nat := 0
  deriving DecidableEq, Repr

/-- A parked command of kind P (18 R406). -/
structure ParkedCmd where
  cmd : Cmd
  deriving DecidableEq, Repr

/-- The mailbox block (18_mailbox_commands). -/
structure MbxSt where
  /-- MBX.DOORBELL.RING. 8; 18 R403; reset 0x00 -/
  ring : Nat := 0
  /-- MBX.DONE. 8; 18 R403; reset 0x00 -/
  done : Nat := 0
  /-- MBX.IRQ_EN. 8; 18 R403; reset 0x00 -/
  irqEn : Nat := 0
  /-- MBX.STATUS.BLOCKED. 8; 18 R404; reset 0x00 -/
  blocked : Nat := 0
  /-- MBX.STATUS.PARKED commands, oldest first. list; 18 R406; reset 0x00 -/
  parked : List ParkedCmd := []
  /-- MBX.STATUS.INBAND. 1; 18 R414; reset 0 -/
  inband : Bool := false
  /-- MBX.STATUS.READY. 1; 18 R404; reset 0 -/
  ready : Bool := false
  /-- SEQ, OPCODE of the last completed command of a channel. 8+16 each; 18 R405; reset none -/
  last : Tab (Nat × Nat) := []
  /-- Commands rung and not taken, in ring order. list; 18 R406; reset empty -/
  fifo : List Cmd := []
  /-- The kind T command with TXN_ID 0 whose response waits for its boundary, with its transaction. list; 18 R411; reset none -/
  waiting : Option (Cmd × Nat) := none
  /-- Management frames waiting in ingress queue 31: tag and the bytes from HEADER on. at most 32; 18 R414; reset empty -/
  queue31 : List (Nat × Rec) := []
  /-- Response and event frames on egress queue 63 with their enqueue times, oldest first. list; 18 R414; reset empty -/
  queue63 : List (Nat × Rec) := []
  deriving DecidableEq, Repr

/-- One record of the commit log (01 R38). -/
structure LogRec where
  seq : Nat
  timeS : Nat
  timeNs : Nat
  valid : Bool
  kind : Nat
  boundary : Nat
  unit : Nat
  origin : Nat
  txnId : Nat
  crc : Nat
  detail : Nat
  deriving DecidableEq, Repr

/-- The commit log in processor SRAM (01 R38). -/
structure LogSt where
  /-- Records held, oldest first. at most 4,096 x 32 bytes; 01 R38; reset empty -/
  recs : List LogRec := []
  /-- Next SEQ. 32; 01 R38; reset 0 -/
  next : Nat := 0
  /-- SEQ of the first record not yet returned to the host. 32; 01 R38; reset 0 -/
  returned : Nat := 0
  /-- COMMIT_LOG_HIGH raised and not armed again. 1; 01 R38; reset 0 -/
  high : Bool := false
  /-- Direct-write capture: address, datum time, value. at most 16; 01 R37; reset empty -/
  capture : List (Nat × Nat × Nat) := []
  deriving DecidableEq, Repr

/-- One record of the event log (19 R431). -/
structure EvtRec where
  seq : Nat
  timeS : Nat
  timeNs : Nat
  flags : Nat
  code : Nat
  unit : Nat
  d0 : Nat
  d1 : Nat
  d2 : Nat
  deriving DecidableEq, Repr

/-- The event log (19 R430). -/
structure EvtSt where
  /-- Records held, oldest first. at most 2,048 x 32 bytes; 19 R430; reset empty -/
  recs : List EvtRec := []
  /-- Next SEQ. 32; 19 R430; reset 0 -/
  next : Nat := 0
  /-- First SEQ not yet acknowledged. 32; 19 R433; reset 0 -/
  acked : Nat := 0
  deriving DecidableEq, Repr

/-! ### Transactions (03_control_path_transactions) -/

/-- A staged item: a command (OPCODE and record) or, with OPCODE 0, a masked register write (03 R66). -/
structure Item where
  op : Nat
  req : Rec
  addr : Nat
  value : Nat
  mask : Nat
  deriving DecidableEq, Repr

/-- The states of a transaction (03 R65). -/
inductive TxnState where
  | opened | committed | applied | aborted | failed | expired
  deriving DecidableEq, Repr

/-- A transaction (03 R65 to R69). ORIGIN is 1 host, 2 baseband; BOUNDARY is 0xFF while not committed. -/
structure Txn where
  id : Nat
  state : TxnState
  origin : Nat
  label : Nat
  items : List Item
  boundary : Nat
  refCarrier : Nat
  applyNs : Nat
  failStatus : Nat
  failIndex : Nat
  /-- Items whose shadow load ended in a bus error (03 R69). -/
  busErr : List Nat
  /-- Shadow banks loaded. -/
  loaded : Bool
  /-- L_TXMAX of the commit, the larger of before and after (08 R177). -/
  lead : Nat
  /-- Areas of its items transferred away from its origin (03 R72). -/
  lost : Nat
  /-- Model time of the last command that named it (03 R65). -/
  named : Nat := 0
  deriving DecidableEq, Repr

/-- The transaction controller and ownership (03_control_path_transactions). -/
structure TxnSt where
  /-- OPEN transactions, and COMMITTED ones in the order of acceptance. list; 03 R65; reset empty -/
  live : List Txn := []
  /-- The last 64 closed transactions, newest first. list; 03 R65; reset empty -/
  closed : List Txn := []
  /-- Next TXN_ID. 32; 03 R70; reset 1 -/
  next : Nat := 1
  /-- TXN.STATUS.FAILED. 1; 03 R65; reset 0 -/
  failed : Bool := false
  /-- TXN.LAST_APPLY. 32; 03 R65; reset 0x0000_0000 -/
  lastApply : Nat := 0
  /-- Ownership, bit n: area n owned by the baseband. 15; 03 R71; reset 0x0000_0060 -/
  owner : Nat := 0x60
  deriving DecidableEq, Repr

/-! ### Clocks, alignment, die-to-die links, isolation (01_architecture) -/

/-- Clocks, alignment and die-to-die links (01_architecture). -/
structure ClkSt where
  /-- CLK.ALIGN_TARGET. 32; 01 R31; reset 0x0000_0000 -/
  target : Nat := 0
  /-- CLK.ALIGN_STATUS.ARMED. 1; 01 R31; reset 0 -/
  armed : Bool := false
  /-- CLK.ALIGN_STATUS.ALIGNED. 1; 01 R31; reset 0 -/
  aligned : Bool := false
  /-- CLK.ALIGN_STATUS.REFUSED. 1; 01 R32; reset 0 -/
  refused : Bool := false
  /-- CLK.ALIGN_STATUS.SLIP. 4; 01 R32; reset 0x0 -/
  slip : Nat := 0
  /-- CLK.ALIGN_STATUS.SLIP_DATUM. 1; 01 R32; reset 0 -/
  slipDatum : Bool := false
  /-- CLK.ALIGN_STATUS.RESID. 9; 01 R31; reset 0x000 -/
  resid : Nat := 0
  /-- Step of R31 in progress: 0 none, 4 target passed, 1 first DASYNC issued, 2 buffers reset, 3 aligned. 3; 01 R31; reset 0 -/
  stage : Nat := 0
  /-- REF has been lost and the alignment not redone since. 1; 01 R30; reset 0 -/
  realign : Bool := false
  /-- RESID at which ALIGNED was reached. 9; 01 R33; reset 0 -/
  alignedResid : Nat := 0
  /-- RESID loaded in the transmit fractional-delay trim. 9; 01 R31; reset 0 -/
  trim : Nat := 0
  /-- Trim waiting for the next DASYNC. 9; 01 R33; reset none -/
  trimNext : Option Nat := none
  /-- Consecutive bad windows of clock 0 REF, 1 Ethernet, 2 control PLL, 3 engine PLL. count; 01 R29; reset 0 -/
  bad : Tab Nat := []
  /-- Consecutive good windows of a clock declared lost. count; 01 R29; reset 0 -/
  good : Tab Nat := []
  /-- Clocks declared lost, bit per clock. 4; 01 R29; reset 0 (DESIGN CHOICE 0, log 7) -/
  lost : Nat := 0
  /-- The CPU domain runs from the control PLL. 1; 01 R28; reset 0 (FIO) -/
  cpuPll : Bool := false
  /-- Times of recent CRC failures of a die-to-die lane group. list; 01 R19; reset empty -/
  crcTimes : Tab (List Nat) := []
  /-- Lane groups under the background lane test. list; 01 R19; reset empty -/
  laneTest : List Nat := []
  /-- Lanes found failing, replaced at the next alignment pulse (link and lane). list; 01 R19; reset empty -/
  laneSwap : List (Nat × Nat) := []
  /-- Spare lanes used of a link (sheet x 2 + 1 for upstream). count; 01 R18; reset 0 -/
  spareUsed : Tab Nat := []
  /-- Isolations and restorations waiting for their boundary: KIND, class, part number. list; 01 R42; reset empty -/
  isoPend : List (Nat × Nat × Nat) := []
  /-- REASON of an UNAVAILABLE unit, by the unit numbers of 18 R416. 8 each; 00 R6; reset 0 -/
  reason : Tab Nat := []
  /-- Transmit elements isolated. 64; 01 R42; reset 0 -/
  isoTx : Nat := 0
  /-- Sheets isolated as class 0x08. 4; 01 R42; reset 0 -/
  isoSheet : Nat := 0
  /-- Receive elements isolated. 64; 01 R42; reset 0 -/
  isoRx : Nat := 0
  /-- Model times at which processes with a stated duration began, by key (Ops). count each; 15 R333, R335 to R337, 17 R380; reset none -/
  stamps : Tab Nat := []
  deriving DecidableEq, Repr

/-! ### Datum time base (05_datum_time) -/

/-- A signed comparator (05 R112). -/
structure Cmp where
  target : Nat
  armed : Bool
  late : Bool
  /-- Half-subframe index and symbol the comparator is armed for. -/
  half : Nat
  sym : Nat
  deriving DecidableEq, Repr

/-- The datum time base (05_datum_time). -/
structure DatumSt where
  /-- Integer part of the datum counter. 32; 05 R95; reset 0 -/
  cnt : BitVec 32 := 0
  /-- Counter before its last cycle, for crossings (R116). 32; 05 R116; reset 0 -/
  last : Nat := 0
  /-- Fraction of the datum counter. 44; 05 R95; reset 0 -/
  frac : BitVec 44 := 0
  /-- DATUM.INCR_HI.INT in force. 4; 05 R95; reset 0x2 -/
  incInt : Nat := 2
  /-- Increment fraction in force. 44; 05 R95; reset 0x08D_5555_5555 -/
  incFrac : Nat := 0x08D55555555
  /-- DATUM.INCR_LO holding register. 32; 05 R95; reset 0x5555_5555 -/
  incrLo : Nat := 0x55555555
  /-- INCR_HI write waiting for the next DATUM cycle. 48; 05 R95; reset none -/
  incNext : Option (Nat × Nat) := none
  /-- DATUM.STEP_NS. 32; 05 R111; reset 0x0000_0000 -/
  stepNs : Nat := 0
  /-- DATUM.CTRL.TIME_VALID. 1; 05 R98; reset 0 -/
  timeValid : Bool := false
  /-- DATUM.LATE.RS_WINDOW. 14; 05 R112; reset 0x0000 -/
  rsWindow : Nat := 0
  /-- DATUM.LATE.AIR_WINDOW. 14; 05 R112; reset 0x0000 -/
  airWindow : Nat := 0
  /-- TOD registers as written, waiting for TOD_N (L, S_LO, S_HI). 32+32+16; 05 R98; reset 0 -/
  todHold : Nat × Nat × Nat := (0, 0, 0)
  /-- TOD reference in effect (L, S, N). 32+48+30; 05 R98; reset 0 -/
  tod : Nat × Nat × Nat := (0, 0, 0)
  /-- Firmware's reference triple (L_ref, S_ref, N_ref). 32+48+30; 05 R98; reset 0 -/
  ref : Nat × Nat × Nat := (0, 0, 0)
  /-- DATUM.PPS_NEXT. 32; 05 R117; reset 0x0000_0000 -/
  ppsNext : Nat := 0
  /-- DATUM.PPS_IN_TS. 32; 05 R119; reset 0x0000_0000 -/
  ppsInTs : Nat := 0
  /-- DATUM.STATUS.PPS_IN_SEEN. 1; 05 R119; reset 0 -/
  ppsInSeen : Bool := false
  /-- DATUM.STATUS.SERVO. 2; 05 R107; reset 0x0 -/
  servo : Nat := 0
  /-- DATUM.STATUS.TOD_STALE. 1; 05 R120; reset 0 -/
  todStale : Bool := false
  /-- DATUM.STATUS.STEP_REFUSED. 1; 05 R109; reset 0 -/
  stepRefused : Bool := false
  /-- HOLDOVER_EXPIRED. 1; 05 R107; reset 0 -/
  holdExpired : Bool := false
  /-- Last filtered offset. 64 signed; 05 R107; reset none -/
  offset : Option Int := none
  /-- Offset refused under R109. 64 signed; 05 R109; reset 0 -/
  refusedOff : Int := 0
  /-- Mean path delay, 1/16 ns. 32; 05 R107; reset 0 -/
  pathDelay : Nat := 0
  /-- Selected grandmasterIdentity. 64; 05 R107; reset 0 -/
  gmId : Nat := 0
  /-- Selected parentPortIdentity. 80; 05 R107; reset 0 -/
  gmPort : Nat := 0
  /-- clockClass of the grandmaster. 8; 05 R107; reset 0 -/
  gmClass : Nat := 0
  /-- stepsRemoved. 8; 05 R107; reset 0 -/
  stepsRemoved : Nat := 0
  /-- Data set of the selected master for the alternate BMCA. list; 05 R105; reset none -/
  gmBest : List Nat := []
  /-- Three announce intervals of the selected master, ns. count; 05 R107; reset 0 -/
  announceNs : Nat := 0
  /-- currentUtcOffset of the last Announce. 16; 05 R107; reset 0 -/
  utcOffset : Int := 0
  /-- Consecutive measurements within LOCK_THRESH. count; 05 R107; reset 0 -/
  within : Nat := 0
  /-- Consecutive filtered measurements beyond STEP_LIMIT. count; 05 R109; reset 0 -/
  beyond : Nat := 0
  /-- Measurements taken since ACQUIRING was entered, newest first, at most 8. list; 05 R109; reset empty -/
  acq : List Int := []
  /-- A measurement beyond STEP_LIMIT was discarded as an outlier and the next has not come. 1; 05 R109; reset 0 -/
  outlier : Bool := false
  /-- Masters heard, by parentPortIdentity: the time of the last Announce of each. list; 05 R105, R107; reset none -/
  foreign : Tab Int := []
  /-- sequenceId of that Sync. 16; 05 R105; reset 0 -/
  syncSeq : Nat := 0
  /-- sequenceId of the last Delay_Req. 16; 05 R105; reset 0 -/
  delaySeq : Nat := 0
  /-- Last Sync exchange (t1, t2) in ns of extended time. 80 each; 05 R105; reset none -/
  sync : Option (Int × Int) := none
  /-- Transmit time t3 of the last Delay_Req. 80; 05 R105; reset none -/
  delayReq : Option Int := none
  /-- Master frequency estimate, increment relative to nominal, ppt. 32 signed; 05 R107; reset 0 -/
  freqAdj : Int := 0
  /-- Offset still to be slewed, ns. 64 signed; 05 R108; reset 0 -/
  slew : Int := 0
  /-- Seconds that DATUM_TIME_SET with AT_PPS sets at the next PPS_IN edge. 48; 05 R119; reset none -/
  atPps : Option Nat := none
  /-- PPS_OUT level. 1; 05 R117; reset 0 -/
  ppsOut : Bool := false
  /-- Datum time of the last rising edge of PPS_OUT. 32; 05 R117; reset 0 -/
  ppsRise : Nat := 0
  /-- Dtap of that edge within its DATUM cycle. 7; 05 R117; reset 0 -/
  ppsTap : Nat := 0
  /-- Crossing target of the PPS_IN timeout, 2 s after the last edge that counts. 32; 05 R119, R465; reset none -/
  ppsLimit : Option Nat := none
  /-- CLK10M_OUT runs (its phase has been set). 1; 05 R118; reset 0 -/
  clk10m : Bool := false
  /-- One-way delay results, newest first (MEAS_ID, ORIGIN, DELAY). at most 8; 05 R120; reset empty -/
  owd : List (Nat × Nat × Int) := []
  /-- Transmit times of own requests awaiting their response (MEAS_ID, ORIGIN, t1). list; 05 R120; reset empty -/
  owdSent : List (Nat × Nat × Int) := []
  /-- Downlink air-symbol comparators by carrier. 8; 05 R112; reset not armed -/
  cmpDl : Tab Cmp := []
  /-- Uplink air-symbol comparators by carrier. 8; 05 R112; reset not armed -/
  cmpUl : Tab Cmp := []
  /-- Frames of the PTP transmit ring not yet launched. list; 05 R106; reset empty -/
  ptpTx : List Rec := []
  /-- Transmit timestamps returned to firmware. list; 05 R106; reset empty -/
  ptpTs : List Nat := []
  deriving DecidableEq, Repr

/-! ### Power domains and the kiln (15_power_domains_kiln) -/

/-- Where a domain stands (15 R331, R332): the three states and the steps of a transition. -/
inductive DomState where
  | off | retention | on
  | quiescing | drained | clamped
  | waiting | switched | inited | scrubbed | restored
  deriving DecidableEq, Repr

/-- A save-list entry (15 R339). -/
structure SaveEntry where
  addr : Nat
  mask : Nat
  value : Nat
  captured : Bool
  deriving DecidableEq, Repr

/-- A running PWR_DOMAIN_SET or hardware wake (15 R332, R335, R361). -/
structure DomReq where
  mask : Nat
  target : Nat
  force : Bool
  failed : Nat
  failStatus : Nat
  deriving DecidableEq, Repr

/-- Power domains and rails (15_power_domains_kiln). -/
structure PwrSt where
  /-- State of each domain (PWR.STATE). 2 x 21; 15 R330; reset AO ON, every other OFF -/
  dom : Tab DomState := []
  /-- State a domain in transition came from. 2 each; 15 R337; reset none -/
  from_ : Tab DomState := []
  /-- Target of a domain in transition: 0 OFF, 1 RETENTION, 2 ON. 2 each; 15 R332; reset none -/
  to_ : Tab Nat := []
  /-- Drain time, 100 ns. 16 each; 15 R333; reset 20 -/
  drain : Tab Nat := []
  /-- KEEP mask. 64 each; 15 R337; reset all ones -/
  keep : Tab Nat := []
  /-- RETFAIL by cask (PWR.RETFAIL0 to 2). 92; 15 R337; reset 0 -/
  retfail : Nat := 0
  /-- The save list. 256 entries; 15 R339; reset ADDR 0, MASK 0, no captured value -/
  save : Tab SaveEntry := []
  /-- The running domain request. record; 15 R361; reset none -/
  req : Option DomReq := none
  /-- WAKE_AFTER armed, ms. 32; 15 R340; reset none -/
  wakeAfter : Option Nat := none
  /-- PWR.STATUS.FIO_ON. 1; 15 R335; reset 0 -/
  fio : Bool := false
  /-- PSEQ_EN6 to PSEQ_EN0. 7; 15 R342; reset 0 -/
  pseqEn : Nat := 0
  /-- PSEQ_PG6 to PSEQ_PG0 seen high for 100 us. 7; 15 R342; reset 0 -/
  pseqPg : Nat := 0
  /-- PWR.STATUS.RAIL. 4; 15 R343; reset 0x0 -/
  rail : Nat := 0
  /-- PWR.STATUS.RAIL_FAULT. 1; 15 R343; reset 0 -/
  railFault : Bool := false
  /-- A rail fault's 100 ms wait is running. 1; 15 R343; reset 0 -/
  railWait : Bool := false
  /-- Model times of the last rail faults, newest first. at most 3; 16 R376; reset empty -/
  railTimes : List Nat := []
  /-- The rails stay down after the third fault. 1; 15 R343; reset 0 -/
  railHeld : Bool := false
  /-- VAO_IN above its lockout and the AO logic released. 1; 15 R342; reset 0 -/
  aoUp : Bool := false
  /-- VAO_IN has risen and the AO regulator starts. 1; 15 R342; reset 0 -/
  aoRising : Bool := false
  /-- Cause of the reset the rails' return will be (1 POWER_UP, 6 RAIL_FAULT). 8; 15 R342; reset 1 -/
  riseCause : Nat := 1
  deriving DecidableEq, Repr

/-- A declared change of the overlay (15 R358). -/
structure Declared where
  restore : Bool
  boundary : Nat
  steps : List (Option Nat)
  deriving DecidableEq, Repr

/-- The kiln scheduler (15_power_domains_kiln). -/
structure KilnSt where
  /-- KILN.STATUS.LEVEL. 2; 15 R351; reset 0x0 -/
  level : Nat := 0
  /-- KILN.STATUS.ENERGY_LEVEL. 2; 15 R349; reset 0x0 -/
  energy : Nat := 0
  /-- KILN.STATUS.HEAT_LEVEL. 2; 15 R350; reset 0x0 -/
  heat : Nat := 0
  /-- KILN.CREDIT in uJ. 42 signed; 15 R349; reset BURST when CTRL wakes, 0 before -/
  creditUj : Int := 0
  /-- KILN.P_B, mW. 32; 15 R348; reset 0x0000_0000 -/
  pB : Nat := 0
  /-- Entry of the budget schedule in force. 2; 15 R348; reset none -/
  entry : Option Nat := none
  /-- KILN.P_DEV, mW. 32; 15 R347; reset 0x0000_0000 -/
  pDev : Nat := 0
  /-- T_hot, 0.125 degC. 16 signed; 15 R350; reset 0 (DESIGN CHOICE 0, log 7) -/
  tHot : Int := 0
  /-- T_pred, 0.125 degC. 16 signed; 15 R350; reset 0 (DESIGN CHOICE 0, log 7) -/
  tPred : Int := 0
  /-- T_hot of the last 1,000 evaluations, newest first. list; 15 R350; reset empty -/
  hist : List Int := []
  /-- KILN.STATUS.HK_ASSUMED. 1; 15 R345; reset 0 -/
  assumed : Bool := false
  /-- KILN.STATUS.FEED_LOW. 1; 15 R344; reset 0 -/
  feedLow : Bool := false
  /-- ms that V_feed has stayed below FEED_LOW. count; 15 R344; reset 0 -/
  feedBelow : Nat := 0
  /-- ms that V_feed has stayed at or above 1.02 FEED_LOW. count; 15 R344; reset 0 -/
  feedAbove : Nat := 0
  /-- Steps in force, newest first: some i an element step of local index i, none a layer step. list; 15 R356; reset empty -/
  steps : List (Option Nat) := []
  /-- Directions in which OFF_SET in force switches elements off: bit 1 downlink, bit 2 uplink. 3; 15 R356, 06 R143; reset 0 -/
  dirs : Nat := 0
  /-- Declared changes not yet applied, oldest first. list; 15 R358; reset empty -/
  declared : List Declared := []
  /-- Evaluations for which the conditions of level 0, of level 1 or lower and of level 2 or lower have held. count each; 15 R351; reset 0 -/
  fall : Nat × Nat × Nat := (0, 0, 0)
  /-- ms that P_dev has exceeded P_PEAK. count; 15 R349; reset 0 -/
  peakMs : Nat := 0
  /-- ms since the last declaration. count; 15 R357; reset none -/
  gapMs : Option Nat := none
  /-- ms that the level has been 0. count; 15 R359; reset 0 -/
  zeroMs : Nat := 0
  /-- THERMAL_TRIP in force until T_hot falls below 105 degC. 1; 15 R355; reset 0 -/
  tripped : Bool := false
  deriving DecidableEq, Repr

/-! ### Boot, firmware, profiles (17_boot_firmware_profiles) -/

/-- Boot, firmware slots, fuses and profiles (17_boot_firmware_profiles). -/
structure BootSt where
  /-- SYS.BOOT.CAUSE. 8; 17 R378; reset 0x00 -/
  cause : Nat := 0
  /-- SYS.BOOT.PROFILE. 2; 17 R392; reset 0x0 -/
  profile : Nat := 0
  /-- SYS.BOOT.PROF_FAILED. 1; 17 R395; reset 0 -/
  profFailed : Bool := false
  /-- SYS.BOOT.SLOT. 1; 17 R387; reset 0 -/
  slot : Nat := 0
  /-- SYS.BOOT.STAGE. 3; 17 R388; reset 0x0 -/
  stage : Nat := 0
  /-- SYS.BOOT.MODE. 2; 17 R396; reset 0x0 -/
  mode : Nat := 0
  /-- SYS.PROF_PINS.LEVEL. 2; 17 R379; reset 0x0 -/
  profPins : Nat := 0
  /-- SYS.PROF_PINS.LATCHED. 2; 17 R379; reset 0x0 -/
  profLatched : Nat := 0
  /-- The control processor is held in reset (t_0 to t_r, RESET_N or TEST_EN). 1; 17 R379; reset 1 -/
  held : Bool := true
  /-- RESET_N is low. 1; 17 R379; reset 0 (DESIGN CHOICE high, log 7) -/
  resetLow : Bool := false
  /-- TEST_EN is high. 1; 20 R460; reset 0 (DESIGN CHOICE low, log 7) -/
  testEn : Bool := false
  /-- The next boot runs the ROM safe profile. 1; 17 R398; reset 0 -/
  romSafe : Bool := false
  /-- Boot ROM step: 0 idle, 1 ROM started, 2 header accepted, 3 payload loaded, 4 image accepted, 5 firmware runs. 3; 17 R388; reset 0 -/
  step : Nat := 0
  /-- Slot the boot ROM is trying. 1; 17 R387; reset 0 -/
  trying : Nat := 0
  /-- Slots already refused at this boot, bit per slot. 2; 17 R387; reset 0 -/
  tried : Nat := 0
  /-- Flash content of firmware slot A (0) and B (1): bytes written so far. 6 MiB each; 17 R382; reset empty -/
  slotImg : Tab Rec := []
  /-- Flash content of profile p copy c at key 2p + c. 256 KiB each; 17 R382; reset empty -/
  profImg : Tab Rec := []
  /-- Reason code of slot A (0) and B (1). 8 each; 17 R386; reset 0x01 EMPTY -/
  slotReason : Tab Nat := []
  /-- Reason code of profile copies at key 2p + c. 8 each; 17 R386; reset 0x01 EMPTY -/
  profReason : Tab Nat := []
  /-- Slots accepted at boot step 6, ABI bytes of the running image. 8 bytes; 17 R391; reset empty -/
  runAbi : Rec := []
  /-- VERSION of the running firmware; 0 in ROM safe mode. 32; 18 R416; reset 0 -/
  fwVersion : Nat := 0
  /-- TRIAL_TIMEOUT of the last FW_ACTIVATE, s. 16; 17 R390; reset 600 -/
  trialTimeout : Nat := 600
  /-- Reset of cause COMMAND follows 1 ms after the response. 1; 17 R398; reset 0 -/
  resetPending : Bool := false
  /-- BOOT_FALLBACK to be raised at firmware start. 1; 17 R387; reset 0 -/
  fallback : Bool := false
  /-- FW_TRIAL_FAILED to be raised at firmware start. 1; 17 R390; reset 0 -/
  trialFailed : Bool := false
  /-- Payload entries of the profile still to run. bytes; 17 R393; reset empty -/
  profRest : Rec := []
  /-- Index of the next entry. count; 17 R394; reset 0 -/
  profIdx : Nat := 0
  /-- Profile application: 0 none, 1 waiting for REF and ALIGNED, 2 running, 3 in a WAIT, 4 waiting for APPLIED, 5 waiting for a P command. 3; 17 R394; reset 0 -/
  profPhase : Nat := 0
  /-- Time of the WAIT entry in progress, us. 32; 17 R394; reset 0 -/
  profWait : Nat := 0
  /-- Open transaction of the profile, 0 if none. 32; 17 R394; reset 0 -/
  profTxn : Nat := 0
  /-- Entries staged in the open transaction of the profile, in order. list; 17 R395; reset empty -/
  profGroup : List Nat := []
  /-- Status of the command firmware last ran itself, until it acts on it. 8; 17 R394; reset none -/
  fwStatus : Option Nat := none
  /-- SKIPPED. 32; 17 R394; reset 0 -/
  skipped : Nat := 0
  /-- FAIL_ENTRY. 16; 17 R395; reset 0xFFFF -/
  failEntry : Nat := 0xFFFF
  /-- FAIL_STATUS. 8; 17 R395; reset 0x00 -/
  failStatus : Nat := 0
  deriving DecidableEq, Repr

/-- Fuses (17_boot_firmware_profiles R384, 00_scope R2). -/
structure FuseSt where
  /-- Vendor key hashes in fuses. 4 x 384; 17 R384; reset none programmed (DESIGN CHOICE, log 8) -/
  vendorKey : Tab Rec := []
  /-- Revoked vendor key slots. 4; 17 R384; reset 0 (DESIGN CHOICE, log 8) -/
  vendorRev : Nat := 0
  /-- Owner key hashes in fuses. 4 x 384; 17 R384; reset blank -/
  ownerKey : Tab Rec := []
  /-- Revoked owner key slots. 4; 17 R384; reset 0 -/
  ownerRev : Nat := 0
  /-- Fused firmware security counter. 127; 17 R385; reset 0 (DESIGN CHOICE 0, log 8) -/
  fwCounter : Nat := 0
  /-- Fused profile security counter. 127; 17 R385; reset 0 (DESIGN CHOICE 0, log 8) -/
  profCounter : Nat := 0
  /-- Fused variant: 0 IK6464, 1 IK6432, 2 IK6464L. 2; 00 R1; reset 0 (DESIGN CHOICE IK6464, log 4) -/
  variant : Nat := 0
  deriving DecidableEq, Repr

/-! ### Memory integrity (16_memory_integrity) -/

/-- A tracking entry of a sparge channel (16 R372). -/
structure Track where
  unit : Nat
  count : Nat
  hard : Bool
  /-- Whole passes since the last write-back. -/
  idle : Nat
  deriving DecidableEq, Repr

/-- A remapped row (16 R374). -/
structure Remap where
  spare : Nat
  row : Nat
  inUse : Bool
  copied : Bool
  switchNs : Nat
  deriving DecidableEq, Repr

/-- The byte memories (16_memory_integrity R362). -/
structure MemSt where
  /-- Mailbox SRAM from 0x2000_0000. 64 KiB; 18 R399; reset zeros (15 R336) -/
  mbx : Mem := []
  /-- Weight store from 0x7000_0000. 16 MiB; 06 R133; reset 0x8000 words (15 R336) -/
  weight : Mem := []
  /-- Capture tun from 0x6000_0000. 32 MiB; 18 R417; reset zeros (15 R336) -/
  tun : Mem := []
  /-- Coefficient RAM. 1 MiB; 09 R190; reset zeros (15 R336) -/
  coef : Mem := []
  /-- Queue buffers. 12 MiB; 04 R85; reset zeros (15 R336) -/
  queue : Mem := []
  deriving DecidableEq, Repr

/-- Integrity state of the memories (16_memory_integrity). -/
structure EccSt where
  /-- Flipped stored bits of a unit, key code x 2^32 + unit byte offset. 104 each; 16 R363; reset none -/
  err : Tab Nat := []
  /-- HARD_LIMIT. 4 each; 16 R373; reset 3 -/
  hardLimit : Tab Nat := []
  /-- REMAP_EN. 1 each; 16 R373; reset 1 -/
  remapEn : Tab Bool := []
  /-- MEM.STATUS.DEGRADED. 8; 16 R373; reset 0x00 -/
  degraded : Nat := 0
  /-- Unit the channel visits next. count each; 16 R368; reset 0 -/
  pos : Tab Nat := []
  /-- End of the last complete pass. 32 each; 16 R377; reset 0 -/
  passNs : Tab Nat := []
  /-- Units queued for a priority visit. at most 8 each; 16 R369; reset empty -/
  prio : Tab (List Nat) := []
  /-- Tracking entries, oldest first. at most 16 each; 16 R372; reset empty -/
  track : Tab (List Track) := []
  /-- Remaps and their mirror in always-on memory. list each; 16 R374; reset empty at power-up -/
  remaps : Tab (List Remap) := []
  /-- Poisoned ranges: memory code, first byte offset, end offset. list; 15 R337; reset none -/
  poison : List (Nat × Nat × Nat) := []
  /-- Units whose uncorrectable read was reported in this pass. list each; 16 R367; reset empty -/
  ueSeen : Tab (List Nat) := []
  /-- Triplicated words, three copies each. 24 x 32 x 3; 16 R376; reset 0 (DESIGN CHOICE 0 before the first power-up, log 9) -/
  tmr : Tab (Nat × Nat × Nat) := []
  /-- MEM.STATUS.TMR_VALID. 1; 16 R376; reset 0 -/
  tmrValid : Bool := false
  /-- MEM_TMR_INVALID to be raised at firmware start. 1; 16 R376; reset 0 -/
  tmrBad : Bool := false
  deriving DecidableEq, Repr

/-! ### Captures and test (18_mailbox_commands) -/

/-- A capture slot (18 R417, R418, R421). STATE is 0 IDLE, 1 ARMED, 2 RUNNING, 3 DONE, 4 ABORTED. -/
structure CapSlot where
  state : Nat
  /-- The request, with START_NS as it applies. -/
  req : Rec
  hold : Bool
  abort : Nat
  firstSym : Nat
  firstNs : Nat
  doneLen : Nat
  /-- Bytes of one stream. -/
  stream : Nat
  /-- N_PRB and numerology of the carrier when it was set. -/
  prb : Nat
  mu : Nat
  /-- Pattern fields and result of the last ANALYSE: NSYM_USED and one entry per captured path. -/
  analysis : Option (Rec × Nat × Rec)
  deriving DecidableEq, Repr

/-- Captures (18_mailbox_commands). -/
structure CapSt where
  /-- Capture slots 0 to 3. record each; 18 R417; reset IDLE -/
  slots : Tab CapSlot := []
  deriving DecidableEq, Repr

/-! ### Fronthaul link (04_fronthaul_link), section table (03_control_path_transactions) -/

/-- A section-table entry (03 R55); STATE is 0 FREE, 1 VALID, 2 MATCHED, 3 CONTINUATION. -/
structure Section where
  state : Nat
  type : Nat
  id : Nat
  flow : Nat
  carrier : Nat
  slot : Nat
  startSym : Nat
  numSym : Nat
  flags : Nat
  startPrb : Nat
  numPrb : Nat
  reMask : Nat
  beam : Nat
  comp : Nat
  extLen : Nat
  freqOff : Int
  airNs : Nat
  ueId : Nat
  cpSeq : Nat
  upMatched : Nat
  /-- Extension bytes: all of the section's, or the 56 of a CONTINUATION entry. -/
  ext : Rec
  /-- Indices of the section's CONTINUATION entries. -/
  conts : List Nat
  /-- Weight vectors of an extType 11 section apply to this many PRBs each; 0 for none. -/
  bund : Nat
  /-- Vectors of the section held in the weight pool: extType, or 0 for the vectors of a type 6 section; their number; the
  unit of the first. -/
  wts : Option (Nat × Nat × Nat)
  deriving DecidableEq, Repr

/-- An entry of the PRACH occasion table (10 R229). -/
structure Occasion where
  /-- Page of its subframe, by which it is cleared. -/
  page : Nat
  flow : Nat
  slot : Nat
  carrier : Nat
  filter : Nat
  timeOffset : Nat
  cpLength : Nat
  frameStr : Nat
  /-- Subframe and slot of the carrier in which the occasion starts. -/
  starts : Nat × Nat
  deriving DecidableEq, Repr

/-- An accepted section on its way to its page: page, subframe, the entry, the words its weights take in the weight store
with the number that saturated, whether it comes after T_cut of its slot (07 R149), and its occasion. -/
structure Arrival where
  page : Nat
  sub : Nat
  sect : Section
  words : List (Nat × Rec)
  sat : Nat
  cut : Bool
  occ : Option Occasion
  deriving DecidableEq, Repr

/-- The section table (03 R53, R54). -/
structure SectSt where
  /-- Entries not FREE, key page x 2048 + index. 65,536 x 64 bytes; 03 R55; reset FREE (cleared by 15 R336) -/
  entries : Tab Section := []
  /-- Subframe each page holds. 12 each; 03 R54; reset cleared (0xFFFF) -/
  pageSub : Tab Nat := []
  /-- Pages being cleared. 32; 03 R54; reset none -/
  clearing : Tab Nat := []
  /-- Sections waiting for a page's clear. list; 03 R54; reset empty -/
  waiting : List Arrival := []
  /-- The PRACH occasion table. 64 entries; 10 R229; reset empty -/
  occ : List Occasion := []
  deriving DecidableEq, Repr

/-- An egress descriptor (04 R92, R93): LAUNCH_NS, flow, START_PRB and SECTION_ID by which frames start in order, the
frame, the LATE flag, and whether it is eligible. -/
structure EgDesc where
  launch : Nat
  flow : Nat
  prb : Nat
  sect : Nat
  frame : Rec
  late : Bool
  eligible : Bool
  /-- It waits at the head of its queue, tested before its time. -/
  tested : Bool
  deriving DecidableEq, Repr

/-- U-plane data of one PRB of one section held in an ingress queue for a symbol (04 R90, R91). -/
structure Held where
  carrier : Nat
  flow : Nat
  sect : Nat
  /-- AIR_NS of the symbol. -/
  air : Nat
  prb : Nat
  /-- Ingress queue and bytes taken there. -/
  queue : Nat
  bytes : Nat
  /-- Twelve I, Q pairs. -/
  iq : List (Int × Int)
  deriving DecidableEq, Repr

/-- Correction words of an element (13 R293). -/
structure Elem where
  txCorr : Nat
  rxCorr : Nat
  rho : Nat
  txDelay : Int
  rxDelay : Int
  txDrift : Nat
  rxDrift : Nat
  deriving DecidableEq, Repr

/-- What a commit changes that the processing of an uplink symbol reads: the values before the commit, kept for a symbol
whose time lies before it (03 R63). -/
structure UlView where
  cfg : Tab Rec
  regs : Tab Nat
  elem : Tab Elem
  bank : Tab Nat
  beamCopy : Nat
  isoRx : Nat
  isoSheet : Nat
  reason : Tab Nat
  steps : List (Option Nat)
  dirs : Nat
  shedUl : Nat
  deriving DecidableEq, Repr

/-- An uplink symbol whose sections are fixed (05 R113): carrier, half-subframe, symbol in it, datum time, the sections
that cover it and whether the comparator carried the LATE flag. -/
structure UlSym where
  carrier : Nat
  half : Nat
  sym : Nat
  air : Nat
  len : Nat
  sects : List Section
  late : Bool
  /-- Sheets whose elements it takes as zero for their state, and for not being ready (10 R226, R227). -/
  stateMask : Nat
  readyMask : Nat
  /-- The settings it is processed with, once a commit after its time has changed them (03 R63). -/
  view : Option UlView
  deriving DecidableEq, Repr

/-- The fronthaul link, flows and queues (04_fronthaul_link). -/
structure FhSt where
  /-- FH.LINK_STATUS.STATE: 0 DISABLED, 1 DOWN, 2 ALIGNING, 3 UP. 2; 04 R75; reset 0x0 -/
  link : Nat := 0
  /-- FH.LINK_STATUS.MODE, lane mode of the current rung. 3; 04 R73; reset 0x0 -/
  mode : Nat := 0
  /-- FH.LINK_STATUS.RUNG. 2; 04 R78; reset 0x0 -/
  rung : Nat := 0
  /-- Lanes with signal. 4; 04 R75; reset 0x0 -/
  signal : Nat := 0
  /-- Lanes with CDR lock. 4; 04 R75; reset 0x0 -/
  cdr : Nat := 0
  /-- Lanes with alignment-marker lock. 4; 04 R75; reset 0x0 -/
  am : Nat := 0
  /-- Lanes declared failed. 4; 04 R76; reset 0x0 -/
  laneFailed : Nat := 0
  /-- A lane failed since the last FH_LINK_SET and fallback is running. 1; 04 R78; reset 0 -/
  falling : Bool := false
  /-- UP_SINCE_NS. 32; 04 R75; reset 0 -/
  upSince : Nat := 0
  /-- LAST_CHANGE_NS. 32; 04 R75; reset 0 -/
  lastChange : Nat := 0
  /-- Consecutive FEC windows over the ratio, per lane. count; 04 R76; reset 0 -/
  fecBad : Tab Nat := []
  /-- Layers shed in the downlink and uplink: the lowest layer shed, 16 none. 5 each; 04 R79; reset 16 -/
  shedDl : Nat := 16
  /-- Lowest uplink layer shed, 16 none. 5; 04 R79; reset 16 -/
  shedUl : Nat := 16
  /-- Last received and transmitted sequence identifiers by flow x 4 + type. 16 each; 04 R82; reset none -/
  seqRx : Tab Nat := []
  /-- Next transmit sequence identifier by flow x 4 + type. 8; 04 R82; reset 0 -/
  seqTx : Tab Nat := []
  /-- U-plane data held in the ingress queues. list; 04 R85; reset empty -/
  held : List Held := []
  /-- Egress descriptors of queues 32 to 62, oldest first. list each; 04 R93; reset empty -/
  egress : Tab (List EgDesc) := []
  /-- Uplink symbols whose sections are fixed and whose messages are not built. list; 05 R113; reset empty -/
  ulSyms : List UlSym := []
  /-- Frames put on the wire, oldest first. list; 04 R93; reset empty -/
  wire : List Rec := []
  /-- Received PTP frames in the PTP ring with their receive timestamps. list; 05 R106; reset empty -/
  ptpRing : List (Nat × Rec) := []
  deriving DecidableEq, Repr

/-! ### Graticule (06_graticule_beamforming) -/

/-- The graticule (06_graticule_beamforming). -/
structure GratSt where
  /-- Active copy of the beam table, 0 or 1. 1; 06 R134; reset 0 -/
  beamCopy : Nat := 0
  /-- Beams were written by the transaction being applied: the copies flip after its last item. 1; 06 GRAT_BEAM_WRITE; reset 0 -/
  beamPrep : Bool := false
  /-- Active bank of a slot, key direction x 1024 + slot. 1 each; 06 R137; reset 0 -/
  bank : Tab Nat := []
  /-- Slots whose inactive bank is pending, key direction x 1024 + slot. flags; 06 R137; reset none -/
  pend : Tab Nat := []
  /-- Release time of the old uplink banks. 32; 06 R139; reset 0 -/
  ulRelease : Nat := 0
  /-- Old uplink banks are still read by symbols in flight. 1; 06 R139; reset 0 -/
  ulBusy : Bool := false
  /-- Uplink slots of swaps not yet released, each with its release time. list of (10, 32); 06 R139; reset empty -/
  ulOld : List (Nat × Nat) := []
  /-- The last eight slots in which GRAT_WEIGHT_ECC was raised, by their start. list of 32; 06 R145; reset empty -/
  eccSlot : List Nat := []
  deriving DecidableEq, Repr

/-! ### Mash engine (07_mash_weight_engine) -/

/-- A stored channel estimate (07 R155): 64 elements × 2^EXP, T_END of its occasion, the REs of a group it was formed
from. -/
structure Est where
  exp : Int
  iq : List (Int × Int)
  tEnd : Nat
  /-- Variance of the estimate (07 R154) as a fraction. -/
  nu : Nat × Nat
  deriving DecidableEq, Repr

/-- A staged SRS symbol (07 R152, 10 R232): carrier, start of its slot in datum ns, symbol in the slot, its end in datum
ns, and the carrier's resource elements of each path. -/
structure SrsSym where
  carrier : Nat
  slot : Nat
  sym : Nat
  tEnd : Nat
  /-- Sheets on which the symbol falls under 10 R226 or R227. -/
  zero : Nat
  /-- Contexts of the extraction table in force whose occasion holds the symbol: number and record (10 R232). -/
  ctxs : List (Nat × Rec)
  re : Tab (List (Int × Int))
  deriving DecidableEq, Repr

/-- A slot's words a solved set holds (07 R158): direction, slot, and 64 words of 16 layers in layer order. -/
structure SlotSet where
  dir : Nat
  slot : Nat
  words : List Nat
  deriving DecidableEq, Repr

/-- A refresh (07 R149): its T_end, the keys of the estimates it renewed, where it stands (0 estimating, 1 cut and solving,
2 ready), its boundary and target slot, when it became ready, whether it was deferred, and the set with its group-solves,
saturated words and failed solves. -/
structure Refresh where
  tEnd : Nat
  fresh : List Nat
  stage : Nat
  /-- Reciprocity correction of each element as at T_end. -/
  recip : List Nat
  /-- B, its COMMIT_KIND, its REF_CARRIER, and start and end of the target slot, fixed at T_cut. -/
  boundary : Nat
  kind : Nat
  car : Nat
  target : Nat × Nat
  ready : Nat
  deferred : Bool
  set : List SlotSet
  solves : Nat
  sat : Nat
  fail : Nat
  deriving DecidableEq, Repr

/-- The Mash engine (07_mash_weight_engine). -/
structure MashSt where
  /-- Channel estimates, key context x 4096 + port x 1024 + group. records; 07 R155; reset none -/
  est : Tab Est := []
  /-- SRS symbols in the staging area. list; 07 R152; reset empty -/
  staged : List SrsSym := []
  /-- Refreshes outstanding, oldest first. list; 07 R149; reset empty -/
  refresh : List Refresh := []
  /-- LAST_READY_NS. 32; 07 R150; reset 0 -/
  lastReady : Nat := 0
  /-- LAST_APPLY_NS. 32; 07 R151; reset 0 -/
  lastApply : Nat := 0
  /-- LAST_SOLVES. 16; 07 MASH_STATUS; reset 0 -/
  lastSolves : Nat := 0
  /-- Per-context end of the last occasion. 32 each; 07 R154; reset 0 -/
  lastEnd : Tab Nat := []
  /-- Noise estimate of a context. 16 each; 07 R154; reset 0x8000 -/
  noise : Tab Int := []
  /-- Port results, key context x 4 + port: FO, SNR, and the estimate variance of R154 times N_g as a fraction. 32+16; 07 R154; reset 0x8000_0000, 0x8000 -/
  port : Tab (Int × Int × Nat × Nat) := []
  /-- Estimates a type 6 section replaced in the last refresh (FROM_TYPE6), keys as est. list; 07 R155; reset empty -/
  six : List Nat := []
  /-- Contexts whose next occasion touches every group they cover, after a change of geometry. list; 07 R156; reset empty -/
  retouch : List Nat := []
  /-- MASH.STATUS.HELD. 1; 07 R161; reset 0 -/
  held : Bool := false
  /-- Prerequisites lapsed and reported: bit s reciprocity, 4 + s LO phase, 8 + s skew. 12; 01 R41; reset 0 -/
  lapsed : Nat := 0
  /-- Decimation skew current, bit per sheet. 4; 01 R41; reset 0 -/
  skewCur : Nat := 0
  deriving DecidableEq, Repr

/-! ### Transmit datapath (08_transmit_path) -/

/-- A symbol released by its downlink comparator whose span is not over (08 R182, R183): carrier, AIR_NS, length in ns,
whether a VALID section of a type other than 0 covers it, and the sheets that count it as muted for their state and for
not being ready. -/
structure AirSym where
  carrier : Nat
  air : Nat
  len : Nat
  covered : Bool
  /-- A retime mutes it (08 R178). -/
  retime : Bool
  /-- A coexistence hold met it (14 R328). -/
  coex : Bool
  /-- Its air time has been reached. -/
  begun : Bool
  stateMask : Nat
  readyMask : Nat
  /-- Sheets on which a hold in whole symbols mutes it (14 R326, R327). -/
  holdMask : Nat
  deriving DecidableEq, Repr

/-- Samples from an index on; before and after them the stream is 0. -/
structure Stream where
  base : Int
  v : List (Int × Int)
  deriving DecidableEq, Repr

/-- Stage-3 samples of a symbol: the rate class of f_s and the samples by their index at f_s (08 R166). -/
structure Wave where
  rate : Nat
  /-- Air time and duration of the symbol. -/
  air : Nat
  len : Nat
  /-- Sheets that mute the symbol whole, once its air time has judged it (08 R182, R183). -/
  mute : Option Nat
  out : Stream
  deriving DecidableEq, Repr

/-- A pass of crest-factor reduction: the samples as earlier cancellations of the pass left them, the next to judge, and the
last one cancelled (08 R171). -/
structure CfrPass where
  buf : Stream
  next : Int
  last : Option Int
  deriving DecidableEq, Repr

/-- Samples a path holds between its stages: both passes of stage 6, the outputs of stages 6, 7, 8 and 10, the index of the
next DAC word, and the last DAC word before any mute code (08 R171 to R175). -/
structure TxPipe where
  pass1 : CfrPass
  pass2 : CfrPass
  c : Stream
  d : Stream
  e : Stream
  f : Stream
  next : Int
  dac : Int × Int
  deriving DecidableEq, Repr

/-- The transmit datapaths (08_transmit_path). Hold bits of a sheet: 0 TXMUTE, 1 REF, 2 LO_UNLOCK, 5 BIAS clear, 6 COEX that
cuts the symbol in progress, 7 COEX in whole symbols; the holds of R182 and R183 follow from the symbols in `air`. -/
structure TxSt where
  /-- Holds in force of a sheet. 8 each; 08 R179; reset 0 -/
  hold : Tab Nat := []
  /-- Release times of holds that end at the next symbol start, key sheet x 8 + bit. 32 each; 08 R181; reset none -/
  release : Tab Nat := []
  /-- Paths held by a failed DAC. 64; 11 R250; reset 0 -/
  pathHold : Nat := 0
  /-- TXMUTE_N pin level. 1; 08 R181; reset 1 (DESIGN CHOICE high, log 7) -/
  mutePin : Bool := true
  /-- PIN.TXMUTE_SEEN. 1; 08 R181; reset 0 -/
  muteSeen : Bool := false
  /-- t_d of a rise of TXMUTE_N whose release is awaited. 32; 08 R181; reset none -/
  rise : Option Nat := none
  /-- First and last muted symbol times since a sheet left readiness. 32+32; 08 R182; reset none -/
  muted : Tab (Nat × Nat) := []
  /-- Elements x_e of the last symbol of a carrier handed to a path, key path x 8 + carrier. list each; 06 R122; reset empty -/
  grid : Tab (List (Int × Int)) := []
  /-- AIR_NS and outcome of the last downlink symbol of a carrier: 0 empty, 1 transmitted, 2 muted incomplete, 3 muted late, 4 muted by a retime. 32+3; 04 R91; reset none -/
  symOut : Tab (Nat × Nat) := []
  /-- Symbols released whose span is not over. list; 08 R182; reset empty -/
  air : List AirSym := []
  /-- Slot in which TX_STATE_MUTE was last raised. 32; 08 R183; reset none -/
  stateSlot : Option Nat := none
  /-- Stage-3 samples of released symbols whose span is not over, key path x 8 + carrier. list each; 08 R166; reset empty -/
  wave : Tab (List Wave) := []
  /-- Index of the 983.04 MS/s sample that stage 5 makes next. model; 08 R168; reset none -/
  pos : Option Int := none
  /-- Samples a path holds between its stages 6 and 11. streams; 08 R171 to R175; reset empty -/
  pipe : Tab TxPipe := []
  deriving DecidableEq, Repr

/-! ### Predistortion and observation receivers (09_predistortion_observation) -/

/-- Adaptation state of a path (09 R190, R199 to R208). A polynomial coefficient is a complex binary32 value, key
table x 8 + k; a value m × 2^e is the pair (m, e), none where not finite. -/
structure DpdPath where
  bank : Nat
  pending : Bool
  setNo : Nat
  commitNs : Nat
  state : Nat
  /-- G_T as a fraction: real and imaginary numerators and their denominator; none while not valid. -/
  gT : Option (Int × Int × Nat)
  eCur : Int
  ePred : Int
  captureNs : Nat
  orx : Nat
  flags : Nat
  lastReject : Nat
  alignStreak : Nat
  bypass : Bool
  /-- A capture is being solved. -/
  solving : Bool
  /-- Datum time at which a solved set was staged. -/
  staged : Option Nat
  /-- STARVED was raised since the last set. -/
  starved : Bool
  /-- Datum time from which STALE_MAX runs. -/
  since : Nat
  beta : Tab (Option (Int × Int) × Option (Int × Int))
  betaNext : Tab (Option (Int × Int) × Option (Int × Int))
  deriving DecidableEq, Repr

/-- An observation receiver (09 R193, R197, R209). OWNER is 0 none, 1 predistortion, 2 survey, 3 test capture; SERVICE 0 in
service, 1 out by command, 2 failed. -/
structure Orx where
  owner : Nat
  source : Nat
  wide : Bool
  /-- Path observed, none when no coupler is selected. -/
  path : Option Nat
  leaseStart : Nat
  /-- 0 before the capture, 1 capturing, 2 captured. -/
  capture : Nat
  service : Nat
  /-- Leases of the current frame so far, and those reserved for predistortion. -/
  index : Nat
  reserved : Nat
  /-- The lease measures mismatch (14 R322). -/
  mismatch : Bool
  /-- A hold or carrier mute of 08 R179 touched what the lease observes (09 R196). -/
  touched : Bool
  /-- Datum time at which the benchmark transmitter of receive tracking starts (13 R297). -/
  gap : Nat
  /-- Coupler map that the lease selected its path with, empty where none is selected. -/
  map : Rec
  /-- The last sixteen predistortion leases, newest first: path and the reason code of its capture, 255 where none was judged. -/
  recent : List (Nat × Nat)
  deriving DecidableEq, Repr

/-- A predistortion capture (09 R196): path, start, observation, x_p and the neighbours' streams. -/
structure DpdCapture where
  path : Nat
  z : List (Int × Int)
  x : List (Int × Int)
  nbr : List (List (Int × Int))
  deriving DecidableEq, Repr

/-- Predistortion and observation receivers (09_predistortion_observation). -/
structure DpdSt where
  /-- Adaptation state by path. record each; 09 R199; reset zeros, E_CUR and E_PRED 0x8000 -/
  path : Tab DpdPath := []
  /-- Observation receivers. record each; 09 R197; reset free and in service -/
  orx : Tab Orx := []
  /-- Last path served on a sheet. 6 each; 09 R197; reset none -/
  lastPath : Tab Nat := []
  /-- Aligned captures that wait to be solved, the one being solved first. list; 09 R196, R201; reset empty -/
  capture : List DpdCapture := []
  /-- Correction A11, A12, A21, A22, DC_I, DC_Q of a receiver. 16 x 6; 13 R283; reset 0x4000, 0, 0, 0x4000, 0, 0 -/
  corr : Tab (List Int) := []
  /-- Identity sets written by R191 and not yet logged. 64; 09 R191; reset 0 -/
  identity : Nat := 0
  /-- Paths whose structure changed at the boundary in progress: a regenerated set comes into force at its order 6. 64; 09 R210; reset 0 -/
  regen : Nat := 0
  deriving DecidableEq, Repr

/-! ### Receive datapath (10_receive_path) -/

/-- A change of a path's DC blocker: its datum time, K and FREEZE in force before it, and whether it clears the accumulators
(10 R214, R222). -/
structure DcMark where
  time : Nat
  k : Nat
  freeze : Bool
  clear : Bool
  deriving DecidableEq, Repr

/-- The receive datapaths (10_receive_path). -/
structure RxSt where
  /-- State of a sheet for the receive stages since a datum time, newest first: 0 in RX and ready, 1 in RX and not ready, 2 not in RX. 32+2 each; 10 R214, R223; reset none -/
  states : Tab (List (Nat × Nat)) := []
  /-- Changes of a path's DC blocker in half-subframes whose codes have not been run, oldest first. record each; 10 R214; reset none -/
  marks : Tab (List DcMark) := []
  /-- DC accumulators by path (I, Q). 32+32; 10 R214; reset 0 -/
  dc : Tab (Int × Int) := []
  /-- RXD.STATUS.DC_ACQ: paths in their acquisition shift. 64; 10 R214; reset 0 -/
  dcAcq : Nat := 0
  /-- Updating samples that a path's blocker still takes at K − 6 from the half-subframe in progress on. 17; 10 R214; reset 0 -/
  dcLeft : Tab Nat := []
  /-- Stage-2 output of a path over the last three half-subframes. list each; 10 R214; reset empty -/
  out : Tab (List (Int × Int)) := []
  /-- Half-subframe, modulo 20,480, whose first sample follows `out`. 15; 10 R223; reset none -/
  outHalf : Option Nat := none
  /-- Last image measurement of a path: IRR, TEMP, MEAS_NS. 16+16+32; 10 R216; reset 0x8000, 0, 0 -/
  irr : Tab (Int × Int × Nat) := []
  /-- Last half-subframe level by path: HSF_NS, RMS, PEAK, CLIPS. 32+16+16+32; 10 R223; reset 0, 0x8000, 0x8000, 0 -/
  level : Tab (Nat × Int × Int × Nat) := []
  /-- Frequency offset reports, key sheet x 8 + carrier: FO, QUAL, SLOT_NS. 16+8+32; 10 R233; reset 0 -/
  fo : Tab (Int × Nat × Nat) := []
  /-- Accumulated correlations of the slot in progress, key sheet x 8 + carrier (re, im, power). 64 each; 10 R233; reset 0 -/
  foAcc : Tab (Int × Int × Nat) := []
  /-- Resource elements of the last symbol of a carrier by path x 8 + carrier. list each; 10 R219; reset empty -/
  re : Tab (List (Int × Int)) := []
  /-- First and last zeroed symbol times since a sheet left readiness. 32+32; 10 R226; reset none -/
  zeroed : Tab (Nat × Nat) := []
  /-- Slot in which RX_STATE_ZERO was last raised. 32; 10 R227; reset none -/
  stateSlot : Option Nat := none
  /-- Restart of a carrier's stages 4 to 6: its boundary and the time before which symbols contribute zero. 32+32; 10 R225; reset none -/
  retime : Tab (Nat × Nat) := []
  deriving DecidableEq, Repr

/-! ### Converters and housekeeping (11_converters) -/

/-- A slice of an ADC or of the housekeeping converter, or a unary cell of a DAC (11 R236, R248): position (0xFF spare or
failed), whether it failed, its trims; a cell's CELL_TRIM stands in OFFSET. -/
structure Slice where
  pos : Nat
  failed : Bool
  offset : Int
  gain : Int
  skew : Int
  /-- THRESH[11] to THRESH[8]. -/
  thresh : List Int
  deriving DecidableEq, Repr

/-- A converter (11 R235 to R245). STATE 0 OFF, 1 INIT, 2 RUN, 3 HELD, 4 NO_SPARE, 5 FAILED. -/
structure Conv where
  state : Nat
  lastPos : Nat
  slices : List Slice
  /-- Visit: 0 none, 1 measuring, 2 shadow. -/
  visit : Nat
  /-- Consecutive visits that disagreed. -/
  disagree : Nat
  /-- Consecutive refused handovers of the current position. -/
  refusals : Nat
  deriving DecidableEq, Repr

/-- Converters (11_converters). -/
structure ConvSt where
  /-- Converters by the global numbers of R235. record each; 11 R237; reset OFF -/
  conv : Tab Conv := []
  /-- First window of a pair, key converter x 32 + position: skew estimate and validity, then e_b as fractions. record each; 11 R243; reset none -/
  window : Tab (Option Int × List (Option (Int × Nat))) := []
  /-- WIDE_SKEW of a receiver. 12 each; 11 R247; reset fused (Config.wideSkew, log 10) -/
  wideSkew : Tab Int := []
  /-- First window of a pair of the wide estimator of a receiver, taps. 16 each; 11 R247; reset none -/
  wideWindow : Tab Int := []
  /-- Dither LFSR of a transmit DAC. 23 each; 11 R248; reset 0x40_0001 plus its global number -/
  lfsr : Tab Nat := []
  deriving DecidableEq, Repr

/-- A housekeeping channel (11 R252). -/
structure HkChan where
  code : Nat
  value : Int
  timeNs : Nat
  /-- Outside its limit window and not armed again. -/
  out : Bool
  deriving DecidableEq, Repr

/-- The housekeeping converter's channels (11_converters R251). -/
structure HkSt where
  /-- Channel results. 12+16+32; 11 R252; reset CODE 0, VALUE 0x8000, TIME 0 -/
  chan : Tab HkChan := []
  /-- Index of the next sequence entry. 6; 11 R251; reset 0 -/
  idx : Nat := 0
  deriving DecidableEq, Repr

/-! ### Synthesizers and radio states (12_lo_radio_states) -/

/-- The five radio states (12 R266). -/
inductive Radio where
  | sleep | standby | synth | rx | tx
  deriving DecidableEq, Repr

/-- A radio-state timer (12 R268). -/
structure RsTimer where
  tE : Nat
  action : Nat
  /-- Armed by the pattern engine. -/
  pat : Bool
  deriving DecidableEq, Repr

/-- Radio and synthesizer state of one sheet (12_lo_radio_states). -/
structure Sheet where
  /-- STATE -/
  state : Radio
  /-- TARGET of a transition in progress and its t_e. -/
  trans : Option (Radio × Nat)
  /-- Timers that fired during a transition and wait: action, t_e and datum time of firing. -/
  deferred : List (Nat × Nat × Nat)
  /-- A channel change is in progress (CHANGING). -/
  changing : Bool
  txReady : Bool
  rxReady : Bool
  outOfService : Bool
  patternOn : Bool
  /-- Next entry the pattern engine arms: half-subframe at its period's start, index; none until it is derived anew. -/
  pat : Option (Int × Nat)
  qsFail : Bool
  rxCal : Bool
  txCal : Bool
  rxLock : Bool
  txLock : Bool
  timers : Tab RsTimer
  lastTe : Nat
  /-- t_e of the last step between adjacent states that is over. -/
  hopTe : Nat
  qsAttempts : Nat
  calTemp : Int
  calStart : Nat
  tDone : Nat
  /-- Attempts of the synthesizer calibration in progress. -/
  calTry : Nat
  /-- Bands of TXLO and RXLO chosen by the last band search. -/
  band : Nat × Nat
  /-- A synthesizer calibration is due at this datum time. -/
  calDue : Option Nat
  /-- A quick survey has completed since the last calibration: T_done stands. -/
  done : Bool
  /-- Datum time of the next repetition of a quick survey rejected four times (R265). -/
  retryAt : Nat
  /-- Datum time of an unplanned loss of lock not yet followed by its recalibration. -/
  unlocked : Option Nat
  /-- Model times of the last unplanned losses, oldest first. -/
  losses : List Nat
  /-- A return to service is in progress. -/
  returning : Bool
  /-- Strobe levels. -/
  strobes : Nat
  deriving DecidableEq, Repr

/-- Radio states of every sheet (12_lo_radio_states). -/
structure RadioSt where
  /-- Sheets. record each; 12 R266; reset SLEEP, nothing locked or ready -/
  sheet : Tab Sheet := []
  deriving DecidableEq, Repr

/-! ### Array survey (13_array_survey) -/

/-- A fit of R280: MAG at the span's mean, PH at frequency `f` in kHz and delay, in units of 2^−24 qdB, bu and dtap. -/
structure Fit where
  f : Nat
  mag : Int
  ph : Int
  tau : Int
  deriving DecidableEq, Repr

/-- The array frame (13 R281): fits of b_s, r_s and the star. -/
structure Frame where
  b : Tab Fit
  r : Tab Fit
  ell : Option Fit
  deriving DecidableEq, Repr

/-- The array reference of a direction (13 R282): the mean MAG, the reference PH and the mean delay. -/
structure ArrayRef where
  mag : Int
  ph : Int
  tau : Int
  deriving DecidableEq, Repr

/-- What a solved campaign commits (13 R293): element words, receive image sets by path, receiver corrections, the element
fits, the frame, the references and F_SURV of a frame-setting one, and the mean temperatures of its sheets. -/
structure SurveySet where
  elems : List (Nat × Elem)
  images : List (Nat × Rec)
  orx : List (Nat × List Int)
  fits : Tab Fit
  frame : Frame
  ref : Tab ArrayRef
  fSurv : Nat × Nat
  theta : List (Nat × Int)
  deriving DecidableEq, Repr

/-- A campaign in progress (13 R284 to R289). -/
structure Camp where
  number : Nat
  full : Bool
  skipOrx : Bool
  /-- Sheets, as a mask. -/
  sheets : Nat
  /-- It is frame-setting. -/
  setting : Bool
  /-- The partner a lone quick survey ties to. -/
  partner : Option Nat
  /-- Frame of the campaign that rejected its sheet, and the sheets that one accepted. -/
  parent : Option (Frame × Nat)
  /-- t_k in datum ns. -/
  start : Nat
  /-- Leases begun, by receiver. -/
  leases : Tab Nat
  /-- Its leases by sheet: arrangement, and datum time of the start. -/
  starts : Tab (List (Nat × Nat))
  /-- Temperatures of its sheets at its leases. -/
  temps : Tab (List Int)
  /-- Temperature and datum time of a sheet's last receive lease (10 R216). -/
  rxMeas : Tab (Int × Nat)
  solved : Bool
  accepted : Nat
  boundary : Nat
  result : SurveySet
  /-- Settings in force when it started: the survey's configuration and network (R300), carriers and channel. -/
  cfg : Tab Rec
  deriving DecidableEq, Repr

/-- A steeping (13 R294) of a sheet and direction: element, old and new word of each correction, the last step applied,
the datum time of the next one, and the measurements that become g0 and d0 with the last step. -/
structure Steep where
  sheet : Nat
  dir : Nat
  items : List (Nat × Nat × Nat)
  step : Nat
  steps : Nat
  gap : Nat
  next : Nat
  base : List (Nat × Int × Int × Nat)
  deriving DecidableEq, Repr

/-- A and v of one tone of transmit tracking, in binary32 (13 R297). -/
structure TrackTone where
  a : List (List (Option (Int × Int) × Option (Int × Int)))
  v : List (Option (Int × Int) × Option (Int × Int))
  deriving DecidableEq, Repr

/-- Accumulated captures of transmit tracking of a sheet (13 R297): how many, and the sums of each tone. -/
structure TrackAcc where
  n : Nat
  tones : List TrackTone
  deriving DecidableEq, Repr

/-- The array survey (13_array_survey). -/
structure SurveySt where
  /-- SURVEY.STATUS.FRAME_PROVISIONAL. 1; 13 R288; reset 0 -/
  provisional : Bool := false
  /-- SURVEY.STATUS.RECIP_CURRENT by sheet. 4; 13 R299; reset 0x0 -/
  recip : Nat := 0
  /-- SURVEY.STATUS.ALIGN_CURRENT by sheet. 4; 13 R299; reset 0x0 -/
  align : Nat := 0
  /-- SURVEY.CAMPAIGN, number of the last campaign started. 32; 13 R284; reset 0x0000_0000 -/
  campaign : Nat := 0
  /-- Campaigns in progress; QUICK_ACTIVE and FULL_ACTIVE are their sheets. list; 13 R284; reset none -/
  camps : List Camp := []
  /-- Arrangement of a sheet's network: 0 IDLE, 1 TX, 2 RX, 3 RX_TRACK, 4 PARTNER, 5 ORX. 3 each; 13 R276; reset IDLE -/
  arr : Tab Nat := []
  /-- Corrections, delays and drift terms of the elements (SURVEY.CORR, DRIFT, DELAY, RECIP). record each; 13 R293; reset 0 -/
  elem : Tab Elem := []
  /-- SURVEY.THETA.LATCHED of a sheet that has latched. 16 each; 13 R296; reset 0x0000, not latched -/
  latched : Tab Int := []
  /-- SURVEY.THETA.REF of a sheet. 16 each; 13 R293; reset 0x0000 -/
  thetaRef : Tab Int := []
  /-- LAST_REJECT byte of a sheet, TX_REUSED in bit 7. 8 each; 13 R292; reset 0 -/
  reject : Tab Nat := []
  /-- SURVEY.F_SURV_DL, kHz. 23; 13 R280; reset 0x00_0000 -/
  fSurvDl : Nat := 0
  /-- SURVEY.F_SURV_UL, kHz. 23; 13 R280; reset 0x00_0000 -/
  fSurvUl : Nat := 0
  /-- LAST_COMMIT_NS by sheet. 32 each; 13 R300; reset 0 -/
  lastCommit : Tab Nat := []
  /-- The stored array frame. fits; 13 R281; reset none -/
  frame : Frame := { b := [], r := [], ell := none }
  /-- The array reference of a direction. fit each; 13 R282; reset none -/
  ref : Tab ArrayRef := []
  /-- Last fit of T_e and R_e, key direction x 64 + element. fit each; 13 R291; reset none -/
  fits : Tab Fit := []
  /-- Steepings in progress. list; 13 R294; reset empty -/
  steep : List Steep := []
  /-- Transmit tracking sums of a sheet. matrices; 13 R297; reset none -/
  acc : Tab TrackAcc := []
  /-- First tracking measurement of a pair, key direction x 64 + element. fit each; 13 R297; reset none -/
  trackA : Tab Fit := []
  /-- Agreed tracking measurement and its time in ns of extended time, key direction x 64 + element. fit each; 13 R298; reset none -/
  tracked : Tab (Fit × Int) := []
  /-- g0 at F_SURV and d0, key direction x 64 + element. MAG, PH, word; 13 R298; reset none -/
  base : Tab (Int × Int × Nat) := []
  /-- FAIL_STREAK of an element. count; 13 R291; reset 0 -/
  failStreak : Tab Nat := []
  /-- Consecutive campaigns in which an element was NO_SIGNAL. count; 13 R291; reset 0 -/
  noSignal : Tab Nat := []
  /-- Consecutive rejected quick surveys of a sheet. count; 12 R265; reset 0 -/
  qsReject : Tab Nat := []
  /-- LAST_MEAS_NS of an element. 32 each; 13 R300; reset 0 -/
  lastMeas : Tab Nat := []
  /-- Temperature latches waiting for their boundary, by sheet: temperature and boundary. 16+32 each; 13 R296; reset none -/
  latchPend : Tab (Int × Nat) := []
  deriving DecidableEq, Repr

/-! ### Front-end control (14_front_end_control) -/

/-- A bias DAC (14 R301). -/
structure Bias where
  span : Nat
  configured : Bool
  target : Nat
  out : Nat
  cleared : Bool
  short : Bool
  openLoad : Bool
  compliance : Bool
  /-- Consecutive supervision samples against the declared condition: short, open load, compliance. -/
  nShort : Nat
  nOpen : Nat
  nComp : Nat
  /-- Start of the 20 us at CLR_CODE of a DAC just configured, or just disabled. -/
  phase : Option Nat
  /-- Span switch: the boundary, the new span, and whether the span has switched. -/
  swap : Option (Nat × Nat × Bool)
  /-- CLR_CODE the output holds when cleared. -/
  clr : Nat
  /-- Model time, ns, at which the output began to move from `out` towards its target. -/
  since : Nat
  /-- Model time, ns, of the last supervision sample. -/
  sampled : Option Nat
  deriving DecidableEq, Repr

/-- Bias DACs (14_front_end_control). -/
structure BiasSt where
  /-- DACs 0 to 127 voltage, 128 to 143 current (BIAS.VDAC, BIAS.IDAC). record each; 14 R301; reset not configured: high impedance or off -/
  dac : Tab Bias := []
  /-- BIAS.STATUS.CLEARED by sheet: a bias clear in force, latched. 4; 14 R311; reset 0 -/
  clear : Nat := 0
  /-- BIAS.STATUS.VNEG_FAULT by sheet. 4; 14 R312; reset 0 -/
  vneg : Nat := 0
  /-- BIAS.PIN.SEEN. 1; 14 R311; reset 0 -/
  pinSeen : Bool := false
  /-- Model time, ns, until which BIASCLR_N stays low; BIAS.PIN.LEVEL. count; 14 R311; reset 0: high (DESIGN CHOICE high, log 7) -/
  pinLow : Nat := 0
  /-- Consecutive readings of HK channel 26 above −9,000 mV, and at or below −9,500 mV. count; 14 R312; reset 0 -/
  negBad : Nat := 0
  /-- Consecutive readings of HK channel 26 at or below −9,500 mV. count; 14 R312; reset 0 -/
  negGood : Nat := 0
  deriving DecidableEq, Repr

/-- An RFFE message (14 R313 to R321). -/
structure Rffe where
  /-- 0 immediate, 1 scheduled, 2 bound, 3 tuner, 4 coupler. -/
  origin : Nat
  /-- Datum time from which it may start. -/
  due : Nat
  /-- It is the trigger of its group. -/
  trigger : Bool
  /-- OP, USID, ADDR, COUNT, MASK and DATA as a message item. -/
  item : Rec
  /-- Number of its group. -/
  group : Nat
  /-- Sheet timer whose transition a bound write belongs to. -/
  tag : Nat
  deriving DecidableEq, Repr

/-- One RFFE master (14 R313). -/
structure RffeMaster where
  crit : List Rffe
  sched : List Rffe
  imm : List Rffe
  busy : Option Rffe
  /-- Model time, ns, at which the message on the bus is over. -/
  doneAt : Nat
  /-- Group whose data writes have begun and whose trigger has not ended. -/
  opened : Option Nat
  /-- Outcome of the last immediate message: parity good, bytes read. -/
  result : Option (Bool × Rec)
  deriving DecidableEq, Repr

/-- RFFE masters and tuners (14_front_end_control). -/
structure RffeSt where
  /-- Masters. record each; 14 R313; reset idle, queues empty -/
  master : Tab RffeMaster := []
  /-- Number of the next group (the model's own). count; 14 R315; reset 0 (DESIGN CHOICE 0, log 35) -/
  group : Nat := 0
  /-- Slot in which RFFE_LATE was last raised. 32; 14 R316; reset none -/
  lateSlot : Option Nat := none
  /-- RFFE.GAMMA of a path. 16 each; 14 R323; reset 0x8000 -/
  gamma : Tab Nat := []
  /-- LAST_NS of a path's last measurement. 32 each; 14 R323; reset 0 -/
  lastNs : Tab Nat := []
  /-- Consecutive measurements above the limit, by path. count; 14 R324; reset 0 -/
  exceed : Tab Nat := []
  /-- Paths whose INTERVAL has passed. 64; 14 R322; reset 0 -/
  want : Nat := 0
  /-- Model time, ns, of a path's last request for a measurement. count each; 14 R322; reset none -/
  asked : Tab Nat := []
  deriving DecidableEq, Repr

/-- Coexistence (14_front_end_control R325). -/
structure CoexSt where
  /-- COEX.STATUS.ROLE in force. 2; 14 R325; reset 0x0 -/
  role : Nat := 0
  /-- Role that takes effect 10 us after its boundary, and that boundary. 2+32; 14 R325; reset none -/
  next : Option (Nat × Nat) := none
  /-- COEX.STATUS.REQ, level of COEX_REQ. 1; 14 R326; reset 0 -/
  req : Bool := false
  /-- COEX.STATUS.GNT, level of COEX_GNT. 1; 14 R326; reset 0 -/
  gnt : Bool := false
  /-- COEX.STATUS.PRI, level of COEX_PRI. 1; 14 R326; reset 0 -/
  pri : Bool := false
  /-- A grant is deferred: datum time from which R327 may raise GNT with a hold, none without. 32; 14 R327; reset none -/
  wait : Option (Option Nat) := none
  /-- t_e of the transition that left no sheet in TX. 32; 14 R326; reset none -/
  left : Option Nat := none
  /-- t_e for which GNT was last sampled. 32; 14 R326; reset none -/
  sampled : Option Nat := none
  /-- Slot in which COEX_MUTE was last raised. 32; 14 R328; reset none -/
  slot : Option Nat := none
  deriving DecidableEq, Repr

/-! ### Boundary scan (20_pins_electrical_package) -/

/-- The sixteen states of the IEEE 1149.1 TAP controller (20 R460). -/
inductive Tap where
  | testLogicReset | runTestIdle
  | selectDr | captureDr | shiftDr | exit1Dr | pauseDr | exit2Dr | updateDr
  | selectIr | captureIr | shiftIr | exit1Ir | pauseIr | exit2Ir | updateIr
  deriving DecidableEq, Repr

/-- The test access port (20_pins_electrical_package). -/
structure TapSt where
  /-- TAP controller state. 4; 20 R460; reset Test-Logic-Reset -/
  st : Tap := .testLogicReset
  /-- Instruction register. 4; 20 R460; reset IDCODE -/
  ir : Nat := 1
  /-- Instruction shift register. 4; 20 R460; reset 0 -/
  irShift : Nat := 0
  /-- Data shift register in use, bit 0 next out. bits; 20 R460; reset empty -/
  shift : List Bool := []
  /-- Boundary register update stage. 171; 20 R461; reset 0 -/
  bsr : List Bool := []
  /-- TDO. 1; 20 R460; reset 0 -/
  tdo : Bool := false
  deriving DecidableEq, Repr

/-- The state of the block. -/
structure State where
  /-- Commands waiting, first in first out. list; model (the block's command queue); reset empty -/
  pending : List Instr := []
  /-- Settings store: the record in force of a setting command, key OPCODE x 65536 + unit; unlisted: the Reset column of the command's table. records; 00 R14; reset empty (every setting at its Reset value) -/
  cfg : Tab Rec := []
  /-- Plain RW registers without a field of their own, by address. 32 each; 00 R11; reset empty (each at its Reset value) -/
  regs : Tab Nat := []
  /-- Event counters of R15, by block, unit and index. 32 each, saturating, SAT when all-ones; 00 R15; reset 0 -/
  cnts : Tab Nat := []
  /-- Byte and frame totals of R15. 64 each, wrapping; 00 R15; reset 0 -/
  tots : Tab Nat := []
  /-- The model's own counter of free values drawn so far (not the spec's; assumption log 3). count; model; reset 0 (DESIGN CHOICE 0, log 3) -/
  free : Nat := 0
  /-- DATUM-rate cycles the model has let pass (the model's clock for durations, assumption log 2). count; 01 R25; reset 0 (DESIGN CHOICE 0, log 2) -/
  tick : Nat := 0
  /-- Byte memories -/
  mem : MemSt := {}
  /-- Memory integrity -/
  ecc : EccSt := {}
  /-- Host port and fault latch -/
  host : HostSt := {}
  /-- Mailbox -/
  mbx : MbxSt := {}
  /-- Commit log -/
  log : LogSt := {}
  /-- Event log -/
  evt : EvtSt := {}
  /-- Transactions -/
  txn : TxnSt := {}
  /-- Clocks and alignment -/
  clk : ClkSt := {}
  /-- Datum time -/
  datum : DatumSt := {}
  /-- Power domains -/
  pwr : PwrSt := {}
  /-- Kiln -/
  kiln : KilnSt := {}
  /-- Boot -/
  boot : BootSt := {}
  /-- Fuses -/
  fuse : FuseSt := {}
  /-- Captures -/
  cap : CapSt := {}
  /-- Section table -/
  sect : SectSt := {}
  /-- Fronthaul -/
  fh : FhSt := {}
  /-- Graticule -/
  grat : GratSt := {}
  /-- Mash engine -/
  mash : MashSt := {}
  /-- Transmit datapaths -/
  tx : TxSt := {}
  /-- Predistortion and observation receivers -/
  dpd : DpdSt := {}
  /-- Receive datapaths -/
  rx : RxSt := {}
  /-- Converters -/
  conv : ConvSt := {}
  /-- Housekeeping converter -/
  hk : HkSt := {}
  /-- Radio states -/
  radio : RadioSt := {}
  /-- Array survey -/
  survey : SurveySt := {}
  /-- Bias DACs -/
  bias : BiasSt := {}
  /-- RFFE masters and tuners -/
  rffe : RffeSt := {}
  /-- Coexistence -/
  coex : CoexSt := {}
  /-- Boundary scan -/
  tap : TapSt := {}
  deriving DecidableEq, Repr

/-- The machine before power is applied, every field at the value the specification states for reset, or at the value
the assumption log names: the always-on domain unpowered, every other domain OFF, the queue empty. -/
def State.reset : State := {}

/-- Reasons a command stops the model with a fault. No command of this block does: raising FAULT_N, an error flag or a
status code is an effect on the state (19 R425, R428; 18 R409). -/
inductive Fault where
  /-- Raised by no command: kept so that the type is inhabited. Safe. -/
  | none
  deriving DecidableEq, Repr

/-- Reasons a command is refused by the model. -/
inductive Refusal where
  /-- Raised by the arms of exec whose command has no meaning yet. Safe: nothing is claimed of such a command. -/
  | notModelled (mnemonic : String)
  deriving DecidableEq, Repr

end Sys2Proof.Machine
end

