-- ==== Sys2Proof/Machine/Prog.lean ====
section
/-! DEFINITION. Meanings as programs of elementary writes. `Upd` is one write of the state, `Prog` a sequence of
writes each of which may read the state it acts on, `runP` what a program does. Every command's meaning is the run of
such a program, so what every elementary write keeps, every command keeps. -/

namespace Sys2Proof.Machine

open Sys2Proof

/-- The memory of that name. -/
def MemSt.get (m : MemSt) : MemId → Mem
  | .mailbox => m.mbx
  | .weight => m.weight
  | .tun => m.tun
  | .coef => m.coef
  | .queue => m.queue

/-- The memories with one of them replaced. -/
def MemSt.put (m : MemSt) (x : Mem) : MemId → MemSt
  | .mailbox => { m with mbx := x }
  | .weight => { m with weight := x }
  | .tun => { m with tun := x }
  | .coef => { m with coef := x }
  | .queue => { m with queue := x }

/-- One byte written. -/
def MemSt.poke (m : MemSt) (i : MemId) (a : Nat) (b : Byte) : MemSt := m.put (memSet i (m.get i) a b) i

/-- The addresses `lo ≤ a < hi` back to what initialization fills them with (15 R336). -/
def MemSt.fill (m : MemSt) (i : MemId) (lo hi : Nat) : MemSt :=
  m.put ((m.get i).filter fun p => !(decide (lo ≤ p.1) && decide (p.1 < hi))) i

/-- `n` bytes from `src` on copied to `dst` on. -/
def MemSt.copy (m : MemSt) (i : MemId) (src dst n : Nat) : MemSt :=
  let cells := (m.get i).filter fun p => decide (src ≤ p.1) && decide (p.1 < src + n)
  cells.foldl (fun x p => x.poke i (p.1 - src + dst) p.2) (m.fill i dst (dst + n))

/-- Every byte memory is in canonical form. -/
def Memory.wf (m : MemSt) : Bool :=
  memWf .mailbox m.mbx && memWf .weight m.weight && memWf .tun m.tun && memWf .coef m.coef && memWf .queue m.queue

/-- A counter of 00 R15 after `n` more events: 32 bits, saturating at all-ones. -/
def satAdd (v n : Nat) : Nat := min 0xFFFFFFFF (v + n)

/-- The commit log with one more record, the oldest overwritten when 4,096 are held (01 R38). -/
def LogSt.append (l : LogSt) (r : LogRec) : LogSt :=
  let seq := l.next
  { l with
    recs := (if l.recs.length < 4096 then l.recs else l.recs.drop 1) ++ [{ r with seq := seq }]
    next := (seq + 1) % 2 ^ 32 }

/-- The event log with one more record, the oldest overwritten when 2,048 are held (19 R430). -/
def EvtSt.append (l : EvtSt) (r : EvtRec) : EvtSt :=
  let seq := l.next
  { l with
    recs := (if l.recs.length < 2048 then l.recs else l.recs.drop 1) ++ [{ r with seq := seq }]
    next := (seq + 1) % 2 ^ 32 }

/-- Fuses with an owner key slot programmed; a programmed slot keeps its hash (17 R384). -/
def FuseSt.burn (f : FuseSt) (i : Nat) (h : Rec) : FuseSt :=
  match tfind f.ownerKey i with
  | some _ => f
  | none => { f with ownerKey := tset f.ownerKey i h }

/-- One elementary write of the state. A command's meaning is made of these, and none of them reaches the queue. -/
inductive Upd where
  | ecc (x : EccSt)
  | host (x : HostSt)
  | mbx (x : MbxSt)
  | txn (x : TxnSt)
  | clk (x : ClkSt)
  | datum (x : DatumSt)
  | pwr (x : PwrSt)
  | kiln (x : KilnSt)
  | boot (x : BootSt)
  | cap (x : CapSt)
  | sect (x : SectSt)
  | fh (x : FhSt)
  | grat (x : GratSt)
  | mash (x : MashSt)
  | tx (x : TxSt)
  | dpd (x : DpdSt)
  | rx (x : RxSt)
  | conv (x : ConvSt)
  | hk (x : HkSt)
  | radio (x : RadioSt)
  | survey (x : SurveySt)
  | bias (x : BiasSt)
  | rffe (x : RffeSt)
  | coex (x : CoexSt)
  | tap (x : TapSt)
  | poke (i : MemId) (a : Nat) (b : Byte)
  | fill (i : MemId) (lo hi : Nat)
  | copy (i : MemId) (src dst n : Nat)
  | setCfg (k : Nat) (r : Rec)
  | clearCfg
  | setReg (a v : Nat)
  | dropRegs (lo hi : Nat)
  | bump (k n : Nat)
  | clearCnt (k : Nat)
  | dropCnts (lo hi : Nat)
  | dropTots (lo hi : Nat)
  | addTot (k n : Nat)
  | clearTot (k : Nat)
  | draw
  | tick
  | logAppend (r : LogRec)
  | logReset
  | logReturn (n : Nat) (h : Bool)
  | capture (l : List (Nat × Nat × Nat))
  | evtAppend (r : EvtRec)
  | evtReset
  | evtAck (n : Nat)
  | burnKey (i : Nat) (h : Rec)
  | revokeKey (i : Nat)
  | advanceFw (n : Nat)
  | advanceProf (n : Nat)

/-- The state after one elementary write. -/
def applyUpd : Upd → State → State
  | .ecc x, s => { s with ecc := x }
  | .host x, s => { s with host := x }
  | .mbx x, s => { s with mbx := x }
  | .txn x, s => { s with txn := x }
  | .clk x, s => { s with clk := x }
  | .datum x, s => { s with datum := x }
  | .pwr x, s => { s with pwr := x }
  | .kiln x, s => { s with kiln := x }
  | .boot x, s => { s with boot := x }
  | .cap x, s => { s with cap := x }
  | .sect x, s => { s with sect := x }
  | .fh x, s => { s with fh := x }
  | .grat x, s => { s with grat := x }
  | .mash x, s => { s with mash := x }
  | .tx x, s => { s with tx := x }
  | .dpd x, s => { s with dpd := x }
  | .rx x, s => { s with rx := x }
  | .conv x, s => { s with conv := x }
  | .hk x, s => { s with hk := x }
  | .radio x, s => { s with radio := x }
  | .survey x, s => { s with survey := x }
  | .bias x, s => { s with bias := x }
  | .rffe x, s => { s with rffe := x }
  | .coex x, s => { s with coex := x }
  | .tap x, s => { s with tap := x }
  | .poke i a b, s => { s with mem := s.mem.poke i a b }
  | .fill i lo hi, s => { s with mem := s.mem.fill i lo hi }
  | .copy i src dst n, s => { s with mem := s.mem.copy i src dst n }
  | .setCfg k r, s => { s with cfg := tset s.cfg k r }
  | .clearCfg, s => { s with cfg := [] }
  | .setReg a v, s => { s with regs := tset s.regs a v }
  | .dropRegs lo hi, s => { s with regs := s.regs.filter fun p => !(decide (lo ≤ p.1) && decide (p.1 < hi)) }
  | .bump k n, s => { s with cnts := tset s.cnts k (satAdd (tget 0 s.cnts k) n) }
  | .clearCnt k, s => { s with cnts := tdel s.cnts k }
  | .dropCnts lo hi, s => { s with cnts := s.cnts.filter fun p => !(decide (lo ≤ p.1) && decide (p.1 < hi)) }
  | .dropTots lo hi, s => { s with tots := s.tots.filter fun p => !(decide (lo ≤ p.1) && decide (p.1 < hi)) }
  | .addTot k n, s => { s with tots := tset s.tots k ((tget 0 s.tots k + n) % 2 ^ 64) }
  | .clearTot k, s => { s with tots := tdel s.tots k }
  | .draw, s => { s with free := s.free + 1 }
  | .tick, s => { s with tick := s.tick + 1 }
  | .logAppend r, s => { s with log := s.log.append r }
  | .logReset, s => { s with log := { s.log with recs := [], next := 0, returned := 0, high := false } }
  | .logReturn n h, s => { s with log := { s.log with returned := n, high := h } }
  | .capture l, s => { s with log := { s.log with capture := l } }
  | .evtAppend r, s => { s with evt := s.evt.append r }
  | .evtReset, s => { s with evt := {} }
  | .evtAck n, s => { s with evt := { s.evt with acked := n } }
  | .burnKey i h, s => { s with fuse := s.fuse.burn i h }
  | .revokeKey i, s => { s with fuse := { s.fuse with ownerRev := s.fuse.ownerRev ||| 2 ^ i } }
  | .advanceFw n, s => { s with fuse := { s.fuse with fwCounter := max s.fuse.fwCounter n } }
  | .advanceProf n, s => { s with fuse := { s.fuse with profCounter := max s.fuse.profCounter n } }

/-- A program of elementary writes. -/
inductive Prog where
  | skip
  | upd (u : Upd)
  | seq (p q : Prog)
  | ask (f : State → Prog)

/-- What a program does. -/
def runP : Prog → State → State
  | .skip, s => s
  | .upd u, s => applyUpd u s
  | .seq p q, s => runP q (runP p s)
  | .ask f, s => runP (f s) s

/-- Programs one after another. -/
def seqs : List Prog → Prog
  | [] => .skip
  | p :: ps => .seq p (seqs ps)

/-- One program per element, in order. -/
def each {α : Type} (l : List α) (f : α → Prog) : Prog := seqs (l.map f)

/-- A program run only where the condition holds. -/
def whenP (b : Bool) (p : Prog) : Prog := if b then p else .skip

/-- The outcome of a command whose meaning is a program. -/
def done (p : Prog) (s : State) : Host.Outcome State Fault Refusal := .next (runP p s)

/-- Change the group `ecc`. -/
def modEcc (f : EccSt → EccSt) : Prog := .ask fun s => .upd (.ecc (f s.ecc))

/-- Change the group `host`. -/
def modHost (f : HostSt → HostSt) : Prog := .ask fun s => .upd (.host (f s.host))

/-- Change the group `mbx`. -/
def modMbx (f : MbxSt → MbxSt) : Prog := .ask fun s => .upd (.mbx (f s.mbx))

/-- Change the group `txn`. -/
def modTxn (f : TxnSt → TxnSt) : Prog := .ask fun s => .upd (.txn (f s.txn))

/-- Change the group `clk`. -/
def modClk (f : ClkSt → ClkSt) : Prog := .ask fun s => .upd (.clk (f s.clk))

/-- Change the group `datum`. -/
def modDatum (f : DatumSt → DatumSt) : Prog := .ask fun s => .upd (.datum (f s.datum))

/-- Change the group `pwr`. -/
def modPwr (f : PwrSt → PwrSt) : Prog := .ask fun s => .upd (.pwr (f s.pwr))

/-- Change the group `kiln`. -/
def modKiln (f : KilnSt → KilnSt) : Prog := .ask fun s => .upd (.kiln (f s.kiln))

/-- Change the group `boot`. -/
def modBoot (f : BootSt → BootSt) : Prog := .ask fun s => .upd (.boot (f s.boot))

/-- Change the group `cap`. -/
def modCap (f : CapSt → CapSt) : Prog := .ask fun s => .upd (.cap (f s.cap))

/-- Change the group `sect`. -/
def modSect (f : SectSt → SectSt) : Prog := .ask fun s => .upd (.sect (f s.sect))

/-- Change the group `fh`. -/
def modFh (f : FhSt → FhSt) : Prog := .ask fun s => .upd (.fh (f s.fh))

/-- Change the group `grat`. -/
def modGrat (f : GratSt → GratSt) : Prog := .ask fun s => .upd (.grat (f s.grat))

/-- Change the group `mash`. -/
def modMash (f : MashSt → MashSt) : Prog := .ask fun s => .upd (.mash (f s.mash))

/-- Change the group `tx`. -/
def modTx (f : TxSt → TxSt) : Prog := .ask fun s => .upd (.tx (f s.tx))

/-- Change the group `dpd`. -/
def modDpd (f : DpdSt → DpdSt) : Prog := .ask fun s => .upd (.dpd (f s.dpd))

/-- Change the group `rx`. -/
def modRx (f : RxSt → RxSt) : Prog := .ask fun s => .upd (.rx (f s.rx))

/-- Change the group `conv`. -/
def modConv (f : ConvSt → ConvSt) : Prog := .ask fun s => .upd (.conv (f s.conv))

/-- Change the group `hk`. -/
def modHk (f : HkSt → HkSt) : Prog := .ask fun s => .upd (.hk (f s.hk))

/-- Change the group `radio`. -/
def modRadio (f : RadioSt → RadioSt) : Prog := .ask fun s => .upd (.radio (f s.radio))

/-- Change the group `survey`. -/
def modSurvey (f : SurveySt → SurveySt) : Prog := .ask fun s => .upd (.survey (f s.survey))

/-- Change the group `bias`. -/
def modBias (f : BiasSt → BiasSt) : Prog := .ask fun s => .upd (.bias (f s.bias))

/-- Change the group `rffe`. -/
def modRffe (f : RffeSt → RffeSt) : Prog := .ask fun s => .upd (.rffe (f s.rffe))

/-- Change the group `coex`. -/
def modCoex (f : CoexSt → CoexSt) : Prog := .ask fun s => .upd (.coex (f s.coex))

/-- Change the group `tap`. -/
def modTap (f : TapSt → TapSt) : Prog := .ask fun s => .upd (.tap (f s.tap))

end Sys2Proof.Machine
end

