-- ==== Sys2Proof/Machine/Flags.lean ====
section
/-! DEFINITION. Counters, sticky bits and summary flags: the saturating counters of 00 R15, write-one-to-clear bits
(00 R11), FAULT_N, IRQ_N and the interrupt leaves (19 R428, R429). -/

namespace Sys2Proof.Machine

open Sys2Proof

/-! ### Counter names: a block, a unit of the block, an index in address order -/

/-- The key of counter `i` of unit `u` of block `b`. -/
def cntKey (b u i : Nat) : Nat := (b * 65536 + u) * 256 + i

def blkMbx : Nat := 1
def blkLog : Nat := 2
def blkEvt : Nat := 3
def blkSect : Nat := 4
def blkDatum : Nat := 5
def blkPwr : Nat := 6
def blkKiln : Nat := 7
def blkMem : Nat := 8
def blkMemAll : Nat := 9
def blkFh : Nat := 10
def blkFlow : Nat := 11
def blkGrat : Nat := 12
def blkMash : Nat := 13
def blkMashPort : Nat := 14
def blkTxd : Nat := 15
def blkDpd : Nat := 16
def blkOrx : Nat := 17
def blkRxd : Nat := 18
def blkConv : Nat := 19
def blkRs : Nat := 20
def blkSurvey : Nat := 21
def blkBias : Nat := 22
def blkRffe : Nat := 23
def blkTuner : Nat := 24
def blkCoex : Nat := 25
def blkD2d : Nat := 26
def blkBoot : Nat := 27
def blkPin : Nat := 28

/-- The value of a counter. -/
def cntVal (s : State) (b u i : Nat) : Nat := tget 0 s.cnts (cntKey b u i)

/-- The sticky SAT bit of a counter: set once it has reached all-ones, cleared with it (00 R15, assumption log 6). -/
def cntSat (s : State) (b u i : Nat) : Bool := cntVal s b u i == 0xFFFFFFFF

/-- The SAT bits of the first `n` counters of a unit, in address order. -/
def satBits (s : State) (b u n : Nat) : Nat := bitsOf ((List.range n).map fun i => cntSat s b u i)

/-- Count one event. -/
def count (b u i : Nat) : Prog := .upd (.bump (cntKey b u i) 1)

/-- Count `n` events. -/
def countN (b u i n : Nat) : Prog := whenP (n != 0) (.upd (.bump (cntKey b u i) n))

/-- Clear the first `n` counters of a unit with their SAT bits. -/
def clearCnts (b u n : Nat) : Prog := each (List.range n) fun i => .upd (.clearCnt (cntKey b u i))

/-- Every counter and total of a block back to 0, as at the reset of its domain. -/
def wipeCnts (b : Nat) : Prog :=
  .seq (.upd (.dropCnts (cntKey b 0 0) (cntKey (b + 1) 0 0))) (.upd (.dropTots (cntKey b 0 0) (cntKey (b + 1) 0 0)))

/-- Counters of one unit of a block back to 0, as at the reset of its domain. -/
def wipeUnit (b u : Nat) : Prog :=
  .seq (.upd (.dropCnts (cntKey b u 0) (cntKey b (u + 1) 0))) (.upd (.dropTots (cntKey b u 0) (cntKey b (u + 1) 0)))

/-- Counters 0 to `n − 1` of a unit, four bytes each, in address order. -/
def cntBytes (s : State) (b u n : Nat) : Rec := ((List.range n).map fun i => leBytes 4 (cntVal s b u i)).flatten

/-- A 64-bit total. -/
def totVal (s : State) (b u i : Nat) : Nat := tget 0 s.tots (cntKey b u i)

/-- Add to a 64-bit total. -/
def total (b u i n : Nat) : Prog := .upd (.addTot (cntKey b u i) n)

/-! ### Faults and interrupts (19 R428, R429) -/

/-- FAULT_EN with its forced bits 0, 3, 4 and 5. -/
def faultEnEff (s : State) : Nat := s.host.faultEn ||| 0x39

/-- FAULT_N is low: a set FAULT_STATUS bit is enabled or forced (19 R428). -/
def faultLow (s : State) : Bool := (s.host.fault &&& faultEnEff s) != 0

end Sys2Proof.Machine
end

