-- ==== Sys2Proof/Machine/Ops.lean ====
section
/-! DEFINITION. The named operations over the state that every block shares: fitted units, power domains, datum time,
settings, memory access, the event log, the commit log, the fault latch, isolation. -/

namespace Sys2Proof.Machine

open Sys2Proof

/-! ### Variants (00 R1, 19 R427) -/

/-- Sheets fitted in the variant. -/
def nSheets (s : State) : Nat := if s.fuse.variant = 1 then 2 else 4

/-- A sheet is fitted. -/
def sheetFit (s : State) (n : Nat) : Bool := decide (n < nSheets s)

/-- A transmit or receive path is fitted (00 R3). -/
def pathFit (s : State) (p : Nat) : Bool := sheetFit s (p / 16)

/-- Number of paths of the variant. -/
def nPaths (s : State) : Nat := 16 * nSheets s

/-- Fitted paths, ascending. -/
def paths (s : State) : List Nat := List.range (nPaths s)

/-- Fitted sheets, ascending. -/
def sheets (s : State) : List Nat := List.range (nSheets s)

/-- Layers per direction of the variant. -/
def nLayers (s : State) : Nat := if s.fuse.variant = 1 then 8 else 16

/-- The Mash engine is fitted. -/
def mashFit (s : State) : Bool := s.fuse.variant != 2

/-- Predistortion cross-coupling is fitted. -/
def xcFit (s : State) : Bool := s.fuse.variant != 2

/-- Highest lane mode code (04 R73). -/
def fhMax (s : State) : Nat := if s.fuse.variant = 0 then 6 else 5

/-- SYS_CAPS (19 R427). -/
def sysCaps (s : State) : Nat :=
  if s.fuse.variant = 1 then 0x011D0F03 else if s.fuse.variant = 2 then 0x0205FF0F else 0x021EFF0F

/-- SYS.ID (19 R427). -/
def sysId (s : State) : Nat :=
  (if s.fuse.variant = 1 then 0x6432 else if s.fuse.variant = 2 then 0x6460 else 0x6464) * 65536 +
    Config.stepping.toNat * 256

/-- The variant's bit of VARIANTS (17 R383). -/
def variantBit (s : State) : Nat := s.fuse.variant

/-! ### Power domains (15 R330, R331) -/

def dAO : Nat := 0
def dCTRL : Nat := 1
def dMBX : Nat := 2
def dFH : Nat := 3
def dDATUM : Nat := 4
def dGRAT : Nat := 5
def dMASH : Nat := 6
def dDPDE : Nat := 7
def dTXD (n : Nat) : Nat := 8 + n
def dRXD (n : Nat) : Nat := 12 + n
def dSHEET (n : Nat) : Nat := 16 + n
def dHK : Nat := 20

/-- State of a domain; AO is ON whenever the always-on supply has started, every other domain OFF until woken. -/
def domSt (s : State) (d : Nat) : DomState :=
  if d = 0 then (if s.pwr.aoUp then .on else .off) else tget .off s.pwr.dom d

/-- A domain is ON. -/
def domOn (s : State) (d : Nat) : Bool := domSt s d == .on

/-- A domain is in transition (15 R332). -/
def domMoving (s : State) (d : Nat) : Bool :=
  match domSt s d with
  | .off | .retention | .on => false
  | _ => true

/-- A domain of an absent unit (15 R330, 00 R4). -/
def domFit (s : State) (d : Nat) : Bool :=
  if d = dMASH then mashFit s
  else if 8 ≤ d ∧ d < 20 then sheetFit s (d % 4)
  else decide (d ≤ 20)

/-- PWR.STATE code of a domain: 0 OFF, 1 RETENTION, 2 ON, 3 in transition. -/
def domCode (s : State) (d : Nat) : Nat :=
  match domSt s d with
  | .off => 0
  | .retention => 1
  | .on => 2
  | _ => 3

/-- Set a domain's state. -/
def setDom (d : Nat) (v : DomState) : Prog := modPwr fun p => { p with dom := tset p.dom d v }

/-- Start a domain's wake (15 R332, R335): its power switch waits its turn. -/
def beginWake (d : Nat) : Prog := .ask fun s =>
  whenP (domSt s d == .off || domSt s d == .retention)
    (modPwr fun p => { p with from_ := tset p.from_ d (domSt s d), to_ := tset p.to_ d 2, dom := tset p.dom d .waiting })

/-! ### The control processor and its firmware -/

/-- Firmware runs: CTRL is ON, the processor is out of reset and the boot ROM has jumped to ENTRY (17 R388). -/
def fwRuns (s : State) : Bool := domOn s dCTRL && !s.boot.held && s.boot.step == 5

/-- The boot ROM runs the safe profile (17 R396). -/
def romSafeRuns (s : State) : Bool := domOn s dCTRL && !s.boot.held && s.boot.step == 6

/-! ### Datum time (05 R95 to R102) -/

/-- DATUM.NOW. -/
def now (s : State) : Nat := s.datum.cnt.toNat

/-- Total ns of extended time of a 32-bit datum value, from a reference triple (05 R98). -/
def extTotal (ref : Nat × Nat × Nat) (v : Nat) : Int :=
  (ref.2.1 : Int) * 1000000000 + ref.2.2 + int32Diff v ref.1

/-- Extended time (S, N) of a 32-bit datum value (05 R98). -/
def extTime (s : State) (v : Nat) : Nat × Nat :=
  let t := (extTotal s.datum.ref v).toNat
  (t / 1000000000 % 2 ^ 48, t % 1000000000)

/-- The 32-bit counter value at an extended time in ns (inverse of 05 R98). -/
def counterAt (s : State) (t : Int) : Nat :=
  add32 s.datum.ref.1 (t - ((s.datum.ref.2.1 : Int) * 1000000000 + s.datum.ref.2.2))

/-- The datum counter has reached a target: `0 ≤ (int32)(now − target)`. -/
def reached (s : State) (t : Nat) : Bool := decide (0 ≤ int32Diff (now s) t)

/-- ns the model has let pass: the model's own clock for durations of clocks that are not state (assumption log 2). -/
def upNs (s : State) : Nat := s.tick * 3125 / 1536

/-! ### Processes with a stated duration

What ends after a stated time ends no sooner: its beginning is kept as a model time under a key (assumption log 2). Keys 0 to
20 are the power domains. -/

def tkSwitch : Nat := 32
def tkRise : Nat := 33
def tkRail : Nat := 34
def tkRetention : Nat := 35
def tkKiln : Nat := 36
def tkBoot : Nat := 37
def tkCommand : Nat := 38
def tkProfile : Nat := 39
def tkRef : Nat := 40
def tkAnnounce : Nat := 41
def tkSync : Nat := 42
def tkHoldover : Nat := 43
def tkDelayReq : Nat := 44
def tkWindow : Nat := 45
def tkHk : Nat := 46
def tkAlign : Nat := 47
def tkFall : Nat := 48
def tkSignal (lane : Nat) : Nat := 64 + lane
def tkLock (lane : Nat) : Nat := 68 + lane
def tkAm (lane : Nat) : Nat := 72 + lane
def tkFec (lane : Nat) : Nat := 76 + lane
def tkTemp (sheet : Nat) : Nat := 80 + sheet
def tkSparge (code : Nat) : Nat := 96 + code
def tkVisit (conv : Nat) : Nat := 1024 + conv
def tkEst (conv pos : Nat) : Nat := 16384 + 32 * conv + pos

/-- A process begins now. -/
def stamp (k : Nat) : Prog := .ask fun s => modClk fun c => { c with stamps := tset c.stamps k (upNs s) }

/-- `ns` have passed since the process began; so of one that the model has not seen begin. -/
def elapsed (s : State) (k ns : Nat) : Bool := (tfind s.clk.stamps k).all fun t => decide (t + ns ≤ upNs s)

/-! ### Settings (00 R14) -/

/-- Key of a setting: the command that sets it and the unit it names. -/
def cfgKey (op unit : Nat) : Nat := op * 65536 + unit

/-- Record in force of a setting; `d` is its Reset column. -/
def setting (s : State) (op unit : Nat) (d : Rec) : Rec := tget d s.cfg (cfgKey op unit)

/-- Put a setting's record into force. -/
def setSetting (op unit : Nat) (r : Rec) : Prog := .upd (.setCfg (cfgKey op unit) r)

/-! ### Memories -/

/-- Bytes of a memory from an address. -/
def peek (s : State) (i : MemId) (a n : Nat) : Rec := memRead i (s.mem.get i) a n

/-- Write bytes to a memory. -/
def pokes (i : MemId) (a : Nat) : Rec → Prog
  | [] => .skip
  | b :: bs => .seq (.upd (.poke i a b)) (pokes i (a + 1) bs)

/-! ### Free values (assumption log 3) -/

/-- The free value the model draws next. -/
def freeNow (s : State) : Nat := (Config.freeValue s.free).toNat

/-- The free value `k` places on. -/
def freeAt (s : State) (k : Nat) : Nat := (Config.freeValue (s.free + k)).toNat

/-- One free value is used up. -/
def drawFree : Prog := .upd .draw

/-! ### The event log (19 R430 to R433) -/

/-- CODE of event `n` of a class (19 R432). -/
def evCode (cls n : Nat) : Nat := cls * 256 + n

/-- Bytes of an event record (19 R431). -/
def evtBytes (r : EvtRec) : Rec :=
  leBytes 4 r.seq ++ leBytes 4 r.timeNs ++ leBytes 6 r.timeS ++ leBytes 1 (r.code / 256) ++ leBytes 1 r.flags ++
    leBytes 2 r.code ++ leBytes 2 r.unit ++ leBytes 4 r.d0 ++ leBytes 4 r.d1 ++ leBytes 4 r.d2

/-- Record of MBX_INBAND_SET in force (18 R415): FLAGS, 3 reserved bytes, EVENT_MASK. -/
def inbandRec (s : State) : Rec := setting s 0x0110 0 [1, 0, 0, 0, 0, 0, 0, 0]

/-- The event is sent in-band: ENABLE, link UP, and the class selected or a kiln reduction or restoration (18 R415). -/
def sentInband (s : State) (code : Nat) : Bool :=
  s.mbx.inband && s.fh.link == 3 &&
    ((fld (inbandRec s) 4 4).testBit (code / 256) || code == evCode 3 4 || code == evCode 3 5)

/-- A TYPE 0x03 management frame payload (18 R413). -/
def eventFrame (r : EvtRec) : Rec := [1, 3, 0, 0, 0, 0, 0, 0, 0, 0, 0, 0, 0, 0, 0, 0] ++ evtBytes r

/-- An event enters the log with the next SEQ, and goes in-band where it is selected (19 R430, 18 R415). Before firmware
starts, and in ROM safe mode, nothing is logged. `extra` adds the FAULT (2) and CARRIED (4) flags. -/
def raiseFl (extra code unit : Nat) (data : List Int) : Prog := .ask fun s =>
  whenP (fwRuns s) (
    let w := fun i => ofSigned 32 (data.getD i 0)
    let r : EvtRec :=
      { seq := s.evt.next, timeS := (extTime s (now s)).1, timeNs := (extTime s (now s)).2
        flags := bit s.datum.timeValid + extra, code := code, unit := unit, d0 := w 0, d1 := w 1, d2 := w 2 }
    seqs
      [ whenP (s.evt.recs.length == 2048) (.seq (count blkEvt 0 0)
          (whenP (s.evt.acked == (s.evt.recs.headD r).seq) (.upd (.evtAck ((s.evt.acked + 1) % 2 ^ 32))))),
        .upd (.evtAppend r),
        whenP (sentInband s code) (modMbx fun m => { m with queue63 := m.queue63 ++ [(now s, eventFrame r)] }) ])

/-- An event without a FAULT_STATUS bit. -/
def raise (code unit : Nat) (data : List Int) : Prog := raiseFl 0 code unit data

/-- The UNIT of an event that names none. -/
def noUnit : Nat := 0xFFFF

/-! ### The fault latch (19 R428) -/

/-- A fault source sets its bit; a bit that drives FAULT_N wakes CTRL and MBX from RETENTION (15 R340). -/
def setFault (b : Nat) : Prog :=
  .seq (modHost fun h => { h with fault := h.fault ||| 2 ^ b })
    (.ask fun s => whenP ((faultEnEff s).testBit b && domSt s dCTRL == .retention)
      (.seq (beginWake dCTRL) (beginWake dMBX)))

/-! ### The commit log (01 R38 to R40) -/

/-- Bytes of a commit-log record (01 R38). -/
def logBytes (r : LogRec) : Rec :=
  leBytes 4 r.seq ++ leBytes 4 r.timeNs ++ leBytes 6 r.timeS ++ leBytes 1 r.kind ++ leBytes 1 r.boundary ++
    leBytes 2 r.unit ++ leBytes 1 r.origin ++ leBytes 1 (bit r.valid) ++ leBytes 4 r.txnId ++ leBytes 4 r.crc ++
    leBytes 4 r.detail

/-- Records not yet returned to the host (01 R38). -/
def unreturned (l : LogSt) : Nat := (l.next + 2 ^ 32 - l.returned) % 2 ^ 32

/-- COMMIT_LOG_HIGH is raised when the unreturned records reach 3,072, once until they fall below it (01 R38). -/
def logHigh : Prog := .ask fun s =>
  if unreturned s.log < 3072 then .upd (.logReturn s.log.returned false)
  else whenP (!s.log.high) (.seq (.upd (.logReturn s.log.returned true)) (raise (evCode 0 6) noUnit []))

/-- A commit enters the log at datum time `t` (01 R38, R39); firmware keeps the log. -/
def logCommit (t kind boundary unit origin txnId : Nat) (content : Rec) (detail : Nat) : Prog := .ask fun s =>
  whenP (fwRuns s) (
    let r : LogRec :=
      { seq := s.log.next, timeS := (extTime s t).1, timeNs := (extTime s t).2, valid := s.datum.timeValid
        kind := kind, boundary := boundary, unit := unit, origin := origin, txnId := txnId, crc := crc32 content
        detail := detail % 2 ^ 32 }
    seqs
      [ whenP (s.log.recs.length == 4096) (.seq (count blkLog 0 0)
          (whenP (s.log.returned == (s.log.recs.headD r).seq)
            (.upd (.logReturn ((s.log.returned + 1) % 2 ^ 32) s.log.high)))),
        .upd (.logAppend r),
        logHigh ])

/-! ### Units in service (00 R6, 18 R416) -/

def uFH : Nat := 0
def uDATUM : Nat := 1
def uGRAT : Nat := 2
def uMASH : Nat := 3
def uDPDE : Nat := 4
def uSURVEY : Nat := 5
def uHK : Nat := 6
def uSHEET (n : Nat) : Nat := 8 + n
def uORX (n : Nat) : Nat := 12 + n
def uLANE (n : Nat) : Nat := 20 + n
def uRFFE (n : Nat) : Nat := 24 + n

/-- The unit is fitted (18 R416). -/
def unitFit (s : State) (u : Nat) : Bool :=
  if u = uMASH then mashFit s
  else if u = 7 then false
  else if 8 ≤ u ∧ u < 12 then sheetFit s (u - 8)
  else if 12 ≤ u ∧ u < 20 then sheetFit s ((u - 12) / 2)
  else if 20 ≤ u ∧ u < 24 then true
  else if 24 ≤ u ∧ u < 32 then sheetFit s ((u - 24) / 2)
  else true

/-- REASON of a unit (18 R416): its own, its sheet's being out of service, or a fronthaul lane's failure (01 R42 class 0x06). -/
def unitReason (s : State) (u : Nat) : Nat :=
  let own := tget 0 s.clk.reason u
  if own != 0 then own
  else if 20 ≤ u ∧ u < 24 then (if s.fh.laneFailed.testBit (u - 20) then 2 else 0)
  else if 12 ≤ u ∧ u < 20 then (if tget 0 s.clk.reason (8 + (u - 12) / 2) != 0 then 5 else 0)
  else if 24 ≤ u ∧ u < 32 then (if tget 0 s.clk.reason (8 + (u - 24) / 2) != 0 then 5 else 0)
  else if (u = uMASH ∨ u = uSURVEY) ∧ s.clk.lost.testBit 3 = true then 4
  else 0

/-- A fitted unit is in service. -/
def inService (s : State) (u : Nat) : Bool := unitFit s u && unitReason s u == 0

/-- Take a unit out of service with a REASON, or bring it back with 0. -/
def setReason (u r : Nat) : Prog := modClk fun k => { k with reason := tset k.reason u r }

/-- In-service sheets. -/
def liveSheets (s : State) : List Nat := (sheets s).filter fun n => inService s (uSHEET n)

/-! ### Sheets' radio states (12 R266) -/

/-- A sheet that has not left its reset state. -/
def sheet0 : Sheet :=
  { state := .sleep, trans := none, deferred := [], changing := false, txReady := false, rxReady := false
    outOfService := false, patternOn := false, pat := none, qsFail := false, rxCal := false, txCal := false
    rxLock := false, txLock := false, timers := [], lastTe := 0, hopTe := 0, qsAttempts := 0, calTemp := -32768, calStart := 0
    tDone := 0, calTry := 0, calDue := none, done := false, retryAt := 0, unlocked := none, losses := [], returning := false
    strobes := 0, band := (0, 0) }

/-- A sheet's radio record. -/
def sh (s : State) (n : Nat) : Sheet := tget sheet0 s.radio.sheet n

/-- Change a sheet's radio record. -/
def modSheet (n : Nat) (f : Sheet → Sheet) : Prog :=
  modRadio fun r => { r with sheet := tmod sheet0 r.sheet n f }

/-- Every fitted sheet is in SLEEP. -/
def allSleep (s : State) : Bool := (sheets s).all fun n => (sh s n).state == .sleep

/-- A sheet is in RX or TX. -/
def inRxTx (s : State) (n : Nat) : Bool := (sh s n).state == .rx || (sh s n).state == .tx

/-- Some fitted sheet is in RX or TX. -/
def anyRxTx (s : State) : Bool := (sheets s).any fun n => inRxTx s n

/-! ### Predistortion paths and observation receivers (09 R197, R199) -/

/-- An observation receiver that is free and in service. -/
def orx0 : Orx :=
  { owner := 0, source := 0, wide := false, path := none, leaseStart := 0, capture := 0, service := 0, index := 0
    reserved := 0, mismatch := false, touched := false, gap := 0, map := [], recent := [] }

/-- An observation receiver. -/
def orxOf (s : State) (k : Nat) : Orx := tget orx0 s.dpd.orx k

/-- Change an observation receiver. -/
def modOrx (k : Nat) (f : Orx → Orx) : Prog := modDpd fun d => { d with orx := tmod orx0 d.orx k f }

/-- Adaptation state of a path in MODE 0 that has never adapted. -/
def dpd0 : DpdPath :=
  { bank := 0, pending := false, setNo := 0, commitNs := 0, state := 0, gT := none, eCur := -32768, ePred := -32768
    captureNs := 0, orx := 0, flags := 0, lastReject := 0, alignStreak := 0, bypass := false, solving := false
    staged := none, starved := false, since := 0, beta := [], betaNext := [] }

/-- Adaptation state of a path. -/
def dpdOf (s : State) (p : Nat) : DpdPath := tget dpd0 s.dpd.path p

/-- Change the adaptation state of a path. -/
def modPath (p : Nat) (f : DpdPath → DpdPath) : Prog := modDpd fun d => { d with path := tmod dpd0 d.path p f }

/-! ### Isolation of failed parts (01 R42) -/

/-- Queue an isolation (KIND 2) or restoration (KIND 3) of a part for the next slot boundary. -/
def queueIso (kind cls part : Nat) : Prog :=
  modClk fun k => { k with isoPend := k.isoPend ++ [(kind, cls, part)] }

/-- Mask of the sixteen elements of a sheet. -/
def sheetMask (n : Nat) : Nat := 0xFFFF * 2 ^ (16 * n)

end Sys2Proof.Machine
end

