-- ==== Sys2Proof/Machine/Operands.lean ====
section
/-! DEFINITION. The operands of mailbox commands: the fields of a request record with their ranges (00 R5, R14;
02 R50), and the definition of a command as the tables of its chapter give it (18 R408, R411, R412). -/

namespace Sys2Proof.Machine

open Sys2Proof

/-! ### Status codes (18 R409) -/

def stOK : Nat := 0x00
def stBUSY : Nat := 0x01
def stBAD_OPCODE : Nat := 0x02
def stBAD_PARAM : Nat := 0x03
def stABSENT : Nat := 0x04
def stSTATE : Nat := 0x05
def stTXN_CONFLICT : Nat := 0x06
def stLATE : Nat := 0x07
def stDENIED : Nat := 0x08
def stHW_FAULT : Nat := 0x09
def stECC_UNCORR : Nat := 0x0A
def stBUDGET : Nat := 0x0C
def stVERSION : Nat := 0x0D
def stUNAVAILABLE : Nat := 0x0E
def stDRAIN_TIMEOUT : Nat := 0x0F

/-! ### Fields of a request record -/

/-- Numbered units a field can name (00 R3). -/
inductive UKind where
  | path | sheet | orx | layer | vdac | idac | dac | master | converter | flow | carrier
  deriving DecidableEq, Repr

/-- Units of a kind on the IK6464 (00 R1, R5). -/
def ukCount : UKind → Nat
  | .path => 64
  | .sheet => 4
  | .orx => 8
  | .layer => 16
  | .vdac => 128
  | .idac => 16
  | .dac => 144
  | .master => 8
  | .converter => 384
  | .flow => 256
  | .carrier => 8

/-- Unit `n` of a kind is fitted in the variant. -/
def ukFit (s : State) (k : UKind) (n : Nat) : Bool :=
  match k with
  | .path => pathFit s n
  | .sheet => sheetFit s n
  | .orx => sheetFit s (n / 2)
  | .layer => decide (n < nLayers s)
  | .vdac => sheetFit s (n / 32)
  | .idac => sheetFit s (n / 4)
  | .dac => if n < 128 then sheetFit s (n / 32) else sheetFit s ((n - 128) / 4)
  | .master => sheetFit s (n / 2)
  | .converter =>
    if n < 128 then pathFit s (n / 2) else if n < 144 then sheetFit s ((n - 128) / 4)
    else if n = 144 then true else pathFit s ((n - 256) / 2)
  | .flow | .carrier => true

/-- What a field accepts. -/
inductive FK where
  /-- Any value. -/
  | any
  /-- Reserved: zero. -/
  | zero
  /-- Unsigned from `lo` to `hi`. -/
  | uns (lo hi : Nat)
  /-- Signed from `lo` to `hi`. -/
  | sgn (lo hi : Int)
  /-- Only the bits of `m` may be set. -/
  | bits (m : Nat)
  /-- A number of a unit. -/
  | unit (k : UKind)
  /-- A mask of units. -/
  | units (k : UKind)
  /-- A CB16 word. -/
  | cb (u : CbUse)
  /-- A range rule that reads other fields of the record, already judged. -/
  | cond (ok : Bool)
  /-- A unit that a field names is fitted, already judged (ABSENT otherwise). -/
  | fit (ok : Bool)
  deriving DecidableEq, Repr

/-- A field of a request record. -/
structure Fld where
  off : Nat
  w : Nat
  k : FK
  deriving DecidableEq, Repr

/-- The field fails for BAD_PARAM (00 R5, R14; 02 R50). -/
def badFld (r : Rec) (f : Fld) : Bool :=
  let v := fld r f.off f.w
  match f.k with
  | .any => false
  | .zero => v != 0
  | .uns lo hi => decide (v < lo) || decide (hi < v)
  | .sgn lo hi => decide (sfld r f.off f.w < lo) || decide (hi < sfld r f.off f.w)
  | .bits m => andNot v m != 0
  | .unit k => decide (ukCount k ≤ v)
  | .units k => decide (2 ^ ukCount k ≤ v)
  | .cb u => !cbOk u v
  | .cond ok => !ok
  | .fit _ => false

/-- The field fails for ABSENT (00 R5). -/
def absentFld (s : State) (r : Rec) (f : Fld) : Bool :=
  match f.k with
  | .unit k => !ukFit s k (fld r f.off f.w)
  | .units k => (setBits (ukCount k) (fld r f.off f.w)).any fun n => !ukFit s k n
  | .fit ok => !ok
  | _ => false

/-- The lowest offset of a list of fields. -/
def lowOff : List Fld → Nat
  | [] => 0xFFFF
  | f :: fs => min f.off (lowOff fs)

/-- Check 6 of 18 R408 over the whole record: status and DETAIL of the failure, BAD_PARAM before ABSENT. -/
def checkFields (s : State) (r : Rec) (fs : List Fld) : Option (Nat × Nat) :=
  let bad := fs.filter (badFld r)
  if bad != [] then some (stBAD_PARAM, lowOff bad)
  else
    let ab := fs.filter (absentFld s r)
    if ab != [] then some (stABSENT, lowOff ab) else none

/-- A reserved field of `n` bytes; DETAIL names the offset of the field (18 R401). -/
def rsv (off n : Nat) : List Fld := [⟨off, n, .zero⟩]

/-! ### Commands -/

/-- Kinds of 18 R411. -/
inductive Kind where
  | r | n | t | s
  deriving DecidableEq, Repr

/-- Definition of a mailbox command: its row of 18 R422, the layout of its record and its own rules. -/
structure CmdDef where
  op : Nat
  kind : Kind
  /-- Marked P in the index. -/
  parked : Bool := false
  /-- Only the host may use it, whatever the ownership (18 R398). -/
  hostOnly : Bool := false
  /-- Length of the request record, which a COUNT in it may imply (18 R402). -/
  len : Rec → Nat
  /-- Fields of the record. -/
  fields : State → Rec → List Fld := fun _ _ => []
  /-- Power domains that must be ON (18 R412). -/
  doms : Rec → List Nat := fun _ => []
  /-- Units the command names, by the numbers of 18 R416. -/
  units : Rec → List Nat := fun _ => []
  /-- Settings the command writes: the units under its own opcode (03 R67). -/
  keys : Rec → List Nat := fun _ => []
  /-- Opcode under which the settings are kept, its own unless named. -/
  store : Nat := 0
  /-- Rules of the command's own definition, a status (18 R408 check 10). -/
  own : Nat → Rec → State → Nat := fun _ _ _ => stOK
  /-- Legal in the current radio and power state (03 R68 check 4). -/
  legal : Rec → State → Nat := fun _ _ => stOK
  /-- Agrees with the configuration that results (03 R68 check 5), judged on the state with every item stored. -/
  agree : Rec → State → Nat := fun _ _ => stOK
  /-- Status and response record, formed from the state in which the command runs; the origin is 1 host, 2 baseband. -/
  answer : Nat → Rec → State → Nat × Rec := fun _ _ _ => (stOK, [])
  /-- What the command does when it completes (kinds N and R) or starts (marked P). -/
  effect : Nat → Rec → Prog := fun _ _ => .skip
  /-- What an item does at its boundary, `b` its datum time (kinds T and S), beyond storing its record. -/
  apply : Nat → Rec → Prog := fun _ _ => .skip
  /-- What the item does when its shadow bank is loaded for boundary `b` (14 R321). -/
  load : Nat → Rec → Prog := fun _ _ => .skip
  /-- The item's record replaces its settings when it applies. -/
  stores : Bool := true
  /-- The parked command can complete now (marked P). -/
  ready : Rec → State → Bool := fun _ _ => true
  /-- Completion in the background: success of the hardware and the bytes it returns (marked P). -/
  finish : Nat → Rec → Bool → Rec → State → Nat × Rec × Prog := fun _ _ _ _ _ => (stOK, [], .skip)
  /-- The parked command acts on a unit that the other command (opcode, record) names (18 R406). -/
  clashes : Rec → Nat → Rec → Bool := fun _ _ _ => false

/-- Key opcode of a command's settings. -/
def CmdDef.keyOp (d : CmdDef) : Nat := if d.store = 0 then d.op else d.store

/-- A record of fixed length. -/
def fixed (n : Nat) : Rec → Nat := fun _ => n

end Sys2Proof.Machine
end

