-- ==== Sys2Proof/Machine/Regs.lean ====
section
/-! DEFINITION. The writable registers: which fields of which address a write reaches, and what it leaves there
(00 R11, R50 of chapter 02, and the register tables of the chapters). Direct writes, staged writes of a transaction
and save-list restores all pass through `regPoke`. -/

namespace Sys2Proof.Machine

open Sys2Proof

/-! ### Reset columns the registers share with commands -/

/-- Reset of TX_PATH_SET (08_transmit_path). -/
def txPathReset (p : Nat) : Rec :=
  leBytes 1 p ++ [0] ++ leBytes 2 0 ++ leBytes 2 0 ++ leBytes 2 0 ++ leBytes 2 16384 ++ leBytes 2 0 ++ leBytes 2 0 ++
    leBytes 2 16384 ++ leBytes 2 0 ++ leBytes 2 0 ++ zeros 4

/-- TX_PATH_SET record in force of a path. -/
def txPathRec (s : State) (p : Nat) : Rec := setting s 0x0703 p (txPathReset p)

/-- Reset of TX_SHEET_SET. -/
def txSheetReset (n : Nat) : Rec := leBytes 1 n ++ zeros 7

/-- Reset of DPD_PATH_SET (09_predistortion_observation). -/
def dpdPathReset (p : Nat) : Rec := leBytes 1 p ++ [0, 0, 1, 5, 0x10, 40, 0, 0xFF, 0xFF, 0xFF, 0xFF] ++ zeros 4

/-- Reset of RX_PATH_SET (10_receive_path). -/
def rxPathReset (p : Nat) : Rec := leBytes 1 p ++ zeros 4 ++ [16] ++ zeros 2

/-- Reset of TDD_STROBE_SET (12_lo_radio_states). -/
def strobeReset (n j : Nat) : Rec := leBytes 1 n ++ leBytes 1 j ++ zeros 6

/-- TX_SHEET_SET record in force of a sheet. -/
def txSheetRec (s : State) (n : Nat) : Rec := setting s 0x0707 n (txSheetReset n)

/-! ### Correction registers of the survey (13_array_survey) -/

/-- Corrections of an element before any survey (13 R293). -/
def elem0 : Elem := { txCorr := 0, rxCorr := 0, rho := 0, txDelay := 0, rxDelay := 0, txDrift := 0, rxDrift := 0 }

/-- Corrections in force of an element. -/
def elemOf (s : State) (e : Nat) : Elem := tget elem0 s.survey.elem e

/-- A delay as a direct write leaves it: 13 bits, clamped to ±4,094. -/
def delayWrite (v : Nat) : Int := clampI (-4094) 4094 (toSigned 13 v)

/-- A write of SURVEY.CORR of an element: a null leaves its field. -/
def corrPut (e : Elem) (v : Nat) : Elem :=
  { e with txCorr := cbWrite .both e.txCorr (v % 65536), rxCorr := cbWrite .both e.rxCorr (v / 65536 % 65536) }

/-- A write of SURVEY.DELAY of an element. -/
def delayPut (e : Elem) (v : Nat) : Elem :=
  { e with txDelay := delayWrite v, rxDelay := delayWrite (v / 65536) }

/-! ### Addresses and domains (19 R424, 15 R330) -/

/-- Power domain of a register address; blocks CTRL, MBX, FH, DATUM and so on by their ranges. -/
def addrDom (a : Nat) : Nat :=
  let b := a / 65536
  let page := a % 65536 / 256
  if b = 0x4000 ∨ b = 0x4002 ∨ b = 0x4004 ∨ b = 0x4090 ∨ b = 0x40A0 then dCTRL
  else if b = 0x4001 then (if a % 65536 < 0x100 then dAO else dCTRL)
  else if b = 0x4003 then dMBX
  else if b = 0x4010 then dFH
  else if b = 0x4011 then dDATUM
  else if b = 0x4020 then dGRAT
  else if b = 0x4021 then dMASH
  else if b = 0x4030 then
    (if a % 65536 < 0x800 then dTXD (page % 4) else if a % 65536 < 0x1000 then dCTRL
      else dTXD ((a % 65536 - 0x1000) / 32 / 16 % 4))
  else if b = 0x4040 then
    (if a % 65536 < 0x800 then dRXD (page % 4) else if a % 65536 < 0x1000 then dCTRL
      else dRXD ((a % 65536 % 0x1000) / 32 / 16 % 4))
  else if b = 0x4050 then
    (if a % 65536 < 0x1000 then dTXD (page % 4) else dTXD ((a % 65536 - 0x1000) / 16 / 16 % 4))
  else if 0x4060 ≤ b ∧ b < 0x4064 then dSHEET (b - 0x4060)
  else if b = 0x4070 then dSHEET (a % 65536 / 0x10 / 2 % 4)
  else if b = 0x4080 then dHK
  else if b = 0x4081 then
    (if a % 65536 < 0x1000 then dSHEET (page % 4)
      else if a % 65536 < 0x1200 then dSHEET ((a % 65536 - 0x1000) / 4 / 32 % 4)
      else if a % 65536 < 0x1240 then dSHEET ((a % 65536 - 0x1200) / 4 / 4 % 4) else dCTRL)
  else if b = 0x4082 then
    (if a % 65536 < 0x1000 then dSHEET (a % 65536 / 0x40 / 2 % 4) else dSHEET ((a % 65536 - 0x1000) / 4 / 16 % 4))
  else if b = 0x4083 then (if a % 65536 < 0x100 then dSHEET (a % 65536 / 0x40 % 4) else dCTRL)
  else dCTRL

/-- Area (class) that owns a register's block, 0 for the blocks that cannot be staged (03 R71). -/
def addrArea (a : Nat) : Nat :=
  let b := a / 65536
  if b = 0x4001 then 2
  else if b = 0x4011 then 3
  else if b = 0x4010 then 4
  else if b = 0x4020 then 5
  else if b = 0x4021 then 6
  else if b = 0x4030 then 7
  else if b = 0x4040 then 8
  else if b = 0x4050 ∨ b = 0x4070 then 9
  else if b = 0x40A0 then 10
  else if 0x4060 ≤ b ∧ b < 0x4064 then 11
  else if 0x4081 ≤ b ∧ b < 0x4084 then 12
  else if b = 0x4080 then 13
  else if b = 0x4090 then 14
  else 0

/-- The write is one of 01 R37: a register of GRAT, TXD, DPD, SHEETn or SURVEY. -/
def addrLogged (a : Nat) : Bool :=
  let b := a / 65536
  b == 0x4020 || b == 0x4030 || b == 0x4050 || (decide (0x4060 ≤ b) && decide (b < 0x4064)) || b == 0x40A0

/-! ### Fields of the writable registers -/

/-- Path and index of a TXD path register (0 TRIM, 1 MUTE_CODE, 2 IQ_M0, 3 IQ_M1, 4 IQ_DC). -/
def txPathReg (a : Nat) : Option (Nat × Nat) :=
  if 0x40301000 ≤ a ∧ a < 0x40301800 ∧ a % 32 < 20 ∧ a % 4 = 0 then some ((a - 0x40301000) / 32, a % 32 / 4) else none

/-- Element of a GRAT.TAPER register. -/
def taperReg (a : Nat) : Option Nat :=
  if 0x40201000 ≤ a ∧ a < 0x40201100 ∧ a % 4 = 0 then some ((a - 0x40201000) / 4) else none

/-- Sheet of a TXD.ADVANCE register. -/
def advanceReg (a : Nat) : Option Nat :=
  if 0x40300000 ≤ a ∧ a < 0x40300400 ∧ a % 256 = 4 then some ((a - 0x40300000) / 256) else none

/-- What a TXD path register reads: the fields of TX_PATH_SET in force. -/
def txPathPeek (s : State) (p i : Nat) : Nat :=
  let r := txPathRec s p
  match i with
  | 0 => fld r 2 2 + 65536 * bit (fbit r 1 1 0)
  | 1 => fld r 6 2 % 2 ^ 14 + 65536 * (fld r 4 2 % 2 ^ 14)
  | 2 => fld r 10 2 + 65536 * fld r 8 2
  | 3 => fld r 14 2 + 65536 * fld r 12 2
  | _ => fld r 18 2 + 65536 * fld r 16 2

/-- The TX_PATH_SET record after a write of value `v` to path register `i` (02 R50, 08_transmit_path). -/
def txPathPut (r : Rec) (i v : Nat) : Rec :=
  let lo := v % 65536
  let hi := v / 65536 % 65536
  let dc := fun x : Nat => leSigned 2 (clampI (-4096) 4095 (toSigned 16 x))
  match i with
  | 0 => putAt (putAt r 1 (leBytes 1 (fld r 1 1 / 2 * 2 + hi % 2))) 2 (leBytes 2 (cbWrite .both (fld r 2 2) lo))
  | 1 => putAt (putAt r 4 (leSigned 2 (toSigned 14 hi))) 6 (leSigned 2 (toSigned 14 lo))
  | 2 => putAt (putAt r 8 (leBytes 2 hi)) 10 (leBytes 2 lo)
  | 3 => putAt (putAt r 12 (leBytes 2 hi)) 14 (leBytes 2 lo)
  | _ => putAt (putAt r 16 (dc hi)) 18 (dc lo)

/-- Element of a SURVEY.CORR (0) or SURVEY.DELAY (1) register. -/
def surveyReg (a : Nat) : Option (Nat × Nat) :=
  if 0x40A01000 ≤ a ∧ a < 0x40A01200 ∧ a % 8 = 0 then some ((a - 0x40A01000) / 8, 0)
  else if 0x40A01400 ≤ a ∧ a < 0x40A01500 ∧ a % 4 = 0 then some ((a - 0x40A01400) / 4, 1)
  else none

/-- What SURVEY.CORR or SURVEY.DELAY of an element reads. -/
def surveyPeek (s : State) (e i : Nat) : Nat :=
  let x := elemOf s e
  if i = 0 then x.txCorr + 65536 * x.rxCorr else ofSigned 13 x.txDelay + 65536 * ofSigned 13 x.rxDelay

/-- What a writable register reads now. -/
def plainPeek (s : State) (a : Nat) : Nat :=
  match txPathReg a with
  | some (p, i) => txPathPeek s p i
  | none =>
    match advanceReg a with
    | some n => fld (txSheetRec s n) 2 2
    | none =>
      match surveyReg a with
      | some (e, i) => surveyPeek s e i
      | none =>
      if a = 0x40110014 then s.datum.airWindow + 65536 * s.datum.rsWindow
      else if a = 0x40010044 then faultEnEff s
      else if a = 0x4001004C then s.host.irqEn
      else if a = 0x40030008 then s.mbx.irqEn
      else if a = 0x40020100 then s.clk.target
      else tget 0 s.regs a

/-- A masked write of a register's RW fields. Read-only registers, and addresses that hold none, keep their values;
absent units' registers ignore it (00 R4). -/
def regPoke (a v mask : Nat) : Prog := .ask fun s =>
  let old := plainPeek s a
  let w := andNot old mask + (v &&& mask)
  match txPathReg a with
  | some (p, i) => whenP (pathFit s p) (setSetting 0x0703 p (txPathPut (txPathRec s p) i w))
  | none =>
    match advanceReg a with
    | some n => whenP (sheetFit s n && (sh s n).state != .tx)
        (setSetting 0x0707 n (putAt (txSheetRec s n) 2 (leBytes 2 (w % 8192))))
    | none =>
      match taperReg a with
      | some e => whenP (pathFit s e) (.upd (.setReg a (w % 2 ^ 32)))
      | none =>
        match surveyReg a with
        | some (e, i) => whenP (pathFit s e) (modSurvey fun v => { v with
            elem := tmod elem0 v.elem e fun x => if i = 0 then corrPut x w else delayPut x w })
        | none =>
        if a = 0x40100008 then .upd (.setReg a (w % 256))
        else if a = 0x4010000C then .upd (.setReg a (min 10000 (w % 2 ^ 14)))
        else if a = 0x40110014 then modDatum fun d =>
          { d with airWindow := min 10000 (w % 2 ^ 14), rsWindow := min 10000 (w / 65536 % 2 ^ 14) }
        else if a = 0x40010044 then modHost fun h => { h with faultEn := w % 512 ||| 0x39 }
        else if a = 0x4001004C then modHost fun h => { h with irqEn := w % 16 }
        else if a = 0x40030008 then modMbx fun m => { m with irqEn := w % 256 }
        else if a = 0x40020100 then modClk fun k => { k with target := w % 2 ^ 32 }
        else .skip

/-- The address is a register of the register tables of 04 to 16 (R66: a staged write names one). -/
def regListed (a : Nat) : Bool :=
  let b := a / 65536
  let o := a % 65536
  let lies := fun (lo hi : Nat) => decide (lo ≤ o) && decide (o < hi)
  let sheet := fun (l : List Nat) => decide (o < 0x400) && (l.contains (o % 256) || (decide (0x10 ≤ o % 256) && decide (o % 256 < 0x30)))
  a % 4 == 0 && (
    if b = 0x4001 then lies 0 0x1C || lies 0x20 0x30 || lies 0x40 0x58 || lies 0x100 0x114
    else if b = 0x4010 then lies 0 0x10
    else if b = 0x4011 then lies 0 0x34
    else if b = 0x4020 then lies 0 0x30 || lies 0x1000 0x1140 || lies 0x1200 0x1240
    else if b = 0x4021 then lies 0 0x30
    else if b = 0x4030 then sheet [0, 4] || lies 0x800 0x820 || lies 0x900 0x908 || (lies 0x1000 0x1800 && decide (o % 32 < 20))
    else if b = 0x4040 then
      sheet [0] || lies 0x800 0x820 || o == 0x900 || (lies 0x1000 0x1800 && decide (o % 32 < 8)) || lies 0x2000 0x2800
    else if b = 0x4050 then sheet [0] || (lies 0x1000 0x1400 && decide (o % 16 < 12))
    else if b = 0x4070 then decide (o < 0x80) && decide (o % 16 < 8)
    else if b = 0x40A0 then lies 0 0x2C || lies 0x40 0x50 || lies 0x1000 0x1200 || lies 0x1400 0x1500 || lies 0x1600 0x1700
    else if 0x4060 ≤ b ∧ b < 0x4064 then
      lies 0 0x14 || lies 0x100 0x140 || lies 0x8000 0x8110 || lies 0x8200 0x8218 || lies 0x8220 0x8228
    else if b = 0x4080 then o == 0 || lies 0x100 0x1A0
    else if b = 0x4081 then
      (decide (o < 0x400) && (o % 256 == 0 || (decide (0x10 ≤ o % 256) && decide (o % 256 < 0x28)))) || lies 0x1000 0x1240 || o == 0x1300
    else if b = 0x4082 then (decide (o < 0x200) && [0, 0x10, 0x14, 0x18, 0x1C].contains (o % 64)) || lies 0x1000 0x1100
    else if b = 0x4083 then (decide (o < 0x100) && decide (o % 64 < 16)) || o == 0xF0 || lies 0x100 0x114
    else if b = 0x4090 then [0, 4, 8, 0x10].contains o || (lies 0x100 0x220 && decide (o % 32 < 0x18))
    else false)

/-- The address is a register with a writable field: 4-byte aligned and listed by a register table. -/
def regWritable (a : Nat) : Bool :=
  (txPathReg a).isSome || (advanceReg a).isSome || (taperReg a).isSome || (surveyReg a).isSome ||
    [0x40100008, 0x4010000C, 0x40110014, 0x40010044, 0x4001004C].contains a

end Sys2Proof.Machine
end

