-- ==== Sys2Proof/Machine/Carriers.lean ====
section
/-! DEFINITION. The committed carriers of both directions, their sample rates, latencies and load on the graticule
(08_transmit_path R163, R164, R176, R177; 10_receive_path R211, R212, R224), and the frames, slots and symbols of datum
time (05_datum_time R101, R102; 03_control_path_transactions R63). -/

namespace Sys2Proof.Machine

open Sys2Proof

/-! ### Carrier records -/

/-- Reset of TX_CARRIER_SET. -/
def txCarReset (c : Nat) : Rec := leBytes 1 c ++ [0, 20, 0] ++ leBytes 2 106 ++ zeros 10

/-- Reset of RX_CARRIER_SET. -/
def rxCarReset (c : Nat) : Rec := leBytes 1 c ++ [0, 20, 0] ++ leBytes 2 106 ++ leBytes 2 0 ++ leBytes 4 1000000 ++ zeros 4

/-- TX_CARRIER_SET record in force. -/
def txCar (s : State) (c : Nat) : Rec := setting s 0x0701 c (txCarReset c)

/-- RX_CARRIER_SET record in force. -/
def rxCar (s : State) (c : Nat) : Rec := setting s 0x0801 c (rxCarReset c)

/-- VALID of a carrier record. -/
def carValid (r : Rec) : Bool := fbit r 1 1 0

/-- Numerology μ of a carrier record. -/
def carMu (r : Rec) : Nat := slice (fld r 1 1) 2 1

/-- PRBs of a carrier record. -/
def carPrb (r : Rec) : Nat := fld r 4 2

/-- NCO of a carrier record, 100 Hz. -/
def carNco (r : Rec) : Int := sfld r 8 4

/-- Sample-rate class by bandwidth (R164): 0 for 30.72, 1 for 61.44, 2 for 122.88 MS/s. -/
def carRate (r : Rec) : Nat := if fld r 2 1 ≤ 20 then 0 else if fld r 2 1 ≤ 50 then 1 else 2

/-- Transform size N of a carrier record (R164). -/
def carN (r : Rec) : Nat := 2048 * 2 ^ carRate r / 2 ^ carMu r

/-- Committed downlink carriers, ascending. -/
def txCars (s : State) : List Nat := (List.range 8).filter fun c => carValid (txCar s c)

/-- Committed uplink carriers, ascending. -/
def rxCars (s : State) : List Nat := (List.range 8).filter fun c => carValid (rxCar s c)

/-- Carriers committed in some direction, ascending. -/
def cars (s : State) : List Nat := (List.range 8).filter fun c => carValid (txCar s c) || carValid (rxCar s c)

/-- Record that times a carrier: the downlink one where it is committed, else the uplink one (assumption log 16). -/
def refCar (s : State) (c : Nat) : Rec := if carValid (txCar s c) then txCar s c else rxCar s c

/-- PRBs of TS 38.101-1, table 5.3.2-1, for a numerology and bandwidth; 0 where the combination does not exist or R164
does not support it (assumption log 13). -/
def prbTable (mu bw : Nat) : Nat :=
  let t : List (Nat × Nat) :=
    match mu with
    | 0 => [(5, 25), (10, 52), (15, 79), (20, 106), (25, 133), (30, 160), (35, 188), (40, 216), (45, 242), (50, 270)]
    | 1 => [(5, 11), (10, 24), (15, 38), (20, 51), (25, 65), (30, 78), (35, 92), (40, 106), (45, 119), (50, 133), (60, 162),
        (70, 189), (80, 217), (90, 245), (100, 273)]
    | 2 => [(10, 11), (15, 18), (20, 24), (25, 31), (30, 38), (35, 44), (40, 51), (45, 58), (50, 65), (60, 79), (70, 93),
        (80, 107), (90, 121), (100, 135)]
    | _ => []
  tget 0 t bw

/-! ### Load and latency (R176, R212, R224) -/

/-- Resource-element rate of carrier records in units of 14,000 per second: Σ N_RE × 2^μ. -/
def reRate (rs : List Rec) : Nat := sumN (rs.map fun r => 12 * carPrb r * 2 ^ carMu r)

/-- U of R176 exceeds 1. -/
def overU (rs : List Rec) : Bool := decide (734000000 < reRate rs * 14000)

/-- L_GRAT in units of 1/(367 × 12,288) ns: the share of the rate, and 521 ns with more than one carrier. -/
def gratUnits (rs : List Rec) (r : Rec) : Nat :=
  reRate rs * 500 * (4 / 2 ^ carMu r) * 3072 + (if rs.length ≤ 1 then 0 else 521 * (367 * 12288))

/-- DP cycles of 3,125/3,072 ns in those units. -/
def cycUnits (n : Nat) : Nat := n * 3125 * 367 * 4

/-- Cycles of the transform of either direction: 93 + Σ N / 4. -/
def fftCycles (rs : List Rec) : Nat := 93 + sumN (rs.map carN) / 4

/-- L_TX of a carrier record among committed records, ns (R176). -/
def ltxOf (rs : List Rec) (r : Rec) : Nat :=
  let back := if carRate r = 2 then 3834 else if carRate r = 1 then 3898 else 4026
  100 * ceilDiv (gratUnits rs r + cycUnits (fftCycles rs + back)) (100 * (367 * 12288))

/-- L_UL of a carrier record among committed records, ns (R224). -/
def lulOf (rs : List Rec) (r : Rec) : Nat :=
  let front := if carRate r = 2 then 514 else if carRate r = 1 then 866 else 1570
  100 * ceilDiv (gratUnits rs r + cycUnits (fftCycles rs + front) + 1000 * (367 * 12288)) (100 * (367 * 12288))

/-- Records of the committed downlink carriers. -/
def txRecs (s : State) : List Rec := (txCars s).map (txCar s)

/-- Records of the committed uplink carriers. -/
def rxRecs (s : State) : List Rec := (rxCars s).map (rxCar s)

/-- L_TX of carrier `c`, 0 when it is not committed. -/
def ltx (s : State) (c : Nat) : Nat := if carValid (txCar s c) then ltxOf (txRecs s) (txCar s c) else 0

/-- L_UL of carrier `c`, 0 when it is not committed. -/
def lul (s : State) (c : Nat) : Nat := if carValid (rxCar s c) then lulOf (rxRecs s) (rxCar s c) else 0

/-- L_TXMAX (03 R64). -/
def ltxMax (s : State) : Nat := maxN ((txCars s).map (ltx s))

/-- U in units of 2^−16, to nearest (assumption log 15). -/
def uFig (rs : List Rec) : Nat := (divRna ((reRate rs * 14000 * 65536 : Nat) : Int) 734000000).toNat

/-- Two occupied bands overlap; a band is the channel bandwidth about the centre (assumption log 17). -/
def bandsOverlap : List Rec → Bool
  | [] => false
  | r :: rs =>
    let lo := fun x : Rec => carNco x - 5000 * (fld x 2 1 : Int)
    let hi := fun x : Rec => carNco x + 5000 * (fld x 2 1 : Int)
    rs.any (fun x => decide (lo r < hi x) && decide (lo x < hi r)) || bandsOverlap rs

/-- The PRB count, transform and bandwidth agree with R164 and R177. -/
def carShapeOk (r : Rec) : Bool := carPrb r == prbTable (carMu r) (fld r 2 1) && carPrb r != 0

/-- f_0 in 100 Hz is a multiple of 5 kHz where PHCOMP is set. -/
def phcompOk (lo : Nat) (r : Rec) : Bool := !fbit r 1 1 3 || decide (((lo * 10 : Nat) + carNco r) % 50 = 0)

/-- LO_SET record in force (12 R263). -/
def loRec (s : State) : Rec := setting s 0x0B05 0 (leBytes 4 3500000 ++ leBytes 4 3500000 ++ zeros 4)

/-- What R177 asks of one downlink carrier. -/
def txCarOk (s : State) (r : Rec) : Bool :=
  decide (-4000000 ≤ carNco r - 5000 * (fld r 2 1 : Int)) && decide (carNco r + 5000 * (fld r 2 1 : Int) ≤ 4000000) &&
    carShapeOk r && phcompOk (fld (loRec s) 0 4) r

/-- Check of R177 on the committed downlink carriers. -/
def txCarsAgree (s : State) : Bool := !overU (txRecs s) && !bandsOverlap (txRecs s) && (txRecs s).all (txCarOk s)

/-- Normal prefix of a carrier in samples at f_s (R102 scaled). -/
def carNcp (r : Rec) : Nat := 576 / 2 ^ carMu r * 2 ^ carRate r / 4

/-- What R211 asks of one uplink carrier. -/
def rxCarOk (s : State) (r : Rec) : Bool :=
  let lo := carNco r - 5000 * (fld r 2 1 : Int)
  let hi := carNco r + 5000 * (fld r 2 1 : Int)
  (decide (100000 ≤ lo ∧ hi ≤ 9300000) || decide (hi ≤ -100000 ∧ -9300000 ≤ lo)) && carShapeOk r &&
    phcompOk (fld (loRec s) 4 4) r && decide (fld r 12 1 ≤ carNcp r / 2)

/-- Check of R211 on the committed uplink carriers. -/
def rxCarsAgree (s : State) : Bool :=
  let rs := rxRecs s
  let lo := fun x : Rec => carNco x - 5000 * (fld x 2 1 : Int)
  let hi := fun x : Rec => carNco x + 5000 * (fld x 2 1 : Int)
  let low := rs.foldl (fun a x => min a (lo x)) 9300000
  let top := rs.foldl (fun a x => max a (hi x)) (-9300000)
  rs == [] || (!overU rs && !bandsOverlap rs &&
    ((rs.all fun r => decide (100000 ≤ lo r) && decide (hi r ≤ 9300000)) ||
      (rs.all fun r => decide (hi r ≤ -100000) && decide (-9300000 ≤ lo r))) &&
    decide (1000000 ≤ (low + top).natAbs) && decide ((low + top).natAbs ≤ 10000000) &&
    rs.all (rxCarOk s))

/-! ### Tones (08 R170) -/

/-- TX_TONE_SET record of a sheet in force. -/
def toneRec (s : State) (n : Nat) : Rec := setting s 0x0706 n (leBytes 1 n ++ zeros 7 ++ leSigned 2 (-24) ++ zeros 2)

/-- The tone generator is on on a path (08 R170). -/
def toneOn (s : State) (p : Nat) : Bool := fbit (toneRec s (p / 16)) 1 1 0 && (fld (toneRec s (p / 16)) 2 2).testBit (p % 16)

/-! ### Frames, slots and symbols (05 R101, R102) -/

/-- Reset of DATUM_CONFIG (0x0302). -/
def datumReset : Rec :=
  [0, 24, 128, 8] ++ leBytes 4 1000 ++ leBytes 2 100 ++ leBytes 2 100 ++ leBytes 4 600 ++ zeros 8 ++ leBytes 2 100 ++
    [0xFC, 0]

/-- DATUM_CONFIG record in force. -/
def datumRec (s : State) : Rec := setting s 0x0302 0 datumReset

/-- Start of half-subframe 0, in 1/384 ns of extended time: the GPS epoch moved by FRAME_OFFSET. -/
def frameBase (s : State) : Int := 315964819 * 1000000000 * 384 + sfld (datumRec s) 16 4 * 3125

/-- Index at 1966.08 MS/s of the first sample at or after a datum time. -/
def dpIndex (s : State) (t : Nat) : Int := -((frameBase s - 384 * extTotal s.datum.ref t) * 16 / 3125)

/-- REF periods from the start of a half-subframe to symbol `j`. -/
def symRef (mu j : Nat) : Nat := if j = 0 then 0 else 64 + j * (8192 / 2 ^ mu + 576 / 2 ^ mu)

/-- REF periods of symbol `j`. -/
def symLen (mu j : Nat) : Nat := 8192 / 2 ^ mu + 576 / 2 ^ mu + (if j = 0 then 64 else 0)

/-- Symbols of a half-subframe. -/
def symPerHalf (mu : Nat) : Nat := 7 * 2 ^ mu

/-- Start of symbol `j` of half-subframe `h`, in 1/384 ns of extended time. -/
def symStart (s : State) (mu : Nat) (h : Int) (j : Nat) : Int := frameBase s + h * 192000000 + (symRef mu j * 3125 : Nat)

/-- Start of symbol `j` of half-subframe `h` in whole ns of extended time. -/
def symNs (s : State) (mu : Nat) (h : Int) (j : Nat) : Int := symStart s mu h j / 384

/-- Half-subframe that holds an extended time in ns. -/
def halfOf (s : State) (t : Int) : Int := (384 * t - frameBase s) / 192000000

/-- Subframe index k (R53) of a half-subframe. -/
def subframeOf (h : Int) : Nat := (h / 2 % 2560).toNat

/-- Extended time now, ns. -/
def extNow (s : State) : Int := extTotal s.datum.ref (now s)

/-- Datum time has come to a target, both extended (05 R98, R99): the comparison of every consumer other than the signed
comparators of 05 R112. -/
def due (s : State) (t : Nat) : Bool := decide (extTotal s.datum.ref t ≤ extNow s)

/-- Symbols that start a boundary of a kind in half-subframe `h`: 0 and 1 any symbol, 2 a slot, 3 a frame (03 R63). -/
def boundarySyms (kind mu : Nat) (h : Int) : List Nat :=
  if kind = 3 then (if h % 20 = 0 then [0] else [])
  else if kind = 2 then (if mu = 0 then (if h % 2 = 0 then [0] else []) else if mu = 1 then [0] else [0, 14])
  else List.range (symPerHalf mu)

/-- The first boundary of a kind at or after an extended time: half-subframe, symbol and start in ns. -/
def nextBoundary (s : State) (kind mu : Nat) (t : Int) : Int × Nat × Int :=
  let h0 := halfOf s t
  let cand := (List.range 22).flatMap fun (i : Nat) =>
    (boundarySyms kind mu (h0 + (i : Int))).map fun j => (h0 + (i : Int), j, symNs s mu (h0 + (i : Int)) j)
  (cand.find? fun x => decide (t ≤ x.2.2)).getD (h0, 0, t)

/-- An extended time is a boundary of a kind. -/
def isBoundary (s : State) (kind mu : Nat) (t : Int) : Bool := (nextBoundary s kind mu t).2.2 == t

/-- SLOT in subframe and symbol in slot of symbol `j` of half-subframe `h` (R55). -/
def slotSym (mu : Nat) (h : Int) (j : Nat) : Nat × Nat :=
  let l := (h % 2).toNat * symPerHalf mu + j
  (l / 14, l % 14)

/-- The symbol `sym` of slot `slot` of subframe `k`, nearest to an extended time: half-subframe and symbol in it. -/
def symAt (s : State) (mu k slot sym : Nat) (t : Int) : Int × Nat :=
  let l := slot * 14 + sym
  let cur := halfOf s t / 2
  let d := ((k : Int) - cur + 1280) % 2560 - 1280
  (2 * (cur + d) + (l / symPerHalf mu : Nat), l % symPerHalf mu)

/-- SFN-free frame and subframe numbers of an extended time (R101): frameId, subframeId. -/
def frameIds (s : State) (t : Int) : Nat × Nat :=
  let k := subframeOf (halfOf s t)
  (k / 10, k % 10)

/-- Lowest-numbered committed carrier. -/
def lowCar (s : State) : Option Nat := (cars s).head?

/-- The next slot boundary of the lowest-numbered committed carrier at or after an extended time, as a datum value;
none with no carrier committed. -/
def nextSlotNs (s : State) (t : Int) : Option Nat :=
  (lowCar s).map fun c => counterAt s (nextBoundary s 2 (carMu (refCar s c)) t).2.2

end Sys2Proof.Machine
end

