-- ==== Sys2Proof/Machine/Datum.lean ====
section
/-! DEFINITION. The datum time base: counter, extended time, servo, PTP, pulses per second and one-way delay
(05_datum_time R95 to R120, R465). -/

namespace Sys2Proof.Machine

open Sys2Proof

/-! ### The counter (R95) -/

/-- The counter has passed a target in its last cycle: the target lies in (previous value, current value] (R116). -/
def crosses (s : State) (t : Nat) : Bool :=
  let d := (t + 2 ^ 32 - s.datum.last) % 2 ^ 32
  d != 0 && decide (d ≤ (now s + 2 ^ 32 - s.datum.last) % 2 ^ 32)

/-- One cycle of the DATUM clock: the model's clock moves on, and while the DATUM domain is ON a written increment comes
into force and the counter adds it (assumption log 2). An armed alignment whose target the counter passes waits for the
next REF edge (01 R31). -/
def datumCycle : Prog := .ask fun s => .seq (.upd .tick) (whenP (domOn s dDATUM) (modDatum fun d =>
  let inc := d.incNext.getD (d.incInt, d.incFrac)
  let v := d.cnt.toNat * 2 ^ 44 + d.frac.toNat + inc.1 * 2 ^ 44 + inc.2
  { d with
    last := d.cnt.toNat, cnt := BitVec.ofNat 32 (v / 2 ^ 44), frac := BitVec.ofNat 44 v, incInt := inc.1, incFrac := inc.2
    incNext := none }))

/-- A cycle in which the counter passes the target of an armed alignment. -/
def alignCross : Prog := .ask fun s => whenP (s.clk.armed && crosses s s.clk.target) (modClk fun k => { k with stage := 4 })

/-- INCREMENT_WRITE (R95): a write of DATUM.INCR_HI; INT 0 is written as 1, and for INT above 3 the manual gives no
value (a free value from 1 to 3, assumption log 3). -/
def incrWrite (value : Nat) : Prog := .ask fun s =>
  let i := slice value 15 12
  let put := fun n : Nat => modDatum fun d => { d with incNext := some (n, slice value 11 0 * 2 ^ 32 + d.incrLo) }
  whenP (domOn s dDATUM)
    (if i = 0 then put 1 else if i ≤ 3 then put i else .seq (put (1 + freeNow s % 3)) drawFree)

def execIncrementWrite (value : Nat) (s : State) : Host.Outcome State Fault Refusal := done (incrWrite value) s

/-- Increment that runs `ppt` parts per 10^12 from nominal: round(3,125/1,536 × 2^44 × (1 + ppt × 10^−12)). -/
def incOf (ppt : Int) : Nat := (divRna (3125 * 2 ^ 44 * (1000000000000 + ppt)) (1536 * 1000000000000)).toNat

/-- The increment that loads next, in units of 2^−44 ns. -/
def incAhead (s : State) : Nat :=
  let i := s.datum.incNext.getD (s.datum.incInt, s.datum.incFrac)
  i.1 * 2 ^ 44 + i.2

/-- FREQ_ADJ of an increment, ppt, to nearest (assumption log 15). -/
def pptOf (inc : Nat) : Int := divRna (((inc : Int) * 1536 - 3125 * 2 ^ 44) * 1000000000000) (3125 * 2 ^ 44)

/-- Write an increment for the next cycle. -/
def setInc (v : Nat) : Prog := modDatum fun d => { d with
  incrLo := v % 2 ^ 32, incNext := some (v / 2 ^ 44 % 16, v % 2 ^ 44) }

/-! ### Extended time (R98) -/

/-- TOD_REFERENCE_WRITE: the four TOD registers take effect together. -/
def todWrite (value : Nat) : Prog := .ask fun s => whenP (domOn s dDATUM)
  (modDatum fun d => { d with tod := (d.todHold.1, d.todHold.2.1 + d.todHold.2.2 % 65536 * 2 ^ 32, value % 2 ^ 30) })

def execTodReferenceWrite (value : Nat) (s : State) : Host.Outcome State Fault Refusal := done (todWrite value) s

/-- Put a reference triple into firmware and the TOD registers. -/
def setRef (r : Nat × Nat × Nat) : Prog := modDatum fun d => { d with
  ref := r, todHold := (r.1, r.2.1 % 2 ^ 32, r.2.1 / 2 ^ 32 % 65536), tod := r }

/-- ns that a slew at SLEW_MAX removes in `ns`. -/
def slewed (s : State) (ns : Nat) : Int := ((ns * fld (datumRec s) 10 2 / 1000000000 : Nat) : Int)

/-- Offset a slew of DATUM_STEP has still to remove. -/
def slewLeft (s : State) : Int :=
  let ran := slewed s (int32Diff (now s) s.datum.ref.1).toNat
  if 0 ≤ s.datum.slew then max 0 (s.datum.slew - ran) else min 0 (s.datum.slew + ran)

/-- TOD_REFRESH (R98): the triple moves to now; a slew of DATUM_STEP that has run its time ends (R108). -/
def execTodRefresh (s : State) : Host.Outcome State Fault Refusal :=
  let e := extTime s (now s)
  let left := slewLeft s
  done (whenP (fwRuns s && domOn s dDATUM) (seqs
    [ setRef (now s, e.1, e.2),
      whenP (s.datum.slew != 0) (.seq (modDatum fun d => { d with slew := left })
        (whenP (left == 0) (setInc (incOf s.datum.freqAdj)))) ])) s

/-! ### Servo states (R107) -/

/-- A new servo state, with DATUM_STATE on a change. DESIGN CHOICE (assumption log 82): HOLDOVER_EXPIRED clears on leaving
HOLDOVER. -/
def setServo (v : Nat) : Prog := .ask fun s => whenP (s.datum.servo != v) (.seq
  (modDatum fun d => { d with
    servo := v, acq := [], within := 0, beyond := 0, outlier := false, holdExpired := if v = 3 then d.holdExpired else false })
  (.seq (whenP (v == 3) (stamp tkHoldover)) (raise (evCode 4 1) noUnit [])))

/-- SOURCE of DATUM_CONFIG. -/
def datumSource (s : State) : Nat := fld (datumRec s) 0 1

/-! ### Steps (R111, R465) -/

/-- A step is refused: a sheet is in RX or TX, or a transaction is COMMITTED. -/
def stepBarred (s : State) : Bool := anyRxTx s || s.txn.live.any fun t => t.state == .committed

/-- Live entries of the section table (03 R60). -/
def liveSections (s : State) : Nat := (s.sect.entries.filter fun e => e.2.state == 1 || e.2.state == 2).length

/-- A sheet's radio record after a step of `d` ns: no timer armed, the pattern derived anew, and what is in progress moved
with the counter (12 R269). -/
def sheetStep (d : Int) (r : Sheet) : Sheet :=
  { r with
    timers := [], pat := none
    trans := r.trans.map fun t => (t.1, add32 t.2 d)
    deferred := r.deferred.map fun q => (q.1, add32 q.2.1 d, add32 q.2.2 d)
    calDue := r.calDue.map fun t => add32 t d
    unlocked := r.unlocked.map fun t => add32 t d
    hopTe := add32 r.hopTe d
    calStart := if r.txCal then add32 r.calStart d else r.calStart
    tDone := if r.done && !r.txReady then add32 r.tDone d else r.tDone }

/-- CLK.ALIGN_CTRL.ARM is set: alignment is armed at TARGET, or refused while a sheet is in RX or TX (01 R31, R32). -/
def armAlign : Prog := .ask fun s => modClk fun k =>
  if anyRxTx s then { k with refused := true } else { k with armed := true, aligned := false, stage := 0 }

/-- Firmware arms alignment at the first 10 ms boundary of extended time at least 2 ms ahead (17 R394; 01 R30, R465). -/
def firmwareArm : Prog := .ask fun s => whenP (fwRuns s && domOn s dDATUM && !s.clk.lost.testBit 0)
  (.seq (modClk fun k => { k with target := counterAt s ((extNow s + 2000000 + 9999999) / 10000000 * 10000000) }) armAlign)

/-- Consequences 1 to 4 of a step of the counter by `d`, and those of R465 on crossing consumers. -/
def stepConsequences (d : Int) : Prog := .ask fun s => seqs
  [ modClk fun k => { k with aligned := false, armed := false, stage := 0 },
    whenP (s.clk.armed || s.clk.aligned || s.clk.stage != 0) firmwareArm,
    countN blkSect 0 7 (liveSections s),
    modSect fun t => { t with entries := [], pageSub := [], clearing := (List.range 32).map (fun p => (p, 2)), waiting := [], occ := [] },
    countN blkFh 0 8 (sumN (s.fh.egress.map fun q => q.2.length) + s.mbx.queue63.length),
    modFh fun f => { f with egress := [] },
    modMbx fun m => { m with queue63 := [] },
    modRadio fun r => { r with sheet := r.sheet.map fun p => (p.1, sheetStep d p.2) },
    modTx fun t => { t with rise := t.rise.map fun x => add32 x d, release := t.release.map fun p => (p.1, add32 p.2 d) },
    modDatum fun d => { d with cmpDl := [], cmpUl := [], ppsLimit := d.ppsLimit.map fun _ => add32 (now s) 2000000000 },
    each s.rffe.master fun m => countN blkRffe m.1 2 m.2.sched.length,
    modRffe fun r => { r with master := r.master.map fun m => (m.1, { m.2 with sched := [], crit := m.2.crit.filter fun q => q.tag == 0 }) } ]

/-- The next whole second at least 1 us ahead (R116, R117), as a counter value. -/
def nextPps (s : State) : Nat := counterAt s (((extNow s + 999) / 1000000000 + 1) * 1000000000)

/-- Firmware writes PPS_NEXT for the next whole second (R117, R465). -/
def writePpsNext : Prog := .ask fun s => modDatum fun d => { d with ppsNext := nextPps s }

/-- DATUM_STEPPED with the counter step and the frame shift (19 R431). -/
def raiseStepped (step shift : Int) : Prog :=
  let v := ofSigned 64 step
  raise (evCode 4 3) noUnit [(v % 2 ^ 32 : Nat), (v / 2 ^ 32 : Nat), shift]

/-- A step that makes extended time read `t` ns now: the counter adds STEP_NS, the triple moves by the full step, and
the consequences follow (R111). -/
def applyStep (t : Int) : Prog := .ask fun s =>
  let n := ofSigned 32 t
  seqs
    [ modDatum fun d => { d with
        stepNs := (n + 2 ^ 32 - now s) % 2 ^ 32, cnt := BitVec.ofNat 32 n, last := n },
      setRef (n, (t / 1000000000).toNat % 2 ^ 48, (t % 1000000000).toNat),
      stepConsequences (int32Diff n (now s)), writePpsNext, raiseStepped (t - extNow s) 0 ]

/-- DATUM_CTRL_STEP (R111): the processor sets CTRL.STEP; firmware moves its triple by STEP_NS taken as signed
(assumption log 19). -/
def ctrlStep : Prog := .ask fun s =>
  let d := toSigned 32 s.datum.stepNs
  whenP (domOn s dDATUM && !stepBarred s) (seqs
    [ modDatum fun x => { x with cnt := BitVec.ofNat 32 (now s + s.datum.stepNs), last := (now s + s.datum.stepNs) % 2 ^ 32 },
      (let t := max 0 (extNow s + d)
       setRef ((now s + s.datum.stepNs) % 2 ^ 32, (t / 1000000000).toNat, (t % 1000000000).toNat)),
      stepConsequences d, writePpsNext, raiseStepped d 0 ])

def execDatumCtrlStep (s : State) : Host.Outcome State Fault Refusal := done ctrlStep s

/-! ### The servo (R107 to R110) -/

/-- A step is refused under R109. -/
def refuseStep (off : Int) : Prog := seqs
  [ setServo 3, modDatum fun d => { d with stepRefused := true, refusedOff := off },
    count blkDatum 0 3, raise (evCode 4 2) noUnit [] ]

/-- Mean of measurements, to nearest (assumption log 15). -/
def meanOf (l : List Int) : Int := if l.length = 0 then 0 else divRna (sumI l) l.length

/-- Steering by the increment alone: the master's estimated frequency and a correction of at most SLEW_MAX (R108). -/
def steer (filtered : Int) : Prog := .ask fun s =>
  let most : Int := 1000 * (fld (datumRec s) 10 2 : Int)
  let est := Config.freqEstimate s.datum.freqAdj filtered
  .seq (modDatum fun d => { d with freqAdj := est })
    (setInc (incOf (est + clampI (-most) most (Config.servoLaw filtered))))

/-- A filtered offset within STEP_LIMIT: the lock count, STEP_REFUSED and the increment follow it; a slew of DATUM_STEP that
is under way keeps its own increment. -/
def followOffset (f : Int) : Prog := .ask fun s =>
  let w := if f.natAbs ≤ fld (datumRec s) 8 2 then s.datum.within + 1 else 0
  seqs
    [ modDatum fun d => { d with
        offset := some f, within := w, beyond := 0, outlier := false, stepRefused := false, refusedOff := 0 },
      whenP (s.datum.servo == 3) (setServo 1),
      whenP (slewLeft s == 0) (steer f),
      whenP (s.datum.servo == 1 && decide (16 ≤ w)) (setServo 2) ]

/-- A measured offset in ns enters the servo: the mean of the first eight in ACQUIRING sets time or is judged; later
ones are filtered, a single one beyond STEP_LIMIT is dropped as an outlier, and four filtered ones in a row beyond it are a
step (R107 to R109). What a slew under way has still to remove is not judged. Under SOURCE 2 the servo sets no time (R119). -/
def servoMeasure (off : Int) : Prog := .ask fun s =>
  let limit := fld (datumRec s) 4 4
  let far := fun (x : Int) => s.datum.timeValid && decide (limit < (x + slewLeft s).natAbs)
  let acq := (off :: s.datum.acq).take 8
  if s.datum.servo = 1 ∧ s.datum.acq.length < 8 then
    .seq (modDatum fun d => { d with acq := acq })
      (whenP (acq.length == 8) (
        let m := meanOf acq
        if s.datum.timeValid || datumSource s == 2 then (if far m then refuseStep m else followOffset (if slewLeft s = 0 then m else off))
        else if stepBarred s then modDatum fun d => { d with acq := [] }
        else seqs [applyStep (extNow s - m), modDatum fun d => { d with timeValid := true, offset := some 0 }]))
  else if s.datum.servo = 1 ∨ s.datum.servo = 2 ∨ (s.datum.servo = 3 ∧ s.datum.stepRefused = true) then
    (let f := match s.datum.offset with
      | some p => Config.offsetFilter p off
      | none => off
    if far off && !s.datum.outlier then modDatum fun d => { d with outlier := true }
    else if far f then
      (if 4 ≤ s.datum.beyond + 1 ∧ s.datum.servo ≠ 3 then refuseStep f
       else modDatum fun d => { d with offset := some f, beyond := d.beyond + 1, within := 0, outlier := far off })
    else followOffset f)
  else .skip

/-! ### Frames of the PTP ring (R103 to R106, R120) -/

/-- The number of big-endian bytes. -/
def netNat (r : Rec) : Nat := leNat r.reverse

/-- Field of a frame in transmission order. -/
def bfld (r : Rec) (off w : Nat) : Nat := netNat ((r.drop off).take w)

/-- Bytes of a number, most significant first. -/
def netBytes (w n : Nat) : Rec := (leBytes w n).reverse

/-- FH_LINK_SET record in force (04). -/
def linkReset : Rec :=
  [0, 1, 2, 90] ++ leBytes 2 9000 ++ leBytes 2 50 ++ leBytes 4 1 ++ leBytes 4 1 ++ zeros 16

/-- FH_LINK_SET record in force. -/
def linkRec (s : State) : Rec := setting s 0x0401 0 linkReset

/-- LOCAL_MAC octets in transmission order. -/
def localMac (s : State) : Rec := (linkRec s).drop 16 |>.take 6

/-- PEER_MAC octets. -/
def peerMac (s : State) : Rec := (linkRec s).drop 22 |>.take 6

/-- VLAN_ID. -/
def vlanId (s : State) : Nat := fld (linkRec s) 28 2

/-- Octets from the destination to the EtherType of a frame the device sends, tagged when VLAN_ID is not 0. -/
def macHeader (s : State) (dst : Rec) (pcp etherType : Nat) : Rec :=
  dst ++ localMac s ++ (if vlanId s = 0 then [] else netBytes 2 0x8100 ++ netBytes 2 (pcp * 8192 + vlanId s)) ++
    netBytes 2 etherType

/-- The frame carries an IEEE 802.1Q tag. -/
def tagged (f : Rec) : Bool := bfld f 12 2 == 0x8100

/-- EtherType of a frame. -/
def etherType (f : Rec) : Nat := if tagged f then bfld f 16 2 else bfld f 12 2

/-- Octets after the EtherType. -/
def payload (f : Rec) : Rec := f.drop (if tagged f then 18 else 14)

/-- Fixed latencies of R104 in 1/256 ns for a mode: transmit, receive. -/
def mediumLat (mode : Nat) (fec : Bool) : Nat × Nat :=
  match mode with
  | 1 => if fec then (96 * 256, 318 * 256) else (48 * 256, 62 * 256)
  | 2 => (104 * 256, 252 * 256)
  | 3 => (118 * 256, 274 * 256)
  | 4 => (92 * 256, 206 * 256)
  | 5 => (86 * 256, 188 * 256)
  | 6 => (74 * 256, 160 * 256)
  | _ => (0, 0)

/-- The replica of datum time that a capture takes, in 1/256 ns (R96, R103): the counter with its fraction, `ago` units
back; the Ethernet clock domain corrects its replica against the counter every 256 ns (assumption log 83). -/
def replica (s : State) (ago : Nat) : Nat :=
  ((s.datum.cnt.toNat * 256 + s.datum.frac.toNat / 2 ^ 36 : Nat) - (ago : Int)) % (2 ^ 40 : Nat) |>.toNat

/-- Transmit timestamp of R103 in 1/256 ns of the counter, for a capture `ago` units back. -/
def txStamp (s : State) (ago fecPos : Nat) : Nat :=
  ((((replica s ago + (mediumLat s.fh.mode (fbit (linkRec s) 2 1 1)).1 + fecPos : Nat) : Int) + 16 * sfld (datumRec s) 20 2) %
    (2 ^ 40 : Nat)).toNat

/-- Receive timestamp of R103 in 1/256 ns of the counter, for a capture `ago` units back. -/
def rxStamp (s : State) (ago deskew fecPos : Nat) : Nat :=
  (((replica s ago : Int) - ((mediumLat s.fh.mode (fbit (linkRec s) 2 1 1)).2 + deskew + fecPos : Nat) -
    16 * sfld (datumRec s) 22 2) % (2 ^ 40 : Nat)).toNat

/-- Extended time of a timestamp in 1/256 ns. -/
def ext256 (s : State) (ts : Nat) : Int := extTotal s.datum.ref (ts / 256) * 256 + (ts % 256 : Nat)

/-- clockIdentity and port of the device, EUI-64 of LOCAL_MAC (assumption log 20). -/
def ownPort (s : State) : Rec := (localMac s).take 3 ++ [0xFF, 0xFE] ++ (localMac s).drop 3 ++ [0, 1]

/-- eCPRI type 5 message (R120): revision 1, measurement identifier, action, timestamp, compensation 0 (assumption
log 20). -/
def owdFrame (s : State) (dst : Rec) (meas action : Nat) (ts : Rec) : Rec :=
  macHeader s dst 7 0xAEFE ++ [0x10, 5] ++ netBytes 2 20 ++ leBytes 1 meas ++ leBytes 1 action ++ ts ++ zeros 8

/-- Seconds and ns of an extended time as ten octets. -/
def stampBytes (t : Int) : Rec := netBytes 6 (t / 1000000000).toNat ++ netBytes 4 (t % 1000000000).toNat

/-- A frame joins the processor's transmit ring. -/
def ringSend (f : Rec) : Prog := modDatum fun d => { d with ptpTx := d.ptpTx ++ [f] }

/-- The data set by which the alternate BMCA compares an Announce, smaller is better (R105, assumption log 20). -/
def announceRank (s : State) (m : Rec) : List Nat :=
  [ bfld m 48 1, bfld m 49 1, bfld m 50 2, bfld m 52 1, fld (datumRec s) 2 1,
    if bfld m 48 1 ≤ 127 then 0 else bfld m 53 8, bfld m 61 2, bfld m 20 10 ]

/-- Lexicographic order. -/
def lexLt : List Nat → List Nat → Bool
  | _, [] => false
  | [], _ => true
  | a :: x, b :: y => decide (a < b) || (a == b && lexLt x y)

/-- Four announce intervals of an Announce, ns: a second one of a master within them qualifies it, as IEEE 1588 has it
(PRESUMED, assumption log 20). -/
def qualifyNs (m : Rec) : Int :=
  let l := toSigned 8 (bfld m 33 1)
  if 0 ≤ l then 4000000000 * 2 ^ (min l.toNat 16) else 4000000000 / 2 ^ (min l.natAbs 32)

/-- An Announce (R105, R107) received at an extended time: a master that has qualified and is the best is selected; a change
of master enters ACQUIRING. -/
def ptpAnnounce (at_ : Int) (m : Rec) : Prog := .ask fun s =>
  let rank := announceRank s m
  let port := bfld m 20 10
  let same := port == s.datum.gmPort && s.datum.gmBest != []
  let qualified := (tfind s.datum.foreign port).any fun t => decide (at_ - t ≤ qualifyNs m)
  let better := qualified && (s.datum.gmBest == [] || lexLt rank s.datum.gmBest)
  .seq (modDatum fun d => { d with foreign := tset d.foreign port at_ }) (whenP (same || better) (seqs
    [ modDatum fun d => { d with
        gmBest := rank, gmPort := port, gmId := bfld m 53 8, gmClass := bfld m 48 1,
        stepsRemoved := min 255 (bfld m 61 2), utcOffset := toSigned 16 (bfld m 44 2), announceNs := (3 * qualifyNs m / 4).toNat },
      stamp tkAnnounce, whenP better (stamp tkSync),
      whenP (port != s.datum.gmPort || bfld m 53 8 != s.datum.gmId || s.datum.servo == 0 ||
          (s.datum.servo == 3 && !s.datum.stepRefused))
        (.seq (modDatum fun d => { d with sync := none, delayReq := none, acq := [], within := 0, beyond := 0, outlier := false })
          (setServo 1)) ]))

/-- Correction field of a PTP message, 1/256 ns. -/
def ptpCorr (m : Rec) : Int := toSigned 64 (bfld m 8 8) / 256

/-- Timestamp in the body of a PTP message, 1/256 ns. -/
def ptpStamp (m : Rec) : Int := ((bfld m 34 6 * 1000000000 + bfld m 40 4) * 256 : Nat)

/-- A PTP message of the configured domain, received at `ts` (R105, R107): Announce, Sync, Follow_Up, Delay_Resp.
In `sync` the first time is −1 while a Follow_Up is awaited; both are in 1/256 ns. -/
def ptpMessage (ts : Nat) (m : Rec) : Prog := .ask fun s =>
  let kind := bfld m 0 1 % 16
  if datumSource s ≠ 1 ∨ bfld m 4 1 ≠ fld (datumRec s) 1 1 then .skip
  else if kind = 0xB then ptpAnnounce (ext256 s ts / 256) m
  else if bfld m 20 10 ≠ s.datum.gmPort then .skip
  else if kind = 0 then .seq (stamp tkSync) (modDatum fun d => { d with
    syncSeq := bfld m 30 2
    sync := some (if (bfld m 6 1).testBit 1 then -1 else ptpStamp m + ptpCorr m, ext256 s ts - (if (bfld m 6 1).testBit 1 then ptpCorr m else 0)) })
  else if kind = 8 ∧ bfld m 30 2 = s.datum.syncSeq then modDatum fun d => { d with
    sync := d.sync.map fun p => if p.1 = -1 then (ptpStamp m + ptpCorr m, p.2) else p }
  else if kind = 9 ∧ (m.drop 44).take 10 = ownPort s ∧ bfld m 30 2 = s.datum.delaySeq then
    match s.datum.sync, s.datum.delayReq with
    | some (t1, t2), some t3 =>
      if t1 = -1 then .skip
      else
        let t4 := ptpStamp m - ptpCorr m
        let off := ((t2 - t1) - (t4 - t3)) / 2
        .seq (modDatum fun d => { d with
            sync := none, delayReq := none, pathDelay := (((t2 - t1) + (t4 - t3)) / 32).toNat % 2 ^ 32 })
          (servoMeasure (divRna off 256))
    | _, _ => .skip
  else .skip

/-- The ring entry is a type 5 response of action 0x02. -/
def isOwdResponse (f : Rec) : Bool := etherType f == 0xAEFE && bfld (payload f) 5 1 == 2

/-- A type 5 request (R120): action 0x00 is answered with its receive timestamp, action 0x03 by a request of action
0x00; nothing is sent while TIME_VALID is 0. -/
def owdRequest (ts : Nat) (f : Rec) : Prog := .ask fun s =>
  let p := payload f
  let from_ := (f.drop 6).take 6
  whenP s.datum.timeValid (
    if bfld p 5 1 = 0 then ringSend (owdFrame s from_ (bfld p 4 1) 2 (stampBytes (ext256 s ts / 256)))
    else whenP (bfld p 5 1 == 3) (.seq (ringSend (owdFrame s from_ (bfld p 4 1) 0 (zeros 10)))
      (modDatum fun d => { d with owdSent := d.owdSent ++ [(bfld p 4 1, 1, -1)] })))

/-- Take the first ring entry of a kind. -/
def ringTake (want : Rec → Bool) (f : Nat → Rec → Prog) : Prog := .ask fun s =>
  match s.fh.ptpRing.find? fun e => want e.2 with
  | none => .skip
  | some e => .seq (modFh fun x => { x with ptpRing := x.ptpRing.erase e }) (f e.1 e.2)

/-- PTP_MESSAGE (R105, R106): firmware takes the oldest PTP message or one-way delay request of the PTP ring. -/
def execPtpMessage (s : State) : Host.Outcome State Fault Refusal :=
  done (whenP (fwRuns s) (ringTake (fun f => !isOwdResponse f) fun ts f =>
    if etherType f = 0x88F7 then ptpMessage ts (payload f) else owdRequest ts f)) s

/-- ECPRI_OWD_RESPONSE (R120): DELAY is the response's t2 minus the own t1, in ns; eight results are kept. -/
def execEcpriOwdResponse (s : State) : Host.Outcome State Fault Refusal :=
  done (whenP (fwRuns s) (ringTake isOwdResponse fun _ f =>
    let p := payload f
    let t2 : Int := (bfld p 6 6 * 1000000000 + bfld p 12 4 : Nat)
    match s.datum.owdSent.find? fun q => q.1 == bfld p 4 1 && q.2.2 != -1 with
    | none => .skip
    | some q => modDatum fun d => { d with
        owdSent := d.owdSent.erase q, owd := ((q.1, q.2.1, t2 - q.2.2) :: d.owd).take 8 })) s

/-- The period of Delay_Req, ns: 2^DELAY_REQ_LOG s. -/
def delayReqNs (s : State) : Nat := 1000000000 / 2 ^ (sfld (datumRec s) 26 1).natAbs

/-- DELAY_REQ_SEND (R105): a Delay_Req to the address MCAST_NONFWD selects. -/
def execDelayReqSend (s : State) : Host.Outcome State Fault Refusal :=
  let dst : Rec := if fbit (datumRec s) 3 1 3 then [0x01, 0x80, 0xC2, 0, 0, 0x0E] else [0x01, 0x1B, 0x19, 0, 0, 0]
  let seq := tget 0 s.fh.seqTx 0x10000
  done (whenP (fwRuns s && domOn s dDATUM && datumSource s == 1 && s.datum.gmBest != [] && elapsed s tkDelayReq (delayReqNs s)) (seqs
    [ stamp tkDelayReq, ringSend (macHeader s dst 7 0x88F7 ++ [0x01, 0x12] ++ netBytes 2 44 ++ leBytes 1 (fld (datumRec s) 1 1) ++ zeros 15 ++
      ownPort s ++ netBytes 2 seq ++ [1, 0x7F] ++ zeros 10),
      modFh fun f => { f with seqTx := tset f.seqTx 0x10000 ((seq + 1) % 65536) } ])) s

/-- A frame starts on the wire: TX_FRAMES and TX_BYTES count it with its FCS and padding to 64 bytes (04 R94). -/
def onWire (f : Rec) : Prog := seqs
  [ modFh fun x => { x with wire := [f] }, total blkFh 0 2 1, total blkFh 0 3 (max 64 (f.length + 4)) ]

/-- The frame is a type 5 request of the device. -/
def isOwdRequest (f : Rec) : Bool := etherType f == 0xAEFE && bfld (payload f) 5 1 == 0

/-- The frame with ten octets of its one-step timestamp inserted. -/
def insertStamp (f : Rec) (t : Int) : Rec := putAt f (f.length - (payload f).length + 6) (stampBytes t)

/-- PTP_TRANSMIT (R106, R120): the ring's oldest frame is launched as the next frame of the MAC and its timestamp is
returned; a type 5 request takes its timestamp as it leaves, or is not sent when the TOD reference is too old. No type 5
message is sent while TIME_VALID is 0. -/
def execPtpTransmit (capture fecPos : Nat) (s : State) : Host.Outcome State Fault Refusal :=
  done (whenP (s.fh.link == 3 && domOn s dDATUM) (
    match s.datum.ptpTx with
    | [] => .skip
    | f :: rest =>
      let ts := txStamp s capture fecPos
      let age := int32Diff (ts / 256) s.datum.tod.1
      let stale := isOwdRequest f && (decide (age < 0) || decide (1000000000 ≤ age))
      let t := extTotal s.datum.tod (ts / 256)
      .seq (modDatum fun d => { d with ptpTx := rest })
        (if etherType f = 0xAEFE ∧ s.datum.timeValid = false then .skip
        else if stale then modDatum fun d => { d with todStale := true }
        else if isOwdRequest f then seqs
          [ onWire (insertStamp f t),
            modDatum fun d => { d with
              todStale := false, ptpTs := [ts],
              owdSent := d.owdSent.map fun q =>
                if q.1 = bfld (payload f) 4 1 ∧ q.2.2 = -1 then (q.1, q.2.1, t) else q } ]
        else seqs
          [ onWire f,
            modDatum fun d => { d with
              ptpTs := [ts]
              delayReq := if etherType f = 0x88F7 then some (ext256 s ts) else d.delayReq
              delaySeq := if etherType f = 0x88F7 then bfld (payload f) 30 2 else d.delaySeq } ]))) s

/-- ANNOUNCE_TIMEOUT (R107): no Announce for three intervals or no Sync for 1 s. -/
def execAnnounceTimeout (s : State) : Host.Outcome State Fault Refusal :=
  done (whenP (fwRuns s && datumSource s == 1 && (s.datum.servo == 1 || s.datum.servo == 2) &&
      (elapsed s tkAnnounce s.datum.announceNs || elapsed s tkSync 1000000000))
    (.seq (modDatum fun d => { d with gmBest := [] }) (setServo 3))) s

/-- DATUM_HOLDOVER_EXPIRED (R107): HOLDOVER has lasted longer than HOLDOVER_LIMIT. -/
def execDatumHoldoverExpired (s : State) : Host.Outcome State Fault Refusal :=
  done (whenP (fwRuns s && s.datum.servo == 3 && !s.datum.holdExpired && elapsed s tkHoldover (1000000000 * fld (datumRec s) 12 4))
    (.seq (modDatum fun d => { d with holdExpired := true }) (raise (evCode 4 4) noUnit []))) s

/-! ### Pulses per second (R117 to R119) -/

/-- The dtap, 0 to 127, of a DATUM cycle at which the counter with its fraction passes a target (R96, R117, R118). -/
def edgeTap (s : State) (t : Nat) : Nat :=
  let inc := s.datum.incInt * 2 ^ 44 + s.datum.incFrac
  let past := (now s + 2 ^ 32 - t) % 2 ^ 32 * 2 ^ 44 + s.datum.frac.toNat
  (inc - past) * 128 / max 1 inc

/-- Level of CLK10M_OUT (R118): high for the first 50 ns after each multiple of 100 ns from the PPS_OUT edges. -/
def clk10Level (s : State) : Bool := s.datum.clk10m && decide (extNow s % 100 < 50)

/-- The rising edge of CLK10M_OUT in the last DATUM cycle, as its dtap. -/
def clk10Rise (s : State) : Option Nat :=
  let t := counterAt s (extNow s / 100 * 100)
  if s.datum.clk10m && crosses s t then some (edgeTap s t) else none

/-- PPS_OUT_EDGE: the counter crosses PPS_NEXT; the edge is placed by the fraction, and with CLK10M_EN the 10 MHz output
takes its phase. -/
def execPpsOutEdge (s : State) : Host.Outcome State Fault Refusal :=
  done (whenP (domOn s dDATUM && s.datum.timeValid && fbit (datumRec s) 3 1 0 && crosses s s.datum.ppsNext) (seqs
    [ modDatum fun d => { d with
        ppsOut := true, ppsRise := d.ppsNext, ppsTap := edgeTap s d.ppsNext, clk10m := d.clk10m || fbit (datumRec s) 3 1 1 },
      whenP (fwRuns s) writePpsNext ])) s

/-- PPS_OUT_FALL: PPS_OUT falls after PPS_WIDTH. -/
def execPpsOutFall (s : State) : Host.Outcome State Fault Refusal :=
  done (whenP (s.datum.ppsOut && due s (add32 s.datum.ppsRise (1000000 * fld (datumRec s) 24 2 : Nat)))
    (modDatum fun d => { d with ppsOut := false })) s

/-- Offset of an edge from its expected time: from the whole second when time is valid, else from 1 s after the last
edge. -/
def ppsOffset (s : State) : Int :=
  if s.datum.timeValid then (extNow s + 500000000) % 1000000000 - 500000000
  else if s.datum.ppsLimit.isSome then int32Diff (now s) (s.datum.ppsInTs + 1000000000) else 0

/-- PPS_IN_EDGE (R119): the selected edge is captured; an armed AT_PPS sets (S, 0), unless R111 refuses a step by then; under
SOURCE 2 the servo follows an edge within 1 ms of its expected time, and the timeout runs from it. -/
def execPpsInEdge (falling : Bool) (s : State) : Host.Outcome State Fault Refusal :=
  let off := ppsOffset s
  done (whenP (domOn s dDATUM && fbit (datumRec s) 3 1 2 == falling) (seqs
    [ modDatum fun d => { d with ppsInTs := now s, ppsInSeen := true },
      whenP (decide (off.natAbs ≤ 1000000)) (modDatum fun d => { d with ppsLimit := some (add32 (now s) 2000000000) }),
      whenP (fwRuns s) (match s.datum.atPps with
        | some n => .seq (modDatum fun d => { d with atPps := none })
            (whenP (!stepBarred s) (.seq (applyStep ((n : Int) * 1000000000)) (modDatum fun d => { d with timeValid := true })))
        | none => whenP (datumSource s == 2 && decide (off.natAbs ≤ 1000000)) (.seq
            (whenP (s.datum.servo == 0 || (s.datum.servo == 3 && !s.datum.stepRefused)) (setServo 1))
            (whenP (s.datum.timeValid || s.datum.ppsLimit.isSome) (servoMeasure off)))) ])) s

/-- PPS_IN_TIMEOUT (R119): the counter crosses the target 2 s after the last edge. -/
def execPpsInTimeout (s : State) : Host.Outcome State Fault Refusal :=
  done (whenP (s.datum.ppsLimit.any (crosses s)) (.seq (modDatum fun d => { d with ppsLimit := none })
    (whenP (fwRuns s && datumSource s == 2 && (s.datum.servo == 1 || s.datum.servo == 2)) (setServo 3)))) s

/-! ### Commands -/

/-- DATUM_STATUS (0x0301). -/
def cmdDatumStatus : CmdDef :=
  { op := 0x0301, kind := .r, len := fixed 1, fields := fun _ _ => [⟨0, 1, .bits 1⟩]
    answer := fun _ _ s =>
      let d := s.datum
      let e := extTime s (now s)
      (stOK, leBytes 1 d.servo ++
        leBytes 1 (bit d.timeValid + 2 * bit d.stepRefused + 4 * bit d.holdExpired + 8 * bit d.todStale + 16 * datumSource s) ++
        leSigned 2 d.utcOffset ++ leBytes 4 (now s) ++ leBytes 6 e.1 ++ zeros 2 ++ leBytes 4 e.2 ++
        leSigned 8 (d.offset.getD (-(2 ^ 63 : Int))) ++ leSigned 8 d.refusedOff ++ leSigned 4 (pptOf (incAhead s)) ++
        leBytes 4 d.pathDelay ++ leBytes 8 d.gmId ++ leBytes 1 d.gmClass ++ leBytes 1 d.stepsRemoved ++ zeros 2 ++
        cntBytes s blkDatum 0 4 ++ leBytes 4 (satBits s blkDatum 0 4))
    effect := fun _ r => whenP (fbit r 0 1 0) (clearCnts blkDatum 0 4) }

/-- Frame shift of a change of FRAME_OFFSET, ns (R111). -/
def frameShift (old new : Rec) : Int := divRna ((sfld new 16 4 - sfld old 16 4) * 3125) 384

/-- DATUM_CONFIG (0x0302): a change of FRAME_OFFSET is a step under R111 that moves no counter. -/
def cmdDatumConfig : CmdDef :=
  { op := 0x0302, kind := .n, len := fixed 28, doms := fun _ => [dDATUM], keys := fun _ => [0]
    fields := fun _ _ => [⟨0, 1, .uns 0 2⟩, ⟨1, 1, .uns 24 43⟩, ⟨2, 1, .uns 1 255⟩, ⟨3, 1, .bits 15⟩, ⟨4, 4, .uns 100 1000000⟩,
      ⟨8, 2, .uns 10 1000⟩, ⟨10, 2, .uns 10 1000⟩, ⟨12, 4, .uns 10 86400⟩, ⟨16, 4, .sgn (-1228799) 1228799⟩,
      ⟨20, 2, .sgn (-8000) 8000⟩, ⟨22, 2, .sgn (-8000) 8000⟩, ⟨24, 2, .uns 1 500⟩, ⟨26, 1, .sgn (-4) 0⟩, ⟨27, 1, .zero⟩]
    own := fun _ r s => if sfld r 16 4 ≠ sfld (datumRec s) 16 4 ∧ stepBarred s = true then stSTATE else stOK
    effect := fun _ r => .ask fun s => seqs
      [ setSetting 0x0302 0 r,
        whenP (sfld r 16 4 != sfld (datumRec s) 16 4) (seqs
          [stepConsequences 0, writePpsNext, raiseStepped 0 (frameShift (datumRec s) r)]),
        whenP (fld r 0 1 == 0) (setServo 0),
        whenP (fbit r 3 1 0 && !fbit (datumRec s) 3 1 0) writePpsNext,
        modDatum fun d => { d with ppsOut := d.ppsOut && fbit r 3 1 0, clk10m := d.clk10m && fbit r 3 1 1 } ] }

/-- DATUM_TIME_SET (0x0303). -/
def cmdDatumTimeSet : CmdDef :=
  { op := 0x0303, kind := .n, len := fixed 12, doms := fun _ => [dDATUM]
    fields := fun _ _ => [⟨0, 6, .any⟩, ⟨6, 2, .bits 1⟩, ⟨8, 4, .uns 0 999999999⟩]
    own := fun _ _ s => if datumSource s = 1 ∨ stepBarred s = true then stSTATE else stOK
    effect := fun _ r =>
      if fbit r 6 2 0 then modDatum fun d => { d with atPps := some (fld r 0 6) }
      else .seq (applyStep ((fld r 0 6 * 1000000000 + fld r 8 4 : Nat) : Int))
        (modDatum fun d => { d with timeValid := true }) }

/-- The step a DATUM_STEP asks for: the refused offset taken back, or STEP. -/
def stepAsked (r : Rec) (s : State) : Int := if fbit r 8 1 0 then -s.datum.refusedOff else sfld r 0 8

/-- DATUM_STEP (0x0304): STEP_REFUSED clears where the step or slew takes the refused offset back (R109). -/
def cmdDatumStep : CmdDef :=
  { op := 0x0304, kind := .n, len := fixed 12, doms := fun _ => [dDATUM]
    fields := fun _ r =>
      let top : Int := if fbit r 8 1 1 then 1000000 else 1000000000000000
      [⟨0, 8, .cond (fbit r 8 1 0 || (decide (-top ≤ sfld r 0 8) && decide (sfld r 0 8 ≤ top)))⟩, ⟨8, 1, .bits 3⟩] ++ rsv 9 3
    own := fun _ r s =>
      if s.datum.timeValid = false ∨ (fbit r 8 1 0 = true ∧ s.datum.stepRefused = false) then stSTATE
      else if fbit r 8 1 1 = false ∧ stepBarred s = true then stSTATE else stOK
    effect := fun _ r => .ask fun s =>
      let d := stepAsked r s
      let most := fld (datumRec s) 10 2
      seqs
        [ if fbit r 8 1 1 then
            .seq (modDatum fun x => { x with slew := d })
              (setInc (incOf (s.datum.freqAdj + (if 0 ≤ d then 1 else -1) * (1000 * most : Nat))))
          else applyStep (max 0 (extNow s + d)),
          whenP (s.datum.stepRefused && (fbit r 8 1 0 || decide ((s.datum.refusedOff + d).natAbs ≤ fld (datumRec s) 4 4))) (.seq (modDatum fun x => { x with stepRefused := false, refusedOff := 0 })
            (whenP (datumSource s != 0) (setServo 1))) ] }

/-- DATUM_FREQ_SET (0x0305). -/
def cmdDatumFreqSet : CmdDef :=
  { op := 0x0305, kind := .n, len := fixed 4, doms := fun _ => [dDATUM]
    fields := fun _ _ => [⟨0, 4, .sgn (-500000000) 500000000⟩]
    own := fun _ _ s => if datumSource s = 0 then stOK else stSTATE
    effect := fun _ r => .seq (setInc (incOf (sfld r 0 4))) (modDatum fun d => { d with freqAdj := sfld r 0 4 }) }

/-- ECPRI_OWD (0x0306). -/
def cmdEcpriOwd : CmdDef :=
  { op := 0x0306, kind := .n, len := fixed 4, doms := fun _ => [dDATUM]
    fields := fun _ r => [⟨0, 1, .uns 0 1⟩, ⟨1, 1, .cond (fld r 0 1 == 0 || fld r 1 1 == 0)⟩] ++ rsv 2 2
    own := fun _ r s => if fld r 0 1 = 0 ∧ (s.fh.link ≠ 3 ∨ s.datum.timeValid = false) then stSTATE else stOK
    answer := fun _ r s => if fld r 0 1 = 0 then (stOK, []) else
      (stOK, leBytes 1 s.datum.owd.length ++ zeros 3 ++ (s.datum.owd.map fun q =>
        leBytes 1 q.1 ++ leBytes 1 q.2.1 ++ zeros 2 ++ leSigned 8 q.2.2 ++ zeros 4).flatten)
    effect := fun _ r => .ask fun s =>
      if fld r 0 1 = 0 then .seq (ringSend (owdFrame s (peerMac s) (fld r 1 1) 0 (zeros 10)))
        (modDatum fun d => { d with owdSent := d.owdSent ++ [(fld r 1 1, 0, -1)] })
      else modDatum fun d => { d with owd := [] } }

end Sys2Proof.Machine
end

