-- ==== Sys2Proof/Machine/Reset.lean ====
section
/-! DEFINITION. The start of a reset (17_boot_firmware_profiles R381) and the loss of a domain's contents
(15_power_domains_kiln R331): what each leaves of every block. -/

namespace Sys2Proof.Machine

open Sys2Proof

/-! ### Bias outputs at their CLR_CODE (14 R304) -/

/-- A bias DAC that has not been configured: disabled, high impedance (14 R301). -/
def bias0 : Bias :=
  { span := 0, configured := false, target := 0, out := 0, cleared := false, short := false, openLoad := false
    compliance := false, nShort := 0, nOpen := 0, nComp := 0, phase := none, swap := none, clr := 0, since := 0, sampled := none }

/-- A DAC's record. -/
def biasDac (s : State) (n : Nat) : Bias := tget bias0 s.bias.dac n

/-- Change a DAC's record. -/
def modDac (n : Nat) (f : Bias → Bias) : Prog := modBias fun b => { b with dac := tmod bias0 b.dac n f }

/-- A configured output drives its CLR_CODE; one not configured stays as it is (14 R304). -/
def biasToClear (b : Bias) : Bias := if b.configured then { b with cleared := true, out := b.clr, swap := none, phase := none } else b

/-- Every configured output of every sheet to its CLR_CODE. -/
def biasAllClear : Prog := modBias fun b => { b with dac := b.dac.map fun p => (p.1, biasToClear p.2) }

/-- Sheet of a bias DAC (14 R301). -/
def dacSheet (n : Nat) : Nat := if n < 128 then n / 32 else (n - 128) / 4

/-- Every configured output of a sheet to its CLR_CODE, which it holds while its domain is not ON (14 R304). -/
def biasSheetClear (n : Nat) : Prog := modBias fun b => { b with
  dac := b.dac.map fun p => if dacSheet p.1 = n then (p.1, biasToClear p.2) else p }

/-! ### Converters that start and stop (11 R237) -/

/-- A converter that is OFF. -/
def conv0 : Conv := { state := 0, lastPos := 0, slices := [], visit := 0, disagree := 0, refusals := 0 }

/-- A converter. -/
def convOf (s : State) (n : Nat) : Conv := tget conv0 s.conv.conv n

/-- Change a converter. -/
def modConverter (n : Nat) (f : Conv → Conv) : Prog := modConv fun c => { c with conv := tmod conv0 c.conv n f }

/-- Sheet of a converter, none for the housekeeping converter (11 R235). -/
def convSheet (n : Nat) : Option Nat :=
  if n < 128 then some (n / 32) else if n < 144 then some ((n - 128) / 4) else if n < 256 then none else some ((n - 256) / 32)

/-- Global number of a sheet's local index. -/
def convNumber (sheet i : Nat) : Nat :=
  if i < 32 then 32 * sheet + i else if i < 36 then 128 + 4 * sheet + (i - 32) else 256 + 32 * sheet + (i - 36)

/-- The sheet leaves SLEEP, or its domain wakes: its converters enter INIT; a DAC's LFSR starts from its seed. -/
def convStart (sheet : Nat) : Prog := each (List.range 68) fun i =>
  modConverter (convNumber sheet i) fun c => { c with state := 1, visit := 0, disagree := 0, refusals := 0 }

/-- The sheet is in SLEEP, or its domain leaves ON: its converters are OFF. -/
def convStop (sheet : Nat) : Prog := modConv fun c => { c with
  lfsr := c.lfsr.filter fun p => convSheet p.1 != some sheet
  conv := c.conv.map fun p => if convSheet p.1 = some sheet then (p.1, { p.2 with state := 0, visit := 0 }) else p
  window := c.window.filter fun p => convSheet (p.1 / 32) != some sheet }

/-- The housekeeping converter is OFF; in INIT once its domain wakes (11 R237, R251). -/
def hkConvTo (state : Nat) : Prog := modConverter 144 fun c => { c with state := state, lastPos := 0, visit := 0, disagree := 0, refusals := 0 }

/-! ### Adaptation cycles (09 R199 to R207) -/

/-- A cycle of the path is under way: a lease granted to it whose capture is not judged, or a solution. -/
def dpdUnderWay (d : DpdSt) (p : Nat) : Bool :=
  (tget dpd0 d.path p).solving || d.orx.any fun o =>
    o.2.owner == 1 && o.2.path == some p && !o.2.mismatch && o.2.capture != 2

/-- A path whose cycle and waiting set are discarded: it waits, with the cycle CANCELLED. -/
def dpdHalt (d : DpdSt) (p : Nat) (q : DpdPath) : DpdPath := { q with
  lastReject := if dpdUnderWay d p then 9 else q.lastReject, solving := false, staged := none
  pending := q.pending && q.staged.isNone, state := if q.state = 3 ∨ q.state = 4 then 2 else q.state }

/-- A lease that runs on without the capture it was granted for. -/
def leaseIdle (o : Orx) : Orx := if o.owner = 1 ∧ o.mismatch = false then { o with capture := 2 } else o

/-- What the adapter held of a path's cycle is let go. -/
def cutCycle (p : Nat) (d : DpdSt) : DpdSt := { d with
  capture := d.capture.filter fun c => c.path != p
  orx := d.orx.map fun o => (o.1, if o.2.path = some p then leaseIdle o.2 else o.2) }

/-- DPDE leaves ON: every adaptation cycle ends with CANCELLED, paths wait, leases run to their end (15 R340, 09 R197). -/
def dpdLost : Prog := modDpd fun d => { d with
  capture := [], orx := d.orx.map fun o => (o.1, leaseIdle o.2), path := d.path.map fun p => (p.1, dpdHalt d p.1 p.2) }

/-! ### A reset starts (17 R381) -/

/-- Every departure of the link from UP discards every egress frame that is eligible and not started; queue 63's frames are eligible (04 R75, 18 R414). -/
def flushEligible : Prog := .ask fun s => seqs
  [ countN blkFh 0 8 (sumN (s.fh.egress.map fun q => (q.2.filter (·.eligible)).length) + s.mbx.queue63.length),
    modFh fun f => { f with egress := f.egress.map fun q => (q.1, q.2.filter fun d => !d.eligible) },
    modMbx fun m => { m with queue63 := [] } ]

/-- Every sheet's radio record after the start of a reset: SLEEP, no timer, no pattern, strobes inactive. -/
def radioReset (r : RadioSt) : RadioSt := { r with sheet := [] }

/-- A reset of a cause starts at t_0: outputs muted, sheets to SLEEP, transactions, queues and logs discarded, the
blocks of CTRL at their Reset values, the processor held until t_r (17 R381, 00 R12). -/
def startReset (cause : Nat) : Prog := seqs
  [ .ask fun s => whenP (s.fh.link == 3) flushEligible,
    modTx fun t => { t with hold := [], release := [], muted := [], rise := none, air := [], symOut := [], grid := [],
                            stateSlot := none, wave := [], pos := none, pipe := [] },
    modRx fun r => { r with zeroed := [], stateSlot := none, re := [], foAcc := [], states := [], marks := [], out := [], outHalf := none },
    modRadio radioReset,
    each (List.range 4) convStop,
    biasAllClear,
    modTxn fun _ => {},
    .upd .logReset, .upd (.capture []), .upd .evtReset,
    modMbx fun m => { m with ready := false, waiting := none, fifo := [], parked := [], last := [], inband := false,
                             queue31 := [], queue63 := [] },
    modFh fun f => { f with
      link := 0, mode := 0, rung := 0, falling := false, seqRx := [], seqTx := [], ptpRing := [], ulSyms := [] },
    modDatum fun d => { d with timeValid := false, ppsOut := false, clk10m := false, outlier := false, foreign := [], servo := 0, stepRefused := false, holdExpired := false,
                               offset := none, refusedOff := 0, acq := [], within := 0, beyond := 0, slew := 0,
                               atPps := none, sync := none, delayReq := none, gmBest := [], owd := [], owdSent := [],
                               ptpTx := [], cmpDl := [], cmpUl := [] },
    modRffe fun r => { r with master := [] },
    modDpd fun d => { d with
      orx := [], lastPath := [], capture := [], path := d.path.map fun p => (p.1, { dpdHalt d p.1 p.2 with state := 0, gT := none, alignStreak := 0 }) },
    modSurvey fun _ => {},
    modMash fun m => { m with refresh := [], lapsed := 0, held := false, skewCur := 0 },
    modKiln fun _ => {},
    modClk fun k => { spareUsed := k.spareUsed, lost := k.lost, bad := k.bad, good := k.good, stamps := k.stamps },
    stamp tkBoot,
    modEcc fun e => { err := e.err, poison := e.poison, remaps := e.remaps, degraded := 0, tmr := e.tmr,
                      tmrValid := e.tmrValid, tmrBad := e.tmrBad },
    modCap fun _ => {},
    wipeCnts blkLog, wipeCnts blkEvt, wipeCnts blkKiln, wipeCnts blkMem, wipeCnts blkMemAll,
    wipeCnts blkFlow, wipeCnts blkSurvey, wipeCnts blkD2d, wipeCnts blkBoot,
    modHost fun h => { h with hiHost := 0, hiCpu := 0, aoReady := false },
    modPwr fun p => { p with wakeAfter := none, req := none },
    modBoot fun b => { b with cause := cause, held := true, step := 0, stage := 0, profFailed := false, resetPending := false,
                              profRest := [], profIdx := 0, profPhase := 0, profTxn := 0, profGroup := [], fwStatus := none, skipped := 0,
                              failEntry := 0xFFFF, failStatus := 0, fwVersion := 0, runAbi := [] } ]

/-! ### A domain's contents are lost (15 R331, R336) -/

/-- First and end address of a memory's byte range held for a domain's initialization. -/
def fillAll (i : MemId) : Prog := .upd (.fill i 0 0x100000000)

/-- Registers of an address range back to their Reset values. -/
def wipeRegs (lo hi : Nat) : Prog := .upd (.dropRegs lo hi)

/-- The registers of TXDn that keep TX_PATH_SET, TX_SHEET_SET and DPD_PATH_SET, back to their Reset columns (00 R12). -/
def resetTxRegs (n : Nat) : Prog := .seq (setSetting 0x0707 n (txSheetReset n))
  (each (List.range 16) fun i =>
    .seq (setSetting 0x0703 (16 * n + i) (txPathReset (16 * n + i))) (setSetting 0x0902 (16 * n + i) (dpdPathReset (16 * n + i))))

/-- The registers of RXDn that keep RX_PATH_SET and RX_IMAGE_SET, back to their Reset columns (00 R12). -/
def resetRxRegs (n : Nat) : Prog := each (List.range 16) fun i =>
  .seq (setSetting 0x0803 (16 * n + i) (rxPathReset (16 * n + i))) (setSetting 0x0805 (16 * n + i) (leBytes 1 (16 * n + i) ++ zeros 35))

/-- The registers of SHEETn that keep TDD_STROBE_SET, back to their Reset columns (00 R12). -/
def resetStrobes (n : Nat) : Prog := each (List.range 4) fun j => setSetting 0x0B07 (4 * n + j) (strobeReset n j)

/-- The Mash engine loses its PLL or its domain leaves ON (07 R162): outstanding refreshes are discarded, pending marks stay,
and the estimates are lost. -/
def mashLost : Prog := modMash fun m => { m with est := [], refresh := [], staged := [] }

/-- The domain is unpowered: every register and memory of it loses its contents; on its next wake from OFF they read
their Reset values and the initialization of 15 R336. -/
def wipeDomain (d : Nat) : Prog :=
  if d = dMBX then seqs [modMbx fun _ => {}, fillAll .mailbox, wipeCnts blkMbx]
  else if d = dFH then seqs [modFh fun _ => {}, modSect fun _ => {}, fillAll .queue, wipeCnts blkFh, wipeCnts blkFlow,
    wipeCnts blkSect, wipeRegs 0x40100000 0x40110000]
  else if d = dDATUM then seqs [modDatum fun _ => {}, wipeCnts blkDatum]
  else if d = dGRAT then seqs [modGrat fun _ => {}, fillAll .weight, fillAll .tun, wipeCnts blkGrat,
    wipeRegs 0x40200000 0x40210000]
  else if d = dMASH then seqs [modMash fun m => { lapsed := m.lapsed, skewCur := m.skewCur },
    wipeCnts blkMash, wipeCnts blkMashPort]
  else if d = dDPDE then modDpd fun x => { x with
    orx := x.orx.map fun o => (o.1, { o.2 with index := 0, reserved := 0, recent := [] })
    lastPath := [], capture := [] }
  else if 8 ≤ d ∧ d < 12 then seqs [.upd (.fill .coef ((d - 8) * 0x40000) ((d - 7) * 0x40000)),
    modDpd fun x => { x with path := x.path.filter fun p => p.1 / 16 != d - 8 },
    modSurvey fun v => { v with fits := v.fits.filter fun p => p.1 / 16 != d - 8 },
    modTx fun x => { x with
      wave := x.wave.filter fun p => p.1 / 128 != d - 8
      pipe := x.pipe.filter fun p => p.1 / 16 != d - 8 },
    wipeUnit blkTxd (d - 8), wipeUnit blkDpd (d - 8), resetTxRegs (d - 8)]
  else if 12 ≤ d ∧ d < 16 then seqs [modRx fun x => { x with
      dc := x.dc.filter (fun p => p.1 / 16 != d - 12),
      level := x.level.filter (fun p => p.1 / 16 != d - 12), fo := x.fo.filter (fun p => p.1 / 8 != d - 12),
      foAcc := x.foAcc.filter (fun p => p.1 / 8 != d - 12), dcAcq := andNot x.dcAcq (sheetMask (d - 12)),
      dcLeft := x.dcLeft.filter (fun p => p.1 / 16 != d - 12), marks := x.marks.filter (fun p => p.1 / 16 != d - 12), out := x.out.filter (fun p => p.1 / 16 != d - 12),
      re := x.re.filter (fun p => p.1 / 128 != d - 12) },
    wipeUnit blkRxd (d - 12), resetRxRegs (d - 12)]
  else if 16 ≤ d ∧ d < 20 then seqs [modRadio fun r => { r with sheet := tdel r.sheet (d - 16) },
    modConv fun c => { c with
      conv := c.conv.filter (fun p => convSheet p.1 != some (d - 16))
      window := c.window.filter (fun p => convSheet (p.1 / 32) != some (d - 16))
      lfsr := c.lfsr.filter (fun p => convSheet p.1 != some (d - 16))
      wideSkew := c.wideSkew.filter (fun p => p.1 / 2 != d - 16), wideWindow := c.wideWindow.filter (fun p => p.1 / 2 != d - 16) },
    modDpd fun x => { x with orx := x.orx.map fun o => (o.1, if o.1 / 2 = d - 16 then { orx0 with service := o.2.service } else o.2) },
    biasSheetClear (d - 16),
    modRffe fun r => { r with master := r.master.filter fun p => p.1 / 2 != d - 16 },
    wipeUnit blkConv (d - 16), wipeUnit blkRs (d - 16), wipeUnit blkBias (d - 16), resetStrobes (d - 16)]
  else if d = dHK then .seq (modHk fun _ => {}) (modConv fun c => { c with conv := tdel c.conv 144 })
  else .skip

end Sys2Proof.Machine
end

