-- ==== Sys2Proof/Machine/Elements.lean ====
section
/-! DEFINITION. The elements of the array: the kiln's overlay (15 R356), the active elements (06 R143), and the bias outputs
that follow them (14 R301 to R308). -/

namespace Sys2Proof.Machine

open Sys2Proof

/-! ### The kiln's overlay (15 R356) -/

/-- Reset of KILN_CONFIG. -/
def kilnReset : Rec :=
  [0, 6, 8, 4, 0, 2] ++ leBytes 2 100 ++ leBytes 2 10 ++ [95, 10] ++
    [15, 0, 14, 1, 13, 2, 12, 3, 11, 4, 10, 5, 9, 6, 8, 7] ++ leBytes 2 760 ++ leBytes 2 816 ++ leBytes 2 864 ++ zeros 2

/-- KILN_CONFIG record in force. -/
def kilnRec (s : State) : Rec := setting s 0x0210 0 kilnReset

/-- AUTO mode. -/
def kilnAuto (s : State) : Bool := fld (kilnRec s) 0 1 == 1

/-- KILN_BUDGET_SET record in force. -/
def budgetRec (s : State) : Rec :=
  setting s 0x0211 0 ([1, 0] ++ leBytes 2 0 ++ leBytes 4 20000 ++ leBytes 4 500000 ++ leBytes 4 100000 ++ zeros 4 ++
    leBytes 4 0 ++ leBytes 4 500000)

/-- BURST, mJ. -/
def burst (s : State) : Nat := fld (budgetRec s) 4 4

/-- OFF_SET of a list of steps. -/
def offSetOf (steps : List (Option Nat)) : Nat := maskOf (distinct (steps.filterMap id))

/-- LAYER_CAP of a list of steps. -/
def layerCapOf (steps : List (Option Nat)) : Nat := 16 - (steps.filter (·.isNone)).length

/-- OFF_SET in force. -/
def offSet (s : State) : Nat := offSetOf s.kiln.steps

/-- LAYER_CAP in force. -/
def layerCap (s : State) : Nat := layerCapOf s.kiln.steps

/-- The element is switched off by the kiln in a direction (0 downlink, 1 uplink): in the directions with which the set in
force was applied, so that the active elements change at the boundaries of 01 R24 alone (assumption log 84). -/
def kilnOff (s : State) (dir e : Nat) : Bool := s.kiln.dirs.testBit (1 + dir) && (offSet s).testBit (e % 16)

/-! ### Active elements (06 R143) -/

/-- Elements of isolated sheets. -/
def isoSheets (s : State) : Nat := maskOf ((List.range 64).filter fun e => s.clk.isoSheet.testBit (e / 16))

/-- Elements isolated under class 0x01 or 0x08 in a direction (18 R416). -/
def isoMask (s : State) (dir : Nat) : Nat := (if dir = 0 then s.clk.isoTx else s.clk.isoRx) ||| isoSheets s

/-- The element is in the array before the kiln acts: fitted, its sheet in service, not isolated. -/
def elIn (s : State) (dir e : Nat) : Bool :=
  pathFit s e && inService s (uSHEET (e / 16)) && !(isoMask s dir).testBit e

/-- The element is active in a direction. -/
def elActive (s : State) (dir e : Nat) : Bool := elIn s dir e && !kilnOff s dir e

/-- Mask of active elements. -/
def activeMask (s : State) (dir : Nat) : Nat := maskOf ((List.range 64).filter (elActive s dir))

/-! ### Bias outputs (14 R301 to R308) -/

/-- Top code of a bias DAC. -/
def topCode (n : Nat) : Nat := if n < 128 then 4095 else 1023

/-- BIAS_SET record in force. -/
def biasRec (s : State) (n : Nat) : Rec :=
  setting s 0x0C01 n (leBytes 1 n ++ [0, 0, 0xFF] ++ zeros 6 ++ leBytes 2 (topCode n) ++ zeros 8)

/-- ENABLE of a bias DAC's record in force. -/
def biasEnable (s : State) (n : Nat) : Bool := fbit (biasRec s n) 1 1 0

/-- Element a DAC serves. -/
def biasElement (s : State) (n : Nat) : Option Nat :=
  let i := fld (biasRec s n) 3 1
  if i < 16 then some (16 * dacSheet n + i) else none

/-- The effective code before its window (R303): θ is 200 until the sheet first latches. -/
def biasWanted (s : State) (n : Nat) : Int :=
  let r := biasRec s n
  (fld r 4 2 : Int) + divRna (sfld r 14 2 * ((tfind s.survey.latched (dacSheet n)).getD 200 - 200)) 256

/-- The effective code. -/
def biasEff (s : State) (n : Nat) : Nat :=
  let r := biasRec s n
  (min (max (biasWanted s n) (fld r 8 2 : Nat)) (fld r 10 2 : Nat)).toNat

/-- A DAC drives CLR_CODE: a bias clear is in force, its element is isolated or switched off and it follows that, or its
domain is not ON (R304, R308, R310). -/
def biasHeld (s : State) (n : Nat) : Bool :=
  let f := fld (biasRec s n) 1 1
  s.bias.clear.testBit (dacSheet n) || !domOn s (dSHEET (dacSheet n)) ||
    match biasElement s n with
    | some e => (f.testBit 1 && (isoMask s 0 ||| isoMask s 1).testBit e) || (f.testBit 2 && kilnOff s 0 e)
    | none => false

/-- Full scale of a span: mV of a voltage DAC, µA of a current DAC, and its codes. -/
def biasScale (n span : Nat) : Nat × Nat :=
  if n < 128 then ((match span with
    | 0 => 1600
    | 1 => 2500
    | _ => 5000), 4096)
  else ((match span with
    | 0 => 2000
    | 1 => 10000
    | _ => 40000), 1024)

/-- A DAC drives its CLR_CODE, or is moving through it. -/
def biasCleared (b : Bias) : Bool := b.cleared || b.phase.isSome || b.swap.isSome

/-- Codes that an output under a SLEW has moved `e` ns after the start of its change: held for the 250 ns of the deglitcher, then
without limit for a SLEW of 0 (R305). -/
def biasMoved (n span slew d e : Nat) : Nat :=
  if e < 250 then 0 else if slew = 0 then d
  else min d (slew * (e - 250) * (biasScale n span).2 / (1000 * (biasScale n span).1))

/-- The code that a DAC drives now (R305). -/
def biasOut (s : State) (n : Nat) : Nat :=
  let b := biasDac s n
  if !b.configured || !biasEnable s n || biasCleared b then b.out
  else
    let m := biasMoved n b.span (fld (biasRec s n) 12 2) ((b.target : Int) - b.out).natAbs (upNs s - b.since)
    if b.out ≤ b.target then b.out + m else b.out - m

/-- A DAC's effective code is formed anew; a clamp counts once in LIMIT_CLAMP. An output on its way goes on from where it is. -/
def biasRefresh (n : Nat) : Prog := .ask fun s => .seq
  (whenP (biasWanted s n != (biasEff s n : Int)) (count blkBias (dacSheet n) 1))
  (modDac n fun b => if b.target = biasEff s n then b else { b with target := biasEff s n, out := biasOut s n, since := upNs s })

/-- A configured DAC starts or ends driving its CLR_CODE. -/
def biasJudge (s : State) (n : Nat) (b : Bias) : Bias :=
  if !b.configured || !biasEnable s n || b.cleared == biasHeld s n then b
  else if biasHeld s n then { b with cleared := true, out := b.clr } else { b with cleared := false, since := upNs s }

/-- Every DAC follows what clears it. -/
def biasFollow : Prog := .ask fun s => modBias fun x => { x with dac := x.dac.map fun p => (p.1, biasJudge s p.1 p.2) }

/-- The effective codes of a sheet's DACs are formed anew at a temperature latch (R303). -/
def biasSheet (n : Nat) : Prog := .ask fun s =>
  each ((s.bias.dac.map (·.1)).filter fun k => dacSheet k == n && (biasDac s k).configured && biasEnable s k) biasRefresh

end Sys2Proof.Machine
end

