-- ==== Sys2Proof/Machine/Active.lean ====
section
/-! DEFINITION. What is active beyond the elements: the layers shed by the fronthaul (04 R79, R80), and the isolation of
failed parts (01 R42). -/

namespace Sys2Proof.Machine

open Sys2Proof

/-! ### Flows and shedding (04 R79, R80, R87, R89) -/

/-- Reset of FH_FLOW_SET. -/
def flowReset (f : Nat) : Rec := leBytes 1 f ++ zeros 6 ++ [0x91] ++ leBytes 2 250 ++ [7, 0] ++ zeros 4

/-- FH_FLOW_SET record in force. -/
def flowRec (s : State) (f : Nat) : Rec := setting s 0x0403 f (flowReset f)

def flowValid (r : Rec) : Bool := fbit r 1 1 0
/-- DIR: 0 downlink, 1 uplink. -/
def flowDir (r : Rec) : Nat := slice (fld r 1 1) 1 1
/-- KIND: 0 DATA, 1 PRACH, 2 SRS. -/
def flowKind (r : Rec) : Nat := slice (fld r 1 1) 3 2
def flowDyn (r : Rec) : Bool := fbit r 1 1 4
def flowEaxc (r : Rec) : Nat := fld r 2 2
def flowCar (r : Rec) : Nat := fld r 4 1
def flowLayer (r : Rec) : Nat := fld r 5 1
def flowQueue (r : Rec) : Nat := fld r 6 1
def flowComp (r : Rec) : Nat := fld r 7 1
/-- UP_WIN_OPEN in µs. -/
def flowWin (r : Rec) : Nat := fld r 8 2
def flowPcp (r : Rec) : Nat := fld r 10 1
def flowOffset (r : Rec) : Nat := fld r 12 4

/-- Width W of a compression format, none where R87 does not support it. -/
def compWidth (c : Nat) : Option Nat :=
  if c = 0x00 then some 16
  else if c % 16 = 1 ∧ [8, 9, 12, 14].contains (c / 16) = true then some (c / 16) else none

/-- Bytes per PRB under a format (R80); for a format R87 does not list the manual gives none (assumption log 10). -/
def prbBytes (c : Nat) : Nat :=
  match compWidth c with
  | some 16 => 48
  | some w => 1 + 3 * w
  | none => Config.otherPrbBytes c

/-- Carrier record of a direction. -/
def dirCar (s : State) (dir c : Nat) : Rec := if dir = 0 then txCar s c else rxCar s c

/-- VALID flows: number and record. -/
def flows (s : State) : List (Nat × Rec) :=
  ((List.range 256).map fun f => (f, flowRec s f)).filter fun p => flowValid p.2

/-- MTU in force. -/
def mtu (s : State) : Nat := fld (linkRec s) 4 2

/-- PRB_MAX of a format (R80). -/
def prbMax (s : State) (c : Nat) : Nat := (mtu s - 20) / prbBytes c

/-- Load of a flow in bits per second (R80). -/
def flowLoad (s : State) (r : Rec) : Nat :=
  let car := dirCar s (flowDir r) (flowCar r)
  let b := prbBytes (flowComp r)
  14000 * 2 ^ carMu car * 8 * (ceilDiv (carPrb car) (prbMax s (flowComp r)) * 62 + carPrb car * b)

/-- Nominal MAC rate of a lane mode, Gb/s (R73). -/
def modeRate (m : Nat) : Nat :=
  match m with
  | 1 => 25
  | 2 => 100
  | 3 => 100
  | 4 => 200
  | 5 => 200
  | 6 => 400
  | _ => 0

/-- Lanes of a lane mode. -/
def modeLanes (m : Nat) : Nat :=
  match m with
  | 1 => 1
  | 2 => 4
  | 3 => 2
  | 4 => 4
  | 5 => 2
  | 6 => 4
  | _ => 0

/-- Mode of a rung. -/
def rungMode (s : State) (i : Nat) : Nat := fld (linkRec s) (8 + i) 1

/-- Lane set of a rung. -/
def rungLanes (s : State) (i : Nat) : Nat := fld (linkRec s) (12 + i) 1

/-- The load, in bits per second, fits 100ths of a rate in Gb/s. -/
def fitsRate (pct rate load : Nat) : Bool := decide (load * 100 ≤ pct * rate * 1000000000)

/-- Layers of a direction kept on a rung's mode (R79): the largest number whose DATA flows fit beside PRACH and SRS. -/
def layersKept (s : State) (dir mode : Nat) : Nat :=
  let fs := (flows s).filter fun p => flowDir p.2 == dir
  let fixedLoad := sumN ((fs.filter fun p => flowKind p.2 != 0).map fun p => flowLoad s p.2)
  let data := (fs.filter fun p => flowKind p.2 == 0).map fun p => (flowLayer p.2, flowLoad s p.2)
  let fits := fun n => fitsRate (fld (linkRec s) 3 1) (modeRate mode)
    (fixedLoad + sumN ((data.filter fun p => decide (p.1 < n)).map (·.2)))
  (((List.range 17).filter fits).getLast?).getD 0

/-- Lowest layer shed on the current rung. -/
def shedNow (s : State) (dir : Nat) : Nat := layersKept s dir (rungMode s s.fh.rung)

/-- Layers of a direction left by the shedding in force and the kiln (R79, 15 R360). -/
def layersLeft (s : State) (dir : Nat) : Nat :=
  min (nLayers s) (min (layerCap s) (if dir = 0 then s.fh.shedDl else s.fh.shedUl))

/-- A layer is active in a direction. -/
def layerActive (s : State) (dir l : Nat) : Bool := decide (l < layersLeft s dir)

/-! ### Isolations and restorations (01 R42, R24) -/

/-- The slices of a converter once a failed one gives its position to the spare (11 R245). -/
def spareTakes (l : List Slice) (k : Nat) : List Slice :=
  match l[k]?, (l.zipIdx.find? fun p => p.1.pos == 0xFF && !p.1.failed) with
  | some f, some (_, i) =>
    if f.pos = 0xFF then l else setNth (setNth l i { (l.getD i f) with pos := f.pos }) k { f with pos := 0xFF }
  | _, _ => l

/-- 8,192 + 0j in every entry of table 1 of both banks of a path, over zeros: the identity set (09 R189, R190). -/
def identityEntries (p : Nat) : Prog :=
  each [0, 1] fun b => each (List.range 64) fun i => .upd (.poke .coef (p * 0x4000 + b * 0x2000 + 256 + 4 * i + 1) 0x20)

/-- Adaptation state of a path whose sets are the identity set, SET_NO 0 (09 R191). -/
def identityPath (p : DpdPath) : DpdPath :=
  { p with setNo := 0, pending := false, gT := none, staged := none, bypass := false, beta := [], betaNext := [] }

/-- What the survey measured of an element in a direction is gone: its corrections, fits, tracking and failures. -/
def forgetSurvey (dir e : Nat) (v : SurveySt) : SurveySt :=
  let k := 64 * dir + e
  { v with
    elem := tmod elem0 v.elem e fun x =>
      if dir = 0 then { x with txCorr := 0, txDelay := 0, txDrift := 0, rho := 0 } else { x with rxCorr := 0, rxDelay := 0, rxDrift := 0, rho := 0 }
    fits := tdel v.fits k, trackA := tdel v.trackA k, tracked := tdel v.tracked k, base := tdel v.base k
    failStreak := tdel v.failStreak e, noSignal := tdel v.noSignal e, lastMeas := tdel v.lastMeas e
    steep := v.steep.map fun q => if q.dir = dir then { q with items := q.items.filter fun i => i.1 != e, base := q.base.filter fun i => i.1 != e } else q }

/-- An element that is isolated in a direction loses what the device measured of it and adapted for it, so that its restoration
carries no state from before (01 R42). -/
def forgetElem (dir e : Nat) : Prog := .seq (modSurvey (forgetSurvey dir e))
  (if dir = 0 then seqs
    [ .upd (.fill .coef (e * 0x4000) ((e + 1) * 0x4000)), identityEntries e,
      modDpd fun d => { d with path := tmod dpd0 d.path e identityPath } ]
  else .seq
    (modRx fun x => { x with dc := tdel x.dc e, dcLeft := tdel x.dcLeft e, marks := tdel x.marks e, level := tdel x.level e, irr := tdel x.irr e })
    (modMash fun m => { m with est := m.est.map fun p => (p.1, { p.2 with iq := setNth p.2.iq e (0, 0) }) }))

/-- What an isolation takes with it: of an element in the directions it names, of a receiver, of a sheet's elements. -/
def isoForget (cls part : Nat) : Prog :=
  let n := part % 256
  if cls = 1 then .seq (whenP (part / 256 % 2 == 1) (forgetElem 0 n)) (whenP (part / 512 % 2 == 1) (forgetElem 1 n))
  else if cls = 7 then modDpd fun d => { d with
    corr := tdel d.corr n, orx := tmod orx0 d.orx n fun o => { o with recent := [] } }
  else if cls = 8 then each (List.range 16) fun i => .seq (forgetElem 0 (16 * n + i)) (forgetElem 1 (16 * n + i))
  else .skip

/-- What an isolation (KIND 2) or restoration (KIND 3) of a part changes, but for the bias outputs that follow it. Class 0x01 codes the direction above the
element's number: 256 transmit, 512 receive; class 0x06 its earliest boundary above bit 16; classes 0x07 and 0x08 the REASON
above the number. -/
def isoChange (b kind cls part : Nat) : Prog :=
  let on := kind = 2
  let setM := fun (m bits : Nat) => if on then m ||| bits else andNot m bits
  if cls = 1 then modClk fun k => { k with
    isoTx := if part / 256 % 2 = 1 then setM k.isoTx (2 ^ (part % 256)) else k.isoTx,
    isoRx := if part / 512 % 2 = 1 then setM k.isoRx (2 ^ (part % 256)) else k.isoRx }
  else if cls = 2 then whenP on (modConv fun c => { c with
    conv := match tfind c.conv (part / 64) with
      | some v => tset c.conv (part / 64) { v with slices := spareTakes v.slices (part % 64) }
      | none => c.conv })
  else if cls = 3 then .seq (modEcc fun e => { e with
      remaps := tmod [] e.remaps (part / 4096) fun l => l.map fun r =>
        if r.spare = part % 4096 then { r with inUse := true, switchNs := b } else r })
    (count blkMem (part / 4096) 4)
  else if cls = 6 then .ask fun s => modFh fun f => { f with shedDl := shedNow s 0, shedUl := shedNow s 1 }
  else if cls = 7 then .seq (setReason (uORX (part % 256)) (if on then part / 256 else 0))
    (modOrx (part % 256) fun o => { o with service := if !on then 0 else if part / 256 = 3 then 1 else 2 })
  else if cls = 8 then seqs
    [ modClk fun k => { k with isoSheet := setM k.isoSheet (2 ^ (part % 256)) },
      setReason (uSHEET (part % 256)) (if on then part / 256 else 0),
      modSheet (part % 256) fun r => { r with outOfService := on } ]
  else .skip

/-- An isolation or restoration with the bias outputs that follow it (14 R308). -/
def isoEffect (b kind cls part : Nat) : Prog := seqs
  [isoChange b kind cls part, whenP (kind == 2) (isoForget cls part), whenP (cls == 1 || cls == 8) biasFollow]

/-- Number of the part in the log. -/
def isoUnit (cls part : Nat) : Nat := if cls = 1 ∨ cls = 7 ∨ cls = 8 then part % 256 else part % 65536

/-- An isolation or restoration applies at datum time `b` and is logged (01 R38, R39). The change of the shed set of
class 0x06 is judged here: nothing is logged when it changes nothing, and its KIND follows what it does (04 R79). -/
def applyIso (b boundary kind cls part : Nat) : Prog := .ask fun s =>
  let log := fun k => logCommit b k boundary (isoUnit cls part) 0 0 (leBytes 2 (isoUnit cls part) ++ leBytes 1 cls) cls
  if cls = 6 then
    let more := decide (shedNow s 0 < s.fh.shedDl) || decide (shedNow s 1 < s.fh.shedUl)
    let less := decide (s.fh.shedDl < shedNow s 0) || decide (s.fh.shedUl < shedNow s 1)
    whenP (more || less) (.seq (isoEffect b kind cls part)
      (if more then log 2 else logCommit b 3 boundary 0xFFFF 0 0 (leBytes 2 0xFFFF ++ [6]) 6))
  else .seq (isoEffect b kind cls part) (log kind)

/-- A part is to be isolated or restored: at the next slot boundary of the lowest-numbered committed carrier, or at once
with no carrier committed (01 R42, assumption log 23). -/
def isolate (kind cls part : Nat) : Prog := .ask fun s =>
  if cars s = [] then applyIso (now s) 0 kind cls part else queueIso kind cls part

/-- Slots queued for a boundary at `b` that are due. -/
def isoDue (b : Nat) (q : Nat × Nat × Nat) : Bool := q.2.1 != 6 || decide (0 ≤ int32Diff b (q.2.2 / 65536))

/-! ### Symbols received before a commit (03 R63) -/

/-- What the uplink processing reads now. -/
def ulNow (s : State) : UlView :=
  { cfg := s.cfg, regs := s.regs, elem := s.survey.elem, bank := s.grat.bank, beamCopy := s.grat.beamCopy, isoRx := s.clk.isoRx
    isoSheet := s.clk.isoSheet, reason := s.clk.reason, steps := s.kiln.steps, dirs := s.kiln.dirs, shedUl := s.fh.shedUl }

/-- The state with those values in place of its own. -/
def seenWith (s : State) (v : UlView) : State :=
  { s with
    cfg := v.cfg, regs := v.regs
    survey := { s.survey with elem := v.elem }
    grat := { s.grat with bank := v.bank, beamCopy := v.beamCopy }
    clk := { s.clk with isoRx := v.isoRx, isoSheet := v.isoSheet, reason := v.reason }
    kiln := { s.kiln with steps := v.steps, dirs := v.dirs }
    fh := { s.fh with shedUl := v.shedUl } }

/-- Uplink symbols whose time lies before a boundary, and that keep no values yet, keep these. -/
def keepUl (v : UlView) (b : Nat) : Prog := modFh fun f => { f with
  ulSyms := f.ulSyms.map fun u => if u.view = none ∧ int32Diff u.air b < 0 then { u with view := some v } else u }

/-- Uplink symbols whose time lies before a commit's boundary keep the settings of before it (03 R63). -/
def holdUl (b : Nat) : Prog := .ask fun s => keepUl (ulNow s) b

end Sys2Proof.Machine
end

