-- ==== Sys2Proof/Machine/Power.lean ====
section
/-! DEFINITION. Power domains, rails and the always-on supply (15_power_domains_kiln R330 to R343, R361), with the
triplicated words the sequencer reads at power-up (16_memory_integrity R376). -/

namespace Sys2Proof.Machine

open Sys2Proof

/-! ### Triplicated words (16 R376) -/

/-- Bitwise majority of three copies. -/
def majority (c : Nat × Nat × Nat) : Nat := (c.1 &&& c.2.1) ||| (c.1 &&& c.2.2) ||| (c.2.1 &&& c.2.2)

/-- A triplicated word as a read returns it. -/
def tmrWord (s : State) (i : Nat) : Nat := majority (tget (0, 0, 0) s.ecc.tmr i)

/-- CRC-32 over words 0 to 22. -/
def tmrCrc (t : Tab (Nat × Nat × Nat)) : Nat :=
  crc32 ((List.range 23).map fun i => leBytes 4 (majority (tget (0, 0, 0) t i))).flatten

/-- Three equal copies. -/
def tmrPut (t : Tab (Nat × Nat × Nat)) (i v : Nat) : Tab (Nat × Nat × Nat) := tset t i (v % 2 ^ 32, v % 2 ^ 32, v % 2 ^ 32)

/-- Write words: each in three copies, word 23 updated after them, the words valid from the first write on. -/
def tmrWrite (ws : List (Nat × Nat)) : Prog := modEcc fun e =>
  let t := ws.foldl (fun t w => tmrPut t w.1 w.2) e.tmr
  { e with tmr := tmrPut t 23 (tmrCrc t), tmrValid := true }

/-- One copy of a word differs from the majority. -/
def tmrSplit (c : Nat × Nat × Nat) : Bool := c.1 != majority c || c.2.1 != majority c || c.2.2 != majority c

/-- Reading every word: copies that differ are rewritten and counted in TMR_FIX. -/
def tmrScan : Prog := .ask fun s =>
  .seq (countN blkMemAll 0 0 (s.ecc.tmr.filter fun p => tmrSplit p.2).length)
    (modEcc fun e => { e with tmr := e.tmr.map fun p => (p.1, majority p.2, majority p.2, majority p.2) })

/-- Event 2 of R342: the words are read; without a matching word 23 they are set to 0 and not valid. The sequencer then
counts the power-up in word 22 (assumption log 9). -/
def tmrPowerUp : Prog := .seq tmrScan (.ask fun s =>
  let ok := tmrWord s 23 == tmrCrc s.ecc.tmr
  modEcc fun e =>
    let t := if ok then e.tmr else []
    let t' := tmrPut t 22 (majority (tget (0, 0, 0) t 22) + 1)
    { e with tmr := tmrPut t' 23 (tmrCrc t'), tmrValid := ok, tmrBad := !ok })

/-! ### Orders and casks (15 R330, R335) -/

/-- Domains in the order their power switches close (15 R335). -/
def wakeOrder : List Nat := [1, 2, 20, 4, 3, 5, 6, 7, 16, 17, 18, 19, 8, 9, 10, 11, 12, 13, 14, 15]

/-- Position of a domain in the wake order. -/
def wakePos (d : Nat) : Nat := wakeOrder.idxOf d

/-- First cask and number of casks of a domain (15 R330). -/
def casksOf (d : Nat) : Nat × Nat :=
  if d = dCTRL then (0, 8) else if d = dFH then (8, 16) else if d = dGRAT then (24, 64)
  else if 8 ≤ d ∧ d < 12 then (88 + (d - 8), 1) else (0, 0)

/-- Domain of a cask. -/
def caskDom (k : Nat) : Nat := if k < 8 then dCTRL else if k < 24 then dFH else if k < 88 then dGRAT else dTXD (k - 88)

/-- Bytes of a cask: memory code and range (15 R330, 16 R362). -/
def caskRange (k : Nat) : Nat × Nat × Nat :=
  if k < 8 then (0, k * 0x40000, (k + 1) * 0x40000)
  else if k < 24 then (2, (k - 8) * 0x40000, (k - 7) * 0x40000)
  else if k < 88 then (3, (k - 24) * 0x40000, (k - 23) * 0x40000)
  else (6, (k - 88) * 0x40000, (k - 87) * 0x40000)

/-- KEEP mask of a domain. -/
def keepMask (s : State) (d : Nat) : Nat := tget (2 ^ 64 - 1) s.pwr.keep d

/-- RETFAIL bits of a domain's casks, as the KEEP field lays them out. -/
def retfailOf (s : State) (d : Nat) : Nat := s.pwr.retfail / 2 ^ (casksOf d).1 % 2 ^ (casksOf d).2

/-- Bytes of a memory stand as initialization leaves them: no error, no poison, and no tracking entry (16 R366, R372). -/
def cleanBytes (code lo hi : Nat) : Prog := modEcc fun e => { e with
  poison := e.poison.filter fun x => !(x.1 == code && decide (lo ≤ x.2.1) && decide (x.2.2 ≤ hi))
  err := e.err.filter fun x => !(x.1 / 2 ^ 32 == code && decide (lo ≤ x.1 % 2 ^ 32) && decide (x.1 % 2 ^ 32 < hi))
  track := tmod [] e.track code fun l => l.filter fun t => !(decide (lo ≤ t.unit * 8) && decide (t.unit * 8 < hi)) }

/-- The words of a cask written afresh: filled as initialization fills them, with valid check bits. -/
def freshCask (k : Nat) : Prog :=
  let r := caskRange k
  .seq (cleanBytes r.1 r.2.1 r.2.2)
    (if r.1 = 3 then .upd (.fill .weight r.2.1 r.2.2)
      else if r.1 = 6 then .upd (.fill .coef r.2.1 r.2.2)
      else if r.1 = 2 then modSect fun t => { t with
        entries := t.entries.filter (fun x => !(decide (r.2.1 ≤ x.1 * 64) && decide (x.1 * 64 < r.2.2))) }
      else .skip)

/-- Clear the contents of one cask to its initialization value and end its RETFAIL (15 R336, R337). -/
def clearCask (k : Nat) : Prog :=
  .seq (modPwr fun p => { p with retfail := andNot p.retfail (2 ^ k) }) (freshCask k)

/-! ### Leaving ON (15 R330, R332, R333) -/

/-- A domain may leave ON (15 R330); `mask` is the request's. -/
def mayLeave (s : State) (mask d : Nat) : Bool :=
  if d = dCTRL ∨ d = dMBX then
    mask.testBit 1 && mask.testBit 2 &&
      (List.range 21).all fun k => k = dAO || k = dCTRL || k = dMBX || k = dDATUM || k = dHK || !domOn s k || mask.testBit k
  else if d = dFH then s.fh.link == 0
  else if d = dDATUM then allSleep s && s.txn.live.all fun t => t.state != .committed
  else if d = dGRAT then allSleep s && !(domOn s dMASH && !mask.testBit dMASH) && !(domOn s dDPDE && !mask.testBit dDPDE)
  else if 8 ≤ d ∧ d < 20 then (sh s (d % 4)).state == .sleep
  else true

/-- TAP and PATH_MASK of a capture request (18 R417). -/
def capTap (r : Rec) : Nat := fld r 1 1
def capPaths (r : Rec) : List Nat := setBits 64 (fld r 4 8)

/-- Domains of what a capture request names, beside GRAT. -/
def capDoms (r : Rec) : List Nat :=
  let n := fun p => p / 16
  if capTap r = 5 then [dSHEET (fld r 12 1 / 2)]
  else if capTap r = 3 ∨ capTap r = 4 then distinct ((capPaths r).map fun p => dTXD (n p))
  else distinct ((capPaths r).map fun p => dRXD (n p))

/-- A capture is aborted when GRAT, or the domain of what it captures, leaves ON (18 R418). -/
def captureLost (d : Nat) : Prog := .ask fun s =>
  let hit := fun c : CapSlot => (c.state == 1 || c.state == 2) && (d == dGRAT || (capDoms c.req).contains d)
  whenP (s.cap.slots.any fun p => hit p.2) (modCap fun c => { c with
    slots := c.slots.map fun p => (p.1, if hit p.2 then { p.2 with state := 4, abort := 1 } else p.2) })

/-- Consequences of leaving ON that R340 names. -/
def leaveConsequences (d : Nat) : Prog :=
  if d = dDATUM then .ask fun s =>
    let pend := sumN (s.fh.egress.map fun q => q.2.length)
    seqs
      [ modRadio fun r => { r with sheet := r.sheet.map fun p => (p.1, { p.2 with timers := [] }) },
        modDatum fun x => { x with cmpDl := [], cmpUl := [] },
        modFh fun f => { f with egress := [] },
        modMbx fun m => { m with queue63 := [] },
        modRffe fun r => { r with master := r.master.map fun m => (m.1, { m.2 with crit := m.2.crit.filter fun q => q.tag == 0 }) },
        countN blkFh 0 8 (pend + s.mbx.queue63.length) ]
  else if d = dMASH then mashLost
  else if d = dDPDE then dpdLost
  else if 16 ≤ d ∧ d < 20 then .seq (convStop (d - 16)) (biasSheetClear (d - 16))
  else if d = dHK then hkConvTo 0
  else .skip

/-- A domain starts to leave ON: its bridge is quiesced; from RETENTION to OFF there is nothing to quiesce (15 R332). -/
def beginLeave (d target : Nat) : Prog := .ask fun s =>
  let st := domSt s d
  if st == .on then
    seqs
      [ modPwr fun p => { p with
          from_ := tset p.from_ d .on, to_ := tset p.to_ d target, dom := tset p.dom d .quiescing },
        stamp d, leaveConsequences d, captureLost d ]
  else if st == .retention && target == 0 then
    modPwr fun p => { p with
      from_ := tset p.from_ d .retention, to_ := tset p.to_ d 0, dom := tset p.dom d .drained }
  else .skip

/-- Another domain that must drain first is still quiescing: leaving runs in reverse wake order (15 R335). -/
def drainBlocked (s : State) (d : Nat) : Bool :=
  (List.range 21).any fun k => k != d && domSt s k == .quiescing && decide (wakePos d < wakePos k)

/-- A domain has drained or stays ON: the next of its request is asked to quiesce (R333, R335). -/
def quiesced (dom : Nat) (v : DomState) : Prog := .seq (setDom dom v)
  (each (List.range 21) fun k => .ask fun s => whenP (domSt s k == .quiescing) (stamp k))

/-- DRAIN_COMPLETE (R333 event 3). -/
def execDrainComplete (dom : Nat) (s : State) : Host.Outcome State Fault Refusal :=
  done (whenP (domSt s dom == .quiescing && !drainBlocked s dom) (quiesced dom .drained)) s

/-- The running request fails for a domain (15 R361). -/
def failDomain (d status : Nat) : Prog := modPwr fun p => { p with
  req := p.req.map fun r => if r.mask.testBit d then { r with failed := r.failed ||| 2 ^ d, failStatus := status } else r }

/-- A transfer aborted under FORCE reaches its requester as a bus error (R334), by the codes of 19 R431: the host port flags it, a
Mash refresh is discarded (07 R162), an adaptation cycle is CANCELLED (09 R204). A shadow load meets a domain that is not ON
(03 R69), and a capture has ended with its domain. -/
def busAbort (x : Nat × Nat) : Prog :=
  if x.1 = 5 then modHost fun h => { h with err := h.err ||| 16, errAddr := if h.err = 0 then x.2 else h.errAddr }
  else if x.1 = 3 then modMash fun m => { m with refresh := [], staged := [] }
  else if x.1 = 4 then dpdLost
  else .skip

/-- Drain time of a domain, ns. -/
def drainNs (s : State) (d : Nat) : Nat := 100 * tget 20 s.pwr.drain d

/-- DRAIN_TIMEOUT_EXPIRY (R333 events 4 and 5) with the transfers left: requester code and address of each. -/
def execDrainTimeoutExpiry (dom : Nat) (left : List (Nat × Nat)) (s : State) : Host.Outcome State Fault Refusal :=
  let force := (s.pwr.req.map fun r => r.force && r.mask.testBit dom).getD false
  done (whenP (domSt s dom == .quiescing && !drainBlocked s dom && elapsed s dom (drainNs s dom) && left != [])
    (if force then seqs
      [ each left fun x => seqs [count blkPwr 0 1, raise (evCode 2 3) dom [x.1, x.2], busAbort x], quiesced dom .drained ]
    else seqs
      [ quiesced dom .on, count blkPwr 0 0, raise (evCode 2 2) dom [], failDomain dom stDRAIN_TIMEOUT,
        whenP (dom == dCTRL || dom == dMBX) (each [dCTRL, dMBX] fun k => .ask fun t =>
          .seq (whenP (domSt t k == .quiescing || domSt t k == .drained) (setDom k .on))
            (modPwr fun p => { p with req := none })) ])) s

/-! ### The save list (15 R339) -/

/-- An entry that has not been written. -/
def save0 : SaveEntry := { addr := 0, mask := 0, value := 0, captured := false }

/-- Capture the masked values of a domain's entries. -/
def saveCapture (d : Nat) : Prog := .ask fun s => modPwr fun p => { p with
  save := p.save.map fun x =>
    if x.2.addr ≠ 0 ∧ addrDom x.2.addr = d then
      (x.1, { x.2 with value := plainPeek s x.2.addr &&& x.2.mask, captured := true }) else x }

/-- DOMAIN_OFF: clamps, then the power switch opens; into OFF the save list is captured and the contents are lost. -/
def execDomainOff (dom : Nat) (s : State) : Host.Outcome State Fault Refusal :=
  let toOff := tget 2 s.pwr.to_ dom == 0
  let both := !(dom == dCTRL || dom == dMBX) ||
    ((domSt s dCTRL == .drained || domSt s dCTRL == .off || domSt s dCTRL == .retention) &&
      (domSt s dMBX == .drained || domSt s dMBX == .off || domSt s dMBX == .retention))
  done (whenP (domSt s dom == .drained && both) (seqs
    [ whenP toOff (saveCapture dom),
      whenP toOff (wipeDomain dom),
      whenP (dom == dMBX) (modHost fun h => { h with aoReady := false }),
      whenP (dom == dCTRL) (stamp tkRetention),
      setDom dom (if toOff then .off else .retention),
      .ask fun t => whenP (!domOn t dCTRL && !domMoving t dCTRL && !domMoving t dMBX) (modPwr fun p => { p with req := none }) ])) s

/-! ### Waking (15 R332, R335 to R340) -/

/-- A domain earlier in the order still waits for its switch. -/
def switchBlocked (s : State) (d : Nat) : Bool :=
  (List.range 21).any fun k => k != d && domSt s k == .waiting && decide (wakePos k < wakePos d) &&
    !((k == dMASH || k == dDPDE) && !domOn s dGRAT)

/-- MASH and DPDE close their switches only once GRAT is ON (15 R330). -/
def needsGrat (s : State) (d : Nat) : Bool := (d == dMASH || d == dDPDE) && !domOn s dGRAT

/-- POWER_SWITCH_CLOSE (15 R335): 5 us after the switch before it. If GRAT did not reach ON, MASH and DPDE stay as they were and are reported failed. -/
def execPowerSwitchClose (dom : Nat) (s : State) : Host.Outcome State Fault Refusal :=
  done (whenP (domSt s dom == .waiting && s.pwr.fio && !switchBlocked s dom && elapsed s tkSwitch 5000)
    (if needsGrat s dom then
      whenP (!domMoving s dGRAT) (.seq (setDom dom (tget .off s.pwr.from_ dom)) (failDomain dom stOK))
    else seqs [setDom dom .switched, stamp dom, stamp tkSwitch])) s

/-- Casks of a domain that initialization covers: all from OFF, those not kept from RETENTION. -/
def initCasks (s : State) (d : Nat) : List Nat :=
  let c := casksOf d
  (List.range c.2).filterMap fun i =>
    if tget .off s.pwr.from_ d == .off || !(keepMask s d).testBit i then some (c.1 + i) else none

/-- Memories of a domain that hold no casks: initialized on every wake (15 R336). -/
def initUncasked (d : Nat) : Prog :=
  if d = dMBX then .seq (fillAll .mailbox) (cleanBytes 1 0 0x10000)
  else if d = dFH then .seq (fillAll .queue) (cleanBytes 5 0 0xC00000)
  else if d = dGRAT then .seq (fillAll .tun) (cleanBytes 4 0 0x2000000) else .skip

/-- Time that a domain's memories take to initialize, ns: 64 bytes for each FIO cycle of 6.25 ns, the memories in parallel. -/
def initNs (s : State) (d : Nat) : Nat :=
  max ((initCasks s d).length * 0x40000) (if d = dMBX then 0x10000 else if d = dFH then 0xC00000 else if d = dGRAT then 0x2000000 else 0) * 25 / 256

/-- MEMORY_INIT_DONE (15 R336): memories initialized with valid check bits. -/
def execMemoryInitDone (dom : Nat) (s : State) : Host.Outcome State Fault Refusal :=
  done (whenP (domSt s dom == .switched && elapsed s dom (initNs s dom)) (seqs
    [ each (initCasks s dom) clearCask, initUncasked dom,
      setDom dom (if tget .off s.pwr.from_ dom == .retention then .inited else .scrubbed) ])) s

/-- Casks of a domain the wake scrub reads: those kept. -/
def keptCasks (s : State) (d : Nat) : List Nat :=
  let c := casksOf d
  (List.range c.2).filterMap fun i => if (keepMask s d).testBit i then some i else none

/-- WAKE_SCRUB_DONE (15 R337, R338), after 204.8 us for each four casks kept: `bad` marks the domain's casks whose canary changed or that hold an uncorrectable
word. A RETFAIL cask is poisoned throughout; processor SRAM resets the device, the section table is cleared. -/
def execWakeScrubDone (dom bad : Nat) (s : State) : Host.Outcome State Fault Refusal :=
  let failing := (keptCasks s dom).filter fun i => bad.testBit i
  let c := casksOf dom
  done (whenP (domSt s dom == .inited && elapsed s dom (((keptCasks s dom).length + 3) / 4 * 204800)) (seqs
    [ each failing fun i => .seq
        (modPwr fun p => { p with retfail := p.retfail ||| 2 ^ (c.1 + i) })
        (modEcc fun e => { e with poison := e.poison ++ [caskRange (c.1 + i)] }),
      whenP (dom == dFH) (each failing fun i => clearCask (c.1 + i)),
      setDom dom .restored,
      whenP (dom == dCTRL && failing != []) (.seq (startReset 0x07) (setDom dCTRL .scrubbed)) ])) s

/-- SAVELIST_RESTORE (15 R339): captured values written back in list order; `bad` lists the entries read with an
uncorrectable error. -/
def execSavelistRestore (dom : Nat) (bad : List Nat) (s : State) : Host.Outcome State Fault Refusal :=
  let mine := s.pwr.save.filter fun x => x.2.addr != 0 && addrDom x.2.addr == dom && x.2.captured
  done (whenP (domSt s dom == .scrubbed) (seqs
    [ each mine fun x =>
        if bad.contains x.1 then .seq (count blkPwr 0 2) (raise (evCode 2 4) dom [x.1])
        else regPoke x.2.addr x.2.value x.2.mask,
      setDom dom .restored ])) s

/-- The sets TXDs does not bring back: the identity set in both banks, SET_NO 0, the polynomials with it, a KIND 0x09 record
due for each path (09 R191). -/
def identitySheet (n : Nat) : Prog := seqs
  [ freshCask (88 + n),
    each (List.range 16) fun i => identityEntries (16 * n + i),
    modDpd fun d => { d with
      path := d.path.map fun p =>
        if p.1 / 16 = n then (p.1, identityPath p.2) else p,
      identity := d.identity ||| sheetMask n } ]

/-- The link setting of 17 R396 waits for FH: in ROM safe mode, and after a profile failed with the link DISABLED (R395). -/
def safeLinkDue (s : State) : Bool :=
  romSafeRuns s || (s.boot.profFailed && fld (linkRec s) 0 1 == 1 && fld (linkRec s) 22 6 == 0)

/-- Consequences of entering ON (15 R340, 05 R100). -/
def wakeConsequences (s : State) (d : Nat) : Prog :=
  let cold := tget .off s.pwr.from_ d == .off
  if d = dDATUM then .seq
    (modDatum fun x => { x with
      timeValid := false, ref := if cold then (0, 0, 0) else x.ref, cmpDl := [], cmpUl := [] })
    (modClk fun k => { k with aligned := false })
  else if d = dFH then .seq (modFh fun f => { f with link := bit (safeLinkDue s), mode := bit (safeLinkDue s) }) (modSect fun _ => {})
  else if 8 ≤ d ∧ d < 12 then whenP (cold || s.pwr.retfail.testBit (88 + (d - 8))) (identitySheet (d - 8))
  else if 16 ≤ d ∧ d < 20 then .seq (convStart (d - 16)) biasFollow
  else if d = dHK then .seq (hkConvTo 1) (modHk fun h => { h with chan := h.chan.filter fun p => decide (32 ≤ p.1), idx := 0 })
  else .skip

/-- Memories of a domain, whose sparge pass restarts when it returns to ON (16 R371). -/
def domCodes (d : Nat) : List Nat :=
  if d = dCTRL then [0] else if d = dMBX then [1] else if d = dFH then [2, 5] else if d = dGRAT then [3, 4]
  else if 8 ≤ d ∧ d < 12 then [6] else []

/-- PWR.STATE code of the state a domain came from. -/
def fromCode (s : State) (d : Nat) : Nat := if tget .off s.pwr.from_ d == .retention then 1 else 0

/-- DOMAIN_ON: the bridge is released and the domain enters ON with the consequences of R340; PWR_WAKE is raised with
the previous state and the mask of its RETFAIL casks (15 R337). -/
def execDomainOn (dom : Nat) (s : State) : Host.Outcome State Fault Refusal :=
  done (whenP (domSt s dom == .restored || (domSt s dom == .inited && (casksOf dom).2 == 0)) (seqs
    [ setDom dom .on,
      wakeConsequences s dom,
      whenP (dom == dCTRL) (modKiln fun k => { k with creditUj := 1000 * (burst s : Int) }),
      modEcc fun e => { e with pos := (domCodes dom).foldl tdel e.pos },
      .ask fun t => raise (evCode 2 1) dom
        [fromCode s dom, (retfailOf t dom % 2 ^ 32 : Nat), (retfailOf t dom / 2 ^ 32 : Nat)] ])) s

/-- WAKE_AFTER_EXPIRY (15 R340): CTRL and MBX wake from RETENTION. WAKE_AFTER runs from CTRL's entry (DEDUCED, assumption log
87). -/
def execWakeAfterExpiry (s : State) : Host.Outcome State Fault Refusal :=
  done (whenP (s.pwr.wakeAfter.any (fun ms => elapsed s tkRetention (1000000 * ms)) && domSt s dCTRL == .retention) (seqs
    [ modPwr fun p => { p with wakeAfter := none }, beginWake dCTRL, beginWake dMBX ])) s

/-- FIO_START (15 R335): FIO runs for a pending wake, and stops once every other domain is in RETENTION or OFF. -/
def execFioStart (s : State) : Host.Outcome State Fault Refusal :=
  let waiting := (List.range 21).any fun k => domSt s k == .waiting
  let allDown := (List.range 20).all fun k => domSt s (k + 1) == .off || domSt s (k + 1) == .retention
  done (if waiting then modPwr fun p => { p with fio := true }
    else whenP (allDown && s.pwr.aoUp) (modPwr fun p => { p with fio := false })) s

/-! ### The always-on supply and the rails (15 R341 to R343) -/

/-- The rails are all up. -/
def railsUp (s : State) : Bool := s.pwr.pseqPg == 0x7F

/-- POWER_UP: VAO_IN rises through 4.4 V and the AO regulator starts. -/
def execPowerUp (s : State) : Host.Outcome State Fault Refusal :=
  done (whenP (!s.pwr.aoUp && !s.pwr.aoRising) (.seq (modPwr fun p => { p with aoRising := true, riseCause := 1 }) (stamp tkRise))) s

/-- Every domain but AO loses its power at once, without quiescing and without a capture (15 R343). -/
def forceAllOff : Prog := .seq (each wakeOrder wipeDomain) (modPwr fun p => { p with dom := [], req := none })

/-- AO_UNDERVOLTAGE_LOCKOUT: VAO_IN falls through 4.1 V; the enables fall in turn and always-on memory is lost except
the triplicated words. Fuses, flash and pins are outside the supply. -/
def execAoUndervoltageLockout (s : State) : Host.Outcome State Fault Refusal :=
  done (whenP (s.pwr.aoUp || s.pwr.aoRising) (seqs
    [ forceAllOff, startReset 0, .upd .clearCfg, wipeRegs 0 0x100000000, wipeCnts blkPwr,
      modPwr fun _ => {},
      modHost fun _ => {},
      modEcc fun e => { tmr := e.tmr },
      modBias fun b => { pinLow := b.pinLow },
      modClk fun _ => {},
      modBoot fun b => { profPins := b.profPins, resetLow := b.resetLow, testEn := b.testEn, slotImg := b.slotImg,
                         profImg := b.profImg, slotReason := b.slotReason, profReason := b.profReason } ])) s

/-- AO_LOGIC_RELEASE: the AO logic runs on the RC oscillator, the triplicated words are read by majority, FIO starts and
PSEQ_EN0 rises (15 R342 events 2 and 3). -/
def execAoLogicRelease (s : State) : Host.Outcome State Fault Refusal :=
  done (whenP (s.pwr.aoRising && !s.pwr.aoUp && elapsed s tkRise 1000000) (seqs
    [ modPwr fun p => { p with aoUp := true, aoRising := false, fio := true, pseqEn := 1 }, stamp tkRail,
      tmrPowerUp ])) s

/-- CTRL, MBX and HK wake from OFF; CTRL's wake is a reset (15 R342 event 5, 17 R379). -/
def railsWake : Prog := .ask fun s => seqs
  [ beginWake dCTRL, beginWake dMBX, beginWake dHK, startReset s.pwr.riseCause,
    whenP (!s.boot.resetLow) (modBoot fun b => { b with profLatched := b.profPins }) ]

/-- POWER_GOOD_HELD: PSEQ_PGk has been high for 100 us (15 R342 events 4 and 5). -/
def execPowerGoodHeld (rail : Nat) (s : State) : Host.Outcome State Fault Refusal :=
  done (whenP (decide (rail < 7) && s.pwr.pseqEn.testBit rail && !s.pwr.pseqPg.testBit rail && elapsed s tkRail 100000) (seqs
    [ stamp tkRail, modPwr fun p => { p with
        pseqPg := p.pseqPg ||| 2 ^ rail, pseqEn := if rail < 6 then p.pseqEn ||| 2 ^ (rail + 1) else p.pseqEn },
      whenP (rail == 6) railsWake ])) s

/-- RAIL_FAULT (15 R343 steps 1 to 3): every domain but AO is forced OFF, the enables drop, FAULT_N is asserted. The third
fault within 10 minutes keeps the rails down. Words 4 to 6 of the triplicated words take the count and times in a
packing the manual does not give (free values, assumption log 9). -/
def execRailFault (rail : Nat) (s : State) : Host.Outcome State Fault Refusal :=
  let times := (upNs s :: s.pwr.railTimes).take 3
  let third := times.length == 3 && decide (upNs s - times.getLastD 0 ≤ 600000000000)
  done (whenP (decide (rail < 7) && s.pwr.pseqEn.testBit rail) (seqs
    [ forceAllOff,
      modPwr fun p => { p with
        pseqEn := 0, pseqPg := 0, rail := rail, railFault := true, railWait := !third, railHeld := third,
        railTimes := times, riseCause := 6 },
      modBias fun b => { b with dac := [] },
      setFault 4,
      tmrWrite [(4, freeNow s), (5, freeAt s 1), (6, freeAt s 2)], drawFree, drawFree, drawFree,
      raiseFl 2 (evCode 2 5) noUnit [rail] ])) s

/-- RAIL_RESTART_TIMEOUT (15 R343 step 4): R342 from event 3, a reset of cause RAIL_FAULT. -/
def execRailRestartTimeout (s : State) : Host.Outcome State Fault Refusal :=
  done (whenP (s.pwr.railWait && !s.pwr.railHeld && s.pwr.railTimes.head?.all fun t => decide (t + 100000000 ≤ upNs s))
    (.seq (modPwr fun p => { p with railWait := false, fio := true, pseqEn := 1, riseCause := 6 }) (stamp tkRail))) s

/-- PWR_CTRL_RESTART: a host write of PWR.CTRL.RESTART restarts the rails after the third rail fault (15 R343). -/
def pwrRestart : Prog := .ask fun s => whenP s.pwr.railHeld
  (.seq (modPwr fun p => { p with railHeld := false, railTimes := [], fio := true, pseqEn := 1, riseCause := 6 }) (stamp tkRail))

def execPwrCtrlRestart (s : State) : Host.Outcome State Fault Refusal := done pwrRestart s

/-- A host write of PWR.CTRL.WAKE (15 R340): from RETENTION CTRL and MBX wake; from OFF the wake is a reset of cause
WAKE_FROM_OFF. -/
def pwrWake : Prog := .ask fun s =>
  if domSt s dCTRL == .retention then .seq (beginWake dCTRL) (beginWake dMBX)
  else whenP (domSt s dCTRL == .off && railsUp s) (seqs [startReset 0x09, beginWake dCTRL, beginWake dMBX])

def execPwrCtrlWake (s : State) : Host.Outcome State Fault Refusal := done pwrWake s

/-! ### Commands of class 0x02 on power domains (15 R361) -/

/-- A requested transition is allowed (15 R330, R332): STATE, BUSY or OK for one named domain. -/
def domCheck (s : State) (mask target d : Nat) : Nat :=
  if domMoving s d then stBUSY
  else
    let st := domSt s d
    if target = 2 then
      (if st = .on then stOK
       else if (d = dMASH ∨ d = dDPDE) ∧ domOn s dGRAT = false ∧ mask.testBit dGRAT = false then stSTATE else stOK)
    else if target = 1 then (if st = .off then stSTATE else if st = .retention then stOK
      else if mayLeave s mask d then stOK else stSTATE)
    else (if st = .off then stOK else if st = .retention then stOK else if mayLeave s mask d then stOK else stSTATE)

/-- Domains of a mask. -/
def maskDoms (m : Nat) : List Nat := setBits 21 m

/-- First status other than OK. -/
def firstBad : List Nat → Nat
  | [] => stOK
  | a :: t => if a = stOK then firstBad t else a

/-- PWR_DOMAIN_SET (0x0201). -/
def cmdPwrDomainSet : CmdDef :=
  { op := 0x0201, kind := .n, parked := true, len := fixed 20
    fields := fun s r =>
      let m := fld r 0 4
      [ ⟨0, 4, .bits 0x1FFFFE⟩, ⟨0, 4, .cond (m != 0)⟩, ⟨4, 1, .uns 0 2⟩, ⟨5, 1, .bits 7⟩, ⟨6, 2, .uns 1 10000⟩,
        ⟨16, 4, .uns 0 86400000⟩,
        ⟨16, 4, .cond (fld r 16 4 == 0 || (fld r 4 1 == 1 && m.testBit dCTRL))⟩,
        ⟨0, 4, .fit ((maskDoms m).all fun d => domFit s d)⟩ ]
    own := fun _ r s =>
      let m := fld r 0 4
      if s.pwr.req.isSome then stBUSY
      else firstBad ((maskDoms m).map fun d => domCheck s m (fld r 4 1) d)
    effect := fun _ r => .ask fun _ =>
      let m := fld r 0 4
      let target := fld r 4 1
      let ctrl := m.testBit dCTRL && target != 2
      let now_ := (maskDoms m).filter fun d => !(ctrl && (d == dCTRL || d == dMBX))
      seqs
        [ whenP (fbit r 5 1 1) (modPwr fun p => { p with
            drain := (maskDoms m).foldl (fun t d => tset t d (fld r 6 2)) p.drain }),
          whenP (fbit r 5 1 2) (modPwr fun p => { p with
            keep := (maskDoms m).foldl (fun t d => tset t d (fld r 8 8)) p.keep }),
          modPwr fun p => { p with
            req := some { mask := m, target := target, force := fbit r 5 1 0, failed := 0, failStatus := 0 },
            wakeAfter := if fld r 16 4 = 0 then none else some (fld r 16 4) },
          each now_ fun d => if target = 2 then beginWake d else beginLeave d target ]
    ready := fun r s => (maskDoms (fld r 0 4)).all fun d => !domMoving s d
    finish := fun _ r _ _ s =>
      let m := fld r 0 4
      let q := s.pwr.req.getD { mask := m, target := fld r 4 1, force := false, failed := 0, failStatus := 0 }
      let ctrl := m.testBit dCTRL && fld r 4 1 != 2
      (if q.failStatus = stDRAIN_TIMEOUT then stDRAIN_TIMEOUT else stOK,
       leBytes 4 q.failed ++ leBytes 1 q.failStatus ++ zeros 3,
       if ctrl then .seq (beginLeave dCTRL (fld r 4 1)) (beginLeave dMBX (fld r 4 1))
       else modPwr fun p => { p with req := none })
    clashes := fun r op r2 => (op == 0x0201 && (fld r 0 4 &&& fld r2 0 4) != 0) || (op == 0x0203 && (fld r 0 4).testBit (caskDom (fld r2 0 1))) }

/-- PWR_STATUS (0x0202). -/
def cmdPwrStatus : CmdDef :=
  { op := 0x0202, kind := .r, len := fixed 1, fields := fun _ _ => [⟨0, 1, .bits 1⟩]
    answer := fun _ _ s => (stOK,
      ((List.range 21).map fun d => leBytes 1 (if domFit s d then domCode s d else 0)).flatten ++ zeros 3 ++
        leBytes 12 s.pwr.retfail ++ cntBytes s blkPwr 0 3 ++ leBytes 4 (satBits s blkPwr 0 3))
    effect := fun _ r => whenP (fbit r 0 1 0) (clearCnts blkPwr 0 3) }

/-- PWR_CASK_CLEAR (0x0203). -/
def cmdPwrCaskClear : CmdDef :=
  { op := 0x0203, kind := .n, len := fixed 4
    fields := fun s r => [⟨0, 1, .uns 0 91⟩, ⟨0, 1, .fit (domFit s (caskDom (fld r 0 1)))⟩] ++ rsv 1 3
    doms := fun r => [caskDom (fld r 0 1)]
    effect := fun _ r => clearCask (fld r 0 1) }

/-- PWR_SAVELIST_SET (0x0204). -/
def cmdPwrSavelistSet : CmdDef :=
  { op := 0x0204, kind := .n, len := fun r => 4 + 8 * fld r 2 1
    fields := fun _ r => [⟨0, 2, .uns 0 255⟩, ⟨2, 1, .uns 1 20⟩, ⟨2, 1, .cond (decide (fld r 0 2 + fld r 2 1 ≤ 256))⟩, ⟨3, 1, .zero⟩] ++
      (List.range (fld r 2 1)).map fun i =>
        let a := fld r (4 + 8 * i) 4
        ⟨4 + 8 * i, 4, .cond (a == 0 || (a % 4 == 0 && decide (0x40000000 ≤ a) && decide (a ≤ 0x40FFFFFC)))⟩
    effect := fun _ r => each (List.range (fld r 2 1)) fun i => modPwr fun p => { p with
      save := tset p.save (fld r 0 2 + i)
        { addr := fld r (4 + 8 * i) 4, mask := fld r (8 + 8 * i) 4, value := 0, captured := false } } }

/-- PWR_SAVELIST_GET (0x0205). -/
def cmdPwrSavelistGet : CmdDef :=
  { op := 0x0205, kind := .r, len := fixed 3
    fields := fun _ r => [⟨0, 2, .uns 0 255⟩, ⟨2, 1, .uns 1 16⟩, ⟨2, 1, .cond (decide (fld r 0 2 + fld r 2 1 ≤ 256))⟩]
    answer := fun _ r s => (stOK, ((List.range (fld r 2 1)).map fun i =>
      let e := tget save0 s.pwr.save (fld r 0 2 + i)
      leBytes 4 e.addr ++ leBytes 4 e.mask ++ leBytes 4 (if e.captured then e.value else 0)).flatten) }

end Sys2Proof.Machine
end

