-- ==== Sys2Proof/Machine/Boot.lean ====
section
/-! DEFINITION. Reset, boot ROM, firmware slots, fuses and images (17_boot_firmware_profiles R378 to R391, R396, R398,
R464). -/

namespace Sys2Proof.Machine

open Sys2Proof

/-! ### Reset sources (17 R378 to R381, R398; 20 R460) -/

/-- RESET: a reset of a cause starts at t_0. -/
def execReset (cause : Nat) (s : State) : Host.Outcome State Fault Refusal :=
  done (whenP (domOn s dCTRL || domMoving s dCTRL) (startReset (cause % 256))) s

/-- RESET_N_ASSERT: a low level of 1 us or longer is accepted, one shorter than 100 ns ignored; between the two the
manual does not say, and a free value decides (assumption log 11). -/
def execResetNAssert (lowNs : Nat) (s : State) : Host.Outcome State Fault Refusal :=
  let accept := Prog.seq (modBoot fun b => { b with resetLow := true }) (whenP (domOn s dCTRL) (startReset 0x02))
  done (if lowNs < 100 then .skip
    else if 1000 ≤ lowNs then accept
    else .seq drawFree (whenP ((freeNow s).testBit 0) accept)) s

/-- RESET_N_RELEASE: the rising edge latches PROF0 and PROF1 and frees the processor. -/
def execResetNRelease (prof : Nat) (s : State) : Host.Outcome State Fault Refusal :=
  done (whenP s.boot.resetLow (.seq (modBoot fun b => { b with
    resetLow := false, profPins := prof % 4, profLatched := prof % 4 }) (stamp tkBoot))) s

/-- WATCHDOG_EXPIRY (R380): 1 s without service by firmware, 5 s by the boot ROM. -/
def execWatchdogExpiry (s : State) : Host.Outcome State Fault Refusal :=
  done (whenP (domOn s dCTRL && !s.boot.held && elapsed s tkBoot (if fwRuns s then 1000000000 else 5000000000)) (startReset 0x04)) s

/-- LOCKSTEP_MISMATCH: the fault latches and a reset of cause LOCKSTEP starts. -/
def execLockstepMismatch (s : State) : Host.Outcome State Fault Refusal :=
  done (whenP (domOn s dCTRL && !s.boot.held)
    (seqs [setFault 3, raiseFl 2 (evCode 0 8) noUnit [], startReset 0x05])) s

/-- COMMAND_RESET_TIMEOUT: 1 ms after the response of the command that asked for it. -/
def execCommandResetTimeout (s : State) : Host.Outcome State Fault Refusal :=
  done (whenP (s.boot.resetPending && elapsed s tkCommand 1000000) (startReset 0x03)) s

/-- TEST_EN_CHANGE (20 R460): high holds the device as if RESET_N were low, low releases it as a reset of cause PIN and
holds the TAP in Test-Logic-Reset. -/
def execTestEnChange (high : Bool) (s : State) : Host.Outcome State Fault Refusal :=
  done (if high then
      whenP (!s.boot.testEn) (.seq (modBoot fun b => { b with testEn := true }) (whenP (domOn s dCTRL) (startReset 0x02)))
    else whenP s.boot.testEn (seqs
      [ modBoot fun b => { b with testEn := false, profLatched := b.profPins }, modTap fun _ => {}, stamp tkBoot ])) s

/-! ### Images (17 R382 to R386) -/

/-- Bytes of an image in flash; bytes never written read as erased, all ones. -/
def imgBytes (img : Rec) (off n : Nat) : Rec :=
  let x := (img.drop off).take n
  x ++ List.replicate (n - x.length) 0xFF

/-- The 512-byte header. -/
def imgHdr (img : Rec) : Rec := imgBytes img 0 512

/-- PAYLOAD_LEN. -/
def imgLen (img : Rec) : Nat := fld (imgHdr img) 8 4

/-- The payload. -/
def imgPayload (img : Rec) : Rec := imgBytes img 512 (imgLen img)

/-- VERSION of an image. -/
def imgVersion (img : Rec) : Nat := fld (imgHdr img) 12 4

/-- SEC_VER of an image. -/
def imgSecVer (img : Rec) : Nat := fld (imgHdr img) 16 1

/-- Every byte of a range is zero. -/
def allZero (r : Rec) (off n : Nat) : Bool := fld r off n == 0

/-- The entries of a profile payload (17 R393): it ends with END, no entry crosses the payload end, no opcode of class
0x01 or 0x10, and of class 0x0F only OWNER_SET. The fuel is the payload length. -/
def profileOk : Nat → Rec → Bool
  | 0, _ => false
  | n + 1, r =>
    let op := fld r 0 2
    let len := fld r 2 2
    if r.length < 4 then false
    else if op = 0xFFFF then true
    else
      decide (4 + len ≤ r.length) && decide (len ≤ 248) && op / 256 != 0x01 && op / 256 != 0x10 &&
        !(op / 256 == 0x0F && op != 0x0F06) &&
        profileOk n (r.drop ((4 + len + 3) / 4 * 4))

/-- The key slot of the image's group holds the hash of its PUBKEY and is not revoked (17 R384). -/
def keyOk (s : State) (type : Nat) (h : Rec) : Bool :=
  let i := fld h 18 1
  let keys := if type = 1 then s.fuse.vendorKey else s.fuse.ownerKey
  let rev := if type = 1 then s.fuse.vendorRev else s.fuse.ownerRev
  match tfind keys i with
  | some k => !rev.testBit i && k == sha384 ((h.drop 320).take 96)
  | none => false

/-- Checks 1 to 6 of R386 on the header, `type` 1 firmware, 2 profile: the reason code, 0 when they pass. -/
def imgHeaderReason (s : State) (type : Nat) (img : Rec) (flashOk : Bool) : Nat :=
  let h := imgHdr img
  let len := fld h 8 4
  let step := Config.stepping.toNat
  if !flashOk then 0x08
  else if img = [] then 0x01
  else if fld h 0 4 ≠ 0x4C484B49 ∨ fld h 4 1 ≠ type ∨ fld h 5 1 ≠ 1 ∨
      (type = 1 ∧ ¬ (4096 ≤ len ∧ len ≤ 6290944)) ∨ (type = 2 ∧ ¬ (16 ≤ len ∧ len ≤ 261632)) ∨
      !(allZero h 19 1 && allZero h 28 4 && allZero h 112 208) then 0x02
  else if type = 2 ∧ profileOk len (imgPayload img) = false then 0x02
  else if step < fld h 6 1 ∨ fld h 7 1 < step then 0x03
  else if !(fbit h 17 1 (variantBit s)) then 0x04
  else if !(keyOk s type h) then 0x05
  else if fld h 16 1 < (if type = 1 then s.fuse.fwCounter else s.fuse.profCounter) then 0x06
  else 0

/-- The signature verifies over header bytes 0 to 415 and the payload (17 R383, R384). -/
def imgSigned (img : Rec) : Bool :=
  let h := imgHdr img
  ecdsaOk (sha384 (h.take 416 ++ imgPayload img)) ((h.drop 320).take 96) ((h.drop 416).take 96)

/-- All checks of R386: the reason code. -/
def imgReason (s : State) (type : Nat) (img : Rec) (flashOk : Bool) : Nat :=
  let r := imgHeaderReason s type img flashOk
  if r ≠ 0 then r
  else if !(imgSigned img) then 0x07
  else if type = 2 ∧ (s.boot.fwVersion < fld (imgHdr img) 20 4 ∨ fld (imgHdr img) 24 4 < s.boot.fwVersion) then 0x0A
  else 0

/-- Status a command returns for a reason (17 R386). -/
def reasonStatus (r : Nat) : Nat :=
  if r = 0x03 ∨ r = 0x04 ∨ r = 0x06 ∨ r = 0x0A then stVERSION
  else if r = 0x05 ∨ r = 0x07 then stDENIED
  else if r = 0x02 ∨ r = 0x01 then stBAD_PARAM
  else if r = 0x08 then stHW_FAULT
  else stOK

/-- Engines of the variant whose ABI byte of a header lies outside their range (17 R391). -/
def abiMismatch (s : State) (abi : Rec) : Nat :=
  maskOf ((List.range 5).filter fun u =>
    (u != 2 || mashFit s) &&
      !(decide ((Config.engineAbi u).1 ≤ fld abi u 1) && decide (fld abi u 1 ≤ (Config.engineAbi u).2) && fld abi u 1 != 0))

/-! ### Slot words (17 R387) -/

/-- State of a slot in word 2: 0 EMPTY, 1 STAGED, 2 TRIAL, 3 CONFIRMED, 4 BAD. -/
def slotState (w k : Nat) : Nat := if k = 0 then w % 8 else w / 16 % 8

/-- Word 2 with a slot's state. -/
def setSlotState (w k v : Nat) : Nat := if k = 0 then w / 8 * 8 + v else w / 128 * 128 + v * 16 + w % 16

/-- Word 2 with the field `[hi:lo]` replaced. -/
def setField (w hi lo v : Nat) : Nat := w - slice w hi lo * 2 ^ lo + v * 2 ^ lo

def wPreferred (w : Nat) : Nat := slice w 8 8
def wRunning (w : Nat) : Nat := slice w 9 9
def wTrial (w : Nat) : Nat := slice w 13 12
def wCrash (w : Nat) : Nat := slice w 19 16

/-- Reason of a firmware slot. -/
def slotReasonOf (s : State) (k : Nat) : Nat := tget 1 s.boot.slotReason k

/-- The boot ROM's choice of R387 among the slots not tried yet: the slot, word 2, and the slot declared
TRIAL_EXHAUSTED on the way. -/
def chooseSlot (w tried : Nat) : List Nat → Option Nat × Nat × List Nat
  | [] => (none, w, [])
  | k :: ks =>
    if tried.testBit k then chooseSlot w tried ks
    else
      let st := slotState w k
      if st = 0 ∨ st = 1 ∨ st = 4 then chooseSlot w tried ks
      else if st = 2 then
        if wTrial w = 3 then
          let c := chooseSlot (setSlotState w k 4) tried ks
          (c.1, c.2.1, k :: c.2.2)
        else (some k, setField w 13 12 (wTrial w + 1), [])
      else (some k, w, [])

/-- Choose the slot to try next; step 1 reads its header, step 7 has none left. -/
def tryNext : Prog := .ask fun s =>
  let w := tmrWord s 2
  let p := wPreferred w
  let c := chooseSlot w s.boot.tried [p, 1 - p]
  .seq (tmrWrite [(2, c.2.1)]) (modBoot fun b => { b with
    slotReason := c.2.2.foldl (fun t k => tset t k 0x09) b.slotReason,
    trialFailed := b.trialFailed || c.2.2 != [],
    trying := c.1.getD 0, step := if c.1.isSome then 1 else 7 })

/-- The slot being tried fails with a reason: BAD, and the next is chosen. -/
def slotFails (r : Nat) : Prog := .ask fun s => seqs
  [ tmrWrite [(2, setSlotState (tmrWord s 2) s.boot.trying 4)],
    modBoot fun b => { b with slotReason := tset b.slotReason b.trying r, tried := b.tried ||| 2 ^ b.trying },
    tryNext ]

/-- Crash bookkeeping of R389 on word 2 for a reset cause, and whether BOOT_FALLBACK is to be raised. -/
def crashStep (w cause : Nat) : Nat × Bool :=
  if cause = 0x04 ∨ cause = 0x05 then
    let n := min 4 (wCrash w + 1)
    let other := 1 - wPreferred w
    if n = 4 ∧ slotState w other = 3 then (setField (setField w 19 16 0) 8 8 other, true)
    else (setField w 19 16 n, false)
  else (setField w 19 16 0, false)

/-- t_r has come: the rising edge of RESET_N for a reset of cause PIN, else 10 us after t_0 (17 R381). -/
def leavesReset (s : State) : Bool :=
  s.boot.held && !s.boot.resetLow && !s.boot.testEn && (s.boot.cause == 2 || elapsed s tkBoot 10000)

/-- BOOT_ROM_START (17 R388 events 1 to 3): the processor leaves reset, the words are read and updated, processor SRAM
is initialized, the slot to start is chosen. -/
def execBootRomStart (s : State) : Host.Outcome State Fault Refusal :=
  done (whenP (domOn s dCTRL && leavesReset s) (seqs
    [ stamp tkBoot, modBoot fun b => { b with held := false, step := 1, stage := 0, tried := 0, mode := 0 },
      tmrScan,
      .ask fun t =>
        let c := crashStep (tmrWord t 2) t.boot.cause
        .seq (tmrWrite [(0, t.boot.cause + 256 * (tmrWord t 0 % 256)), (1, tmrWord t 1 + 1), (2, c.1)])
          (modBoot fun b => { b with fallback := b.fallback || c.2 }),
      each (List.range 8) clearCask,
      .ask fun t => whenP (!t.boot.romSafe) tryNext ])) s

/-- IMAGE_HEADER_CHECK (17 R388 event 4), 1.2 ms after t_r for the first slot tried. -/
def execImageHeaderCheck (flashOk : Bool) (s : State) : Host.Outcome State Fault Refusal :=
  done (whenP (s.boot.step == 1 && !s.boot.held && !s.boot.romSafe && (s.boot.tried != 0 || elapsed s tkBoot 1200000)) (
    let r := imgHeaderReason s 1 (tget [] s.boot.slotImg s.boot.trying) flashOk
    .seq (.seq (modBoot fun b => { b with stage := 1 }) (stamp tkBoot))
      (if r = 0 then modBoot fun b => { b with step := 2 } else slotFails r))) s

/-- IMAGE_PAYLOAD_LOADED (17 R388 event 5): header and payload at 20 MB/s. -/
def execImagePayloadLoaded (s : State) : Host.Outcome State Fault Refusal :=
  let img := tget [] s.boot.slotImg s.boot.trying
  done (whenP (s.boot.step == 2 && !s.boot.held && elapsed s tkBoot (50 * (512 + imgLen img))) (modBoot fun b => { b with step := 3 })) s

/-- SIGNATURE_VERIFIED (17 R388 events 6 and 7, R387): the image is accepted and firmware is entered, or the slot
becomes BAD. -/
def execSignatureVerified (s : State) : Host.Outcome State Fault Refusal :=
  let img := tget [] s.boot.slotImg s.boot.trying
  let k := s.boot.trying
  let w := tmrWord s 2
  done (whenP (s.boot.step == 3 && !s.boot.held) (
    if imgSigned img then seqs
      [ tmrWrite [(2, setField (setField w 9 9 k) 8 8 k)],
        modBoot fun b => { b with
          step := 4, slot := k, fallback := b.fallback || k != wPreferred w, fwVersion := imgVersion img,
          runAbi := (imgHdr img).drop 32 |>.take 8, slotReason := tset b.slotReason k 0 } ]
    else slotFails 0x07)) s

/-! ### Firmware start (17 R464, R391; 19 R428) -/

/-- Event that reports a FAULT_STATUS bit. -/
def faultEvent (b : Nat) : Nat :=
  match b with
  | 0 => evCode 1 1
  | 1 => evCode 1 2
  | 2 => evCode 1 4
  | 3 => evCode 0 8
  | 4 => evCode 2 5
  | 5 => evCode 3 6
  | 6 => evCode 9 3
  | 7 => evCode 11 3
  | _ => evCode 12 5

/-- Unit of engine `u` of R391. -/
def engineUnit (u : Nat) : Nat :=
  match u with
  | 0 => uFH
  | 1 => uGRAT
  | 2 => uMASH
  | 3 => uDPDE
  | _ => uSURVEY

/-- Mailbox ready for commands: every RING and DONE bit cleared (18 R404). -/
def mailboxReady (inband : Bool) : Prog := .seq
  (modMbx fun m => { m with ready := true, ring := 0, done := 0, inband := inband, fifo := [], waiting := none })
  (modHost fun h => { h with aoReady := true })

/-- Word 3 after the selection of R392: the profile, with a used ONCE override cleared. -/
def selectProfile (w pins : Nat) : Nat × Nat :=
  let ovr := w.testBit 4
  let p := if ovr then slice w 6 5 else pins % 4
  (p, setField (if ovr && w.testBit 7 then setField (setField w 4 4 0) 7 7 0 else w) 1 0 p)

/-- FIRMWARE_START (17 R464): start record, every setting to its Reset value, ABI checks, carried faults, the profile
selected, the mailbox ready. -/
def execFirmwareStart (s : State) : Host.Outcome State Fault Refusal :=
  let bad := abiMismatch s s.boot.runAbi
  let sel := selectProfile (tmrWord s 3) s.boot.profLatched
  done (whenP (s.boot.step == 4 && !s.boot.held && domOn s dCTRL) (seqs
    [ modBoot fun b => { b with step := 5, stage := 2, mode := 0, profile := sel.1 }, stamp tkBoot,
      .upd .clearCfg,
      modDpd fun x => { x with path := x.path.map fun p => (p.1, { p.2 with state := 0, solving := false, staged := none, starved := false }) },
      modHk fun h => { h with idx := 0 },
      modDatum fun d => { d with timeValid := false, ref := if domOn s dDATUM then (now s, 0, 0) else (0, 0, 0),
                                 tod := (0, 0, 0) },
      logCommit (now s) 0x0B 0 0xFFFF 0 0 (leBytes 4 (tmrWord s 0)) s.boot.cause,
      tmrWrite [(3, sel.2)],
      each (setBits 5 bad) fun u => .seq (setReason (engineUnit u) 1)
        (raise (evCode 0 3) u [fld s.boot.runAbi u 1, ((Config.engineAbi u).1 + 65536 * (Config.engineAbi u).2 : Nat)]),
      each (setBits 9 s.host.fault) fun b => raiseFl 6 (faultEvent b) noUnit [],
      whenP s.ecc.tmrBad (raise (evCode 13 4) noUnit []),
      whenP s.boot.trialFailed (raise (evCode 0 2) noUnit []),
      whenP s.boot.fallback (raise (evCode 0 1) noUnit [slotReasonOf s 0, slotReasonOf s 1]),
      modEcc fun e => { e with tmrBad := false },
      modBoot fun b => { b with trialFailed := false, fallback := false },
      modKiln fun k => { k with creditUj := 20000000 },
      mailboxReady true ])) s

/-- The fused MAC address. -/
def fusedMac : Rec := (List.range 6).map Config.localMac

/-- FH_LINK_SET record of the safe profile (17 R396). -/
def safeLinkRec : Rec :=
  [1, 1, 2, 90] ++ leBytes 2 9000 ++ leBytes 2 50 ++ [1, 0, 0, 0, 1, 0, 0, 0] ++ fusedMac ++ zeros 6 ++ zeros 4

/-- ROM_SAFE_PROFILE (17 R396): MODE 2, FH and DATUM woken, free run, the link brought up once FH is ON. -/
def execRomSafeProfile (s : State) : Host.Outcome State Fault Refusal :=
  done (whenP (domOn s dCTRL && !s.boot.held && (s.boot.step == 7 || (s.boot.step == 1 && s.boot.romSafe))) (seqs
    [ modBoot fun b => { b with step := 6, mode := 2, slot := 0, romSafe := false, fwVersion := 0 }, stamp tkBoot,
      .upd .clearCfg,
      setSetting 0x0401 0 safeLinkRec,
      beginWake dFH, beginWake dDATUM,
      whenP (domOn s dFH) (modFh fun f => { f with link := 1, mode := 1, rung := 0, laneFailed := 0 }),
      mailboxReady false ])) s

/-- TRIAL_TIMEOUT (17 R390): its time has passed from ENTRY. -/
def execTrialTimeout (s : State) : Host.Outcome State Fault Refusal :=
  done (whenP (fwRuns s && slotState (tmrWord s 2) s.boot.slot == 2 && elapsed s tkBoot (1000000000 * s.boot.trialTimeout))
    (startReset 0x08)) s

/-- CRASH_COUNT_CLEAR (17 R389): firmware has run for 10 minutes. -/
def execCrashCountClear (s : State) : Host.Outcome State Fault Refusal :=
  done (whenP (fwRuns s && elapsed s tkBoot 600000000000) (tmrWrite [(2, setField (tmrWord s 2) 19 16 0)])) s

/-! ### Commands on boot, firmware and fuses (17 R398) -/

/-- SYS.BOOT. -/
def sysBoot (s : State) : Nat :=
  s.boot.cause * 65536 + s.boot.profile * 1024 + bit s.boot.profFailed * 512 + s.boot.slot * 256 + s.boot.stage * 16 + s.boot.mode

/-- STATE and REASON of a unit in the capability record (18 R416). -/
def unitCode (s : State) (u : Nat) : Rec :=
  if !(unitFit s u) then [0, 0]
  else if unitReason s u = 0 then [1, 0] else leBytes 1 2 ++ leBytes 1 (unitReason s u)

/-- SYS_CAP_READ (0x0101). -/
def cmdSysCapRead : CmdDef :=
  { op := 0x0101, kind := .r, len := fixed 0
    answer := fun _ _ s => (stOK,
      leBytes 4 (sysId s) ++ leBytes 4 (sysCaps s) ++ leBytes 4 s.boot.fwVersion ++ leBytes 1 s.fuse.variant ++
        leBytes 1 s.boot.mode ++ zeros 2 ++
        ((List.range 5).map fun u => if u = 2 && !mashFit s then [0, 0]
          else leBytes 1 (Config.engineAbi u).1 ++ leBytes 1 (Config.engineAbi u).2).flatten ++ zeros 6 ++
        ((List.range 32).map (unitCode s)).flatten ++ leBytes 8 (isoMask s 0) ++ leBytes 8 (isoMask s 1) ++
        leBytes 1 s.ecc.degraded ++ zeros 3) }

/-- SYS_RESET (0x0102). -/
def cmdSysReset : CmdDef :=
  { op := 0x0102, kind := .n, hostOnly := true, len := fixed 4, fields := fun _ _ => [⟨0, 1, .bits 1⟩] ++ rsv 1 3
    effect := fun _ r => .seq
      (.seq (modBoot fun b => { b with resetPending := true, romSafe := fbit r 0 1 0 }) (stamp tkCommand))
      (.ask fun s => tmrWrite [(2, setField (tmrWord s 2) 19 16 0)]) }

/-- SYS_BOOT_STATUS (0x0103). -/
def cmdSysBootStatus : CmdDef :=
  { op := 0x0103, kind := .r, len := fixed 0
    answer := fun _ _ s =>
      let ver := fun k => if slotState (tmrWord s 2) k = 0 then 0 else imgVersion (tget [] s.boot.slotImg k)
      (stOK, leBytes 4 (sysBoot s) ++ ((List.range 4).map fun i => leBytes 4 (tmrWord s i)).flatten ++
        leBytes 4 (ver 0) ++ leBytes 4 (ver 1) ++ leBytes 1 (slotReasonOf s 0) ++ leBytes 1 (slotReasonOf s 1) ++
        leBytes 1 s.fuse.fwCounter ++ leBytes 1 s.fuse.profCounter ++ leBytes 2 s.boot.failEntry ++
        leBytes 1 s.boot.failStatus ++ [0] ++ leBytes 4 s.boot.skipped) }

/-- Fields FW_WRITE and PROFILE_WRITE share. -/
def writeFields (top size : Nat) (r : Rec) : List Fld :=
  let len := fld r 2 2
  [ ⟨0, 1, .uns 0 top⟩, ⟨1, 1, .bits 1⟩, ⟨2, 2, .uns 0 240⟩, ⟨2, 2, .cond (len != 0 || fbit r 1 1 0)⟩,
    ⟨4, 4, .cond (decide (fld r 4 4 + len ≤ size))⟩, ⟨8, 240, .cond (fld r (8 + len) (240 - len) == 0)⟩ ]

/-- Another flash write is running its FINAL check (17 R398). -/
def finalRunning (s : State) : Bool :=
  s.mbx.parked.any fun p => (p.cmd.op == 0x0104 || p.cmd.op == 0x0F10) && fbit p.cmd.req 1 1 0

/-- FW_WRITE (0x0104). -/
def cmdFwWrite : CmdDef :=
  { op := 0x0104, kind := .n, parked := true, hostOnly := true, len := fixed 248
    fields := fun _ r => writeFields 1 6291456 r
    own := fun _ r s =>
      let k := fld r 0 1
      let w := tmrWord s 2
      let endAt := if slotState w k = 0 then (tget [] s.boot.slotImg k).length else 0
      if finalRunning s then stBUSY
      else if wRunning w = k then stSTATE
      else if fld r 4 4 ≠ endAt then stBAD_PARAM else stOK
    effect := fun _ r => .ask fun s =>
      let k := fld r 0 1
      let img := if fld r 4 4 = 0 then [] else tget [] s.boot.slotImg k
      .seq (tmrWrite [(2, setSlotState (tmrWord s 2) k 0)])
        (modBoot fun b => { b with
          slotImg := tset b.slotImg k (img ++ (r.drop 8).take (fld r 2 2)), slotReason := tset b.slotReason k 1 })
    finish := fun _ r ok _ s =>
      let k := fld r 0 1
      let img := tget [] s.boot.slotImg k
      if fbit r 1 1 0 then
        let why := imgReason s 1 img ok
        let st := if why = 0 then 1 else 4
        (reasonStatus why,
         leBytes 1 st ++ leBytes 1 why ++ leBytes 1 (abiMismatch s ((imgHdr img).drop 32 |>.take 8)) ++ [0],
         .seq (tmrWrite [(2, setSlotState (tmrWord s 2) k st)])
           (modBoot fun b => { b with slotReason := tset b.slotReason k why }))
      else (if ok then stOK else stHW_FAULT, [], .skip)
    clashes := fun r op r2 => (op == 0x0104 || op == 0x0105) && fld r 0 1 == fld r2 0 1 }

/-- FW_ACTIVATE (0x0105). -/
def cmdFwActivate : CmdDef :=
  { op := 0x0105, kind := .n, hostOnly := true, len := fixed 4
    fields := fun _ _ => [⟨0, 1, .uns 0 1⟩, ⟨1, 1, .bits 1⟩, ⟨2, 2, .uns 60 3600⟩]
    own := fun _ r s =>
      let w := tmrWord s 2
      let st := slotState w (fld r 0 1)
      if st = 1 ∨ (st = 3 ∧ wRunning w ≠ fld r 0 1) then stOK else stSTATE
    effect := fun _ r => .ask fun s =>
      let k := fld r 0 1
      let w := tmrWord s 2
      let w1 := if slotState w k = 1 then setSlotState w k 2 else w
      .seq (tmrWrite [(2, setField (setField w1 8 8 k) 13 12 0)])
        (.seq (modBoot fun b => { b with trialTimeout := fld r 2 2, resetPending := b.resetPending || fbit r 1 1 0 })
          (whenP (fbit r 1 1 0) (stamp tkCommand))) }

/-- FW_CONFIRM (0x0106). -/
def cmdFwConfirm : CmdDef :=
  { op := 0x0106, kind := .n, hostOnly := true, len := fixed 0
    own := fun _ _ s => if slotState (tmrWord s 2) (wRunning (tmrWord s 2)) = 2 then stOK else stSTATE
    effect := fun _ _ => .ask fun s =>
      let w := tmrWord s 2
      let k := wRunning w
      .seq (tmrWrite [(2, setField (setField (setSlotState w k 3) 13 12 0) 19 16 0)])
        (.upd (.advanceFw (imgSecVer (tget [] s.boot.slotImg k)))) }

/-- SYS_FUSE_PROGRAM (0x0107). -/
def cmdSysFuseProgram : CmdDef :=
  { op := 0x0107, kind := .n, parked := true, hostOnly := true, len := fixed 56
    fields := fun s r =>
      let o := fld r 0 1
      [ ⟨0, 1, .uns 0 2⟩, ⟨1, 1, .uns 0 3⟩, ⟨1, 1, .cond (o != 2 || fld r 1 1 == 0)⟩ ] ++ rsv 2 2 ++
      [ ⟨4, 4, .cond (if o = 2 then decide (s.fuse.profCounter < fld r 4 4) && decide (fld r 4 4 ≤ 127) else fld r 4 4 == 0)⟩,
        ⟨8, 48, .cond (o == 0 || fld r 8 48 == 0)⟩ ]
    own := fun _ r s =>
      let i := fld r 1 1
      if fld r 0 1 = 0 ∧ (tfind s.fuse.ownerKey i).isSome then stSTATE
      else if fld r 0 1 = 1 ∧ s.fuse.ownerRev.testBit i then stSTATE else stOK
    finish := fun _ r ok _ _ =>
      if ok then
        (stOK, [], if fld r 0 1 = 0 then .upd (.burnKey (fld r 1 1) ((r.drop 8).take 48))
          else if fld r 0 1 = 1 then .upd (.revokeKey (fld r 1 1)) else .upd (.advanceProf (fld r 4 4)))
      else (stHW_FAULT, [], .skip) }

/-! ### Profile copies (17 R392, R398) -/

/-- Reason of a profile copy, key 2p + c. -/
def profReasonOf (s : State) (k : Nat) : Nat := tget 1 s.boot.profReason k

/-- The copy counts as EMPTY: nothing written, or its header reads all ones (17 R392). -/
def profEmpty (s : State) (k : Nat) : Bool :=
  let img := tget [] s.boot.profImg k
  img == [] || (imgHdr img).all fun b => b == 0xFF

/-- Reason a copy's checks give now. -/
def profCheck (s : State) (k : Nat) : Nat :=
  if profEmpty s k then 0x01 else imgReason s 2 (tget [] s.boot.profImg k) true

/-- The copy of a profile firmware would load: the accepted one of higher VERSION, else the other accepted one. -/
def profCurrent (s : State) (p : Nat) : Option Nat :=
  let ok := fun c => profCheck s (2 * p + c) == 0
  let v := fun c => imgVersion (tget [] s.boot.profImg (2 * p + c))
  if ok 0 && ok 1 then some (if v 0 < v 1 then 1 else 0)
  else if ok 0 then some 0 else if ok 1 then some 1 else none

/-- PROFILE_WRITE (0x0F10): it writes the copy that firmware would not load; with none accepted, copy 0
(assumption log 12). -/
def profTarget (s : State) (p : Nat) : Nat :=
  let open_ := fun c => profReasonOf s (2 * p + c) == 1 && tget [] s.boot.profImg (2 * p + c) != []
  if open_ 0 then 0 else if open_ 1 then 1
  else match profCurrent s p with
    | some c => 1 - c
    | none => 0

def cmdProfileWrite : CmdDef :=
  { op := 0x0F10, kind := .n, parked := true, hostOnly := true, len := fixed 248
    fields := fun _ r => writeFields 3 262144 r
    own := fun _ r s =>
      let k := 2 * fld r 0 1 + profTarget s (fld r 0 1)
      let endAt := if profReasonOf s k = 1 then (tget [] s.boot.profImg k).length else 0
      if finalRunning s then stBUSY else if fld r 4 4 ≠ endAt then stBAD_PARAM else stOK
    effect := fun _ r => .ask fun s =>
      let k := 2 * fld r 0 1 + profTarget s (fld r 0 1)
      let img := if fld r 4 4 = 0 then [] else tget [] s.boot.profImg k
      modBoot fun b => { b with
        profImg := tset b.profImg k (img ++ (r.drop 8).take (fld r 2 2)), profReason := tset b.profReason k 1 }
    finish := fun _ r ok _ s =>
      let k := 2 * fld r 0 1 + profTarget s (fld r 0 1)
      if fbit r 1 1 0 then
        let why := imgReason s 2 (tget [] s.boot.profImg k) ok
        (reasonStatus why, leBytes 1 (if why = 0 then 3 else 4) ++ leBytes 1 why ++ [0, 0],
         modBoot fun b => { b with profReason := tset b.profReason k why })
      else (if ok then stOK else stHW_FAULT, [], .skip)
    clashes := fun r op r2 => decide (0x0F10 ≤ op) && decide (op ≤ 0x0F12) && fld r 0 1 == fld r2 0 1 }

/-- PROFILE_SELECT (0x0F11). -/
def cmdProfileSelect : CmdDef :=
  { op := 0x0F11, kind := .n, hostOnly := true, len := fixed 4
    fields := fun _ _ => [⟨0, 1, .uns 0 3⟩, ⟨1, 1, .bits 7⟩] ++ rsv 2 2
    effect := fun _ r => .ask fun s =>
      let w := tmrWord s 3 % 4
      .seq (tmrWrite [(3, if fbit r 1 1 0 then w + 16 + 32 * fld r 0 1 + 128 * bit (fbit r 1 1 1) else w)])
        (.seq (modBoot fun b => { b with resetPending := b.resetPending || fbit r 1 1 2 })
          (whenP (fbit r 1 1 2) (stamp tkCommand))) }

/-- PROFILE_STATUS (0x0F12). -/
def cmdProfileStatus : CmdDef :=
  { op := 0x0F12, kind := .r, len := fixed 1, fields := fun _ _ => [⟨0, 1, .uns 0 3⟩]
    answer := fun _ r s => (stOK, ((List.range 2).map fun c =>
      let k := 2 * fld r 0 1 + c
      let img := tget [] s.boot.profImg k
      let e := profEmpty s k
      leBytes 4 (if e then 0 else imgVersion img) ++ leBytes 1 (profCheck s k) ++ leBytes 1 (if e then 0 else imgSecVer img) ++
        leBytes 1 (if profCurrent s (fld r 0 1) = some c then 1 else 0) ++ [0]).flatten) }

end Sys2Proof.Machine
end

