-- ==== Sys2Proof/Machine/Integrity.lean ====
section
/-! DEFINITION. Memory integrity: check codes, error outcomes, the sparge, tracking, spare rows and the triplicated
words' commands (16_memory_integrity R362 to R377), and the kiln's grants by class (15 R352). -/

namespace Sys2Proof.Machine

open Sys2Proof

/-! ### Grants (15 R352) -/

/-- Level the kiln grants by: 3 under HK_ASSUMED. -/
def grantLevel (s : State) : Nat := if s.kiln.assumed then 3 else s.kiln.level

/-- A task class is granted: 0 SAFETY, 1 WEIGHTS, 2 LINEARITY, 3 TRACK, 4 SCRUB at full rate, 5 TEST. -/
def granted (s : State) (cls : Nat) : Bool :=
  match cls with
  | 0 => true
  | 1 => decide (grantLevel s ≤ 2)
  | 2 | 3 => decide (grantLevel s ≤ 1)
  | _ => grantLevel s == 0

/-- A request refused for want of a grant counts in HELD_REQUESTS (15 R353). -/
def held : Prog := count blkKiln 0 2

/-! ### The memories (R362) -/

/-- Bytes of a memory. -/
def memSize (code : Nat) : Nat :=
  match code with
  | 0 => 0x200000
  | 1 => 0x10000
  | 2 => 0x400000
  | 3 => 0x1000000
  | 4 => 0x2000000
  | 5 => 0xC00000
  | 6 => 0x100000
  | 7 => 0x10000
  | 8 => 0x20000
  | _ => 0

/-- Units of a memory, eight bytes each. -/
def memUnits (code : Nat) : Nat := memSize code / 8

/-- Spare rows of a memory. -/
def memSpares (code : Nat) : Nat :=
  match code with
  | 0 | 2 => 16
  | 1 | 7 => 2
  | 3 | 4 => 64
  | 5 => 48
  | 6 => 8
  | _ => 0

/-- First address of a memory in the host window (19 R424), 0 for a memory with a base of its own. -/
def memBase (code : Nat) : Nat :=
  match code with
  | 1 => 0x20000000
  | 3 => 0x70000000
  | 4 => 0x60000000
  | _ => 0

/-- Domain of a byte of a memory. -/
def memDom (code off : Nat) : Nat :=
  match code with
  | 0 | 8 => dCTRL
  | 1 => dMBX
  | 2 | 5 => dFH
  | 3 | 4 => dGRAT
  | 6 => dTXD (off / 0x40000)
  | _ => dAO

/-- Byte memory of a code. -/
def codeMem (code : Nat) : Option MemId :=
  match code with
  | 1 => some .mailbox
  | 3 => some .weight
  | 4 => some .tun
  | 5 => some .queue
  | 6 => some .coef
  | _ => none

/-! ### Check codes (R363, R364) -/

/-- Vectors of `n` bits with `k` ones, ascending. -/
def weightVecs (n k : Nat) : List Nat := (List.range (2 ^ n)).filter fun v => (setBits n v).length = k

/-- Data bits, check bits and words of a unit for a memory's check code. -/
def codeShape (code : Nat) : Nat × Nat × Nat :=
  if code = 0 ∨ code = 1 ∨ code = 6 then (8, 5, 8) else if code = 7 ∨ code = 8 then (32, 7, 2) else (64, 8, 1)

/-- Columns of a check code: the data bits' and then the check bits'. -/
def columns (code : Nat) : List Nat :=
  let check := fun n => (List.range n).map fun j => 2 ^ j
  match codeShape code with
  | (8, _, _) => (weightVecs 5 3).take 8 ++ check 5
  | (64, _, _) => weightVecs 8 3 ++ (weightVecs 8 5).take 8 ++ check 8
  | _ => (weightVecs 7 3).take 32 ++ check 7

/-- The poison syndrome of a check code. -/
def poisonSyn (code : Nat) : Nat := if (codeShape code).1 = 8 then 0x1F else 0x7F

/-- What a read of a word finds. -/
inductive Found where
  | clean
  /-- A single-bit error by its syndrome; the bits left wrong after the correction. -/
  | fixed (left : Nat)
  | uncorr
  | poison
  deriving DecidableEq, Repr

/-- A byte lies in a poisoned range. -/
def poisoned (s : State) (code off : Nat) : Bool :=
  s.ecc.poison.any fun p => p.1 == code && decide (p.2.1 ≤ off) && decide (off < p.2.2)

/-- Flipped stored bits of the unit that holds a byte. -/
def flips (s : State) (code off : Nat) : Nat := tget 0 s.ecc.err (code * 2 ^ 32 + off / 8 * 8)

/-- Word of its unit that holds a byte, and the word's flipped bits: data bits first, then check bits (assumption
log 22). -/
def wordFlips (s : State) (code off : Nat) : Nat :=
  let sh := codeShape code
  let w := off % 8 / (sh.1 / 8)
  slice (flips s code off) ((w + 1) * (sh.1 + sh.2.1) - 1) (w * (sh.1 + sh.2.1))

/-- The syndrome of a read (R364). -/
def syndrome (code e : Nat) (poison : Bool) : Nat :=
  ((columns code).zipIdx.foldl (fun a c => if e.testBit c.2 then a ^^^ c.1 else a) 0) ^^^ (if poison then poisonSyn code else 0)

/-- What a read of the word that holds a byte finds (R364). -/
def wordFound (s : State) (code off : Nat) : Found :=
  let e := wordFlips s code off
  if e = 0 then (if poisoned s code off then .poison else .clean)
  else
    let syn := syndrome code e (poisoned s code off)
    if syn = 0 then .fixed e
    else if syn = poisonSyn code then .poison
    else if (columns code).contains syn then .fixed (e ^^^ 2 ^ (columns code).idxOf syn)
    else .uncorr

/-- The word of a byte cannot be delivered. -/
def badByte (s : State) (code off : Nat) : Bool :=
  match wordFound s code off with
  | .uncorr | .poison => true
  | _ => false

/-- First bytes of the words of a unit. -/
def unitWords (code off : Nat) : List Nat :=
  let sh := codeShape code
  (List.range sh.2.2).map fun i => off / 8 * 8 + i * (sh.1 / 8)

/-- Some word of a byte range cannot be delivered. -/
def badRange (s : State) (code off n : Nat) : Bool :=
  if s.ecc.err = [] ∧ s.ecc.poison = [] then false else (List.range n).any fun i => badByte s code (off + i)

/-- The byte a read delivers: corrected, 0 where it cannot be delivered. -/
def readByte (s : State) (i : MemId) (code off : Nat) : Byte :=
  match wordFound s code off with
  | .clean => memGet i (s.mem.get i) off
  | .fixed left =>
    let sh := codeShape code
    memGet i (s.mem.get i) off ^^^ BitVec.ofNat 8 (left / 2 ^ (8 * (off % (sh.1 / 8))))
  | _ => 0

/-- Bytes a read of a memory delivers. -/
def readBytes (s : State) (i : MemId) (code off n : Nat) : Rec :=
  if s.ecc.err = [] ∧ s.ecc.poison = [] then peek s i off n else (List.range n).map fun k => readByte s i code (off + k)

/-! ### Reading and writing (R365 to R367) -/

/-- An uncorrectable or poisoned read of a unit: UE, and MEM_UNCORR once per unit and pass (R367). -/
def noteUncorr (code off : Nat) : Prog := .ask fun s =>
  let u := off / 8
  .seq (count blkMem code 2)
    (whenP (!(tget [] s.ecc.ueSeen code).contains u) (.seq
      (modEcc fun e => { e with ueSeen := tset e.ueSeen code (u :: tget [] e.ueSeen code) })
      (raise (evCode 13 1) code [(memBase code + u * 8 : Nat)])))

/-- Queue a unit for a priority visit: eight at most, none twice (R369). -/
def queueVisit (code off : Nat) : Prog := modEcc fun e =>
  let q := tget [] e.prio code
  if q.contains (off / 8) ∨ 8 ≤ q.length then e else { e with prio := tset e.prio code (q ++ [off / 8]) }

/-- A normal read of a unit: a corrected one counts in CE_READ and is queued; an undeliverable one counts in UE. -/
def noteUnit (code off : Nat) : Prog := .ask fun s =>
  let fs := (unitWords code off).map (wordFound s code)
  .seq (whenP (fs.any fun f => match f with | .fixed _ => true | _ => false) (.seq (count blkMem code 0) (queueVisit code off)))
    (whenP (fs.any fun f => f == .uncorr || f == .poison) (noteUncorr code off))

/-- A normal read of `n` bytes. -/
def noteRead (code off n : Nat) : Prog := .ask fun s =>
  whenP (s.ecc.err != [] || s.ecc.poison != [])
    (each (List.range ((off + n + 7) / 8 - off / 8)) fun i => noteUnit code (off / 8 * 8 + 8 * i))

/-- A poisoned range without the bytes `[a, b)`. -/
def puncture (code a b : Nat) (p : Nat × Nat × Nat) : List (Nat × Nat × Nat) :=
  if p.1 ≠ code ∨ p.2.2 ≤ a ∨ b ≤ p.2.1 then [p]
  else (if p.2.1 < a then [(code, p.2.1, a)] else []) ++ (if b < p.2.2 then [(code, b, p.2.2)] else [])

/-- Flipped bits of a unit left after a write of bytes `[a, b)`. -/
def flipsLeft (code unit e a b : Nat) : Nat :=
  let sh := codeShape code
  maskOf ((setBits 104 e).filter fun k =>
    let w := unit + k / (sh.1 + sh.2.1) * (sh.1 / 8)
    !(decide (a ≤ w) && decide (w < b)))

/-- A write of `n` bytes replaces errors and poison in the words it covers and frees their tracking entries (R366,
R372). -/
def noteWrite (code off n : Nat) : Prog := .ask fun s =>
  whenP (s.ecc.err != [] || s.ecc.poison != [] || s.ecc.track != []) (modEcc fun e => { e with
    poison := e.poison.flatMap (puncture code off (off + n)),
    err := (e.err.map fun x =>
      if x.1 / 2 ^ 32 = code then (x.1, flipsLeft code (x.1 % 2 ^ 32) x.2 off (off + n)) else x).filter (fun x => x.2 != 0),
    track := tmod [] e.track code fun l => l.filter fun t =>
      !(decide (off / 8 ≤ t.unit) && decide (t.unit * 8 < off + n)) })

/-- Write bytes of a byte memory. -/
def store (i : MemId) (code off : Nat) (v : Rec) : Prog := .seq (pokes i off v) (noteWrite code off v.length)

/-! ### The sparge (R368 to R374) -/

/-- HARD_LIMIT of a memory. -/
def hardLimit (s : State) (code : Nat) : Nat := tget 3 s.ecc.hardLimit code

/-- REMAP_EN of a memory. -/
def remapEn (s : State) (code : Nat) : Bool := tget true s.ecc.remapEn code

/-- A free spare row for a row of a memory; a quarter of the coefficient RAM has its own two. -/
def freeSpare (s : State) (code row : Nat) : Option Nat :=
  (List.range (memSpares code)).find? fun i =>
    (code != 6 || i / 2 == row / 256) && !(tget [] s.ecc.remaps code).any fun r => r.spare == i

/-- A unit is declared a hard fault (R373). A row that is being copied already gets no second spare. -/
def hardFault (code unit : Nat) : Prog := .ask fun s => seqs
  [ count blkMem code 3, raise (evCode 13 2) code [(memBase code + unit * 8 : Nat)],
    if (tget [] s.ecc.remaps code).any fun r => r.row == unit / 128 && !r.inUse then .skip
    else match (if remapEn s code then freeSpare s code (unit / 128) else none) with
    | some i => modEcc fun e => { e with remaps := tmod [] e.remaps code fun l =>
        l ++ [{ spare := i, row := unit / 128, inUse := false, copied := false, switchNs := 0 }] }
    | none => whenP (!s.ecc.degraded.testBit code) (.seq
        (modEcc fun e => { e with degraded := e.degraded ||| 2 ^ code }) (raise (evCode 13 3) code [])) ]

/-- Index of the entry a new one replaces: the lowest count, oldest first, never a HARD one. -/
def victim (l : List Track) : Option Nat :=
  let soft := l.zipIdx.filter fun t => !t.1.hard
  (soft.find? fun t => soft.all fun u => decide (t.1.count ≤ u.1.count)).map (·.2)

/-- A write-back of a unit is tracked (R372). -/
def trackUnit (code unit : Nat) : Prog := .ask fun s =>
  let l := tget [] s.ecc.track code
  let fresh : Track := { unit := unit, count := 0, hard := false, idle := 0 }
  match l.find? fun t => t.unit == unit with
  | some t =>
    let n := t.count + 1
    let hard := t.hard || decide (hardLimit s code ≤ n)
    let l' := l.map fun u => if u.unit = unit then { u with count := n, hard := hard, idle := 0 } else u
    .seq (modEcc fun e => { e with track := tset e.track code l' })
      (whenP (hard && !t.hard) (hardFault code unit))
  | none =>
    let l' := if l.length < 16 then l ++ [fresh]
      else match victim l with
        | some i => l.eraseIdx i ++ [fresh]
        | none => l
    modEcc fun e => { e with track := tset e.track code l' }

/-- Correct the words of a unit that can be and poison those that cannot: what a visit and a row copy store. -/
def scrubUnit (code off : Nat) : Prog := .ask fun s =>
  let sh := codeShape code
  let bad := (unitWords code off).filter fun w => badByte s code w && !poisoned s code w
  seqs
    [ match codeMem code with
      | some i => each (List.range 8) fun k =>
          match wordFound s code (off + k) with
          | .fixed left => whenP (left != 0) (.upd (.poke i (off + k) (readByte s i code (off + k))))
          | _ => .skip
      | none => .skip,
      modEcc fun e => { e with
        err := tdel e.err (code * 2 ^ 32 + off / 8 * 8),
        poison := e.poison ++ bad.map fun w => (code, w, w + sh.1 / 8) } ]

/-- A visit of a unit (R370). -/
def visit (code unit : Nat) : Prog := .ask fun s =>
  let off := unit * 8
  let fs := (unitWords code off).map (wordFound s code)
  let fix := fs.any fun f => match f with | .fixed _ => true | _ => false
  let bad := fs.any fun f => f == .uncorr
  seqs
    [ whenP (fix || bad) (scrubUnit code off),
      whenP bad (noteUncorr code off),
      whenP fix (.seq (count blkMem code 1) (trackUnit code unit)) ]

/-- A channel may visit a unit: its domain, or quarter, is ON (R371). -/
def mayVisit (s : State) (code unit : Nat) : Bool :=
  decide (code < 8) && decide (unit < memUnits code) && domOn s (memDom code (unit * 8))

/-- Channel `m` runs at full rate: granted, and its memory powered. -/
def fullRate (s : State) (m : Nat) : Bool := granted s 4 && decide (m < 8) && domOn s (memDom m 0)

/-- SPARGE_VISIT (R368, R370): the next unit in ascending order, at the channel's rate; absent quarters are skipped. -/
def execSpargeVisit (code : Nat) (s : State) : Host.Outcome State Fault Refusal :=
  let u := tget 0 s.ecc.pos code
  let absent := code == 6 && !sheetFit s (u * 8 / 0x40000)
  done (whenP (decide (code < 8) && decide (u < memUnits code)) (
    if absent then modEcc fun e => { e with pos := tset e.pos code ((u * 8 / 0x40000 + 1) * 0x8000) }
    else whenP (mayVisit s code u && elapsed s (tkSparge code) (if fullRate s code then 1000 else 64000)) (seqs
      [ stamp (tkSparge code), visit code u, modEcc fun e => { e with pos := tset e.pos code (u + 1) } ]))) s

/-- PRIORITY_SPARGE_VISIT (R369): the oldest unit a corrected read queued. -/
def execPrioritySpargeVisit (code : Nat) (s : State) : Host.Outcome State Fault Refusal :=
  done (match tget [] s.ecc.prio code with
    | [] => .skip
    | u :: rest => whenP (mayVisit s code u) (.seq (modEcc fun e => { e with prio := tset e.prio code rest }) (visit code u))) s

/-- SPARGE_PASS_END (R368, R372): entries without a write-back for two whole passes are freed. -/
def execSpargePassEnd (code : Nat) (s : State) : Host.Outcome State Fault Refusal :=
  done (whenP (decide (code < 8) && decide (memUnits code ≤ tget 0 s.ecc.pos code)) (.seq (count blkMem code 5)
    (modEcc fun e => { e with
      pos := tset e.pos code 0, passNs := tset e.passNs code (now s), ueSeen := tdel e.ueSeen code,
      track := tmod [] e.track code fun l =>
        (l.map fun t => { t with idle := t.idle + 1 }).filter (fun t => decide (t.idle ≤ 2)) }))) s

/-- REMAP_COPY_DONE (R374 event 2): every unit of the row stands corrected in the spare, or as poison; the switch waits
for its boundary. -/
def execRemapCopyDone (code spare : Nat) (s : State) : Host.Outcome State Fault Refusal :=
  done (match (tget [] s.ecc.remaps code).find? fun r => r.spare == spare && !r.copied with
    | none => .skip
    | some r => seqs
      [ each (List.range 128) fun i => .ask fun t =>
          whenP (tget 0 t.ecc.err (code * 2 ^ 32 + (r.row * 1024 + 8 * i)) != 0) (scrubUnit code (r.row * 1024 + 8 * i)),
        modEcc fun e => { e with remaps := tmod [] e.remaps code fun l => l.map fun x =>
          if x.spare = spare then { x with copied := true } else x },
        isolate 2 3 (code * 4096 + spare) ]) s

/-- The slot of the lowest-numbered committed carrier that holds a datum time, as its start. -/
def slotOf (s : State) (air : Nat) : Option Nat :=
  (lowCar s).map fun c =>
    let mu := carMu (refCar s c)
    let t := extTotal s.datum.ref air
    let h := halfOf s t
    let js := (boundarySyms 2 mu h).filter fun j => decide (symNs s mu h j ≤ t)
    match js.getLast? with
    | some j => counterAt s (symNs s mu h j)
    | none => counterAt s (symNs s mu (h - 1) ((boundarySyms 2 mu (h - 1)).getLast?.getD 0))

/-- An uncorrectable weight word is met in a slot: GRAT_WEIGHT_ECC is raised once per slot with the word's address (06 R145);
with no carrier committed there is no slot to count by, and each raises it. -/
def weightEcc (slot : Option Nat) (off : Nat) : Prog := .ask fun s =>
  let ev := raise (evCode 6 1) noUnit [(memBase 3 + off : Nat)]
  match slot with
  | none => ev
  | some t => whenP (!s.grat.eccSlot.contains t) (.seq (modGrat fun g => { g with eccSlot := (t :: g.eccSlot).take 8 }) ev)

/-- MEM_UNCORR (R367): an uncorrectable read by a requester: 0 control processor, 1 DMA or capture engine, 2 graticule
weights, 3 section lookup, 4 ingress payload, 5 egress payload, 6 predistorter, 7 Mash engine, 8 host port. The host port
flags its error under 15 R334. -/
def execMemUncorr (code off requester : Nat) (s : State) : Host.Outcome State Fault Refusal :=
  done (whenP (decide (code < 9) && badByte s code off) (.seq (noteUncorr code off)
    (match requester with
    | 2 => .seq (count blkGrat 0 3) (weightEcc (slotOf s (now s)) off)
    | 3 => .seq (count blkSect 0 8) (raise (evCode 5 6) noUnit [])
    | 4 | 5 => count blkMemAll 0 2
    | 8 => modHost fun h => { h with err := h.err ||| 4, errAddr := if h.err = 0 then memBase code + off else h.errAddr }
    | _ => .skip))) s

/-! ### Commands (R377) -/

/-- MEM_CONFIG (0x0E01). -/
def cmdMemConfig : CmdDef :=
  { op := 0x0E01, kind := .n, len := fixed 4
    fields := fun _ r => [⟨0, 1, .cond (decide (fld r 0 1 ≤ 7) || fld r 0 1 == 255)⟩, ⟨1, 1, .uns 1 15⟩, ⟨2, 1, .bits 1⟩, ⟨3, 1, .zero⟩]
    effect := fun _ r =>
      let ms := if fld r 0 1 = 255 then List.range 8 else [fld r 0 1]
      modEcc fun e => { e with
        hardLimit := ms.foldl (fun t m => tset t m (fld r 1 1)) e.hardLimit,
        remapEn := ms.foldl (fun t m => tset t m (fbit r 2 1 0)) e.remapEn } }

/-- MEM_STATUS (0x0E02). -/
def cmdMemStatus : CmdDef :=
  { op := 0x0E02, kind := .r, len := fixed 2, fields := fun _ _ => [⟨0, 1, .uns 0 8⟩, ⟨1, 1, .bits 1⟩]
    answer := fun _ r s =>
      let m := fld r 0 1
      (stOK, leBytes 1 (bit (s.ecc.degraded.testBit m) + 2 * bit (remapEn s m) + 4 * bit (fullRate s m)) ++
        leBytes 1 (memSpares m - (tget [] s.ecc.remaps m).length) ++
        leBytes 1 ((tget [] s.ecc.track m).filter (·.hard)).length ++ [0] ++ leBytes 4 (tget 0 s.ecc.passNs m) ++
        leBytes 4 (cntVal s blkMem m 5) ++ cntBytes s blkMem m 5 ++ cntBytes s blkMemAll 0 3 ++
        leBytes 4 (satBits s blkMem m 5 + 32 * satBits s blkMemAll 0 3))
    effect := fun _ r => whenP (fbit r 1 1 0) (.seq (clearCnts blkMem (fld r 0 1) 5) (clearCnts blkMemAll 0 3)) }

/-- MEM_REMAP_READ (0x0E03): the remaps from index FIRST on. -/
def cmdMemRemapRead : CmdDef :=
  { op := 0x0E03, kind := .r, len := fixed 4
    fields := fun _ _ => [⟨0, 1, .uns 0 8⟩, ⟨1, 1, .uns 0 63⟩, ⟨2, 1, .uns 1 16⟩, ⟨3, 1, .zero⟩]
    answer := fun _ r s =>
      let l := ((tget [] s.ecc.remaps (fld r 0 1)).drop (fld r 1 1)).take (fld r 2 1)
      (stOK, leBytes 1 l.length ++ zeros 3 ++ (l.map fun x =>
        leBytes 1 x.spare ++ leBytes 1 (bit x.inUse) ++ zeros 2 ++ leBytes 4 x.row ++ leBytes 4 x.switchNs).flatten) }

/-- Highest stored-bit number of a unit (R377). -/
def topBit (code : Nat) : Nat := let sh := codeShape code; sh.2.2 * (sh.1 + sh.2.1) - 1

/-- MEM_INJECT (0x0E04). -/
def cmdMemInject : CmdDef :=
  { op := 0x0E04, kind := .n, len := fixed 8
    doms := fun r => [memDom (fld r 0 1) (fld r 4 4 - memBase (fld r 0 1))]
    fields := fun _ r =>
      let m := fld r 0 1
      let a := fld r 4 4
      [ ⟨0, 1, .uns 0 7⟩, ⟨1, 1, .uns 0 (topBit m)⟩,
        ⟨2, 1, .cond (fld r 2 1 == 255 || (decide (fld r 2 1 ≤ topBit m) && fld r 2 1 != fld r 1 1))⟩, ⟨3, 1, .zero⟩,
        ⟨4, 4, .cond (a % 8 == 0 && decide (memBase m ≤ a) && decide (a < memBase m + memSize m))⟩ ]
    effect := fun _ r =>
      let m := fld r 0 1
      let k := m * 2 ^ 32 + (fld r 4 4 - memBase m)
      let x := 2 ^ fld r 1 1 ^^^ (if fld r 2 1 = 255 then 0 else 2 ^ fld r 2 1)
      modEcc fun e =>
        let v := tget 0 e.err k ^^^ x
        { e with err := if v = 0 then tdel e.err k else tset e.err k v } }

/-- MEM_TMR_READ (0x0E05). -/
def cmdMemTmrRead : CmdDef :=
  { op := 0x0E05, kind := .r, len := fixed 0
    answer := fun _ _ s => (stOK, ((List.range 24).map fun i => leBytes 4 (tmrWord s i)).flatten ++
      leBytes 1 (bit s.ecc.tmrValid) ++ zeros 3)
    effect := fun _ _ => tmrScan }

/-- MEM_TMR_WRITE (0x0E06). -/
def cmdMemTmrWrite : CmdDef :=
  { op := 0x0E06, kind := .n, len := fixed 8, fields := fun _ _ => [⟨0, 1, .uns 8 21⟩] ++ rsv 1 3
    effect := fun _ r => tmrWrite [(fld r 0 1, fld r 4 4)] }

end Sys2Proof.Machine
end

