-- ==== Sys2Proof/Machine/Sections.lean ====
section
/-! DEFINITION. The section table: pages, placement, matching, clearing (03_control_path_transactions R53 to R62), the
C-plane sections the classifier accepts (04 R83 to R86, 10 R228, R229) and the section weight pool (06 R127, R136). The
bit layout of O-RAN messages inside a frame is presumed (assumption log 24). -/

namespace Sys2Proof.Machine

open Sys2Proof

/-! ### Pages and entries (R53 to R56) -/

/-- Page of a direction and subframe. -/
def pageOf (dir k : Nat) : Nat := dir * 16 + k % 16

/-- Key of an entry. -/
def sectKey (page idx : Nat) : Nat := page * 2048 + idx

/-- Subframe a page holds, 0xFFFF when cleared. -/
def pageSub (s : State) (p : Nat) : Nat := tget 0xFFFF s.sect.pageSub p

/-- The 16 positions of a probe. -/
def probe (id flow slot : Nat) : List Nat :=
  let h := (id ^^^ (flow * 8) ^^^ (slot * 512)) &&& 0x7FF
  (List.range 16).map fun i => (h + i) % 2048

/-- Entry at a position. -/
def sectAt (s : State) (page idx : Nat) : Option Section := tfind s.sect.entries (sectKey page idx)

/-- The entry is live (R60). -/
def sectLive (e : Section) : Bool := e.state == 1 || e.state == 2

/-- The stored words of an entry can be delivered (R62). -/
def entryGood (s : State) (key : Nat) : Bool := !badRange s 2 (key * 64) 64

/-- The stored words of the entry at a position cannot be delivered. -/
def sectBad (s : State) (page idx : Nat) : Bool := !entryGood s (sectKey page idx)

/-- Live entries of a lookup, with their positions, in probe order; an uncorrectable one is absent. -/
def sectFind (s : State) (page id flow slot : Nat) (want : Section → Bool) : List (Nat × Section) :=
  (probe id flow slot).filterMap fun i =>
    match sectAt s page i with
    | some e => if sectLive e && e.id == id && e.flow == flow && e.slot == slot && want e && !sectBad s page i
        then some (i, e) else none
    | none => none

/-- The symbols of two ranges overlap. -/
def symOverlap (a n b m : Nat) : Bool := decide (a < b + m) && decide (b < a + n)

/-- Number of CONTINUATION entries an extension length takes. -/
def contCount (ext : Rec) : Nat := ceilDiv (ext.length - 24) 56

/-- An entry that holds nothing but continuation bytes. -/
def contEntry (b : Rec) : Section :=
  { state := 3, type := 0, id := 0, flow := 0, carrier := 0, slot := 0, startSym := 0, numSym := 0, flags := 0
    startPrb := 0, numPrb := 0, reMask := 0, beam := 0, comp := 0, extLen := 0, freqOff := 0, airNs := 0, ueId := 0
    cpSeq := 0, upMatched := 0, ext := b, conts := [], bund := 0, wts := none }

/-- Bytes of an entry (R55). -/
def sectBytes (e : Section) : Rec :=
  if e.state = 3 then [3, 0, 0, 0, 0, 0, 0, 0] ++ padTo 56 e.ext
  else leBytes 1 e.state ++ leBytes 1 e.type ++ leBytes 2 e.id ++ leBytes 1 e.flow ++ leBytes 1 e.carrier ++ leBytes 1 e.slot ++
    leBytes 1 e.startSym ++ leBytes 1 e.numSym ++ leBytes 1 e.flags ++ leBytes 2 e.startPrb ++ leBytes 2 e.numPrb ++
    leBytes 2 e.reMask ++ leBytes 2 e.beam ++ leBytes 1 e.comp ++ leBytes 1 e.extLen ++ leSigned 4 e.freqOff ++
    leBytes 4 e.airNs ++ leBytes 2 e.ueId ++ leBytes 2 e.cpSeq ++ leBytes 4 e.upMatched ++ zeros 4 ++ padTo 24 e.ext

/-- Put an entry at a position. -/
def putSect (page idx : Nat) (e : Section) : Prog := .seq
  (modSect fun t => { t with entries := tset t.entries (sectKey page idx) e }) (noteWrite 2 (sectKey page idx * 64) 64)

/-- Write FREE to entries. -/
def freeSect (page : Nat) (idx : List Nat) : Prog := modSect fun t => { t with
  entries := idx.foldl (fun m i => tdel m (sectKey page i)) t.entries }

/-- Chunks of 56 bytes. -/
def chunks56 : Nat → Rec → List Rec
  | 0, _ => []
  | n + 1, r => if r = [] then [] else r.take 56 :: chunks56 n (r.drop 56)

/-- A lookup meets an uncorrectable entry (R62). -/
def eccHit (key : Nat) : Prog := seqs [count blkSect 0 8, noteRead 2 (key * 64) 64, raise (evCode 5 6) noUnit []]

/-- The uncorrectable entries that a lookup of a section meets (R62). -/
def sectEcc (page id flow slot : Nat) : Prog := .ask fun s =>
  let hit := (probe id flow slot).filter fun i =>
    match sectAt s page i with
    | some e => sectLive e && e.id == id && e.flow == flow && e.slot == slot && sectBad s page i
    | none => false
  each hit fun i => eccHit (sectKey page i)

/-- Where a section goes in its page (R56, R58): the refusing counter, or its position, those of its continuation entries
and the old continuation entries it no longer needs. -/
def placeAt (s : State) (page : Nat) (e : Section) : Nat ⊕ (Nat × List Nat × List Nat) :=
  let same := sectFind s page e.id e.flow e.slot fun _ => true
  let free := (probe e.id e.flow e.slot).filter fun i => (sectAt s page i).isNone
  let n := contCount e.ext
  if same.any fun x => x.2.startSym != e.startSym && symOverlap x.2.startSym x.2.numSym e.startSym e.numSym then .inl 3
  else match same.find? fun x => x.2.startSym == e.startSym with
    | some (idx, old) =>
      let after := (free.filter fun i => decide ((i + 2048 - idx) % 2048 < 16)).take (n - old.conts.length)
      let conts := old.conts.take n ++ after
      if old.state = 2 then .inl 3
      else if conts.length < n then .inl 4
      else .inr (idx, conts, old.conts.drop n)
    | none =>
      match free with
      | [] => .inl 4
      | idx :: rest => if rest.length < n then .inl 4 else .inr (idx, rest.take n, [])

/-- Two entries of the occasion table have one key: page, flow and slot (10 R229). -/
def sameOcc (a b : Occasion) : Bool := a.page == b.page && a.flow == b.flow && a.slot == b.slot

/-- Place a section in its page, with its weights in the pool and its occasion; refused, nothing of it is placed (R58). -/
def placeSect (a : Arrival) : Prog := .seq (sectEcc a.page a.sect.id a.sect.flow a.sect.slot) (.ask fun s =>
  match placeAt s a.page a.sect with
  | .inl why => count blkSect 0 why
  | .inr (idx, conts, gone) => seqs
    [ freeSect a.page gone,
      putSect a.page idx { a.sect with conts := conts },
      each (conts.zip (chunks56 4 (a.sect.ext.drop 24))) fun p => putSect a.page p.1 (contEntry p.2),
      count blkSect 0 0,
      (match a.occ with
        | some o => modSect fun t => { t with occ := t.occ.filter (fun x => !sameOcc x o) ++ [o] }
        | none => .skip),
      countN blkGrat 0 0 a.sat,
      each a.words fun w => store .weight 3 w.1 w.2,
      whenP a.cut (count blkMash 0 6) ])

/-! ### Clearing (R54) -/

/-- Keys of a page. -/
def inPage (p k : Nat) : Bool := k / 2048 == p

/-- A page starts clearing: its entries read FREE, and its occasions are gone (10 R229). `lost` counts its live entries in
CP_INVALIDATED. -/
def startClear (p : Nat) (lost : Bool) : Prog := .ask fun s => .seq
  (whenP lost (countN blkSect 0 7 (s.sect.entries.filter fun e => inPage p e.1 && sectLive e.2).length))
  (modSect fun t => { t with
    entries := t.entries.filter (fun e => !inPage p e.1), pageSub := tdel t.pageSub p,
    occ := t.occ.filter (fun o => o.page != p),
    clearing := if (tfind t.clearing p).isSome then t.clearing else tset t.clearing p 1 })

/-- Half-subframe by which a cycle that passes the start of a subframe is judged: floor(T) may lie just before the start. -/
def halfSoon (s : State) : Int := halfOf s (extNow s + 1)

/-- Subframe index of the current subframe. -/
def subframeNow (s : State) : Nat := subframeOf (halfSoon s)

/-- The counter passes the start of a subframe in this cycle: the clearing target of R54 (05 R116). -/
def subframeStarts (s : State) : Bool := crosses s (counterAt s (symNs s 0 (halfSoon s / 2 * 2) 0))

/-- PAGE_CLEAR (R54): as the counter passes the start of subframe k + 3 both pages of subframe k are cleared. -/
def execPageClear (s : State) : Host.Outcome State Fault Refusal :=
  let k := (subframeNow s + 2560 - 3) % 2560
  done (whenP (domOn s dFH && domOn s dDATUM && subframeStarts s) (each [0, 1] fun dir =>
    whenP (pageSub s (pageOf dir k) == k) (startClear (pageOf dir k) false))) s

/-- PAGE_CLEAR_COMPLETE (R54): sections that waited for the page are placed. -/
def execPageClearComplete (page : Nat) (s : State) : Host.Outcome State Fault Refusal :=
  done (whenP ((tfind s.sect.clearing page).isSome) (seqs
    [ modSect fun t => { t with
        clearing := tdel t.clearing page, waiting := t.waiting.filter fun w => w.page != page,
        pageSub := match t.waiting.find? fun w => w.page == page with
          | some w => tset t.pageSub page w.sub
          | none => t.pageSub },
      each (s.sect.waiting.filter fun w => w.page == page) placeSect ])) s

/-- A section for subframe k reaches its page: after a step it is discarded, a stale page is cleared first, and a page
being cleared makes it wait (R54, R111). -/
def arriveSect (a : Arrival) : Prog := .ask fun s =>
  let wait := modSect fun t => { t with waiting := t.waiting ++ [a] }
  match tfind s.sect.clearing a.page with
  | some 2 => count blkSect 0 7
  | some _ => wait
  | none =>
    if pageSub s a.page = a.sub then placeSect a
    else if pageSub s a.page = 0xFFFF then .seq (modSect fun t => { t with pageSub := tset t.pageSub a.page a.sub }) (placeSect a)
    else .seq (startClear a.page true) wait

/-- Clear every live entry that references a carrier or flow and has AIR_NS at or after a boundary (R61). -/
def clearFrom (b : Nat) (want : Section → Bool) : Prog := .ask fun s =>
  let hit := s.sect.entries.filter fun e => sectLive e.2 && want e.2 && decide (extTotal s.datum.ref b ≤ extTotal s.datum.ref e.2.airNs)
  .seq (countN blkSect 0 7 hit.length)
    (each hit fun e => freeSect (e.1 / 2048) (e.1 % 2048 :: e.2.conts))

/-! ### The section weight pool (06 R127, R136) -/

/-- First unit of 64 bytes and end of the pool. -/
def poolLo : Nat := 147456
def poolHi : Nat := 262144

/-- Bits `[i × w, (i + 1) × w)` of a byte string, most significant first. -/
def bitField (r : Rec) (total w i : Nat) : Nat := netNat r / 2 ^ (total - (i + 1) * w) % 2 ^ w

/-- Values of `w` bits packed most significant first. -/
def bitValues (r : Rec) (w n : Nat) : List Int :=
  (List.range n).map fun i => toSigned w (bitField r (8 * r.length) w i)

/-- Clamp to 16 bits. -/
def sat16 (z : Int) : Int := clampI (-32768) 32767 z

/-- I, Q pairs of a list of values. -/
def pairsOf : List Int → List (Int × Int)
  | a :: b :: t => (a, b) :: pairsOf t
  | _ => []

/-- The descriptor that stands in EXT_DATA for a diverted payload (R86): extType with the ef bit, vectors, unit. -/
def descBytes (head vecs unit : Nat) : Rec := leBytes 1 head ++ leBytes 1 255 ++ leBytes 2 vecs ++ leBytes 4 unit

/-- Pool units held by live sections and by those waiting: first unit and number. -/
def poolHeld (s : State) : List (Nat × Nat) :=
  ((s.sect.entries.map (·.2)) ++ s.sect.waiting.map (·.sect)).filterMap fun e => e.wts.map fun d => (d.2.2, 2 * d.2.1)

/-- First unit from which `n` consecutive units are free. -/
def poolFree (s : State) (n : Nat) : Option Nat :=
  let taken := poolHeld s
  let starts := poolLo :: taken.map fun t => t.1 + t.2
  let ok := fun u => decide (u + n ≤ poolHi) && taken.all fun t => !(decide (u < t.1 + t.2) && decide (t.1 < u + n))
  let fit := starts.filter ok
  if fit = [] then none else some (fit.foldl Nat.min poolHi)

/-- Words of a vector of weights with the number that saturated (06 R127, 02 R49). -/
def weightWords (v : List (Int × Int)) : List Nat × Nat :=
  let w := v.map fun p => cbForm p.1 p.2 16777216 1
  (w.map (·.1), (w.filter (·.2)).length)

/-- CB16 words as bytes, filled with zeros. -/
def wordBytes (n : Nat) (ws : List Nat) : Rec := padTo n (ws.flatMap fun w => leBytes 2 w)

/-- Weights of one vector: decompressed under R87 or shifted left. -/
def rawWeights (hdr param : Nat) (data : Rec) (n : Nat) : List (Int × Int) :=
  let w := if hdr / 16 = 0 then 16 else hdr / 16
  pairsOf ((bitValues data w (2 * n)).map fun v =>
    if hdr % 16 = 1 then sat16 (v * 2 ^ (param % 16)) else v * 2 ^ (16 - w))

/-! ### C-plane messages (04 R83 to R86) -/

/-- A parsed C-plane section. -/
structure PSec where
  id : Nat
  rb : Nat
  symInc : Nat
  startPrb : Nat
  numPrb : Nat
  reMask : Nat
  numSym : Nat
  last : Nat
  freq : Int
  exts : List (Nat × Rec)
  data : Rec
  bad : Bool
  deriving DecidableEq, Repr

/-- Extensions of a section from its bytes on: type and whole bytes of each, and the bytes left; the fuel is their length. -/
def parseExts : Nat → Bool → Rec → Option (List (Nat × Rec) × Rec)
  | _, false, r => some ([], r)
  | 0, true, _ => none
  | f + 1, true, r =>
    let t := bfld r 0 1 % 128
    let n := 4 * (if t = 11 then bfld r 1 2 else bfld r 1 1)
    if n = 0 ∨ r.length < n then none
    else match parseExts f ((bfld r 0 1).testBit 7) (r.drop n) with
      | some (l, rest) => some ((t, r.take n) :: l, rest)
      | none => none

/-- Sections of a message, types 0, 1, 3, 5 and 6; a truncated one ends the list as bad. -/
def parseSecs (elements : Nat) (type : Nat) : Nat → Rec → List PSec
  | 0, _ => []
  | n + 1, r =>
    let len := if type = 3 then 12 else 8
    let a := bfld r 0 8
    let six := type = 6
    let base : PSec :=
      { id := if six then 0 else slice a 63 52, rb := if six then slice a 27 27 else slice a 51 51
        symInc := if six then slice a 26 26 else slice a 50 50
        startPrb := if six then slice a 25 16 else slice a 49 40, numPrb := if six then slice a 15 8 else slice a 39 32
        reMask := if six then 0xFFF else slice a 31 20, numSym := if six then 1 else slice a 19 16
        last := if six then slice a 62 48 else slice a 14 0
        freq := if type = 3 then toSigned 24 (bfld r 8 3) else 0, exts := [], data := [], bad := false }
    let ef := if type = 0 then false else if six then a.testBit 63 else a.testBit 15
    if r.length < len then [{ base with bad := true }]
    else match parseExts (r.length + 1) ef (r.drop len) with
      | none => [{ base with bad := true }]
      | some (l, rest) =>
        let vecs := if six then
            (match l.find? fun x => x.1 == 21 with
              | some x => ceilDiv (if base.numPrb = 0 then 273 else base.numPrb) (max 1 (bfld x.2 2 1))
              | none => 1)
          else 0
        let size := vecs * elements * 4
        { base with exts := l, data := rest.take size, bad := decide (rest.length < size) } ::
          parseSecs elements type n (rest.drop size)

/-- Extensions supported for a section type (R85). -/
def extOk (type : Nat) (x : Nat × Rec) : Bool :=
  let comp := fun c => c % 16 == 0 || (c % 16 == 1 && [8, 9, 12, 14].contains (c / 16))
  match x.1 with
  | 1 => type == 1 && comp (bfld x.2 2 1)
  | 6 | 10 => type == 1 || type == 3 || type == 5
  | 11 => type == 1 && ((bfld x.2 3 1).testBit 7 || comp (bfld x.2 5 1))
  | 21 => type == 6
  | _ => false

/-- Weight vectors an extension or a type 6 section carries, none where a vector does not hold exactly one weight per
fitted element (06 R127). -/
def vectorsOf (elements numPrb : Nat) (x : Nat × Rec) : Option (List (List (Int × Int))) :=
  let size := fun hdr : Nat => (2 * (if hdr / 16 = 0 then 16 else hdr / 16) * elements + 7) / 8
  if x.1 = 1 then
    let hdr := bfld x.2 2 1
    let p := if hdr % 16 = 1 then 1 else 0
    let data := x.2.drop (3 + p)
    if data.length < size hdr ∨ size hdr + 4 ≤ data.length then none
    else some [rawWeights hdr (bfld x.2 3 1) (data.take (size hdr)) elements]
  else if x.1 = 11 then
    let hdr := bfld x.2 5 1
    let p := if hdr % 16 = 1 then 1 else 0
    let step := p + 2 + size hdr
    let n := ceilDiv numPrb (max 1 (bfld x.2 4 1))
    let data := x.2.drop 6
    if bfld x.2 4 1 = 0 ∨ data.length < n * step ∨ n * step + 4 ≤ data.length then none
    else some ((List.range n).map fun i =>
      let v := data.drop (i * step)
      rawWeights hdr (bfld v 0 1) ((v.drop (p + 2)).take (size hdr)) elements)
  else none

/-- What the classifier knows of a C-plane message. -/
structure CMsg where
  flow : Nat
  dir : Nat
  type : Nat
  k : Nat
  slot : Nat
  startSym : Nat
  comp : Nat
  seq : Nat
  filter : Nat
  timeOffset : Nat
  frameStr : Nat
  cpLength : Nat
  deriving DecidableEq, Repr

/-- Rows of R228 by filterIndex: subcarrier spacing in Hz, L_RA, FFT size, useful length in T_s. -/
def prachRow (i : Nat) : Option (Nat × Nat × Nat × Nat) :=
  match i with
  | 1 => some (1250, 839, 1536, 24576)
  | 2 => some (5000, 839, 1536, 6144)
  | 3 => some (15000, 139, 256, 2048)
  | 4 => some (30000, 139, 256, 1024)
  | _ => none

/-- frameStructure of a row: FFT size in its upper four bits, as a power of two or 13 for 1,536, subcarrier spacing in its
lower four (assumption log 24). -/
def frameStrOk (i v : Nat) : Bool :=
  match i with
  | 1 => v % 16 == 12 && v / 16 == 13
  | 2 => v % 16 == 14 && v / 16 == 13
  | 3 => v % 16 == 0 && v / 16 == 8
  | 4 => v % 16 == 1 && v / 16 == 8
  | _ => false

/-- The occasion a message describes: it starts timeOffset × T_s after its slot, in a later slot where that passes the slot's
end (10 R229). -/
def occasionOf (s : State) (m : CMsg) : Occasion :=
  let c := flowCar (flowRec s m.flow)
  let mu := carMu (dirCar s m.dir c)
  let ref := fun i => 61440 * (14 * i / symPerHalf mu) + symRef mu (14 * i % symPerHalf mu)
  let at_ := ref m.slot + 4 * m.timeOffset
  let slot := ((List.range (2 ^ mu)).filter fun i => decide (ref i ≤ at_ % 122880)).length - 1
  { page := pageOf m.dir m.k, flow := m.flow, slot := m.slot, carrier := c, filter := m.filter, timeOffset := m.timeOffset
    cpLength := m.cpLength, frameStr := m.frameStr, starts := ((m.k + at_ / 122880) % 2560, slot) }

/-- The occasion table with what waits for a page. -/
def occasions (s : State) : List Occasion := s.sect.occ ++ s.sect.waiting.filterMap (·.occ)

/-- An occasion is refused: the table is full, or 8 occasions of its carrier start in its slot (10 R229). -/
def occasionFull (s : State) (o : Occasion) : Bool :=
  let l := (occasions s).filter fun x => !sameOcc x o
  decide (64 ≤ l.length) || decide (8 ≤ (l.filter fun x => x.starts == o.starts && x.carrier == o.carrier).length)

/-- The occasion of a flow's slot of a page (10 R229). -/
def occasionAt (s : State) (page flow slot : Nat) : Option Occasion :=
  s.sect.occ.find? fun o => o.page == page && o.flow == flow && o.slot == slot

/-- The occasion of a placed section. -/
def occasionFor (s : State) (e : Section) : Option Occasion :=
  (s.sect.entries.find? fun x => x.2 == e).bind fun x => occasionAt s (x.1 / 2048) e.flow e.slot

/-- The extension carries weights, which are diverted (R86). -/
def carriesWeights (x : Nat × Rec) : Bool := x.1 == 1 || (x.1 == 11 && !(bfld x.2 3 1).testBit 7)

/-- A section of a message is CP_BAD (R57, R83 to R85, 10 R228). DESIGN CHOICE (assumption log 89): one of type 1 on a flow of
KIND PRACH is not. -/
def sectMalformed (s : State) (m : CMsg) (p : PSec) : Bool :=
  let fr := flowRec s m.flow
  let car := dirCar s m.dir (flowCar fr)
  let mu := carMu car
  let n := if p.numPrb = 0 then carPrb car - p.startPrb else p.numPrb
  let elements := nPaths s
  p.bad || !carValid car || !domOn s dDATUM ||
    !(decide (m.slot < 2 ^ mu)) || p.numSym == 0 || decide (14 < m.startSym + p.numSym) ||
    n == 0 || decide (carPrb car < p.startPrb + n) ||
    !([0, 1, 3, 5, 6].contains m.type) ||
    (m.type == 3 && flowKind fr != 1) || ((m.type == 5 || m.type == 6) && !mashFit s) ||
    (flowDyn fr && (compWidth m.comp).isNone && (m.type == 1 || m.type == 3 || m.type == 5)) ||
    !(p.exts.all (extOk m.type)) || decide (1 < (p.exts.filter fun x => x.1 == 1 || x.1 == 11).length) ||
    (p.exts.any fun x => carriesWeights x && (vectorsOf elements n x).isNone) ||
    decide (192 < sumN (p.exts.map fun x => if carriesWeights x then 8 else x.2.length)) ||
    (m.type == 3 && (match prachRow m.filter with
      | none => true
      | some row =>
        !frameStrOk m.filter m.frameStr || decide (30720 < m.cpLength + p.numSym * row.2.2.2) ||
          (let half : Int := carPrb car * 6 * 15000 * 2 ^ mu
           let lo : Int := p.freq * row.1 / 2
           decide (lo < -half) || decide (half < lo + row.2.1 * row.1))))

/-- One section of an accepted message: malformed, early, late, or placed with its weights (R57, R86). -/
def acceptSect (m : CMsg) (p : PSec) : Prog := .ask fun s =>
  let fr := flowRec s m.flow
  let c := flowCar fr
  let car := dirCar s m.dir c
  let mu := carMu car
  if sectMalformed s m p then count blkSect 0 5
  else
    let h := symAt s mu m.k m.slot m.startSym (extNow s)
    let air := counterAt s (symNs s mu h.1 h.2)
    let cur := subframeOf (halfOf s (extNow s))
    let d := ((m.k : Int) - cur + 1280) % 2560 - 1280
    let close : Int := if m.dir = 0 then (ltx s c : Int) + 2000 else 1000
    let n := if p.numPrb = 0 then carPrb car - p.startPrb else p.numPrb
    if 12 < d then count blkSect 0 1
    else if 0 ≤ int32Diff (now s) air + close then count blkSect 0 2
    else if m.type = 3 ∧ occasionFull s (occasionOf s m) = true then count blkSect 0 4
    else
      let wext := p.exts.find? carriesWeights
      let vecs := if m.type = 6 then
          (let per := nPaths s
           (List.range (p.data.length / (4 * per))).map fun i => rawWeights 0 0 ((p.data.drop (i * 4 * per)).take (4 * per)) per)
        else match wext with
          | some x => (vectorsOf (nPaths s) n x).getD []
          | none => []
      let entry := fun (u : Nat) =>
        let ext : Rec := p.exts.flatMap fun x => if carriesWeights x then descBytes (bfld x.2 0 1) vecs.length u else x.2
        ({ state := 1, type := m.type, id := p.id, flow := m.flow, carrier := c, slot := m.slot, startSym := m.startSym
           numSym := p.numSym, flags := p.rb + 2 * p.symInc + 4 * bit (decide (24 < ext.length))
           startPrb := p.startPrb, numPrb := n, reMask := p.reMask
           beam := if m.type = 1 ∨ m.type = 3 then p.last else 0, comp := m.comp, extLen := min 24 ext.length
           freqOff := p.freq, airNs := air, ueId := if m.type = 5 ∨ m.type = 6 then p.last else 0, cpSeq := m.seq
           upMatched := 0, ext := ext, conts := []
           bund := match wext with
             | some x => if x.1 = 11 then bfld x.2 4 1 else 0
             | none => 0
           wts := if vecs = [] then none else some ((wext.map (·.1)).getD 0, vecs.length, u) } : Section)
      let cut := (m.type = 5 ∨ m.type = 6) ∧ (s.mash.refresh.any fun q => q.stage != 0 &&
        decide (0 ≤ int32Diff air q.target.1) && decide (int32Diff air q.target.2 < 0)) = true
      match (if vecs = [] then some 0 else poolFree s (2 * vecs.length)) with
      | none => count blkSect 0 4
      | some u => arriveSect
          { page := pageOf m.dir m.k, sub := m.k, sect := entry u
            words := vecs.zipIdx.map fun v => ((u + 2 * v.2) * 64, wordBytes 128 (weightWords v.1).1)
            sat := sumN (vecs.map fun v => (weightWords v).2), cut := decide cut
            occ := if m.type = 3 then some (occasionOf s m) else none }

/-! ### Commands -/

/-- SECTION_READ (0x0F07). -/
def cmdSectionRead : CmdDef :=
  { op := 0x0F07, kind := .r, len := fixed 8, doms := fun _ => [dFH]
    fields := fun _ _ => [⟨0, 1, .uns 0 1⟩, ⟨1, 1, .zero⟩, ⟨2, 2, .uns 0 2559⟩, ⟨4, 2, .uns 0 2047⟩, ⟨6, 1, .uns 1 3⟩, ⟨7, 1, .zero⟩]
    answer := fun _ r s =>
      let p := pageOf (fld r 0 1) (fld r 2 2)
      let n := min (fld r 6 1) (2048 - fld r 4 2)
      let bad := (List.range n).any fun i => sectBad s p (fld r 4 2 + i)
      (if bad then stECC_UNCORR else stOK,
       leBytes 2 (pageSub s p) ++ leBytes 1 n ++ leBytes 1 0 ++ padTo 192 ((List.range n).map fun i =>
         if sectBad s p (fld r 4 2 + i) then zeros 64
         else match sectAt s p (fld r 4 2 + i) with
           | some e => sectBytes e
           | none => zeros 64).flatten)
    effect := fun _ r => noteRead 2 (sectKey (pageOf (fld r 0 1) (fld r 2 2)) (fld r 4 2) * 64) (64 * fld r 6 1) }

/-- SECTION_STATS (0x0F08). -/
def cmdSectionStats : CmdDef :=
  { op := 0x0F08, kind := .r, len := fixed 1, doms := fun _ => [dFH], fields := fun _ _ => [⟨0, 1, .bits 1⟩]
    answer := fun _ _ s => (stOK, cntBytes s blkSect 0 9 ++ leBytes 4 (satBits s blkSect 0 9))
    effect := fun _ r => whenP (fbit r 0 1 0) (clearCnts blkSect 0 9) }

end Sys2Proof.Machine
end

