-- ==== Sys2Proof/Machine/Link.lean ====
section
/-! DEFINITION. The fronthaul link: lanes, link states, lane failure, the fallback ladder, flow contexts and queues
(04_fronthaul_link R73 to R80, R89, R94). -/

namespace Sys2Proof.Machine

open Sys2Proof

/-! ### Departure from UP and changes of state (R75) -/

/-- Enter a link state: ALIGNING starts the FEC windows' grid (R76), and leaving UP starts FALLBACK_TIMEOUT (R78). -/
def linkTo (v : Nat) : Prog := .ask fun s => seqs
  [ whenP (s.fh.link == 3 && v != 3) flushEligible,
    modFh fun f => { f with
      link := v, fecBad := if v = 2 then [] else f.fecBad, mode := if v = 0 then 0 else rungMode s f.rung },
    whenP (v == 2) (.seq (stamp tkAlign) (each (List.range 4) fun l => stamp (tkFec l))),
    whenP (s.fh.link == 3 && v != 3) (.seq (stamp tkFall) (raise (evCode 5 2) noUnit [])) ]

/-- Lanes of the current rung. -/
def rungSet (s : State) : List Nat := setBits 4 (rungLanes s s.fh.rung)

/-- The Ethernet reference is lost (01 R30). -/
def ethLost (s : State) : Bool := s.clk.lost.testBit 1

/-- Every lane of the rung has its bit in a mask. -/
def allLanes (s : State) (m : Nat) : Bool := (rungSet s).all fun l => m.testBit l

/-- A rung's lane set contains no failed lane (R77). -/
def eligibleRung (s : State) (i : Nat) : Bool :=
  decide (i < fld (linkRec s) 1 1) && (rungLanes s i &&& s.fh.laneFailed) == 0

/-- The states that follow from the lanes' levels: DOWN to ALIGNING with signal on every lane of an eligible rung, ALIGNING
to DOWN when a lane loses signal, UP to DOWN when every lane has lost signal or CDR lock (R75, R78). DEDUCED (assumption log
72): signal is read as a level, so a rung entered with a lane that has none is DOWN at once. -/
def linkSettle : Prog := .ask fun s =>
  let sig := if ethLost s then 0 else s.fh.signal
  if s.fh.link = 1 ∧ allLanes s sig = true ∧ eligibleRung s s.fh.rung = true then linkTo 2
  else if s.fh.link = 2 ∧ allLanes s sig = false then linkTo 1
  else if s.fh.link = 3 ∧ (rungSet s).all (fun l => !(sig.testBit l && s.fh.cdr.testBit l)) = true then linkTo 1
  else .skip

/-- Lanes whose level changes between two masks begin it now. -/
def laneStamps (key : Nat → Nat) (old new : Nat) : Prog :=
  each ((List.range 4).filter fun l => old.testBit l != new.testBit l) fun l => stamp (key l)

/-- LANE_SIGNAL_CHANGE (R75): lanes with signal, CDR lock and alignment-marker lock. -/
def execLaneSignalChange (signal cdr am : Nat) (s : State) : Host.Outcome State Fault Refusal :=
  done (whenP (domOn s dFH) (seqs
    [ laneStamps tkSignal s.fh.signal signal, laneStamps tkAm s.fh.am am,
      laneStamps tkLock (s.fh.signal &&& s.fh.cdr) (signal &&& cdr), modFh fun f => { f with signal := signal % 16, cdr := cdr % 16, am := am % 16 }, linkSettle, linkSettle ])) s

/-- LINK_UP (R75): every lock held on every lane of the rung for 1 ms. -/
def execLinkUp (s : State) : Host.Outcome State Fault Refusal :=
  done (whenP (domOn s dFH && s.fh.link == 2 && !ethLost s && allLanes s s.fh.signal && allLanes s s.fh.cdr &&
      allLanes s s.fh.am && elapsed s tkAlign 1000000 &&
      (rungSet s).all fun l => elapsed s (tkLock l) 1000000 && elapsed s (tkAm l) 1000000) (seqs
    [ linkTo 3, modFh fun f => { f with upSince := now s }, raise (evCode 5 1) noUnit [] ])) s

/-- LINK_DOWN (R75): a local or remote fault, or alignment-marker lock lost for 1 ms on every lane, while UP. -/
def execLinkDown (s : State) : Host.Outcome State Fault Refusal :=
  done (whenP (domOn s dFH && s.fh.link == 3) (.seq (linkTo 1) linkSettle)) s

/-! ### Lane failure and fallback (R76, R78, R79) -/

/-- FALLBACK_EN. -/
def fallbackEn (s : State) : Bool := fbit (linkRec s) 2 1 0

/-- The change of the shed set that may follow a rung change falls on the first slot boundary at least 50 µs later. -/
def shedLater (unit : Nat) : Prog := .ask fun s => isolate 2 6 (unit + 65536 * add32 (now s) 50000)

/-- The link moves to a rung and enters ALIGNING there. -/
def moveRung (r unit : Nat) : Prog := .ask fun s => seqs
  [ whenP (s.fh.link == 3) (linkTo 1),
    modFh fun f => { f with rung := r, lastChange := now s },
    stamp tkFall, linkTo 2, raise (evCode 5 4) noUnit [], shedLater unit, linkSettle ]

/-- A receive lane of the current rung is declared failed. -/
def declareLane (lane : Nat) : Prog := seqs
  [ modFh fun f => { f with laneFailed := f.laneFailed ||| 2 ^ lane, falling := true },
    stamp tkFall, raise (evCode 5 3) lane [],
    .ask fun s =>
      if fallbackEn s = false then .seq (modFh fun f => { f with rung := 0 }) (linkTo 1)
      else match ((List.range 4).filter fun i => decide (s.fh.rung < i) && eligibleRung s i).head? with
        | some r => moveRung r lane
        | none => .seq (linkTo 1) (raise (evCode 5 5) noUnit []) ]

/-- A lane that may be declared failed: a lane of a rung of several, not failed yet, while the link is not DISABLED. -/
def laneAtRisk (s : State) (lane : Nat) : Bool :=
  domOn s dFH && s.fh.link != 0 && (rungSet s).contains lane && decide (1 < (rungSet s).length) &&
    !s.fh.laneFailed.testBit lane

/-- LANE_FAILED (R76): the lane has lost signal or CDR lock for 100 µs while another lane keeps signal, or
alignment-marker lock for 1 ms while the other lanes hold it. -/
def execLaneFailed (lane : Nat) (s : State) : Host.Outcome State Fault Refusal :=
  let others := (rungSet s).filter fun l => l != lane
  let lock := s.fh.signal.testBit lane && s.fh.cdr.testBit lane
  let held := fun (m : Nat) (key : Nat → Nat) (ns l : Nat) => m.testBit l && elapsed s (key l) ns
  done (whenP (laneAtRisk s lane &&
      ((!lock && elapsed s (tkLock lane) 100000 && others.any (held s.fh.signal tkSignal 100000)) ||
       (!s.fh.am.testBit lane && elapsed s (tkAm lane) 1000000 && others.all (held s.fh.am tkAm 1000000)))) (declareLane lane)) s

/-- FEC_WINDOW_END (R76): corrected and received FEC symbols of a lane in its 10 ms window, and uncorrectable codewords. -/
def execFecWindowEnd (lane corrected received uncorr : Nat) (s : State) : Host.Outcome State Fault Refusal :=
  let high := decide (received < corrected * 10000)
  let n := if high then tget 0 s.fh.fecBad lane + 1 else 0
  done (whenP (domOn s dFH && (s.fh.link == 2 || s.fh.link == 3) && (rungSet s).contains lane && elapsed s (tkFec lane) 10000000) (seqs
    [ stamp (tkFec lane), countN blkFh 0 (9 + lane % 4) corrected, countN blkFh 0 7 uncorr,
      modFh fun f => { f with fecBad := tset f.fecBad lane n },
      whenP (laneAtRisk s lane && decide (3 ≤ n)) (declareLane lane) ])) s

/-- FALLBACK_TIMEOUT (R78): without UP after a lane failure, the next eligible rung is taken, wrapping to the first; with none
the link goes to DOWN. -/
def execFallbackTimeout (s : State) : Host.Outcome State Fault Refusal :=
  let el := (List.range 4).filter (eligibleRung s)
  let next := match el.find? fun i => decide (s.fh.rung < i) with
    | some r => some r
    | none => el.head?
  done (whenP (domOn s dFH && s.fh.falling && fallbackEn s && (s.fh.link == 1 || s.fh.link == 2) &&
      elapsed s tkFall (1000000 * fld (linkRec s) 6 2)) (.seq (stamp tkFall) (match next with
    | some r => whenP (r != s.fh.rung) (moveRung r 0xFFFF)
    | none => .seq (linkTo 1) (raise (evCode 5 5) noUnit [])))) s

/-! ### Registers -/

/-- FH.LINK_STATUS; no layer is active while DISABLED. -/
def linkStatusWord (s : State) : Nat :=
  let n := fun dir => if s.fh.link = 0 then 0 else layersLeft s dir
  s.fh.link + 256 * s.fh.mode + 4096 * s.fh.rung + 65536 * n 0 + 16777216 * n 1

/-- FH.LANE_STATUS. -/
def laneStatusWord (s : State) : Nat := s.fh.signal + 16 * s.fh.cdr + 256 * s.fh.am + 65536 * s.fh.laneFailed

/-! ### Agreement of flows (R89) -/

/-- A queue lies in its direction's range. -/
def queueFits (r : Rec) : Bool :=
  if flowDir r = 0 then decide (flowQueue r ≤ 30) else decide (32 ≤ flowQueue r) && decide (flowQueue r ≤ 62)

/-- Longest symbol of a carrier, in 1/384 ns (10 R224). -/
def longSym (r : Rec) : Nat := symLen (carMu r) 0 * 3125

/-- Least EGRESS_OFFSET of an uplink flow, ns (10 R224, R231). -/
def leastOffset (s : State) (r : Rec) : Nat :=
  if flowKind r = 1 then 1030000
  else ceilDiv (longSym (rxCar s (flowCar r)) + 384 * lul s (flowCar r)) 384

/-- FH_QUEUE_SET record in force. -/
def queueRec (s : State) (q : Nat) : Rec := setting s 0x0405 q (leBytes 1 q ++ zeros 7)

/-- Bytes of a queue; queues 31 and 63 have eight units each. -/
def queueSize (s : State) (q : Nat) : Nat := if q = 31 ∨ q = 63 then 65536 else fld (queueRec s q) 4 2 * 8192

/-- Bits × 384 × 10^9 that a flow may have waiting in its queue. -/
def flowNeed (s : State) (r : Rec) : Nat :=
  flowLoad s r * (if flowDir r = 0 then flowWin r * 1000 * 384 + longSym (txCar s (flowCar r)) else flowOffset r * 384)

/-- What R89 asks of one flow. -/
def flowOk (s : State) (r : Rec) : Bool :=
  queueFits r && carValid (dirCar s (flowDir r) (flowCar r)) && (flowDir r == 0 || decide (leastOffset s r ≤ flowOffset r))

/-- The check of R89 on the VALID flows. -/
def flowsAgree (s : State) : Bool :=
  let fs := (flows s).map (·.2)
  let same := fun (a b : Rec) => flowDir a == flowDir b && flowEaxc a == flowEaxc b
  fs.all (fun a => decide ((fs.filter (same a)).length = 1) && flowOk s a) &&
  ([0, 1].all fun dir => fitsRate (fld (linkRec s) 3 1) (modeRate (rungMode s 0))
    (sumN ((fs.filter fun r => flowDir r == dir).map (flowLoad s)))) &&
  ((fs.map flowQueue).all fun q => decide (sumN ((fs.filter fun r => flowQueue r == q).map (flowNeed s)) ≤
    queueSize s q * 8 * 384 * 1000000000))

/-! ### Commands -/

/-- Rungs of a FH_LINK_SET record: mode and lane set. -/
def rungsOf (r : Rec) : List (Nat × Nat) := (List.range (fld r 1 1)).map fun i => (fld r (8 + i) 1, fld r (12 + i) 1)

/-- Rates never rise down the ladder (R77). -/
def ladderFalls : List (Nat × Nat) → Bool
  | a :: b :: t => decide (modeRate b.1 ≤ modeRate a.1) && ladderFalls (b :: t)
  | _ => true

/-- A MAC address is unicast and not all-zero. -/
def macOk (r : Rec) : Bool := decide (fld r 0 1 % 2 = 0) && r != zeros 6

/-- FH_LINK_SET (0x0401): FAILED clears, and the link goes to DISABLED or to DOWN on rung 0. -/
def cmdFhLinkSet : CmdDef :=
  { op := 0x0401, kind := .n, len := fixed 32, doms := fun _ => [dFH], keys := fun _ => [0]
    fields := fun s r =>
      let past := fun off => (List.range (4 - fld r 1 1)).all fun i => fld r (off + fld r 1 1 + i) 1 == 0
      [ ⟨0, 1, .uns 0 1⟩, ⟨1, 1, .uns 1 4⟩, ⟨2, 1, .bits 3⟩, ⟨3, 1, .uns 50 97⟩, ⟨4, 2, .uns 1500 9000⟩, ⟨6, 2, .uns 10 1000⟩,
        ⟨8, 4, .cond ((rungsOf r).all (fun p => decide (1 ≤ p.1) && decide (p.1 ≤ 6)) && past 8 && ladderFalls (rungsOf r))⟩,
        ⟨8, 4, .fit ((rungsOf r).all fun p => decide (p.1 ≤ fhMax s))⟩,
        ⟨12, 4, .cond ((rungsOf r).all (fun p => decide (p.2 < 16) && (setBits 4 p.2).length == modeLanes p.1) && past 12)⟩,
        ⟨16, 6, .cond (macOk ((r.drop 16).take 6))⟩,
        ⟨22, 6, .cond (macOk ((r.drop 22).take 6) || (r.drop 22).take 6 == zeros 6)⟩,
        ⟨28, 2, .uns 0 4094⟩, ⟨30, 2, .zero⟩ ]
    effect := fun _ r => .ask fun s => seqs
      [ setSetting 0x0401 0 r,
        modFh fun f => { f with
          laneFailed := 0, falling := false, rung := 0, lastChange := if f.rung = 0 then f.lastChange else now s },
        linkTo (fld r 0 1), shedLater 0xFFFF, linkSettle ] }

/-- FH_LINK_STATUS (0x0402). -/
def cmdFhLinkStatus : CmdDef :=
  { op := 0x0402, kind := .r, len := fixed 0, doms := fun _ => [dFH]
    answer := fun _ _ s => (stOK, leBytes 4 (linkStatusWord s) ++ leBytes 4 (laneStatusWord s) ++ leBytes 4 s.fh.upSince ++
      leBytes 4 s.fh.lastChange) }

/-- FH_FLOW_SET (0x0403). -/
def cmdFhFlowSet : CmdDef :=
  { op := 0x0403, kind := .t, len := fixed 16, doms := fun _ => [dFH], keys := fun r => [fld r 0 1]
    fields := fun _ r =>
      let ul := fbit r 1 1 1
      [ ⟨0, 1, .any⟩, ⟨1, 1, .cond (decide (fld r 1 1 < 32) && flowKind r != 3)⟩, ⟨2, 2, .any⟩, ⟨4, 1, .uns 0 7⟩,
        ⟨5, 1, .unit .layer⟩, ⟨6, 1, .cond (fld r 6 1 != 31 && decide (fld r 6 1 ≤ 62))⟩, ⟨7, 1, .any⟩,
        ⟨8, 2, if ul then .zero else .uns 10 1000⟩, ⟨10, 1, .uns 0 7⟩, ⟨11, 1, .zero⟩,
        ⟨12, 4, if ul then .uns 0 2000000 else .zero⟩ ]
    agree := fun _ s => if flowsAgree s then stOK else stBAD_PARAM }

/-- FH_FLOW_GET (0x0404). -/
def cmdFhFlowGet : CmdDef :=
  { op := 0x0404, kind := .r, len := fixed 1, fields := fun _ _ => [⟨0, 1, .any⟩]
    answer := fun _ r s => (stOK, flowRec s (fld r 0 1)) }

/-- FH_QUEUE_SET (0x0405). -/
def cmdFhQueueSet : CmdDef :=
  { op := 0x0405, kind := .n, len := fixed 8, doms := fun _ => [dFH], keys := fun r => [fld r 0 1]
    fields := fun s r =>
      let q := fld r 0 1
      let b := fld r 2 2
      let n := fld r 4 2
      let clash := (List.range 63).any fun p =>
        let o := queueRec s p
        p != q && fld o 4 2 != 0 && n != 0 && decide (b < fld o 2 2 + fld o 4 2) && decide (fld o 2 2 < b + n)
      [ ⟨0, 1, .cond (q != 31 && decide (q ≤ 62))⟩, ⟨1, 1, .zero⟩, ⟨2, 2, .uns 16 1535⟩,
        ⟨4, 2, .cond (decide (n ≤ 1520) && decide (b + n ≤ 1536) && !clash)⟩, ⟨6, 2, .zero⟩ ]
    own := fun _ r s => if (flows s).any (fun p => flowQueue p.2 == fld r 0 1) then stSTATE else stOK
    effect := fun _ r => setSetting 0x0405 (fld r 0 1) r }

/-- FH_STATS (0x0406). -/
def cmdFhStats : CmdDef :=
  { op := 0x0406, kind := .r, len := fixed 1, doms := fun _ => [dFH], fields := fun _ _ => [⟨0, 1, .bits 1⟩]
    answer := fun _ _ s => (stOK, ((List.range 4).flatMap fun i => leBytes 8 (totVal s blkFh 0 i)) ++ cntBytes s blkFh 0 21 ++
      leBytes 4 (satBits s blkFh 0 21))
    effect := fun _ r => whenP (fbit r 0 1 0) (.seq (clearCnts blkFh 0 21)
      (each (List.range 4) fun i => .upd (.clearTot (cntKey blkFh 0 i)))) }

/-- Counters of FH_FLOW_STATS that have a meaning in a flow's direction (R94): arrival windows and exponents downlink, launch
uplink. -/
def flowMeans (dir i : Nat) : Bool := if dir = 0 then decide (i ≤ 5) else i != 0 && i != 1 && i != 4

/-- Counters of a flow as FH_FLOW_STATS answers them: one without meaning for a VALID flow's direction reads 0 (R94). -/
def flowCounts (s : State) (f : Nat) : Rec :=
  let means := fun i => !flowValid (flowRec s f) || flowMeans (flowDir (flowRec s f)) i
  ((List.range 8).flatMap fun i => if means i then leBytes 4 (cntVal s blkFlow f i) else zeros 4) ++
    leBytes 4 (maskOf ((List.range 8).filter fun i => means i && (satBits s blkFlow f 8).testBit i))

/-- FH_FLOW_STATS (0x0407). -/
def cmdFhFlowStats : CmdDef :=
  { op := 0x0407, kind := .r, len := fixed 2, doms := fun _ => [dFH], fields := fun _ _ => [⟨0, 1, .any⟩, ⟨1, 1, .bits 1⟩]
    answer := fun _ r s =>
      let f := fld r 0 1
      (stOK, leBytes 8 (totVal s blkFlow f 0) ++ flowCounts s f)
    effect := fun _ r => whenP (fbit r 1 1 0) (.seq (clearCnts blkFlow (fld r 0 1) 8)
      (.upd (.clearTot (cntKey blkFlow (fld r 0 1) 0)))) }

end Sys2Proof.Machine
end

