-- ==== Sys2Proof/Machine/Graticule.lean ====
section
/-! DEFINITION. The graticule: weights, composite words, rotators and the sums of both pipelines, the weight store's
banks and swaps, and the commands of class 0x05 (06_graticule_beamforming R121 to R145). -/

namespace Sys2Proof.Machine

open Sys2Proof

/-! ### Complex integers -/

/-- Product of complex integers. -/
def cmul (a b : Int × Int) : Int × Int := (a.1 * b.1 - a.2 * b.2, a.1 * b.2 + a.2 * b.1)

/-- Sum of complex integers. -/
def csum (l : List (Int × Int)) : Int × Int := l.foldl (fun a b => (a.1 + b.1, a.2 + b.2)) (0, 0)

/-- ROUND of both components over a positive divisor (R125). -/
def cdiv (a : Int × Int) (d : Nat) : Int × Int := (divRna a.1 d, divRna a.2 d)

/-- SAT16 of both components (R125). -/
def csat (a : Int × Int) : Int × Int := (sat16 a.1, sat16 a.2)

/-! ### Settings -/

/-- Reset of GRAT_CONFIG. -/
def gratReset (s : State) (dir : Nat) : Rec :=
  leBytes 1 dir ++ leBytes 1 (bit (mashFit s)) ++ leBytes 1 (3 * dir) ++ leBytes 1 0 ++ List.replicate 8 4

/-- GRAT_CONFIG record in force of a direction. -/
def gratRec (s : State) (dir : Nat) : Rec := setting s 0x0501 dir (gratReset s dir)

/-- LAYER_SRC: 0 loaded, 1 Mash. -/
def layerSrc (s : State) (dir : Nat) : Nat := fld (gratRec s dir) 1 1

/-- DL_SHIFT or UL_SHIFT. -/
def gratShift (s : State) (dir : Nat) : Nat := fld (gratRec s dir) 2 1

/-- G of a carrier. -/
def groupSize (s : State) (dir c : Nat) : Nat := fld (gratRec s dir) (4 + c) 1

/-- Committed carriers of a direction. -/
def dirCars (s : State) (dir : Nat) : List Nat := if dir = 0 then txCars s else rxCars s

/-- Groups of a carrier (R129). -/
def groupsOf (s : State) (dir c : Nat) : Nat := ceilDiv (carPrb (dirCar s dir c)) (groupSize s dir c)

/-- First slot of a carrier (R130). -/
def slotBase (s : State) (dir c : Nat) : Nat :=
  sumN (((dirCars s dir).filter fun x => decide (x < c)).map (groupsOf s dir))

/-- Slots of a direction. -/
def slotsUsed (s : State) (dir : Nat) : Nat := sumN ((dirCars s dir).map (groupsOf s dir))

/-- Both directions fit 1,024 slots (R130). -/
def slotsAgree (s : State) : Bool := decide (slotsUsed s 0 ≤ 1024) && decide (slotsUsed s 1 ≤ 1024)

/-! ### The weight store (R132 to R137) -/

/-- Offset of a layer-set word. -/
def layerOff (dir bank slot layer e : Nat) : Nat :=
  (if dir = 0 then 0x100000 else 0x500000) + bank * 0x200000 + slot * 0x800 + 2 * (64 * layer + e)

/-- Offset of a beam-table word. -/
def beamOff (copy b e : Nat) : Nat := copy * 0x20000 + e / 16 * 0x8000 + b * 32 + 2 * (e % 16)

/-- Key of a slot. -/
def slotKey (dir slot : Nat) : Nat := dir * 1024 + slot

/-- Active bank of a slot. -/
def bankOf (s : State) (dir slot : Nat) : Nat := tget 0 s.grat.bank (slotKey dir slot)

/-- The slot is pending. -/
def slotPending (s : State) (dir slot : Nat) : Bool := tget 0 s.grat.pend (slotKey dir slot) == 1

/-- Pending slots of a direction. -/
def pendingSlots (s : State) (dir : Nat) : List Nat :=
  (s.grat.pend.filter fun p => p.1 / 1024 == dir && p.2 == 1).map fun p => p.1 % 1024

/-- The words of an element or layer the variant does not fit are never stored. -/
def weightFit (s : State) (layer e : Nat) : Bool := pathFit s e && decide (layer < nLayers s)

/-- A stored word as a read delivers it: 0x8000 where it cannot be delivered (R145). -/
def weightAt (s : State) (off : Nat) : Nat :=
  if badRange s 3 off 2 then cbNullWord else leNat (readBytes s .weight 3 off 2)

/-- 64 words of a record as a read returns them, absent words null, with whether one was uncorrectable. -/
def weightList (s : State) (layer : Nat) (off : Nat → Nat) : Rec × Bool :=
  ((List.range 64).flatMap (fun e => leBytes 2 (if weightFit s layer e then weightAt s (off e) else cbNullWord)),
    (List.range 64).any fun e => weightFit s layer e && badRange s 3 (off e) 2)

/-- Store 64 words of a record from an offset of it on. -/
def storeWeights (layer : Nat) (off : Nat → Nat) (r : Rec) (at_ : Nat) : Prog := .ask fun s =>
  each ((List.range 64).filter (weightFit s layer)) fun e => store .weight 3 (off e) (leBytes 2 (fld r (at_ + 2 * e) 2))

/-- The first write to a slot copies its active bank into the other, a word that cannot be delivered as 0x8000 (R145), and
marks it pending (R137). -/
def openSlot (dir slot : Nat) : Prog := .ask fun s => whenP (!slotPending s dir slot) (seqs
  [ .upd (.copy .weight (layerOff dir (bankOf s dir slot) slot 0 0) (layerOff dir (1 - bankOf s dir slot) slot 0 0) 0x800),
    noteWrite 3 (layerOff dir (1 - bankOf s dir slot) slot 0 0) 0x800,
    each (if s.ecc.err = [] ∧ s.ecc.poison = [] then [] else (List.range 1024).filter fun i =>
        badRange s 3 (layerOff dir (bankOf s dir slot) slot 0 0 + 2 * i) 2) fun i =>
      .seq (noteRead 3 (layerOff dir (bankOf s dir slot) slot 0 0 + 2 * i) 2)
        (store .weight 3 (layerOff dir (1 - bankOf s dir slot) slot 0 0 + 2 * i) (leBytes 2 cbNullWord)),
    modGrat fun g => { g with pend := tset g.pend (slotKey dir slot) 1 } ])

/-- Clear the pending marks of a direction. -/
def clearPending (dir : Nat) : Prog := modGrat fun g => { g with pend := g.pend.filter fun p => p.1 / 1024 != dir }

/-- A swap of every pending slot of a direction at boundary `b` (R138, R139). -/
def swapSlots (dir b : Nat) : Prog := .ask fun s =>
  let l := pendingSlots s dir
  .seq (modGrat fun g => { g with
      bank := l.foldl (fun t k => tset t (slotKey dir k) (1 - tget 0 t (slotKey dir k))) g.bank,
      pend := g.pend.filter fun p => p.1 / 1024 != dir })
    (whenP (dir == 1 && l != []) (modGrat fun g => { g with
      ulRelease := (b + 250000) % 2 ^ 32, ulBusy := true, ulOld := g.ulOld ++ l.map fun k => (k, (b + 250000) % 2 ^ 32) }))

/-- An uplink slot's old bank is not released yet. -/
def slotHeld (s : State) (dir slot : Nat) : Bool := dir == 1 && s.grat.ulOld.any fun p => p.1 == slot

/-- UL_BANK_RELEASE (R139): 250 µs after an uplink swap the old banks of that swap become writable. -/
def execUlBankRelease (s : State) : Host.Outcome State Fault Refusal :=
  done (whenP (domOn s dGRAT) (modGrat fun g => { g with
    ulBusy := g.ulBusy && !due s g.ulRelease, ulOld := g.ulOld.filter fun p => !due s p.2 })) s

/-- A swap of a direction is COMMITTED. -/
def swapCommitted (s : State) (dir : Nat) : Bool :=
  s.txn.live.any fun t => t.state == .committed && t.items.any fun i => i.op == 0x0507 && fld i.req 0 1 == dir

/-- A slot whose carrier, base or group span a commit changes is written null in both banks and is no longer pending
(R131). `old` and `new` tell the layout of a slot before and after. -/
def regeometry (dir : Nat) (old new : Nat → Option (Nat × Nat × Nat × Nat × Int × Nat)) : Prog :=
  each ((List.range 1024).filter fun k => old k != new k) fun k => seqs
    [ each [0, 1] fun bank => .seq
        (.upd (.fill .weight (layerOff dir bank k 0 0) (layerOff dir bank k 0 0 + 0x800)))
        (noteWrite 3 (layerOff dir bank k 0 0) 0x800),
      modGrat fun g => { g with pend := tdel g.pend (slotKey dir k) } ]

/-- Carrier, group, numerology, group size, and the band of a slot in 100 Hz from the LO: its lower edge and width (R130,
R131). -/
def slotLayout (s : State) (dir k : Nat) : Option (Nat × Nat × Nat × Nat × Int × Nat) :=
  ((dirCars s dir).find? fun c => decide (slotBase s dir c ≤ k) && decide (k < slotBase s dir c + groupsOf s dir c)).map fun c =>
    let g := k - slotBase s dir c
    let r := dirCar s dir c
    let size := groupSize s dir c
    let re : Nat := 150 * 2 ^ carMu r
    (c, g, carMu r, size, carNco r + (12 * (g * size : Nat) - 6 * (carPrb r : Int)) * re,
      12 * (min ((g + 1) * size) (carPrb r) - g * size) * re)

/-! ### Composite words (R124) -/

/-- Reciprocity correction of an element: ρ ⊕ transmit drift term ⊖ receive drift term (13 R282). -/
def recipOf (s : State) (e : Nat) : Nat :=
  let c := elemOf s e
  (cbCompose [c.rho, c.txDrift, cbInv c.rxDrift]).1

/-- GRAT.TAPER of an element and direction. -/
def taperOf (s : State) (dir e : Nat) : Nat := tget 0 s.regs (0x40201000 + 4 * e) / 65536 ^ dir % 65536

/-- The composite word of a weight for an element, with its saturation flag (R124, R125). -/
def composite (s : State) (dir e w : Nat) : Nat × Bool :=
  let c := elemOf s e
  if dir = 0 then cbCompose [w, taperOf s 0 e, c.txCorr, c.txDrift]
  else cbCompose [cbConj w, taperOf s 1 e, c.rxCorr, c.rxDrift]

/-! ### Rotators (R141, R142) -/

/-- GRAT.SKEW of a local receive index. -/
def skewOf (s : State) (i : Nat) : Int := toSigned 12 (tget 0 s.regs (0x40201100 + 4 * i))

/-- D_e of a direction, dtap. -/
def delayOf (s : State) (dir e : Nat) : Int :=
  if dir = 0 then (elemOf s e).txDelay else (elemOf s e).rxDelay + skewOf s (e % 16)

/-- GRAT.F0 of a carrier. -/
def f0Of (s : State) (dir c : Nat) : Int := toSigned 18 (tget 0 s.regs (0x40201200 + 32 * dir + 4 * c))

/-- n_g of a group, in 625 Hz: twelve times R141's units. -/
def groupFreq (s : State) (dir c g : Nat) : Int :=
  12 * (f0Of s dir c + (g * groupSize s dir c * 24 * 2 ^ carMu (dirCar s dir c) : Nat))

/-- The rotator at a frequency in 625 Hz for a delay in dtap. -/
def rotator (n d : Int) : Int × Int :=
  let th := divRna (n * d) 1536 % 65536
  (cosRound 65536 th 65536, sinRound 65536 th 65536)

/-- The flow of a section carries PRACH or SRS (R128). -/
def portFlow (s : State) (e : Section) : Bool := flowKind (flowRec s e.flow) != 0

/-- Centre of a section's allocation in 625 Hz relative to F_SURV (R128; 10 R230 for PRACH). -/
def allocFreq (s : State) (e : Section) : Int :=
  let car := rxCar s e.carrier
  let u : Int := (2 ^ carMu car : Nat)
  let centre := 12 * (f0Of s 1 e.carrier - (12 * (groupSize s 1 e.carrier : Int) - 1 - 12 * (carPrb car : Int)) * u)
  match e.type, (occasionFor s e).bind fun o => prachRow o.filter with
  | 3, some row => centre + (e.freqOff + (row.2.1 : Int) - 1) * row.1 / 1250
  | _, _ => 12 * (f0Of s 1 e.carrier + (24 * (e.startPrb : Int) + 12 * (e.numPrb : Int) - 12 * (groupSize s 1 e.carrier : Int)) * u)

/-- Frequency of the rotator of a section's PRB. -/
def rotFreq (s : State) (dir : Nat) (e : Section) (g : Nat) : Int :=
  if dir = 1 ∧ portFlow s e = true then allocFreq s e else groupFreq s dir e.carrier g

/-! ### The weight of a resource element (R126, R128) -/

/-- Offset of the weight word of an element for a PRB of a section; none where rule 5 gives null. -/
def weightOff (s : State) (dir : Nat) (x : Section) (prb e : Nat) : Option Nat :=
  let layer := flowLayer (flowRec s x.flow)
  match (if x.type = 1 then x.wts else none) with
  | some (1, _, u) => some (u * 64 + 2 * e)
  | some (_, n, u) =>
    let v := (prb - x.startPrb) / max 1 x.bund
    if v < n then some ((u + 2 * v) * 64 + 2 * e) else none
  | none =>
    if x.beam = 0 then
      (if portFlow s x then none
      else
        let slot := slotBase s dir x.carrier + prb / groupSize s dir x.carrier
        some (layerOff dir (bankOf s dir slot) slot layer e))
    else if x.beam ≤ 1024 then some (beamOff s.grat.beamCopy (x.beam - 1) e)
    else none

/-- The weight word. -/
def weightFor (s : State) (dir : Nat) (x : Section) (prb e : Nat) : Nat :=
  match weightOff s dir x prb e with
  | some off => weightAt s off
  | none => cbNullWord

/-- Converted composite word of an element for a PRB of a section (R122, R123). -/
def weightCart (s : State) (dir : Nat) (x : Section) (prb e : Nat) : Int × Int :=
  cbCart (composite s dir e (weightFor s dir x prb e)).1

/-- The section names no weight: each of its PRBs counts in BEAM_UNDEF (R126, R128). -/
def beamUndef (s : State) (x : Section) : Bool :=
  (x.type != 1 || x.wts.isNone) && (decide (1024 < x.beam) || (x.beam == 0 && portFlow s x))

/-! ### The two sums -/

/-- RE_MASK of a section covers an element of a PRB; its highest bit is the lowest element (assumption log 24). -/
def maskHas (x : Section) (i : Nat) : Bool := x.reMask.testBit (11 - i)

/-- The section covers resource element k of its carrier. -/
def coversRe (x : Section) (k : Nat) : Bool :=
  decide (x.startPrb ≤ k / 12) && decide (k / 12 < x.startPrb + x.numPrb) && maskHas x (k % 12)

/-- One resource element's clamped output and whether it was clamped (R122, R123, R125). -/
def gratOut (s : State) (dir : Nat) (z : Int × Int) : (Int × Int) × Bool :=
  let y := cdiv z (2 ^ (28 + gratShift s dir))
  (csat y, csat y != y)

/-- The downlink output x_e(k) from the layers' samples: section and sample of each layer with data (R122, R143). -/
def dlOut (s : State) (c e k : Nat) (l : List (Section × (Int × Int))) : (Int × Int) × Bool :=
  if l = [] ∨ elActive s 0 e = false then ((0, 0), false)
  else
    let z := csum (l.map fun p => cmul (weightCart s 0 p.1 (k / 12) e) p.2)
    gratOut s 0 (cmul (rotator (groupFreq s 0 c (k / 12 / groupSize s 0 c)) (delayOf s 0 e)) z)

/-- The uplink output y_l(k) of a section from the elements' samples (R123, R143). -/
def ulOut (s : State) (x : Section) (k : Nat) (r : List (Nat × (Int × Int))) : (Int × Int) × Bool :=
  let g := k / 12 / groupSize s 1 x.carrier
  gratOut s 1 (csum ((r.filter fun p => elActive s 1 p.1).map fun p =>
    cmul (cmul (weightCart s 1 x (k / 12) p.1) (rotator (rotFreq s 1 x g) (delayOf s 1 p.1))) p.2))

/-! ### Counting what a symbol meets (R125, R126, R145) -/

/-- PRBs of a section at which its weight word or group changes. -/
def weightRuns (s : State) (dir : Nat) (x : Section) : List Nat :=
  let key := fun prb => (prb / groupSize s dir x.carrier, weightOff s dir x prb 0)
  (List.range x.numPrb).filterMap fun i =>
    let p := x.startPrb + i
    if i = 0 ∨ key p ≠ key (p - 1) then some p else none

/-- Active elements of a direction. -/
def activeEls (s : State) (dir : Nat) : List Nat := (List.range 64).filter (elActive s dir)

/-- CB_SAT, WEIGHT_ECC and BEAM_UNDEF of the sections a symbol processes; `s` is the state that holds its settings. -/
def countWeights (s : State) (dir air : Nat) (l : List Section) : Prog :=
  let uses := l.flatMap fun x => (weightRuns s dir x).flatMap fun p => (activeEls s dir).map fun e => (x, p, e)
  let sat := (uses.filter fun u => (composite s dir u.2.2 (weightFor s dir u.1 u.2.1 u.2.2)).2).length
  let bad := if s.ecc.err = [] ∧ s.ecc.poison = [] then [] else uses.filterMap fun u =>
    match weightOff s dir u.1 u.2.1 u.2.2 with
    | some off => if badRange s 3 off 2 then some ((u.2.2, u.1.carrier, u.2.1 / groupSize s dir u.1.carrier), off) else none
    | none => none
  seqs
    [ countN blkGrat 0 0 sat,
      countN blkGrat 0 3 (distinct (bad.map (·.1))).length,
      countN blkGrat 0 4 (sumN ((l.filter (beamUndef s)).map (·.numPrb))),
      each (bad.map (·.2)) fun off => noteRead 3 off 2,
      match bad with
      | [] => .skip
      | b :: _ => weightEcc (slotOf s air) b.2 ]

/-! ### Commands -/

/-- GRAT.STATUS. -/
def gratStatusWord (s : State) : Nat :=
  s.grat.beamCopy + 2 * bit (swapCommitted s 0) + 4 * bit (swapCommitted s 1) + 8 * bit s.grat.ulBusy + 16 * layerSrc s 0 +
    32 * layerSrc s 1

/-- GRAT_CONFIG (0x0501): a change of the source clears the direction's pending marks. -/
def cmdGratConfig : CmdDef :=
  { op := 0x0501, kind := .t, len := fixed 12, doms := fun _ => [dGRAT], keys := fun r => [fld r 0 1]
    fields := fun s r => [⟨0, 1, .uns 0 1⟩, ⟨1, 1, .uns 0 1⟩, ⟨1, 1, .fit (fld r 1 1 != 1 || mashFit s)⟩, ⟨2, 1, .uns 0 6⟩,
      ⟨3, 1, .zero⟩] ++ (List.range 8).map fun c => ⟨4 + c, 1, .uns 1 16⟩
    agree := fun _ s => if slotsAgree s && flowsAgree s then stOK else stBAD_PARAM
    apply := fun _ r => .ask fun s => whenP (layerSrc s (fld r 0 1) != fld r 1 1) (clearPending (fld r 0 1)) }

/-- GRAT_BEAM_WRITE (0x0503): the copies flip once, after the transaction's last item. -/
def cmdGratBeamWrite : CmdDef :=
  { op := 0x0503, kind := .t, len := fixed 136, doms := fun _ => [dGRAT], keys := fun r => [fld r 0 2], stores := false
    fields := fun _ _ => [⟨0, 2, .uns 1 1024⟩] ++ rsv 2 6
    apply := fun _ r => .ask fun s => seqs
      [ whenP (!s.grat.beamPrep) (seqs
          [ .upd (.copy .weight (s.grat.beamCopy * 0x20000) ((1 - s.grat.beamCopy) * 0x20000) 0x20000),
            noteWrite 3 ((1 - s.grat.beamCopy) * 0x20000) 0x20000,
            modGrat fun g => { g with beamPrep := true } ]),
        storeWeights 0 (fun e => beamOff (1 - s.grat.beamCopy) (fld r 0 2 - 1) e) r 8 ] }

/-- The copies flip after a transaction that wrote beams. -/
def flipBeams : Prog := .ask fun s => whenP s.grat.beamPrep
  (modGrat fun g => { g with beamPrep := false, beamCopy := 1 - g.beamCopy })

/-- GRAT_BEAM_READ (0x0504). -/
def cmdGratBeamRead : CmdDef :=
  { op := 0x0504, kind := .r, len := fixed 2, doms := fun _ => [dGRAT], fields := fun _ _ => [⟨0, 2, .uns 1 1024⟩]
    answer := fun _ r s =>
      let w := weightList s 0 fun e => beamOff s.grat.beamCopy (fld r 0 2 - 1) e
      (if w.2 then stECC_UNCORR else stOK, w.1)
    effect := fun _ r => .ask fun s => each (List.range (nSheets s)) fun n =>
      noteRead 3 (beamOff s.grat.beamCopy (fld r 0 2 - 1) (16 * n)) 32 }

/-- Slot a weight command names. -/
def namedSlot (s : State) (r : Rec) : Nat := slotBase s (fld r 0 1) (fld r 1 1) + fld r 2 2

/-- Fields by which a weight command names a slot's layer. DESIGN CHOICE (assumption log 85): on the IK6432 layers 8 to 15
pass, for R132 says that such a word is ignored when written and reads as 0x8000. -/
def slotFields (s : State) (r : Rec) : List Fld :=
  let d := fld r 0 1
  [⟨0, 1, .uns 0 1⟩, ⟨1, 1, .cond ((dirCars s d).contains (fld r 1 1))⟩, ⟨2, 2, .cond (decide (fld r 2 2 < groupsOf s d (fld r 1 1)))⟩,
    ⟨4, 1, .uns 0 15⟩]

/-- GRAT_WEIGHT_WRITE (0x0505). -/
def cmdGratWeightWrite : CmdDef :=
  { op := 0x0505, kind := .n, len := fixed 136, doms := fun _ => [dGRAT]
    fields := fun s r => slotFields s r ++ rsv 5 3
    own := fun _ r s =>
      let d := fld r 0 1
      if layerSrc s d = 1 then stSTATE
      else if swapCommitted s d = true ∨ slotHeld s d (namedSlot s r) = true then stBUSY
      else stOK
    effect := fun _ r => .ask fun s =>
      let d := fld r 0 1
      let k := namedSlot s r
      .seq (openSlot d k) (storeWeights (fld r 4 1) (layerOff d (1 - bankOf s d k) k (fld r 4 1)) r 8) }

/-- GRAT_WEIGHT_READ (0x0506). -/
def cmdGratWeightRead : CmdDef :=
  { op := 0x0506, kind := .r, len := fixed 8, doms := fun _ => [dGRAT]
    fields := fun s r => slotFields s r ++ [⟨5, 1, .uns 0 1⟩] ++ rsv 6 2
    answer := fun _ r s =>
      let d := fld r 0 1
      let k := namedSlot s r
      let b := if fld r 5 1 = 0 then bankOf s d k else 1 - bankOf s d k
      let w := weightList s (fld r 4 1) (layerOff d b k (fld r 4 1))
      (if w.2 then stECC_UNCORR else stOK,
        leBytes 1 (bit (slotPending s d k) + 2 * bankOf s d k) ++ zeros 3 ++ w.1)
    effect := fun _ r => .ask fun s =>
      let d := fld r 0 1
      let k := namedSlot s r
      let b := if fld r 5 1 = 0 then bankOf s d k else 1 - bankOf s d k
      whenP (decide (fld r 4 1 < nLayers s)) (noteRead 3 (layerOff d b k (fld r 4 1) 0) (2 * nPaths s)) }

/-- GRAT_WEIGHT_SWAP (0x0507). -/
def cmdGratWeightSwap : CmdDef :=
  { op := 0x0507, kind := .s, len := fixed 4, doms := fun _ => [dGRAT], keys := fun r => [fld r 0 1], stores := false
    fields := fun _ _ => [⟨0, 1, .uns 0 1⟩] ++ rsv 1 3
    own := fun _ r s => if layerSrc s (fld r 0 1) = 1 then stSTATE else stOK
    apply := fun b r => swapSlots (fld r 0 1) b }

/-- Mask of the fitted elements with a property. -/
def fitMask (s : State) (p : Nat → Bool) : Nat := maskOf ((paths s).filter p)

/-- GRAT_STATUS (0x0508). -/
def cmdGratStatus : CmdDef :=
  { op := 0x0508, kind := .r, len := fixed 1, doms := fun _ => [dGRAT], fields := fun _ _ => [⟨0, 1, .bits 1⟩]
    answer := fun _ _ s => (stOK, leBytes 8 (activeMask s 0) ++ leBytes 8 (activeMask s 1) ++
      leBytes 8 (fitMask s fun e => (isoMask s 0).testBit e || (isoMask s 1).testBit e) ++
      leBytes 8 (fitMask s (kilnOff s 0)) ++ leBytes 8 (fitMask s (kilnOff s 1)) ++
      leBytes 2 (pendingSlots s 0).length ++ leBytes 2 (pendingSlots s 1).length ++ leBytes 1 (gratStatusWord s) ++ zeros 3 ++
      leBytes 4 (if s.grat.ulBusy then s.grat.ulRelease else 0) ++ cntBytes s blkGrat 0 5 ++ leBytes 4 (satBits s blkGrat 0 5))
    effect := fun _ r => whenP (fbit r 0 1 0) (clearCnts blkGrat 0 5) }

end Sys2Proof.Machine
end

