-- ==== Sys2Proof/Machine/Transform.lean ====
section
/-! DEFINITION. The Fourier transforms of both datapaths, phase compensation, prefixes and PRACH transforms
(08_transmit_path R165, R166, R169; 10_receive_path R221, R230, R233). -/

namespace Sys2Proof.Machine

open Sys2Proof

/-! ### The phase tables (08 R168) -/

/-- COS16[q]. -/
def cos16 (q : Int) : Int := cosRound 32767 q 65536

/-- SIN16[q]. -/
def sin16 (q : Int) : Int := cos16 (q - 16384)

/-- E(P) for a phase in units of 1/9,830,400 turn. -/
def ePhase (p : Int) : Int × Int := (cos16 (p % 9830400 / 150), sin16 (p % 9830400 / 150))

/-! ### The transform (08 R165) -/

/-- Elements at even positions. -/
def evens {α : Type} : List α → List α
  | [] => []
  | [a] => [a]
  | a :: _ :: t => a :: evens t

/-- Elements at odd positions. -/
def odds {α : Type} : List α → List α
  | _ :: b :: t => b :: odds t
  | _ => []

/-- TW[t] of a transform of `n` points, conjugated for the forward transform. -/
def twiddle (forward : Bool) (n t : Nat) : Int × Int :=
  (cosRound 131071 t n, (if forward then -1 else 1) * sinRound 131071 t n)

/-- The butterflies of 2^k points over bit-reversed input, every product rounded by 2^17. -/
def butterflies (forward : Bool) : Nat → List (Int × Int) → List (Int × Int)
  | 0, x => x
  | k + 1, x =>
    let a := butterflies forward k (evens x)
    let b := (butterflies forward k (odds x)).zipIdx.map fun p => cdiv (cmul (twiddle forward (2 ^ (k + 1)) p.2) p.1) 131072
    (a.zip b).map (fun p => (p.1.1 + p.2.1, p.1.2 + p.2.2)) ++ (a.zip b).map fun p => (p.1.1 - p.2.1, p.1.2 - p.2.2)

/-- Division by 2^shift with ROUND and SAT16, and the number of samples with a clamped component. -/
def scaleSat (shift : Nat) (x : List (Int × Int)) : List (Int × Int) × Nat :=
  let y := x.map fun z => cdiv z (2 ^ shift)
  (y.map csat, (y.filter fun z => csat z != z).length)

/-- log2 of a carrier's transform size. -/
def carLevels (r : Rec) : Nat := 11 + carRate r - carMu r

/-- IFFT_SHIFT or FFT_SHIFT in force: ceil(log2(N) / 2) where the record gives 0. -/
def fftShift (r : Rec) : Nat := if fld r 3 1 = 0 then (carLevels r + 1) / 2 else fld r 3 1

/-! ### Downlink symbols (08 R165, R166, R169) -/

/-- Ψ of symbol `j` of half-subframe `h` for the centre f_0 in 100 Hz (08 R169). -/
def phaseComp (r : Rec) (lo : Nat) (h j : Nat) : Int :=
  if fbit r 1 1 3 then
    let mu := carMu r
    let nu := 8192 / 2 ^ mu
    let cp := 576 / 2 ^ mu
    let u : Nat := 61440 * (h % 2) + 64 + j * (nu + cp) + cp
    (-(400 * (((lo : Int) * 10 + carNco r) / 50) * u)) % 9830400
  else 0

/-- Elements in bin order: element k goes to bin (k − N_RE / 2) mod N. -/
def toBins (n : Nat) (re : List (Int × Int)) : List (Int × Int) :=
  let half := re.length / 2
  re.drop half ++ List.replicate (n - re.length) (0, 0) ++ re.take half

/-- Prefix length of symbol `j` of a half-subframe in samples at f_s (R102 scaled). -/
def cpLen (r : Rec) (j : Nat) : Nat := carNcp r + (if j = 0 then 16 * 2 ^ carRate r else 0)

/-- Stage-3 samples of a symbol, prefix first, with the clamped samples of the inverse transform. -/
def symbolOut (r : Rec) (lo h j : Nat) (re : List (Int × Int)) : List (Int × Int) × Nat :=
  let y := scaleSat (fftShift r) (butterflies false (carLevels r) (toBins (carN r) re))
  let e := ePhase (phaseComp r lo h j)
  let z := y.1.map fun v => cdiv (cmul v e) 32768
  (z.drop (z.length - cpLen r j) ++ z, y.2)

/-! ### Uplink symbols (10 R221) -/

/-- Element `k` from the transform with BACKOFF `b`. -/
def fromBin (n prb b : Nat) (x : List (Int × Int)) (k : Nat) : Int × Int :=
  let bin := (k + n - 6 * prb) % n
  let signed : Int := if bin < n / 2 then bin else (bin : Int) - n
  let q : Int := signed * b * 65536 / n % 65536
  cdiv (cmul (x.getD bin (0, 0)) (cos16 q, sin16 q)) 32768

/-- Stage-8 resource elements of a symbol's stage-7 samples, with the clamped samples of the transform. -/
def symbolIn (r : Rec) (lo h j : Nat) (x : List (Int × Int)) : List (Int × Int) × Nat :=
  let b := fld r 12 1
  let n := carN r
  let w := (x.drop (cpLen r j - b)).take n
  let e := ePhase (-(phaseComp r lo h j))
  let v := if fbit r 1 1 3 then w.map fun z => cdiv (cmul z e) 32768 else w
  let y := scaleSat (fftShift r) (butterflies true (carLevels r) v)
  ((List.range (12 * carPrb r)).map (fromBin n (carPrb r) b y.1), y.2)

/-- A path's share of the correlation of R233: c and twice the energy of a symbol's prefix. -/
def correlate (r : Rec) (j : Nat) (x : List (Int × Int)) : (Int × Int) × Nat :=
  let cp := cpLen r j
  let a := (x.take cp).drop (cp / 4)
  let b := (x.drop (carN r + cp / 4)).take (cp - cp / 4)
  let p := a.zip b
  (csum (p.map fun q => cmul q.1 (q.2.1, -q.2.2)),
    (sumI (p.map fun q => q.1.1 ^ 2 + q.1.2 ^ 2 + q.2.1 ^ 2 + q.2.2 ^ 2)).toNat)

/-! ### PRACH (10 R230) -/

/-- Elements at positions m, m + 3, … -/
def thirds {α : Type} (m : Nat) (x : List α) : List α := (x.zipIdx.filter fun p => p.2 % 3 == m).map (·.1)

/-- The N_RA-point transform of a repetition's samples, and the values clamped. -/
def prachTransform (n : Nat) (x : List (Int × Int)) : List (Int × Int) × Nat :=
  if n = 1536 then
    let f := (List.range 3).map fun r => butterflies true 9 (thirds r x)
    scaleSat 6 ((List.range 1536).map fun k => csum (f.zipIdx.map fun p =>
      cdiv (cmul (twiddle true 1536 (p.2 * k % 1536)) (p.1.getD (k % 512) (0, 0))) 131072))
  else scaleSat 4 (butterflies true 8 x)

/-- PRACH resource elements of a repetition, and the values its transform clamped (R221 step 2, R230). -/
def prachOut (n len : Nat) (x : List (Int × Int)) : List (Int × Int) × Nat :=
  let y := prachTransform n x
  ((List.range len).map fun m => y.1.getD ((m + n - (len - 1) / 2) % n) (0, 0), y.2)

end Sys2Proof.Machine
end

