-- ==== Sys2Proof/Machine/Binary32.lean ====
section
/-! DEFINITION. IEEE 754 binary32 as the engines use it (07_mash_weight_engine R158): every product and sum rounded to
nearest, ties to even, no fused multiply-add, denormal results zero; and the LDL^H solution built on it. -/

namespace Sys2Proof.Machine

open Sys2Proof

/-- A binary32 value m × 2^e; none stands for every value that is not finite. -/
abbrev F32 := Option (Int × Int)

/-- Bits of a number. -/
def bitLen (n : Nat) : Nat := if n = 0 then 0 else Nat.log2 n + 1

/-- The value m × 2^e rounded to binary32; `sticky` tells that bits below m were cut off. -/
def fRound (m : Int) (e : Int) (sticky : Bool) : F32 :=
  let a := 2 * m.natAbs + bit sticky
  let n := bitLen a
  let d := n - 24
  let q : Int := divRne ((a : Nat) : Int) (2 ^ d)
  let top : Int := (bitLen q.natAbs : Nat) + (d : Nat) + e - 1
  if m = 0 then some (0, 0)
  else if 128 < top then none
  else if top ≤ -126 then some (0, 0)
  else some (if m < 0 then -q else q, (d : Nat) + e - 1)

/-- An integer times a power of two, rounded. -/
def fOf (m e : Int) : F32 := fRound m e false

/-- Zero. -/
def f0 : F32 := some (0, 0)

/-- Sum. -/
def fAdd : F32 → F32 → F32
  | some (a, x), some (b, y) =>
    let e := min x y
    fRound (a * 2 ^ (x - e).toNat + b * 2 ^ (y - e).toNat) e false
  | _, _ => none

/-- Negation. -/
def fNeg : F32 → F32
  | some (a, x) => some (-a, x)
  | none => none

/-- Difference. -/
def fSub (a b : F32) : F32 := fAdd a (fNeg b)

/-- Product. -/
def fMul : F32 → F32 → F32
  | some (a, x), some (b, y) => fRound (a * b) (x + y) false
  | _, _ => none

/-- Quotient; by zero it is not finite. -/
def fDiv : F32 → F32 → F32
  | some (a, x), some (b, y) =>
    if b = 0 then none
    else
      let n := a.natAbs * 2 ^ 80
      let q : Int := ((n / b.natAbs : Nat) : Int)
      fRound (if (a < 0) = (b < 0) then q else -q) (x - y - 80) (n % b.natAbs != 0)
  | _, _ => none

/-- The value a, finite, lies above b × 2^k. -/
def fAbove (a : F32) (b : F32) (k : Int) : Bool :=
  match a, b with
  | some (m, x), some (n, y) =>
    let e := min x (y + k)
    decide (n * 2 ^ (y + k - e).toNat < m * 2 ^ (x - e).toNat)
  | _, _ => false

/-- 10^(m/40) rounded to nearest, for a power in qdB from −320 to 0 (assumption log 26). -/
def fPow (m : Int) : F32 :=
  let k := (-m).toNat
  let ge := fun (r : Nat) (sh : Nat) => decide ((2 * r - 1) ^ 40 * 10 ^ k ≤ 2 ^ (40 * (sh + 1)))
  let sh := ((List.range 64).find? fun i => ge (2 ^ 23) i).getD 0
  some ((bisect (fun r => r = 0 || ge r sh) 24 0 : Nat), -(sh : Nat))

/-! ### Complex values -/

/-- A complex binary32 value. -/
abbrev C32 := F32 × F32

def cZero : C32 := (f0, f0)
def cAdd (a b : C32) : C32 := (fAdd a.1 b.1, fAdd a.2 b.2)
def cSub (a b : C32) : C32 := (fSub a.1 b.1, fSub a.2 b.2)
def cConj (a : C32) : C32 := (a.1, fNeg a.2)
def cMul (a b : C32) : C32 := (fSub (fMul a.1 b.1) (fMul a.2 b.2), fAdd (fMul a.1 b.2) (fMul a.2 b.1))
def cScale (k : F32) (a : C32) : C32 := (fMul k a.1, fMul k a.2)
def cOver (a : C32) (d : F32) : C32 := (fDiv a.1 d, fDiv a.2 d)
def cFinite (a : C32) : Bool := a.1.isSome && a.2.isSome

/-- Σ a × conj(b) in list order. -/
def cDot (a b : List C32) : C32 := (a.zip b).foldl (fun s p => cAdd s (cMul p.1 (cConj p.2))) cZero

/-- Element of a matrix held by rows. -/
def cAt (m : List (List C32)) (i j : Nat) : C32 := (m.getD i []).getD j cZero

/-- Sum of the real diagonal. -/
def fTrace (m : List (List C32)) : F32 := (List.range m.length).foldl (fun s i => fAdd s (cAt m i i).1) f0

/-- Column j of the factor L and its pivot, from the columns before it: L[i][j] = (A[i][j] − Σ_k L[i][k] D[k] conj L[j][k])
/ D[j], k ascending. Columns are held whole, rows above the diagonal zero. -/
def ldlColumn (a : List (List C32)) (cols : List (List C32)) (piv : List F32) (j : Nat) : List C32 × F32 :=
  let rem := fun i => ((cols.zip piv).foldl (fun s c =>
    cSub s (cMul (cScale c.2 (c.1.getD i cZero)) (cConj (c.1.getD j cZero)))) (cAt a i j))
  let d := (rem j).1
  ((List.range a.length).map fun i => if i < j then cZero else if i = j then (fOf 1 0, f0) else cOver (rem i) d, d)

/-- The factorization A = L D L^H, columns ascending. -/
def ldl (a : List (List C32)) : List (List C32) × List F32 :=
  (List.range a.length).foldl (fun s j =>
    let c := ldlColumn a s.1 s.2 j
    (s.1 ++ [c.1], s.2 ++ [c.2])) ([], [])

/-- Forward, diagonal and back substitution. -/
def ldlSolve (f : List (List C32) × List F32) (b : List C32) : List C32 :=
  let n := f.2.length
  let l := fun i j => (f.1.getD j []).getD i cZero
  let y := (List.range n).foldl (fun y i =>
    y ++ [(List.range i).foldl (fun s k => cSub s (cMul (l i k) (y.getD k cZero))) (b.getD i cZero)]) []
  let z := (y.zip f.2).map fun p => cOver p.1 p.2
  (List.range n).foldl (fun x t =>
    let i := n - 1 - t
    ((List.range (n - 1 - i)).foldl (fun s k =>
      cSub s (cMul (cConj (l (i + 1 + k) i)) (x.getD k cZero))) (z.getD i cZero)) :: x) []

/-- Every pivot is finite and above 2^−100 × trace(A) (R160). -/
def ldlGood (a : List (List C32)) (piv : List F32) : Bool := piv.all fun d => fAbove d (fTrace a) (-100)

/-- A with a real diagonal load added, element i by `load i`. -/
def loaded (a : List (List C32)) (load : Nat → F32) : List (List C32) :=
  a.zipIdx.map fun r => r.1.zipIdx.map fun c => if r.2 = c.2 then (fAdd c.1.1 (load r.2), c.1.2) else c.1

/-- One Jacobi rotation in the plane (p, q): J is the identity but for J[p][p] = J[q][q] = c, J[p][q] = t and
J[q][p] = −conj t, with c and t of Config.jacobi; K becomes J^H × K × J and V becomes V × J (assumption log 29). -/
def jacobiStep (x : List (List C32) × List (List C32)) (pq : Nat × Nat) : List (List C32) × List (List C32) :=
  let (p, q) := pq
  let k := x.1
  let ct := Config.jacobi (cAt k p p).1 (cAt k q q).1 (cAt k p q)
  let c := ct.1
  let t := ct.2
  let onCols := fun (m : List (List C32)) => m.map fun r => r.zipIdx.map fun z =>
    if z.2 = p then cSub (cScale c z.1) (cMul (r.getD q cZero) (cConj t))
    else if z.2 = q then cAdd (cScale c z.1) (cMul (r.getD p cZero) t) else z.1
  let onRows := fun (m : List (List C32)) => m.zipIdx.map fun r => r.1.zipIdx.map fun z =>
    if r.2 = p then cSub (cScale c z.1) (cMul t (cAt m q z.2))
    else if r.2 = q then cAdd (cScale c z.1) (cMul (cConj t) (cAt m p z.2)) else z.1
  (onRows (onCols k), onCols x.2)

/-- The planes of one sweep in order: (0,1), (0,2), and so on (R158). -/
def sweep (n : Nat) : List (Nat × Nat) :=
  (List.range n).flatMap fun p => ((List.range n).filter fun q => decide (p < q)).map fun q => (p, q)

/-- The eigenpairs of a Hermitian matrix after four cyclic Jacobi sweeps, by descending eigenvalue, ties by the lower index
(R158): eigenvalue and vector. -/
def eigenPairs (k : List (List C32)) : List (F32 × List C32) :=
  let n := k.length
  let v0 : List (List C32) := (List.range n).map fun i => (List.range n).map fun j => (fOf (bit (i == j) : Nat) 0, f0)
  let x := ((List.replicate 4 (sweep n)).flatten).foldl jacobiStep (k, v0)
  ((List.range n).map fun i => ((cAt x.1 i i).1, (List.range n).map fun r => cAt x.2 r i)).mergeSort fun a b => !fAbove b.1 a.1 0

/-- Exact value of a finite pair over a common power of two: integers x, y with the value (x + jy) × 2^e. -/
def cExact (a : C32) : Int × Int × Int :=
  match a with
  | (some (m, x), some (n, y)) =>
    let e := min x y
    (m * 2 ^ (x - e).toNat, n * 2 ^ (y - e).toNat, e)
  | _ => (0, 0, 0)

end Sys2Proof.Machine
end

