-- ==== Sys2Proof/Machine/Ready.lean ====
section
/-! DEFINITION. Transmit holds, readiness of sheets, and the symbols a sheet mutes or zeroes whole
(08_transmit_path R179 to R183; 10_receive_path R226, R227; 12_lo_radio_states R270). -/

namespace Sys2Proof.Machine

open Sys2Proof

/-! ### States and their spacing (12 R266, R267) -/

/-- Code of a radio state. -/
def radioCode : Radio → Nat
  | .sleep => 0
  | .standby => 1
  | .synth => 2
  | .rx => 3
  | .tx => 4

/-- The state of a code. -/
def radioOf : Nat → Radio
  | 0 => .sleep
  | 1 => .standby
  | 2 => .synth
  | 3 => .rx
  | _ => .tx

/-- Δ between adjacent states, ns. -/
def adjDelta : Radio → Radio → Nat
  | .sleep, .standby => 2000000
  | .standby, .synth => 180000
  | .synth, .rx => 3000
  | .synth, .tx => 4000
  | .rx, .tx | .tx, .rx | .rx, .synth | .tx, .synth => 600
  | .synth, .standby => 1000
  | .standby, .sleep => 20000
  | _, _ => 0

/-- The next state on the way from `a` to `b`. -/
def nextHop (a b : Radio) : Radio :=
  match a, b with
  | .sleep, .sleep => .sleep
  | .sleep, _ => .standby
  | .standby, .sleep => .sleep
  | .standby, .standby => .standby
  | .standby, _ => .synth
  | .synth, .sleep => .standby
  | .synth, c => c
  | .rx, .tx => .tx
  | .rx, .rx => .rx
  | .tx, .rx => .rx
  | .tx, .tx => .tx
  | .rx, _ | .tx, _ => .synth

/-- Δ of a transition over at most `fuel` steps. -/
def deltaVia : Nat → Radio → Radio → Nat
  | 0, _, _ => 0
  | k + 1, a, b => if a = b then 0 else adjDelta a (nextHop a b) + deltaVia k (nextHop a b) b

/-- Δ of a transition (R267). -/
def deltaOf (a b : Radio) : Nat := deltaVia 4 a b

/-- Δ of a timer's action; CHANGE has none. -/
def actionDelta (a : Radio) (action : Nat) : Nat := if action = 5 then 0 else deltaOf a (radioOf action)

/-- State a sheet is in once its transition in progress and those deferred behind it are over. -/
def stateSoon (r : Sheet) : Radio :=
  match r.deferred.getLast? with
  | some q => radioOf q.1
  | none => (r.trans.map (·.1)).getD r.state

/-- State a sheet will be in at the firing of a timer for `te` (R268): after every other state timer with an earlier t_e. -/
def stateAhead (r : Sheet) (te : Nat) : Radio :=
  let l := r.timers.filter fun t => decide (t.2.action ≤ 4) && decide (int32Diff t.2.tE te < 0)
  match l with
  | [] => stateSoon r
  | t :: ts => radioOf (ts.foldl (fun a b => if int32Diff a.2.tE b.2.tE < 0 then b else a) t).2.action

/-- State reached at datum time `t` on the way to `target`, to be over at `te`. -/
def hopAt : Nat → Radio → Radio → Nat → Nat → Radio
  | 0, a, _, _, _ => a
  | k + 1, a, target, te, t =>
    let b := nextHop a target
    if a ≠ target ∧ 0 ≤ int32Diff t (add32 te (-(deltaOf b target : Int))) then hopAt k b target te t else a

/-- State a sheet will be in at datum time `t`, ahead by less than its timers are armed: its transition in progress, then each
armed state timer in turn (12 R267, R268). -/
def stateAt (r : Sheet) (t : Nat) : Radio :=
  let now_ := match r.trans with
    | some (target, te) => hopAt 4 r.state target te t
    | none => r.state
  let l := (r.timers.map (·.2)).filter fun x => decide (x.action ≤ 4)
  let past := l.filter fun x => decide (0 ≤ int32Diff t x.tE)
  let at_ := match past with
    | [] => now_
    | x :: xs => radioOf (xs.foldl (fun a b => if int32Diff a.tE b.tE < 0 then b else a) x).action
  match l.filter fun x => decide (int32Diff t x.tE < 0) with
  | [] => at_
  | x :: xs =>
    let y := xs.foldl (fun a b => if int32Diff b.tE a.tE < 0 then b else a) x
    hopAt 4 at_ (radioOf y.action) y.tE t

/-! ### Holds (08 R179) -/

def holdPin : Nat := 0
def holdRef : Nat := 1
def holdLo : Nat := 2
def holdBias : Nat := 5
/-- The coexistence hold that cuts the symbol in progress, and the one in whole symbols (14 R326, R327). -/
def holdCoex : Nat := 6
def holdCoexWhole : Nat := 7

/-- Holds in force of a sheet, those of R182 and R183 apart. -/
def holds (s : State) (n : Nat) : Nat := tget 0 s.tx.hold n

/-- Put a hold into force on a sheet. -/
def setHold (n b : Nat) : Prog := modTx fun t => { t with
  hold := tmod 0 t.hold n fun h => h ||| 2 ^ b, release := tdel t.release (8 * n + b) }

/-- A hold ends at the first symbol start at or after a datum time. -/
def endHold (n b at_ : Nat) : Prog := .ask fun s => whenP ((holds s n).testBit b)
  (modTx fun t => { t with release := tset t.release (8 * n + b) at_ })

/-- Datum time of the first symbol start of any committed downlink carrier at or after a datum time; that time itself with
no carrier committed (R181, R182). -/
def firstSymbol (s : State) (t : Nat) : Nat :=
  let l := (txCars s).map fun c => (nextBoundary s 1 (carMu (txCar s c)) (extTotal s.datum.ref t)).2.2
  match l with
  | [] => t
  | a :: r => counterAt s (r.foldl min a)

/-- A path hold of R179, which changes at commit boundaries only: its element is not active, or MUTE is set. -/
def pathQuiet (s : State) (p : Nat) : Bool := !elActive s 0 p || fbit (txPathRec s p) 1 1 0

/-- A path carries its mute code whatever its sheet does: a path hold of R179, or its DAC failed (11 R250). -/
def pathHeld (s : State) (p : Nat) : Bool := pathQuiet s p || s.tx.pathHold.testBit p

/-! ### The receive stages (10 R214) -/

/-- RX_PATH_SET record of a path in force. -/
def rxPathRec (s : State) (p : Nat) : Rec := setting s 0x0803 p (rxPathReset p)

/-- State of a sheet for the receive stages: 0 in RX and ready, 1 in RX and not ready, 2 not in RX. -/
def rxCode (s : State) (n : Nat) : Nat := if (sh s n).state != .rx then 2 else if (sh s n).rxReady then 0 else 1

/-- Every sheet's state for the receive stages is noted where it has changed. -/
def noteStates : Prog := .ask fun s =>
  each ((sheets s).filter fun n => ((tget [] s.rx.states n).head?.map (·.2)) != some (rxCode s n)) fun n =>
    modRx fun r => { r with states := tmod [] r.states n fun l => (now s, rxCode s n) :: l }

/-- A path's blocker changes at datum time `b`: it takes the settings then in force, and clears its accumulators where asked. -/
def dcChange (p b : Nat) (clear : Bool) : Prog := .ask fun s => modRx fun x => { x with
  marks := tmod [] x.marks p fun l => l ++ [{ time := b, k := fld (rxPathRec s p) 5 1, freeze := fbit (rxPathRec s p) 1 1 0, clear := clear }]
  dcAcq := if clear then x.dcAcq ||| 2 ^ p else x.dcAcq }

/-! ### Readiness (08 R182, 10 R226) -/

/-- The sheet is in TX and ready. -/
def txReadyNow (s : State) (n : Nat) : Bool := (sh s n).state == .tx && (sh s n).txReady

/-- The sheet is in RX and ready. -/
def rxReadyNow (s : State) (n : Nat) : Bool := (sh s n).state == .rx && (sh s n).rxReady

/-- A sheet departs from readiness. -/
def leaveReady (n : Nat) : Prog := seqs
  [ modSheet n fun r => { r with txReady := false, rxReady := false, done := false, changing := true },
    modTx fun t => { t with muted := tdel t.muted n },
    modRx fun t => { t with zeroed := tdel t.zeroed n } ]

/-- Start of the last symbol of a carrier record before a datum time. -/
def lastSymbol (s : State) (r : Rec) (t : Nat) : Nat :=
  let e := extTotal s.datum.ref t
  let mu := carMu r
  let h := halfOf s (e - 1)
  counterAt s ((((List.range (symPerHalf mu)).map fun j => symNs s mu h j).filter fun x => decide (x < e)).foldl max (symNs s mu h 0))

/-- First and last symbol muted or zeroed of a sheet that becomes ready at `t`, among the carriers of the direction. -/
def missed (s : State) (seen : Option (Nat × Nat)) (rs : List Rec) (t : Nat) : List Int :=
  match rs.map (fun r => lastSymbol s r t), seen with
  | l :: ls, some (a, _) => [(a : Int), ((ls.foldl (fun x y => if 0 ≤ int32Diff y x then y else x) l : Nat) : Int)]
  | _, some (a, b) => [(a : Int), (b : Int)]
  | _, none => []

/-- T_done of a sheet: its synthesizers hold lock and its quick survey has completed; TX_NOT_READY and RX_NOT_READY are
raised with the first and last symbols lost. -/
def sheetDone (n t : Nat) : Prog := .ask fun s => seqs
  [ modSheet n fun r => { r with done := true, tDone := t, changing := false, returning := false },
    raise (evCode 7 2) n (missed s (tfind s.tx.muted n) (txRecs s) (t + 4000)),
    raise (evCode 8 1) n (missed s (tfind s.rx.zeroed n) (rxRecs s) (t + 3000)) ]

/-- SHEET_READY (08 R182, 10 R226): T_rdy, 4,000 ns after T_done in transmit and 3,000 ns in receive. -/
def execSheetReady (sheet : Nat) (s : State) : Host.Outcome State Fault Refusal :=
  let r := sh s sheet
  let tx := r.done && r.txLock && due s (add32 r.tDone 4000)
  let rx := r.done && r.rxLock && due s (add32 r.tDone 3000)
  done (whenP (sheetFit s sheet) (seqs
    [ whenP rx (modSheet sheet fun x => { x with rxReady := true }),
      whenP (tx && !r.txReady) (seqs
        [ modSheet sheet fun x => { x with txReady := true },
          endHold sheet holdLo (add32 r.tDone 4000) ]) ])) s

/-! ### Symbols muted and zeroed (08 R178, R182, R183; 10 R226, R227) -/

/-- First and last of a record of times with one more. -/
def addTime (t : Tab (Nat × Nat)) (n v : Nat) : Tab (Nat × Nat) :=
  match tfind t n with
  | some (a, _) => tset t n (a, v)
  | none => tset t n (v, v)

/-- Fitted sheets with a property, as a mask. -/
def sheetsWith (s : State) (p : Nat → Bool) : Nat := maskOf ((sheets s).filter p)

/-- A planned departure of a sheet from readiness lies before a datum time: an armed channel change (R182). -/
def departs (s : State) (n t : Nat) : Bool := (sh s n).timers.any fun x => x.2.action == 5 && decide (int32Diff x.2.tE t < 0)

/-- A downlink symbol now: sheets that mute it for their state and for not being ready, a departure within its span among them,
added to those before. -/
def judgeDl (s : State) (a : AirSym) : AirSym :=
  if due s a.air then
    let out := if a.begun then a.stateMask else sheetsWith s fun n => (sh s n).state != .tx
    let held := if a.begun then a.holdMask else sheetsWith s fun n => (holds s n).testBit holdCoexWhole
    { a with
      begun := true, stateMask := out, holdMask := held
      coex := a.coex || (sheets s).any fun n => (sh s n).state == .tx && ((holds s n).testBit holdCoex || held.testBit n)
      readyMask := a.readyMask ||| sheetsWith s fun n =>
        (sh s n).state == .tx && (!(sh s n).txReady || departs s n (add32 a.air a.len)) && !out.testBit n }
  else a

/-- Sheets that mute a downlink symbol whole. -/
def muteMask (a : AirSym) : Nat := a.stateMask ||| a.readyMask ||| a.holdMask

/-- A sheet will mute a symbol whose air time is still to come. -/
def mutesAhead (s : State) (n air len : Nat) : Bool :=
  let r := sh s n
  stateAt r air != .tx || departs s n (add32 air len) || (holds s n).testBit holdCoexWhole ||
    !(r.txReady || (r.done && r.txLock && decide (0 ≤ int32Diff air (add32 r.tDone 4000))))

/-- A hold of a sheet whose release time is known ends at a symbol start; a symbol that began before that time stays muted, since
each carrier resumes at its own first symbol (R181; 14 R311, R326). -/
def resumesAfter (s : State) (n air : Nat) : Bool := (List.range 8).any fun b =>
  match tfind s.tx.release (8 * n + b) with
  | some t => decide (int32Diff air t < 0)
  | none => false

/-- A released symbol is muted whole on a sheet. -/
def waveMuted (s : State) (n : Nat) (w : Wave) : Bool :=
  resumesAfter s n w.air || match w.mute with
    | some m => m.testBit n
    | none => mutesAhead s n w.air w.len

/-- Stage-3 samples as they reach stage 4 of each path: those of a symbol muted whole on its sheet are zeros (R166). -/
def audible (s : State) : Tab (List Wave) := s.tx.wave.map fun p => (p.1, p.2.filter fun w => !waveMuted s (p.1 / 128) w)

/-- The hold of R182 and R183 of a sheet, at symbol boundaries and in whole symbols: every carrier's symbol in progress is muted on
the sheet. With no symbol in progress the sheet's own state and readiness decide. -/
def symHeld (s : State) (n : Nat) : Bool :=
  let quiet := !txReadyNow s n
  match txCars s with
  | [] => quiet || (holds s n).testBit holdCoexWhole
  | cs => cs.all fun c => match s.tx.air.find? fun a => a.carrier == c && due s a.air && !due s (add32 a.air a.len) with
      | some a => (muteMask (judgeDl s a)).testBit n
      | none => quiet

/-- A hold of R179 is in force on every path of a sheet. -/
def sheetHeld (s : State) (n : Nat) : Bool := andNot (holds s n) (2 ^ holdCoexWhole) != 0 || symHeld s n

/-- A carrier's symbol in progress is muted on a path: whole on its sheet, or never sent. -/
def carrierMuted (s : State) (p : Nat) : Bool := s.tx.air.any fun a =>
  due s a.air && !due s (add32 a.air a.len) && ((muteMask (judgeDl s a)).testBit (p / 16) || resumesAfter s (p / 16) a.air ||
    !(tget [] s.tx.wave (8 * p + a.carrier)).any fun w => w.air == a.air)

/-- A hold or carrier mute of R179 touches a path. -/
def pathTouched (s : State) (p : Nat) : Bool := sheetHeld s (p / 16) || pathHeld s p || carrierMuted s p

/-- An uplink symbol now. -/
def judgeUl (s : State) (u : UlSym) : UlSym :=
  if due s u.air && !due s (add32 u.air u.len) then
    let out := u.stateMask ||| sheetsWith s fun n => (sh s n).state != .rx
    { u with
      stateMask := out
      readyMask := u.readyMask ||| sheetsWith s fun n => (sh s n).state == .rx && !(sh s n).rxReady && !out.testBit n }
  else u

/-- An uplink symbol is covered by a section of a type other than 0. -/
def ulCovered (u : UlSym) : Bool := u.sects.any fun x => x.type != 0

/-- Sheets of one mask that another lacks. -/
def newSheets (new old : Nat) : List Nat := setBits 4 (andNot new old)

/-- Count what one downlink symbol newly meets. -/
def countDl (old new : AirSym) : Prog := .seq
  (each (newSheets new.readyMask old.readyMask) fun n => modTx fun x => { x with muted := addTime x.muted n new.air })
  (whenP new.covered (.ask fun s => seqs
  [ each (newSheets new.stateMask old.stateMask) fun n => .seq (count blkTxd n 1)
      (.ask fun t => whenP (slotOf t new.air != t.tx.stateSlot || t.tx.stateSlot == none)
        (.seq (modTx fun x => { x with stateSlot := slotOf t new.air }) (raise (evCode 7 3) n []))),
    each (newSheets new.readyMask old.readyMask) fun n => count blkTxd n 0,
    whenP (new.coex && !old.coex) (.seq (count blkCoex 0 0)
      (.ask fun t => let slot := (lowCar t).map fun _ => (slotOf t new.air).getD 0
        whenP (t.coex.slot == none || slot != t.coex.slot)
        (.seq (modCoex fun x => { x with slot := slot }) (raise (evCode 12 8) noUnit [])))),
    whenP (new.retime && new.begun && !old.begun)
      (each ((sheets s).filter fun n => (sh s n).state == .tx) fun n => count blkTxd n 2) ]))

/-- Count what one uplink symbol newly meets. -/
def countUl (old new : UlSym) : Prog := .seq
  (each (newSheets new.readyMask old.readyMask) fun n => modRx fun x => { x with zeroed := addTime x.zeroed n new.air })
  (whenP (ulCovered new) (seqs
  [ each (newSheets new.stateMask old.stateMask) fun n => .seq (count blkRxd n 1)
      (.ask fun t => whenP (slotOf t new.air != t.rx.stateSlot || t.rx.stateSlot == none)
        (.seq (modRx fun x => { x with stateSlot := slotOf t new.air }) (raise (evCode 8 2) n []))),
    each (newSheets new.readyMask old.readyMask) fun n => count blkRxd n 0 ]))

/-- Symbols in flight meet the states of the sheets at this moment; a downlink symbol whose span is over is let go. -/
def settleSymbols : Prog := .ask fun s => whenP (s.tx.air != [] || s.fh.ulSyms != []) (seqs
  [ each s.tx.air fun a => countDl a (judgeDl s a),
    modTx fun t => { t with
      air := (t.air.map (judgeDl s)).filter fun a => !due s (add32 a.air a.len)
      wave := t.wave.map fun p => (p.1, p.2.map fun w => if w.mute.isSome then w else
        match s.tx.air.find? fun a => a.carrier == p.1 % 8 && a.air == w.air && due s a.air with
        | some a => { w with mute := some (muteMask (judgeDl s a)) }
        | none => w) },
    each s.fh.ulSyms fun u => countUl u (judgeUl s u),
    modFh fun f => { f with ulSyms := f.ulSyms.map (judgeUl s) } ])

/-- HOLD_END (R181): a sheet's holds whose release time has come end at the first symbol start at or after it; symbols of other
carriers that began before it stay muted. -/
def execHoldEnd (sheet : Nat) (s : State) : Host.Outcome State Fault Refusal :=
  done (.seq settleSymbols (each ((List.range 8).filterMap fun b => match tfind s.tx.release (8 * sheet + b) with
      | some t => if due s (firstSymbol s t) then some (b, t) else none
      | none => none) fun x => modTx fun t => { t with
    hold := tmod 0 t.hold sheet fun h => andNot h (2 ^ x.1), release := tdel t.release (8 * sheet + x.1)
    wave := t.wave.map fun p => (p.1, p.2.map fun w =>
      if p.1 / 128 = sheet ∧ int32Diff w.air x.2 < 0 then { w with mute := some (w.mute.getD 0 ||| 2 ^ sheet) } else w) })) s

end Sys2Proof.Machine
end

