-- ==== Sys2Proof/Machine/Mash.lean ====
section
/-! DEFINITION. The Mash engine: sounding contexts, channel estimates, the choice of ports, the solver, refreshes and the
commands of class 0x06 (07_mash_weight_engine R146 to R162, 01_architecture R41). -/

namespace Sys2Proof.Machine

open Sys2Proof

/-! ### Settings -/

/-- Reset of MASH_CONFIG. -/
def mashReset : Rec :=
  [0, 4, 2, 0] ++ leBytes 2 600 ++ leBytes 2 20 ++ leSigned 2 (-80) ++ leBytes 2 0 ++ zeros 4

/-- MASH_CONFIG record in force. -/
def mashRec (s : State) : Rec := setting s 0x0601 0 mashReset

def mashAlgo (s : State) : Nat := fld (mashRec s) 0 1
/-- SCHED is sectioned. -/
def mashSched (s : State) : Bool := fbit (mashRec s) 1 1 0
def mashUlSolve (s : State) : Bool := fbit (mashRec s) 1 1 1
def mashFoComp (s : State) : Bool := fbit (mashRec s) 1 1 2
def mashNorm (s : State) : Nat := bit (fbit (mashRec s) 1 1 3)

/-- Reset of MASH_CTX_SET. -/
def ctxReset (x : Nat) : Rec :=
  leBytes 1 x ++ [0, 0, 0] ++ leBytes 2 0 ++ leBytes 2 4 ++ zeros 4 ++ leBytes 2 1 ++ leBytes 2 0 ++ leBytes 2 0 ++ [1, 0] ++
    [0xFF, 0xFF, 0xFF, 0xFF]

/-- MASH_CTX_SET record in force. -/
def ctxRec (s : State) (x : Nat) : Rec := setting s 0x0602 x (ctxReset x)

def ctxValid (r : Rec) : Bool := fbit r 1 1 0
/-- Ports of a context. -/
def ctxPorts (r : Rec) : Nat := 2 ^ slice (fld r 1 1) 2 1
def ctxComb (r : Rec) : Nat := if fbit r 1 1 3 then 4 else 2
def ctxCsMax (r : Rec) : Nat := if fbit r 1 1 3 then 12 else 8
def ctxCar (r : Rec) : Nat := fld r 2 1
def ctxSym (r : Rec) : Nat := slice (fld r 3 1) 3 0
def ctxNsym (r : Rec) : Nat := 2 ^ slice (fld r 3 1) 5 4
def ctxStart (r : Rec) : Nat := fld r 4 2
def ctxNum (r : Rec) : Nat := fld r 6 2
def ctxSeq (r : Rec) : Nat := fld r 10 2
def ctxUe (r : Rec) : Nat := fld r 16 2
def ctxRank (r : Rec) : Nat := fld r 18 1
def ctxLayer (r : Rec) (k : Nat) : Nat := fld r (20 + k) 1

/-- VALID contexts: number and record. -/
def ctxs (s : State) : List (Nat × Rec) := ((List.range 64).map fun x => (x, ctxRec s x)).filter fun p => ctxValid p.2

/-- Cyclic shift and comb offset of a port (R147, 38.211 6.4.1.4; assumption log 28). -/
def portShape (r : Rec) (i : Nat) : Nat × Nat :=
  let n := ctxPorts r
  let cs := fld r 9 1
  let half := n = 4 ∧ ctxCsMax r ≤ 2 * cs ∧ i % 2 = 1
  ((cs + ctxCsMax r * i / n) % ctxCsMax r, if half then (fld r 8 1 + ctxComb r / 2) % ctxComb r else fld r 8 1)

/-- Comb offsets a context uses. -/
def ctxCombs (r : Rec) : List Nat := distinct ((List.range (ctxPorts r)).map fun i => (portShape r i).2)

/-- Elements of the sequence of a context. -/
def ctxLen (r : Rec) : Nat := 12 * ctxNum r / ctxComb r

/-- First and last PRB group of a context. -/
def ctxGroups (s : State) (r : Rec) : List Nat :=
  let g := groupSize s 0 (ctxCar r)
  (List.range (ceilDiv (ctxStart r + ctxNum r) g)).filter fun k => decide (ctxStart r / g ≤ k)

/-- A slot of a frame holds an occasion of the context (R147). -/
def ctxOccasion (s : State) (r : Rec) (h : Int) (slot : Nat) : Bool :=
  let mu := carMu (rxCar s (ctxCar r))
  let frame := (h / 20 % 1024).toNat
  let n := (h % 20 / 2).toNat * 2 ^ mu + slot
  decide ((10 * 2 ^ mu * frame + n + fld r 12 2 - fld r 14 2) % fld r 12 2 = 0)

/-! ### The rules of R148 -/

/-- Two contexts share a symbol. -/
def ctxShareSym (a b : Rec) : Bool :=
  decide (ctxSym a < ctxSym b + ctxNsym b) && decide (ctxSym b < ctxSym a + ctxNsym a)

/-- Two contexts share a PRB. -/
def ctxSharePrb (a b : Rec) : Bool :=
  ctxCar a == ctxCar b && decide (ctxStart a < ctxStart b + ctxNum b) && decide (ctxStart b < ctxStart a + ctxNum a)

/-- Rule 3 is broken by two contexts: any two of their ports count, whatever comb offset each port takes. -/
def ctxClash (a b : Rec) : Bool :=
  ctxShareSym a b && ctxSharePrb a b && (ctxCombs a).any (fun o => (ctxCombs b).contains o) &&
    (ctxSeq a != ctxSeq b || ctxStart a != ctxStart b || ctxNum a != ctxNum b ||
      (List.range (ctxPorts a)).any fun i => (List.range (ctxPorts b)).any fun j => (portShape a i).1 == (portShape b j).1)

/-- Rule 4 is broken by two contexts. -/
def ctxLayerClash (a b : Rec) : Bool :=
  ctxSharePrb a b && (List.range (ctxPorts a)).any fun i => ctxLayer a i != 0xFF &&
    (List.range (ctxPorts b)).any fun j => ctxLayer a i == ctxLayer b j

/-- Pairs of different members of a list. -/
def anyPair {α : Type} (f : α → α → Bool) : List α → Bool
  | [] => false
  | a :: t => t.any (f a) || anyPair f t

/-- A context covers a resource element of a carrier in a symbol. -/
def ctxCovers (r : Rec) (c sym k : Nat) : Bool :=
  ctxCar r == c && decide (ctxSym r ≤ sym) && decide (sym < ctxSym r + ctxNsym r) && decide (12 * ctxStart r ≤ k) &&
    decide (k < 12 * (ctxStart r + ctxNum r)) && (ctxCombs r).contains (k % ctxComb r)

/-- Distinct resource elements of the contexts (rule 6). -/
def stagedRes (rs : List Rec) : Nat :=
  sumN ((List.range 8).flatMap fun c => (List.range 14).map fun j =>
    let here := rs.filter fun r => ctxCar r == c && decide (ctxSym r ≤ j) && decide (j < ctxSym r + ctxNsym r)
    if here = [] then 0 else ((List.range 3276).filter fun k => here.any fun r => ctxCovers r c j k).length)

/-- Sharing sets of the contexts (rule 7). -/
def sharingSets (rs : List Rec) : List (List Nat) :=
  distinct (rs.flatMap fun r => (ctxCombs r).map fun o =>
    [ctxCar r, ctxSym r, ctxNsym r, ctxComb r, o, ctxStart r, ctxNum r])

/-- What R148 asks of one context. -/
def ctxOk (s : State) (r : Rec) : Bool :=
  let c := ctxCar r
  let d := txCar s c
  let u := rxCar s c
  let lo := loRec s
  carValid d && carValid u && carMu d == carMu u && carPrb d == carPrb u &&
    ((fld lo 0 4 : Nat) : Int) * 10 + carNco d == ((fld lo 4 4 : Nat) : Int) * 10 + carNco u &&
    groupSize s 0 c == groupSize s 1 c && [4, 8, 12, 16].contains (groupSize s 0 c) &&
    decide (ctxStart r + ctxNum r ≤ carPrb u)

/-- The check of R148 on the VALID contexts. -/
def ctxsAgree (s : State) : Bool :=
  let rs := (ctxs s).map (·.2)
  rs.all (ctxOk s) && !anyPair ctxClash rs && (mashSched s || !anyPair ctxLayerClash rs) &&
    decide (sumN (rs.map fun r => ctxPorts r * (ctxGroups s r).length) ≤ 15872) &&
    decide (stagedRes rs * 256 ≤ 4194304) && decide ((sharingSets rs).length ≤ 32)

/-! ### Sequences (R152) -/

/-- A prime number. -/
def isPrime (n : Nat) : Bool := decide (2 ≤ n) && (List.range n).all fun d => decide (d < 2) || n % d != 0

/-- Largest prime below a number. -/
def primeBelow (n : Nat) : Nat := (((List.range n).filter isPrime).getLast?).getD 2

/-- xb[m] of a base sequence, m = 0 to M − 1 (assumption log 28). -/
def baseSeq (u len : Nat) : List (Int × Int) :=
  let z := primeBelow len
  let q := (2 * z * (u + 1) + 31) / 62
  (List.range len).map fun m =>
    let th : Int := if len = 12 ∨ len = 24 then Config.shortSeq u len m * 8192
      else divRna (-(65536 * (q * (m % z) * (m % z + 1) % (2 * z)) : Nat)) (2 * z)
    (cosRound 16384 th 65536, sinRound 16384 th 65536)

/-- rot(num/den turns), unity 16,384. -/
def rot14 (num : Int) (den : Nat) : Int × Int := (cosRound 16384 num den, sinRound 16384 num den)

/-! ### Estimates of an occasion (R152 to R155) -/

/-- Resource element of a staged symbol. -/
def stagedRe (y : SrsSym) (e k : Nat) : Int × Int := (tget [] y.re e).getD k (0, 0)

/-- z[n] of a port's comb over one symbol and element: index in the sequence, PRB group, value. -/
def srsZ (s : State) (r : Rec) (xb : List (Int × Int)) (comb : Nat) (y : SrsSym) (e : Nat) : List (Nat × Nat × (Int × Int)) :=
  xb.zipIdx.map fun p =>
    let k := 12 * ctxStart r + comb + ctxComb r * p.2
    (p.2, k / 12 / groupSize s 0 (ctxCar r), cmul (stagedRe y e k) (p.1.1, -p.1.2))

/-- N_g of a port's comb. -/
def srsCount (s : State) (r : Rec) (comb g : Nat) : Nat :=
  ((List.range (ctxLen r)).filter fun m =>
    (12 * ctxStart r + comb + ctxComb r * m) / 12 / groupSize s 0 (ctxCar r) == g).length

/-- h of a port for one symbol, element and group. -/
def srsH (s : State) (r : Rec) (xb : List (Int × Int)) (i : Nat) (y : SrsSym) (e g : Nat) : Int × Int :=
  let sh := portShape r i
  let z := (srsZ s r xb sh.2 y e).filter fun t => t.2.1 == g
  cdiv (csum (z.map fun t => cmul t.2.2 (rot14 (-((sh.1 * t.1 : Nat) : Int)) (ctxCsMax r)))) (z.length * 2 ^ 28)

/-- An angle of `num / den` turn, from 0 to half a turn, lies at or before the angle of (x, y), y ≥ 0. -/
def turnLe (x y num : Int) (den : Nat) : Bool := decide (0 ≤ cosFix num den * y - sinFix num den * x)

/-- arg(x + jy) / 2π × n / d to nearest, halves away from zero, the argument within −1/2 to 1/2 turn. -/
def argScaled (x y : Int) (n d : Nat) : Int :=
  let m : Nat := bisect (fun r => r = 0 || (decide ((2 * r - 1) * d ≤ n) && turnLe x y.natAbs (((2 * r - 1) * d : Nat) : Int) (2 * n)))
    (Nat.log2 (n / max 1 d + 1) + 1) 0
  if y < 0 then -(m : Int) else m

/-- REF periods between two symbols of a slot. -/
def symGap (mu a b : Nat) : Nat := symRef mu b - symRef mu a

/-- Sheets on which a symbol of an occasion was zeroed. -/
def occasionZero (ys : List SrsSym) : Nat := ys.foldl (fun m y => m ||| y.zero) 0

/-- What an occasion yields for a port: FO, SNR, the variance times N_g as a fraction, LOW_SNR, and per group the vector. -/
structure PortOut where
  fo : Int
  snr : Int
  nu : Nat × Nat
  low : Bool
  h : List (Nat × List (Int × Int))
  deriving DecidableEq, Repr

/-- The combined estimate of a port and its FO (R153); `free` is the FO reported where the measure has no angle. -/
def combinePort (s : State) (r : Rec) (xb : List (Int × Int)) (els : List Nat) (ys : List SrsSym) (i : Nat) (free : Int) :
    Int × List (Nat × List (Int × Int)) :=
  let groups := ctxGroups s r
  let mu := carMu (rxCar s (ctxCar r))
  let one := fun y : SrsSym => groups.map fun g => (g, els.map fun e => srsH s r xb i y e g)
  match ys with
  | [] => (0, [])
  | [y] => (-2147483648, one y)
  | y0 :: _ =>
    let hs := ys.map fun y => (y, one y)
    let flat := fun (h : List (Nat × List (Int × Int))) => h.flatMap (·.2)
    let last := (hs.getLast?.map (·.2)).getD []
    let c := csum (((flat (one y0)).zip (flat last)).map fun p => cmul (p.1.1, -p.1.2) p.2)
    let gap := symGap mu y0.sym ((ys.getLast?.map (·.sym)).getD y0.sym)
    let fo : Int := if c = (0, 0) then free else argScaled c.1 c.2 122880000 (max 1 gap)
    let turn := fun y : SrsSym => if c = (0, 0) then divRna (-(65536 * free * (symGap mu y0.sym y.sym : Nat))) 122880000
      else -argScaled c.1 c.2 (65536 * symGap mu y0.sym y.sym) (max 1 gap)
    let spin := fun (y : SrsSym) (z : Int × Int) =>
      if mashFoComp s then cdiv (cmul z (cosRound 65536 (turn y) 65536, sinRound 65536 (turn y) 65536)) 65536 else z
    (fo, groups.zipIdx.map fun g => (g.1, (List.range els.length).map fun e =>
      cdiv (csum (hs.map fun h => spin h.1 (((h.2.getD g.2 (0, [])).2).getD e (0, 0)))) ys.length))

/-- Numerator and denominator of σ2 of a context's occasion (R154): the residual of every comb of the context after the
estimates of every port that shares its elements in a symbol (assumption log 32). -/
def noiseOf (s : State) (r : Rec) (xb : List (Int × Int)) (els : List Nat) (ys : List SrsSym) : Nat × Nat :=
  let ports := fun (y : SrsSym) (o : Nat) =>
    ((y.ctxs.map (·.2)).filter fun q => ctxCar q == ctxCar r && ctxComb q == ctxComb r && ctxStart q == ctxStart r &&
      ctxNum q == ctxNum r).flatMap fun q => ((List.range (ctxPorts q)).filter fun i => (portShape q i).2 == o).map fun i => (q, i)
  let res := (ctxCombs r).flatMap fun o => ys.flatMap fun y => els.map fun e =>
    sumI ((srsZ s r xb o y e).map fun t =>
      let fit := csum ((ports y o).map fun p =>
        cmul (srsH s p.1 xb p.2 y e t.2.1) (rot14 (((portShape p.1 p.2).1 * t.1 : Nat) : Int) (ctxCsMax r)))
      (t.2.2.1 - fit.1) ^ 2 + (t.2.2.2 - fit.2) ^ 2)
  let used := sumN ((ctxCombs r).flatMap fun o => ys.map fun y => (ports y o).length)
  ((sumI res).toNat,
    (ctxCombs r).length * ctxLen r * els.length * ys.length - used * (ctxGroups s r).length * els.length)

/-- The wide qdB figure of a power ratio, clamped to a 16-bit field; `free` where the ratio is not a positive finite one. -/
def ratioQdb (n d : Nat) (free : Int) : Int := if n = 0 ∨ d = 0 then free else qdbPower n d

/-- Everything an occasion yields for a port (R153, R154). -/
def portOut (s : State) (r : Rec) (xb : List (Int × Int)) (els : List Nat) (ys : List SrsSym) (sig : Nat × Nat) (i : Nat)
    (freeFo freeSnr : Int) : PortOut :=
  let c := combinePort s r xb els ys i freeFo
  let nu := (sig.1, sig.2 * ys.length * 2 ^ 28)
  let pow := sumN (c.2.map fun g => srsCount s r (portShape r i).2 g.1 * sumN (g.2.map fun z => (z.1 ^ 2 + z.2 ^ 2).toNat))
  let terms := els.length * c.2.length
  let snr := ratioQdb (pow * nu.2) (nu.1 * terms) freeSnr
  { fo := c.1, snr := snr, nu := nu, h := c.2
    low := decide (pow = 0) || (decide (nu.1 ≠ 0) && decide (snr < sfld (mashRec s) 10 2)) }

/-- k_e of an element with its saturation (R155). -/
def elemWord (s : State) (e : Nat) : Nat × Bool :=
  let c := elemOf s e
  cbCompose [c.rxCorr, c.rxDrift, recipOf s e]

/-- The exponent and words of a vector (R155). -/
def packVec (v : List (Int × Int)) : Int × List (Int × Int) :=
  let at_ := fun (x : Int) (z : Int × Int) => if 0 ≤ x then cdiv z (2 ^ x.toNat) else (z.1 * 2 ^ (-x).toNat, z.2 * 2 ^ (-x).toNat)
  let ok := fun x : Int => v.all fun z => csat (at_ x z) == at_ x z
  let x := (((List.range 64).map fun (k : Nat) => (k : Int) - 32).find? ok).getD 31
  (x, v.map fun z => csat (at_ x z))

/-- H_dl of a port and group as stored (R155). -/
def storedEst (s : State) (r : Rec) (comb g tEnd : Nat) (nu : Nat × Nat) (els : List Nat) (h : List (Int × Int)) : Est :=
  let v := (els.zip h).map fun p =>
    cdiv (cmul (cmul p.2 (rotator (groupFreq s 1 (ctxCar r) g) (delayOf s 1 p.1))) (cbCart (elemWord s p.1).1)) (2 ^ 28)
  let x := packVec (v ++ List.replicate (64 - v.length) (0, 0))
  { exp := x.1, iq := x.2, tEnd := tEnd, nu := (nu.1, nu.2 * max 1 (srsCount s r comb g)) }

/-- Key of an estimate. -/
def estKey (x i g : Nat) : Nat := x * 4096 + i * 1024 + g

/-- One context's occasion in a slot whose symbols are staged: results, estimates, counters. -/
def estimateCtx (l : List SrsSym) (tEnd : Nat) (q : Nat × Rec) : Prog := .ask fun s =>
  let x := q.1
  let r := q.2
  let ys := l.filter fun y => y.ctxs.contains q
  let lost := occasionZero ys
  if lost ≠ 0 then each (setBits 4 lost) fun n => count blkRxd n 6
  else
    let els := paths s
    let xb := baseSeq (ctxSeq r % 30) (ctxLen r)
    let raw := noiseOf s r xb els ys
    let sig := if raw.2 = 0 then (freeNow s, 1) else raw
    let outs := (List.range (ctxPorts r)).map fun i =>
      portOut s r xb els ys sig i (toSigned 32 (freeAt s (1 + 2 * i))) (toSigned 16 (freeAt s (2 + 2 * i)))
    let kept := outs.zipIdx.filter fun o => !o.1.low
    let ests := kept.flatMap fun o => o.1.h.map fun g =>
      (estKey x o.2 g.1, storedEst s r (portShape r o.2).2 g.1 tEnd o.1.nu els g.2)
    let touch := ests.map (·.1) ++ (if s.mash.retouch.contains x then (ctxGroups s r).map (estKey x 0) else [])
    seqs
      [ modMash fun m => { m with
          lastEnd := tset m.lastEnd x tEnd, noise := tset m.noise x (ratioQdb sig.1 (sig.2 * 2 ^ 58) (-32768)),
          port := outs.zipIdx.foldl (fun t o => tset t (4 * x + o.2) (o.1.fo, o.1.snr, o.1.nu.1, o.1.nu.2)) m.port,
          est := ests.foldl (fun t e => tset t e.1 e.2) m.est, retouch := m.retouch.filter fun k => k != x,
          refresh := m.refresh.map fun q => if q.stage = 0 ∧ q.tEnd = tEnd then { q with fresh := q.fresh ++ touch } else q },
        count blkMashPort (4 * x) 0,
        each (outs.zipIdx.filter fun o => o.1.low) fun o => count blkMashPort (4 * x + o.2) 1,
        countN blkMash 0 0 (if kept = [] then 0 else (els.filter fun e => (elemWord s e).2).length),
        seqs (List.replicate 9 drawFree) ]

/-- The engine PLL is lost (R162). -/
def engineLost (s : State) : Bool := s.clk.lost.testBit 3

/-- Boundary and target slot of a refresh under the configuration in force at T_cut (R149): datum times of B, of the slot's
start and of its end. -/
def refreshTimes (s : State) (tEnd : Nat) : Nat × Nat × Nat :=
  let c := fld (mashRec s) 3 1
  let mu := carMu (refCar s c)
  let b := (nextBoundary s (fld (mashRec s) 2 1) mu (extTotal s.datum.ref tEnd + (1000 * fld (mashRec s) 4 2 : Nat))).2.2
  let next := (nextBoundary s 2 mu (b + 1)).2.2
  (counterAt s b, counterAt s (next - 1000000 / (2 ^ mu : Nat)), counterAt s next)

/-- SRS_OCCASION_END (R149): the last SRS symbol of a slot has ended at T_end; the slot's occasions are estimated and a
refresh starts. -/
def execSrsOccasionEnd (s : State) : Host.Outcome State Fault Refusal :=
  match s.mash.staged with
  | [] => done .skip s
  | y :: _ =>
    let l := s.mash.staged.filter fun z => z.slot == y.slot
    let tEnd := l.foldl (fun t z => if 0 ≤ int32Diff z.tEnd t then z.tEnd else t) y.tEnd
    let complete := (distinct (l.flatMap (·.ctxs))).filter fun p =>
      decide ((l.filter fun z => z.ctxs.contains p).length = ctxNsym p.2)
    done (whenP (domOn s dMASH && !engineLost s && due s tEnd) (seqs
      [ modMash fun m => { m with
          staged := m.staged.filter fun z => z.slot != y.slot
          refresh := if complete = [] then m.refresh else m.refresh ++
            [{ tEnd := tEnd, fresh := [], stage := 0, recip := (List.range 64).map (recipOf s), boundary := 0, kind := 0, car := 0
               target := (0, 0), ready := 0, deferred := false, set := [], solves := 0, sat := 0, fail := 0 }] },
        each complete (estimateCtx l tEnd) ])) s

/-! ### Prerequisites (01 R41) -/

/-- LO phase alignment is current: the quick survey after the last calibration of every sheet has completed. -/
def loPhaseCurrent (s : State) : Bool := (liveSheets s).all fun n => (sh s n).done

/-- The three conditions for a sheet: 0 reciprocity, 1 LO phase, 2 skew. -/
def prereq (s : State) (k n : Nat) : Bool :=
  match k with
  | 0 => s.survey.recip.testBit n
  | 1 => loPhaseCurrent s
  | _ => s.mash.skewCur.testBit n

/-- MASH_PREREQ (01 R41): one event for each condition that has lapsed; a condition current again can lapse again. UNIT is
the sheet, word 0 the condition (assumption log 33). -/
def execMashPrereq (s : State) : Host.Outcome State Fault Refusal :=
  let all := (List.range 12).map fun i => (i, prereq s (i / 4) (i % 4))
  let lapsed := (all.filter fun p => sheetFit s (p.1 % 4) && !p.2).map (·.1)
  done (whenP (domOn s dMASH) (.seq
    (each (lapsed.filter fun i => !s.mash.lapsed.testBit i) fun i => raise (evCode 6 2) (i % 4) [(i / 4 : Nat)])
    (modMash fun m => { m with lapsed := maskOf lapsed }))) s

/-! ### Which ports meet in a group (R155 to R157) -/

/-- Live entries of the target slot of a type, with their keys. -/
def targetEntries (s : State) (q : Refresh) (type : Nat) : List (Nat × Section) :=
  s.sect.entries.filter fun e => sectLive e.2 && e.2.type == type && decide (0 ≤ int32Diff e.2.airNs q.target.1) &&
    decide (int32Diff e.2.airNs q.target.2 < 0)

/-- The sections of the target slot of a type; an uncorrectable entry is absent (03 R62). -/
def targetSections (s : State) (q : Refresh) (type : Nat) : List Section :=
  ((targetEntries s q type).filter fun e => entryGood s e.1).map (·.2)

/-- Uncorrectable entries that a cut meets (03 R62). -/
def targetEcc (s : State) (q : Refresh) : Prog :=
  each ((targetEntries s q 5 ++ targetEntries s q 6).filter fun e => !entryGood s e.1) fun e => eccHit e.1

/-- Context and port that a UE_ID names. -/
def ueidPort (s : State) (c u : Nat) : Option (Nat × Nat) :=
  ((ctxs s).find? fun p => ctxCar p.2 == c && decide (ctxUe p.2 ≤ u) && decide (u < ctxUe p.2 + ctxPorts p.2)).map
    fun p => (p.1, u - ctxUe p.2)

/-- Extensions in a stored extension string, a weight descriptor among them as it stands; the fuel is its length. -/
def walkExts : Nat → Rec → List (Nat × Rec)
  | 0, _ => []
  | f + 1, r =>
    let t := bfld r 0 1 % 128
    let n := if bfld r 1 1 = 255 then 8 else 4 * (if t = 11 then bfld r 1 2 else bfld r 1 1)
    if r = [] ∨ n = 0 then [] else (t, r.take n) :: walkExts f (r.drop n)

/-- Extensions of a stored section. -/
def storedExts (e : Section) : List (Nat × Rec) := walkExts e.ext.length e.ext

/-- A section covers a PRB, those of extension 6 included: groups of rbgSize PRBs marked by rbgMask, the first at bit 27
(assumption log 24). -/
def sectCovers (e : Section) (prb : Nat) : Bool :=
  decide (e.startPrb ≤ prb) && decide (prb < e.startPrb + e.numPrb) &&
    match (storedExts e).find? fun x => x.1 == 6 with
    | some x =>
      let size := [1, 1, 2, 3, 4, 6, 8, 16].getD (bfld x.2 2 1 / 16 % 8) 1
      (bfld x.2 2 4 % 2 ^ 28).testBit (27 - (prb / size - e.startPrb / size))
    | none => true

/-- PRBs of a group of a carrier. -/
def groupPrbs (s : State) (c g : Nat) : List Nat :=
  let n := groupSize s 0 c
  (List.range n).filterMap fun i => if g * n + i < carPrb (rxCar s c) then some (g * n + i) else none

/-- The vector a type 6 section gives for a port and group, as an estimate. -/
def typeSixEst (s : State) (q : Refresh) (c x i g : Nat) : Option Est :=
  let u := ctxUe (ctxRec s x) + i
  ((targetSections s q 6).filter fun e => e.carrier == c && e.ueId == u).findSome? fun e =>
    match (groupPrbs s c g).find? (sectCovers e), e.wts with
    | some prb, some (_, n, unit) =>
      let size := match (storedExts e).find? fun t => t.1 == 21 with
        | some t => max 1 (bfld t.2 2 1)
        | none => 512
      let v := min (n - 1) ((prb - e.startPrb) / size)
      let t := tget (0, 0, 0, 1) s.mash.port (4 * x + i)
      some { exp := 0, tEnd := q.tEnd, nu := (t.2.2.1, t.2.2.2)
             iq := (List.range 64).map fun k => if k < nPaths s then cbCart (weightAt s ((unit + 2 * v) * 64 + 2 * k)) else (0, 0) }
    | _, _ => none

/-- The stored estimate lies in an uncorrectable word (R156). -/
def estBad (s : State) (key : Nat) : Bool :=
  badRange s 4 (0x1C00000 + Config.estAddr key % 0x400000) 264

/-- The stored estimate that a refresh reads for a port and group: no type 6 vector replaces it and MAX_AGE has not passed
(R155, R156). -/
def readEst (s : State) (q : Refresh) (c x i g : Nat) : Option Est :=
  if (typeSixEst s q c x i g).isSome then none
  else (tfind s.mash.est (estKey x i g)).filter fun e =>
    decide (int32Diff q.tEnd e.tEnd ≤ (1000000 * fld (mashRec s) 6 2 : Nat))

/-- The estimate a refresh uses for a port and group (R155, R156). -/
def usableEst (s : State) (q : Refresh) (c x i g : Nat) : Option Est :=
  match typeSixEst s q c x i g with
  | some e => some e
  | none => if estBad s (estKey x i g) then none else readEst s q c x i g

/-- Ports that SCHED places in a group and direction, with or without an estimate: layer, context, port (R157). -/
def namedPorts (s : State) (q : Refresh) (dir c g : Nat) : List (Nat × Nat × Nat) :=
  if mashSched s then
    let named := ((targetSections s q 5).filter fun e => e.carrier == c && flowDir (flowRec s e.flow) == dir &&
      flowKind (flowRec s e.flow) == 0 && (groupPrbs s c g).any (sectCovers e)).mergeSort fun a b => decide (a.id ≤ b.id)
    let placed := named.filterMap fun e => (ueidPort s c e.ueId).map fun p => (flowLayer (flowRec s e.flow), p)
    (List.range 16).filterMap fun l => placed.find? fun p => p.1 == l
  else ((ctxs s).filter fun p => ctxCar p.2 == c).flatMap fun p =>
    ((List.range (ctxPorts p.2)).filter fun k => ctxLayer p.2 k != 0xFF).map fun k => (ctxLayer p.2 k, p.1, k)

/-- Ports solved together in a group and direction: layer, context, port. -/
def portSet (s : State) (q : Refresh) (dir c g : Nat) : List (Nat × Nat × Nat) :=
  (namedPorts s q dir c g).filter fun p => (usableEst s q c p.2.1 p.2.2 g).isSome

/-- Estimates with an uncorrectable word that a refresh reads for a group, each once (R156). -/
def badRead (s : State) (q : Refresh) (c g : Nat) : List Nat :=
  distinct (([0, 1].filter fun dir => layerSrc s dir == 1).flatMap fun dir => (namedPorts s q dir c g).filterMap fun p =>
    if (readEst s q c p.2.1 p.2.2 g).isSome ∧ estBad s (estKey p.2.1 p.2.2 g) = true then some (estKey p.2.1 p.2.2 g) else none)

/-- Two sections place different ports on one layer of a group (R157). -/
def schedConflict (s : State) (q : Refresh) (dir c g : Nat) : Bool :=
  mashSched s && anyPair (fun a b => flowLayer (flowRec s a.flow) == flowLayer (flowRec s b.flow) && a.ueId != b.ueId)
    ((targetSections s q 5).filter fun e => e.carrier == c && flowDir (flowRec s e.flow) == dir &&
      flowKind (flowRec s e.flow) == 0 && (groupPrbs s c g).any (sectCovers e))

/-! ### Solving (R158 to R160) -/

/-- A port's row over the active elements, exactly converted; for an uplink solution each element turned by the inverse
of its reciprocity correction as at T_end. -/
def portRow (s : State) (q : Refresh) (dir : Nat) (e : Est) : List C32 :=
  (activeEls s dir).map fun k =>
    let z := e.iq.getD k (0, 0)
    let v : C32 := (fOf z.1 e.exp, fOf z.2 e.exp)
    if dir = 0 then v
    else
      let c := cbCart (cbInv (q.recip.getD k 0))
      cMul v (fOf c.1 (-12), fOf c.2 (-12))

/-- A = H × H^H. -/
def gram (h : List (List C32)) : List (List C32) := h.map fun a => h.map fun b => cDot a b

/-- The columns of the regularized inverse: for each port its conjugated row over the active elements; none where the
solution fails. -/
def solveLinear (_s : State) (h : List (List C32)) (load : List (List C32) → Nat → F32) (els : Nat) : Option (List (List C32)) :=
  let a := loaded (gram h) (load (gram h))
  let f := ldl a
  let cols := (List.range els).map fun e => ldlSolve f (h.map fun r => r.getD e cZero)
  if ldlGood a f.2 && cols.all (fun x => x.all cFinite) then
    some ((List.range h.length).map fun p => cols.map fun x => cConj (x.getD p cZero))
  else none

/-- A value as the numerator and denominator of a fraction in binary32. -/
def fFrac (n d : Nat) : F32 := fDiv (fOf n 0) (fOf d 0)

/-- Columns of a group's solution: layer and its weights over the active elements (R158); none for a failed solve. -/
def solveGroup (s : State) (q : Refresh) (dir c g : Nat) (ports : List (Nat × Nat × Nat)) : Option (List (Nat × List C32)) :=
  let els := (activeEls s dir).length
  let est := fun p : Nat × Nat × Nat => usableEst s q c p.2.1 p.2.2 g
  let row := fun p : Nat × Nat × Nat => match est p with
    | some e => portRow s q dir e
    | none => []
  let h := ports.map row
  let reg := fPow (sfld (mashRec s) 8 2)
  match mashAlgo s with
  | 2 =>
    let owners := distinct (ports.map fun p => p.2.1)
    let parts := owners.map fun x =>
      let mine := ports.filter fun p => p.2.1 == x
      let hu := mine.map row
      let pairs := eigenPairs (gram hu)
      let r := ctxRec s x
      if pairs.any fun p => p.1.isNone || p.1 == f0 || (p.1.map (·.1)) == some 0 then none
      else some ((List.range (ctxRank r)).filterMap fun k =>
        if ctxLayer r k = 0xFF then none
        else (pairs[k]?).map fun v => (ctxLayer r k, (List.range els).map fun e =>
          ((hu.zip v.2).foldl (fun t p => cAdd t (cMul (cConj (p.1.getD e cZero)) p.2)) cZero)))
    if parts.any Option.isNone then none else some (parts.flatMap fun p => p.getD [])
  | 1 =>
    let nu := fun i : Nat => match ports[i]? with
      | some p =>
        let nu := ((est p).map (·.nu)).getD (0, 1)
        fMul (fMul reg (fOf els 0)) (fFrac nu.1 nu.2)
      | none => f0
    (solveLinear s h (fun _ => nu) els).map fun w => (ports.map (·.1)).zip w
  | _ =>
    (solveLinear s h (fun a _ => fMul reg (fDiv (fTrace a) (fOf a.length 0))) els).map fun w => (ports.map (·.1)).zip w

/-- CB16 words of a layer's column over the active elements, with how many saturated (R159). -/
def columnWords (s : State) (layers els : Nat) (w : List C32) : List Nat × Nat :=
  let ex := w.map cExact
  let low := (ex.map fun t => t.2.2).foldl min 0
  let z := ex.map fun t => (t.1 * 2 ^ (t.2.2 - low).toNat, t.2.1 * 2 ^ (t.2.2 - low).toNat)
  let p := z.map fun v => (v.1 ^ 2 + v.2 ^ 2).toNat
  let ref := if mashNorm s = 0 then (maxN p, 1) else (layers * sumN p, els)
  let ws := z.map fun v => cbForm v.1 v.2 ref.1 ref.2
  (ws.map (·.1), (ws.filter (·.2)).length)

/-- The 16 × 64 words of a slot from the columns of its layers. -/
def slotWords (els : List Nat) (cols : List (Nat × List Nat)) : List Nat :=
  (List.range 16).flatMap fun l =>
    match cols.find? fun c => c.1 == l with
    | some c => (List.range 64).map fun e => if els.contains e then c.2.getD (els.idxOf e) cbNullWord else cbNullWord
    | none => List.replicate 64 cbNullWord

/-- A group's sets in both directions that LAYER_SRC asks for (R159): slot sets, group-solves, saturated words, failures. -/
def groupSets (s : State) (q : Refresh) (c g : Nat) : List SlotSet × Nat × Nat × Nat :=
  let words := fun (dir : Nat) (sol : List (Nat × List C32)) =>
    sol.map fun p => (p.1, columnWords s sol.length (activeEls s dir).length p.2)
  let slot := fun dir => slotBase s dir c + g
  let mk := fun (dir : Nat) (cols : List (Nat × (List Nat × Nat))) =>
    ({ dir := dir, slot := slot dir, words := slotWords (activeEls s dir) (cols.map fun p => (p.1, p.2.1)) } : SlotSet)
  let wants := fun dir => layerSrc s dir == 1 && (dirCars s dir).contains c
  let pd := portSet s q 0 c g
  let pu := portSet s q 1 c g
  let derive := !mashUlSolve s && pd == pu
  let dl := if wants 0 || (wants 1 && derive) then some (solveGroup s q 0 c g pd) else none
  let dlCols := match dl with
    | some (some sol) => words 0 sol
    | _ => []
  let dlPart : List SlotSet × Nat × Nat × Nat := if wants 0 = false then ([], 0, 0, 0) else
    match dl with
    | some (some _) => ([mk 0 dlCols], 1, sumN (dlCols.map fun p => p.2.2), 0)
    | _ => ([], 1, 0, 1)
  let ulPart : List SlotSet × Nat × Nat × Nat := if wants 1 = false then ([], 0, 0, 0)
    else if derive then
      (match dl with
        | some (some _) =>
          let turned := dlCols.map fun p => (p.1, p.2.1.zip (activeEls s 0) |>.map fun w =>
            (w.2, cbCompose [w.1, q.recip.getD w.2 0]))
          let sat := sumN (turned.map fun p => (p.2.filter fun w => w.2.2).length)
          let cols := turned.map fun p => (p.1, (activeEls s 1).map fun e =>
            ((p.2.find? fun w => w.1 == e).map fun w => w.2.1).getD cbNullWord)
          ([({ dir := 1, slot := slot 1, words := slotWords (activeEls s 1) cols } : SlotSet)], 0, sat, 0)
        | _ => ([], 0, 0, if wants 0 then 0 else 1))
    else match solveGroup s q 1 c g pu with
      | some sol =>
        let cols := words 1 sol
        ([mk 1 cols], 1, sumN (cols.map fun p => p.2.2), 0)
      | none => ([], 1, 0, 1)
  (dlPart.1 ++ ulPart.1, dlPart.2.1 + ulPart.2.1, dlPart.2.2.1 + ulPart.2.2.1, dlPart.2.2.2 + ulPart.2.2.2)

/-- Ports and groups in which a type 6 section gives a port of a VALID context a vector: carrier, context, port, group. -/
def sixPorts (s : State) (q : Refresh) : List (Nat × Nat × Nat × Nat) :=
  if targetSections s q 6 = [] then []
  else (ctxs s).flatMap fun p => (List.range (ctxPorts p.2)).flatMap fun i =>
    ((List.range (groupsOf s 1 (ctxCar p.2))).filter fun g => (typeSixEst s q (ctxCar p.2) p.1 i g).isSome).map fun g =>
      (ctxCar p.2, p.1, i, g)

/-- Groups a refresh touches: those in which a port has a new estimate or a type 6 vector, as carrier and group. -/
def touched (s : State) (q : Refresh) : List (Nat × Nat) :=
  distinct ((q.fresh.map fun k => (ctxCar (ctxRec s (k / 4096)), k % 1024)) ++ (sixPorts s q).map fun p => (p.1, p.2.2.2))

/-! ### A refresh from its cut to its boundary (R149 to R151, R161) -/

/-- Drop a refresh. -/
def dropRefresh (tEnd : Nat) : Prog := modMash fun m => { m with refresh := m.refresh.filter fun q => q.tEnd != tEnd }

/-- MASH_CUT (R149, R151, R161): T_end + 40,000 ns; the refresh is dropped, held, or solved from the inputs as they stand. -/
def execMashCut (s : State) : Host.Outcome State Fault Refusal :=
  match s.mash.refresh.find? fun q => q.stage == 0 with
  | none => done .skip s
  | some q0 =>
    let t := refreshTimes s q0.tEnd
    let q := { q0 with boundary := t.1, target := t.2, kind := fld (mashRec s) 2 1, car := fld (mashRec s) 3 1 }
    let waiting := (s.mash.refresh.filter fun p => p.stage != 0).length
    let current := (List.range 3).all fun k => (liveSheets s).all (prereq s k)
    let parts := (touched s q).map fun g => groupSets s q g.1 g.2
    let set := parts.flatMap (·.1)
    let six := (sixPorts s q).map fun p => estKey p.2.1 p.2.2.1 p.2.2.2
    let bad := (distinct ((touched s q).flatMap fun g => badRead s q g.1 g.2)).length
    let clash := countN blkMash 0 7 ((touched s q).filter fun g =>
      schedConflict s q 0 g.1 g.2 || schedConflict s q 1 g.1 g.2).length
    done (whenP (domOn s dMASH && !engineLost s && due s (add32 q.tEnd 40000))
      (if 2 ≤ waiting then .seq (dropRefresh q.tEnd) (count blkMash 0 2)
      else if current = false then seqs [dropRefresh q.tEnd, modMash fun m => { m with held := true }, count blkMash 0 3]
      else if set = [] then seqs
        [ targetEcc s q, dropRefresh q.tEnd, modMash fun m => { m with held := false, six := six },
          countN blkMash 0 4 (sumN (parts.map fun p => p.2.2.2)), countN blkMash 0 5 bad, clash ]
      else seqs
        [ targetEcc s q, modMash fun m => { m with
            held := false, six := six, refresh := m.refresh.map fun p => if p.tEnd = q.tEnd then { q with
              stage := 1, set := set, solves := sumN (parts.map fun x => x.2.1), sat := sumN (parts.map fun x => x.2.2.1),
              fail := sumN (parts.map fun x => x.2.2.2) } else p },
          countN blkMash 0 5 bad, clash ])) s

/-- Write one slot's words into its pending bank. -/
def writeSet (x : SlotSet) : Prog := .ask fun s =>
  let bank := 1 - bankOf s x.dir x.slot
  .seq (openSlot x.dir x.slot) (each (List.range (nLayers s)) fun l =>
    store .weight 3 (layerOff x.dir bank x.slot l 0)
      (((x.words.drop (64 * l)).take (nPaths s)).flatMap fun w => leBytes 2 w))

/-- MASH_SET_READY (R150): the set of the oldest refresh being solved is complete in the pending banks; its uplink writes
wait for an outstanding release; a direction whose LAYER_SRC is no longer 1 is not written (06 R140). -/
def execMashSetReady (s : State) : Host.Outcome State Fault Refusal :=
  match s.mash.refresh.find? fun q => q.stage == 1 with
  | none => done .skip s
  | some q =>
    let set := q.set.filter fun x => layerSrc s x.dir == 1
    done (whenP (domOn s dMASH && domOn s dGRAT && !engineLost s && !(set.any fun x => slotHeld s x.dir x.slot)) (seqs
      [ each set writeSet, countN blkMash 0 0 q.sat, countN blkMash 0 4 q.fail,
        modMash fun m => { m with
          lastReady := now s, lastSolves := q.solves,
          refresh := m.refresh.map fun p => if p.tEnd = q.tEnd then { p with stage := 2, ready := now s } else p } ])) s

/-- A refresh is complete in time for a boundary (R151). -/
def inTime (s : State) (b : Nat) (q : Refresh) : Bool :=
  q.stage == 2 && decide (int32Diff q.ready b ≤ -((ltxMax s + 50000 : Nat) : Int))

/-- Order 5 of R24 at a boundary: every refresh due and complete applies in one swap; one due and not complete is
deferred and counts once (R151). A later refresh never passes an earlier one. Only a direction whose LAYER_SRC is 1 swaps (06
R138, R140). -/
def mashApply (b : Nat) : Prog := .ask fun s =>
  let here := fun q : Refresh => q.stage != 0 && decide (0 ≤ int32Diff b q.boundary) &&
    isBoundary s q.kind (carMu (refCar s q.car)) (extTotal s.datum.ref b)
  let due := s.mash.refresh.takeWhile fun q => here q && inTime s b q
  let late := s.mash.refresh.filter fun q => here q && !q.deferred && !due.contains q
  let dirs := [0, 1].filter fun dir => layerSrc s dir == 1
  let slots := sumN (dirs.map fun dir => (pendingSlots s dir).length)
  let content := dirs.flatMap fun dir => (pendingSlots s dir).flatMap fun k =>
    leBytes 1 dir ++ leBytes 2 k ++ peek s .weight (layerOff dir (1 - bankOf s dir k) k 0 0) 0x800
  seqs
    [ countN blkMash 0 1 late.length,
      modMash fun m => { m with refresh := (m.refresh.drop due.length).map fun q => if late.contains q then { q with deferred := true } else q },
      match due with
      | [] => .skip
      | q :: _ => seqs
        [ each dirs fun dir => swapSlots dir b, modMash fun m => { m with lastApply := b },
          logCommit b 0x08 q.kind noUnit 0 0 content slots ] ]

/-- Discard estimates of every sheet's calibration (R156), of one carrier (R131), or on loss of the engine (R162). -/
def discardEst (want : Nat → Bool) : Prog := modMash fun m => { m with est := m.est.filter fun e => !want e.1 }

/-- A carrier's geometry changed: the next occasion of each of its contexts touches every group (R156). -/
def retouchCtxs (want : Nat → Bool) : Prog := .ask fun s => modMash fun m => { m with
  retouch := distinct (m.retouch ++ ((ctxs s).filter fun p => want (ctxCar p.2)).map (·.1)) }

/-! ### Registers and commands -/

/-- MASH.STATUS. -/
def mashStatusWord (s : State) : Nat :=
  let n := fun k => (s.mash.refresh.filter fun q => q.stage == k).length
  bit (ctxs s != [] && (layerSrc s 0 == 1 || layerSrc s 1 == 1)) + 2 * bit (n 0 != 0) + 4 * bit (n 1 != 0) + 8 * bit (n 2 != 0) +
    16 * bit s.mash.held + 32 * bit (!mashUlSolve s) + 256 * min 2 (n 1 + n 2)

/-- Mash commands act on the engine while it is in service. -/
def mashUnits : Rec → List Nat := fun _ => [uMASH]

/-- MASH_CONFIG (0x0601). -/
def cmdMashConfig : CmdDef :=
  { op := 0x0601, kind := .t, len := fixed 16, doms := fun _ => [dMASH], units := mashUnits, keys := fun _ => [0]
    fields := fun _ _ => [⟨0, 1, .uns 0 2⟩, ⟨1, 1, .bits 15⟩, ⟨2, 1, .uns 1 3⟩, ⟨3, 1, .uns 0 7⟩, ⟨4, 2, .uns 200 2000⟩,
      ⟨6, 2, .uns 1 160⟩, ⟨8, 2, .sgn (-240) 0⟩, ⟨10, 2, .sgn (-80) 160⟩] ++ rsv 12 4
    agree := fun r s => if (cars s).contains (fld r 3 1) && ctxsAgree s then stOK else stBAD_PARAM }

/-- Periods of R147. -/
def srsPeriods : List Nat := [1, 2, 4, 5, 8, 10, 16, 20, 32, 40, 64, 80, 160, 320, 640, 1280, 2560]

/-- MASH_CTX_SET (0x0602). -/
def cmdMashCtxSet : CmdDef :=
  { op := 0x0602, kind := .t, len := fixed 24, doms := fun _ => [dMASH], units := mashUnits, keys := fun r => [fld r 0 1]
    fields := fun s r =>
      let ports := slice (fld r 1 1) 2 1
      let nsym := slice (fld r 3 1) 5 4
      let layer := fun k => fld r (20 + k) 1
      [ ⟨0, 1, .uns 0 63⟩, ⟨1, 1, .cond (decide (fld r 1 1 < 16) && ports != 3)⟩, ⟨2, 1, .uns 0 7⟩,
        ⟨3, 1, .cond (nsym != 3 && decide (slice (fld r 3 1) 7 6 ≤ nsym) && decide (ctxSym r + 2 ^ nsym ≤ 14))⟩,
        ⟨4, 2, .cond (decide (fld r 4 2 ≤ 268) && fld r 4 2 % 4 == 0)⟩,
        ⟨6, 2, .cond (decide (4 ≤ fld r 6 2) && decide (fld r 6 2 ≤ 272) && fld r 6 2 % 4 == 0)⟩,
        ⟨8, 1, .uns 0 (ctxComb r - 1)⟩, ⟨9, 1, .uns 0 (ctxCsMax r - 1)⟩, ⟨10, 2, .uns 0 1023⟩,
        ⟨12, 2, .cond (srsPeriods.contains (fld r 12 2))⟩, ⟨14, 2, .uns 0 (fld r 12 2 - 1)⟩,
        ⟨16, 2, .uns 0 (32768 - 2 ^ ports)⟩, ⟨18, 1, .uns 1 (2 ^ ports)⟩, ⟨19, 1, .zero⟩,
        ⟨20, 4, .cond ((List.range 4).all fun k => layer k == 0xFF || (decide (layer k < 16) && decide (k < 2 ^ ports)))⟩,
        ⟨20, 4, .fit ((List.range 4).all fun k => layer k == 0xFF || decide (layer k < nLayers s))⟩ ]
    agree := fun _ s => if ctxsAgree s then stOK else stBAD_PARAM }

/-- MASH_CTX_GET (0x0603). -/
def cmdMashCtxGet : CmdDef :=
  { op := 0x0603, kind := .r, len := fixed 1, doms := fun _ => [dMASH], units := mashUnits
    fields := fun _ _ => [⟨0, 1, .uns 0 63⟩], answer := fun _ r s => (stOK, ctxRec s (fld r 0 1)) }

/-- MASH_STATUS (0x0604). -/
def cmdMashStatus : CmdDef :=
  { op := 0x0604, kind := .r, len := fixed 1, doms := fun _ => [dMASH], units := mashUnits, fields := fun _ _ => [⟨0, 1, .bits 1⟩]
    answer := fun _ _ s => (stOK, leBytes 4 (mashStatusWord s) ++ leBytes 4 s.mash.lastReady ++ leBytes 4 s.mash.lastApply ++
      leBytes 2 s.mash.lastSolves ++ zeros 2 ++ cntBytes s blkMash 0 8 ++ leBytes 4 (satBits s blkMash 0 8))
    effect := fun _ r => whenP (fbit r 0 1 0) (clearCnts blkMash 0 8) }

/-- MASH_PORT_STATUS (0x0605). -/
def cmdMashPortStatus : CmdDef :=
  { op := 0x0605, kind := .r, len := fixed 2, doms := fun _ => [dMASH], units := mashUnits
    fields := fun _ _ => [⟨0, 1, .uns 0 63⟩, ⟨1, 1, .bits 1⟩]
    answer := fun _ r s =>
      let x := fld r 0 1
      let n := ctxPorts (ctxRec s x)
      (stOK, leBytes 1 x ++ leBytes 1 n ++ leSigned 2 (tget (-32768) s.mash.noise x) ++ leBytes 4 (tget 0 s.mash.lastEnd x) ++
        leBytes 4 (cntVal s blkMashPort (4 * x) 0) ++ zeros 4 ++ (List.range 4).flatMap fun k =>
          if n ≤ k then zeros 12
          else
            let p := tget (-2147483648, -32768, 0, 1) s.mash.port (4 * x + k)
            leSigned 4 p.1 ++ leSigned 2 p.2.1 ++ zeros 2 ++ leBytes 4 (cntVal s blkMashPort (4 * x + k) 1))
    effect := fun _ r => whenP (fbit r 1 1 0) (each (List.range 4) fun k => clearCnts blkMashPort (4 * fld r 0 1 + k) 2) }

/-- MASH_EST_READ (0x0606). -/
def cmdMashEstRead : CmdDef :=
  { op := 0x0606, kind := .r, len := fixed 8, doms := fun _ => [dMASH], units := mashUnits
    fields := fun s r =>
      let q := ctxRec s (fld r 0 1)
      [ ⟨0, 1, .cond (decide (fld r 0 1 < 64) && ctxValid q)⟩, ⟨1, 1, .uns 0 (ctxPorts q - 1)⟩,
        ⟨2, 2, .uns 0 (groupsOf s 1 (ctxCar q) - 1)⟩, ⟨4, 1, .uns 0 1⟩ ] ++ rsv 5 3
    answer := fun _ r s =>
      let key := estKey (fld r 0 1) (fld r 1 1) (fld r 2 2)
      let lo := 32 * fld r 4 1
      match tfind s.mash.est key with
      | none => (stOK, zeros 136)
      | some e =>
        let off := fun k : Nat => 0x1C00000 + Config.estAddr key % 0x400000 + 8 + 4 * k
        let bad := (List.range 32).any fun i => badRange s 4 (off (lo + i)) 4
        (if bad then stECC_UNCORR else stOK,
          leSigned 1 e.exp ++ leBytes 1 (1 + 2 * bit (s.mash.six.contains key)) ++ zeros 2 ++ leBytes 4 e.tEnd ++
            (List.range 32).flatMap fun i =>
              let z := if badRange s 4 (off (lo + i)) 4 then (0, 0) else e.iq.getD (lo + i) (0, 0)
              leSigned 2 z.1 ++ leSigned 2 z.2)
    effect := fun _ r => noteRead 4 (0x1C00000 + Config.estAddr (estKey (fld r 0 1) (fld r 1 1) (fld r 2 2)) % 0x400000 + 8 +
      128 * fld r 4 1) 128 }

end Sys2Proof.Machine
end

