-- ==== Sys2Proof/Machine/Conv.lean ====
section
/-! DEFINITION. The converters with their rotating spares, and the housekeeping channels (11_converters R235 to R253,
R257). -/

namespace Sys2Proof.Machine

open Sys2Proof

/-! ### Converters (R235 to R238) -/

/-- The converter is a DAC. -/
def isDac (n : Nat) : Bool := decide (256 ≤ n)

/-- Slices or cells of a converter. -/
def sliceCount (n : Nat) : Nat := if n = 144 then 3 else if isDac n then 64 else 17

/-- Positions of a converter. -/
def posCount (n : Nat) : Nat := if n = 144 then 2 else if isDac n then 63 else 16

/-- CONV_CAL_SET record in force. -/
def calRec (s : State) (sheet : Nat) : Rec :=
  setting s 0x0B40 sheet (leBytes 1 sheet ++ [0, 1, 4] ++ leSigned 2 (-120) ++ zeros 2)

/-- FREEZE_ADC or FREEZE_DAC holds the converter. -/
def convFrozen (s : State) (n : Nat) : Bool :=
  match convSheet n with
  | some sh => fbit (calRec s sh) 1 1 (if isDac n then 1 else 0)
  | none => false

/-- STATE of R237: HELD while FREEZE is set in RUN or NO_SPARE. -/
def convStateNow (s : State) (n : Nat) : Nat :=
  let v := (convOf s n).state
  if (v = 2 ∨ v = 4) ∧ convFrozen s n = true then 3 else v

/-- Slice k of a converter before INIT places its trims: kept where the domain was retained, fused otherwise (R238). -/
def sliceBefore (s : State) (n k : Nat) : Slice :=
  ((convOf s n).slices[k]?).getD
    { pos := 0xFF, failed := false, offset := 0, gain := 0, skew := Config.fusedTrim n k 0
      thresh := (List.range 4).map fun i => Config.fusedTrim n k (i + 1) }

/-- The first spare slice. -/
def spareOf (c : Conv) : Option Nat := (c.slices.zipIdx.find? fun p => p.1.pos == 0xFF && !p.1.failed).map (·.2)

/-- The slice that holds a position. -/
def holderOf (c : Conv) (j : Nat) : Option Nat := (c.slices.zipIdx.find? fun p => p.1.pos == j && !p.1.failed).map (·.2)

/-- Slices that have failed. -/
def failedSlices (c : Conv) : Nat := (c.slices.filter (·.failed)).length

/-- Change a slice. -/
def modSlice (n k : Nat) (f : Slice → Slice) : Prog := modConverter n fun c => { c with
  slices := match c.slices[k]? with
    | some x => setNth c.slices k (f x)
    | none => c.slices }

/-- Count on the sheet of a converter. -/
def convCount (n i : Nat) : Prog :=
  match convSheet n with
  | some sh => count blkConv sh i
  | none => .skip

/-- The same, by a number. -/
def convCountN (n i by_ : Nat) : Prog :=
  match convSheet n with
  | some sh => countN blkConv sh i by_
  | none => .skip

/-- Observation receiver `k` is declared failed: isolated as class 0x07 (09 R209). -/
def orxFail (k : Nat) : Prog := .ask fun s => whenP (decide ((orxOf s k).service = 0)) (seqs
  [ modOrx k fun o => { o with service := 2 },
    setReason (uORX k) 2, isolate 2 7 (k + 512) ])

/-- What follows when a converter enters FAILED (R245, R250). -/
def convFails (n : Nat) : Prog := seqs
  [ modConverter n fun c => { c with state := 5, visit := 0 },
    raise (evCode 11 2) n [],
    if n < 128 then isolate 2 1 (n / 2 + 512)
    else if n < 144 then orxFail ((n - 128) / 2)
    else if n = 144 then .skip
    else .seq (modTx fun t => { t with pathHold := t.pathHold ||| 2 ^ ((n - 256) / 2) }) (isolate 2 1 ((n - 256) / 2 + 256)) ]

/-- A slice or cell is declared failed (R244, R245, R250, R251). -/
def failSlice (n k : Nat) : Prog := .ask fun s =>
  let c := convOf s n
  let limit := if n = 144 then 2 else 1
  let all := (List.range (sliceCount n)).map (sliceBefore s n)
  let live := decide (c.state = 2 ∨ c.state = 4)
  whenP ((all[k]?.map fun x => !x.failed).getD false) (seqs
    [ modConverter n fun v => { v with slices := all },
      modSlice n k fun x => { x with failed := true },
      raise (evCode 11 1) (64 * n + k) [],
      if live && decide (limit ≤ failedSlices c) then convFails n
      else .seq (whenP live (modConverter n fun v => { v with state := 4, visit := 0, disagree := 0, refusals := 0 }))
        (isolate 2 2 (64 * n + k)) ])

/-! ### Offline measurement (R240, R249) -/

/-- Mean of two measurements to the nearest tap, halves away from zero. -/
def meanTap (a b : Int) : Int := divRna (a + b) 2

/-- Measurements A and B of a slice, as OFFSET of A and B, GAIN of A and B; of a cell, CELL_TRIM of A and B, twice 0. -/
abbrev Pair := Int × Int × Int × Int

/-- A and B agree. -/
def agreesAt (n : Nat) (m : Pair) : Bool := decide ((m.1 - m.2.1).natAbs ≤ 2) && (isDac n || decide ((m.2.2.1 - m.2.2.2).natAbs ≤ 4))

/-- OFFSET and GAIN that agreeing measurements set; CELL_TRIM stands in OFFSET. -/
def pairMean (m : Pair) : Int × Int := (meanTap m.1 m.2.1, meanTap m.2.2.1 m.2.2.2)

/-- The trims lie in their ranges. -/
def inTrim (n : Nat) (t : Int × Int) : Bool :=
  if isDac n then decide (t.1.natAbs ≤ 31) else decide (t.1.natAbs ≤ 255 ∧ t.2.natAbs ≤ 511)

/-- A slice's attempts during INIT, up to eight for an ADC: those that disagree, and what the first that agrees sets. -/
def initOf (n : Nat) (l : List Pair) : Nat × Option (Int × Int) :=
  let l := if isDac n then l else l.take 8
  let bad := l.takeWhile fun m => !agreesAt n m
  (bad.length, (l.drop bad.length).head?.map pairMean)

/-- The attempts made on a slice from its measurements A and B, each OFFSET (or CELL_TRIM) and GAIN. -/
def attemptsOf (a b : List (List (Int × Int))) (k : Nat) : List Pair :=
  ((a.getD k []).zip (b.getD k [])).map fun m => (m.1.1, m.2.1, m.1.2, m.2.2)

/-- CONVERTER_INIT_DONE (R238, R249), with measurements A and B of the attempts on each slice. One that never agrees, or whose trims leave their range,
fails; one that had failed before stays so until CONV_SLICE_SERVICE returns it (assumption log 86). -/
def execConverterInitDone (conv : Nat) (a b : List (List (Int × Int))) (s : State) : Host.Outcome State Fault Refusal :=
  let limit := if conv = 144 then 2 else 1
  let all := (List.range (sliceCount conv)).map fun k => (k, sliceBefore s conv k, initOf conv (attemptsOf a b k))
  let fresh := all.filter fun x => !x.2.1.failed
  let out := fun (x : Nat × Slice × Nat × Option (Int × Int)) => x.2.2.2.any fun t => !inTrim conv t
  let newBad := (fresh.filter fun x => x.2.2.2.isNone || out x).map (·.1)
  let bad := (all.filter fun x => x.2.1.failed || newBad.contains x.1).map (·.1)
  let good := (List.range (sliceCount conv)).filter fun k => !bad.contains k
  let slices := all.map fun x =>
    let i := good.idxOf x.1
    let t := if bad.contains x.1 then (x.2.1.offset, x.2.1.gain) else x.2.2.2.getD (0, 0)
    { x.2.1 with
      offset := t.1, gain := t.2, failed := bad.contains x.1
      pos := if bad.contains x.1 || posCount conv ≤ i then 0xFF else i }
  done (whenP (decide ((convOf s conv).state = 1)) (seqs
    [ modConverter conv fun c => { c with
        slices := slices, visit := 0, disagree := 0, refusals := 0, lastPos := 0, state := if bad = [] then 2 else 4 },
      whenP (decide (conv < 144)) (each (List.range 16) fun j => stamp (tkEst conv j)),
      convCountN conv 0 (sumN (fresh.map fun x => x.2.2.1)), convCountN conv 2 (fresh.filter out).length,
      each newBad fun k => raise (evCode 11 1) (64 * conv + k) [],
      whenP (decide (limit < bad.length)) (convFails conv) ])) s

/-! ### The rotating spare (R239 to R241, R249) -/

/-- Length of a visit, ns: of the housekeeping converter, of a DAC's cell, of an ADC's slice (R239, R249, R251). -/
def visitNs (conv : Nat) : Nat := if conv = 144 then 1000000 else if isDac conv then 32000 else 136000

/-- SPARE_VISIT_START (R239). -/
def execSpareVisitStart (conv : Nat) (s : State) : Host.Outcome State Fault Refusal :=
  let c := convOf s conv
  done (whenP (decide (convStateNow s conv = 2) && c.visit == 0 && (spareOf c).isSome && elapsed s (tkVisit conv) (visitNs conv))
    (.seq (stamp (tkVisit conv)) (modConverter conv fun v => { v with visit := 1 }))) s

/-- The spare disagrees: counted, and failed at the eighth consecutive visit (R240, R244). -/
def spareDisagrees (n k : Nat) : Prog := .ask fun s => seqs
  [ convCount n 0,
    if 8 ≤ (convOf s n).disagree + 1 then failSlice n k
    else modConverter n fun v => { v with visit := 0, disagree := v.disagree + 1 } ]

/-- AGREEMENT_TEST (R240): OFFSET and GAIN of measurements A and B of the spare of an ADC or of the housekeeping
converter. -/
def execAgreementTest (conv : Nat) (aOffset bOffset aGain bGain : Int) (s : State) : Host.Outcome State Fault Refusal :=
  let c := convOf s conv
  let m : Pair := (aOffset, bOffset, aGain, bGain)
  done (match spareOf c with
    | some k => whenP (decide (convStateNow s conv = 2) && c.visit == 1 && !isDac conv &&
          elapsed s (tkVisit conv) (if conv = 144 then 800000 else 104000))
        (if agreesAt conv m = false then spareDisagrees conv k
        else if inTrim conv (pairMean m) = false then .seq (convCount conv 2) (failSlice conv k)
        else .seq (modSlice conv k fun x => { x with offset := (pairMean m).1, gain := (pairMean m).2 })
          (modConverter conv fun v => { v with visit := 2, disagree := 0 }))
    | none => .skip) s

/-- The spare and the holder of the next position exchange. -/
def exchange (n k : Nat) : Prog := .ask fun s =>
  let c := convOf s n
  let j := (c.lastPos + 1) % posCount n
  match holderOf c j with
  | some h => seqs
      [ modSlice n h fun x => { x with pos := 0xFF }, modSlice n k fun x => { x with pos := j },
        modConverter n fun v => { v with lastPos := j, visit := 0, refusals := 0, disagree := 0 } ]
  | none => .skip

/-- HANDOVER (R241): mean of the difference over the shadow, and its mean square, in units of 2^−10 LSB and LSB². A refused
one counts against the slice that holds the position; an accepted one restarts the position's window. -/
def execHandover (conv : Nat) (mean : Int) (meanSquare : Nat) (s : State) : Host.Outcome State Fault Refusal :=
  let c := convOf s conv
  let j := (c.lastPos + 1) % posCount conv
  done (match spareOf c, holderOf c j with
    | some k, some h => whenP (decide (convStateNow s conv = 2) && c.visit == 2 && !isDac conv &&
          elapsed s (tkVisit conv) (if conv = 144 then 1000000 else 128000))
        (if mean.natAbs ≤ 1024 ∧ meanSquare ≤ 16 * 1024 then seqs
          [ exchange conv k, whenP (conv != 144) (convCount conv 4),
            modConv fun x => { x with window := tdel x.window (conv * 32 + j) }, stamp (tkEst conv j) ]
        else seqs
          [ convCount conv 1, modConverter conv fun v => { v with visit := 0, refusals := v.refusals + 1 },
            whenP (decide (4 ≤ c.refusals + 1)) (failSlice conv h) ])
    | _, _ => .skip) s

/-- CELL_VISIT (R249): measurements A and B of the spare cell of a DAC. -/
def execCellVisit (conv : Nat) (a b : Int) (s : State) : Host.Outcome State Fault Refusal :=
  let c := convOf s conv
  let m : Pair := (a, b, 0, 0)
  done (match spareOf c with
    | some k => whenP (decide (convStateNow s conv = 2) && isDac conv && elapsed s (tkVisit conv) (visitNs conv)) (.seq (stamp (tkVisit conv))
        (if agreesAt conv m = false then spareDisagrees conv k
        else if inTrim conv (pairMean m) = false then .seq (convCount conv 2) (failSlice conv k)
        else .seq (modSlice conv k fun x => { x with offset := (pairMean m).1 }) (exchange conv k)))
    | none => .skip) s

/-! ### Tracking in service (R242, R243, R247) -/

/-- Σ d·g doubled and Σ g² of a window's triples x[n − 1], x[n], x[n + 1]. -/
def skewSums (l : List (Int × Int × Int)) : Int × Nat :=
  (sumI (l.map fun t => (2 * t.2.1 - t.1 - t.2.2) * (t.2.2 - t.1)), (sumI (l.map fun t => (t.2.2 - t.1) ^ 2)).toNat)

/-- Skew estimate in taps of 25 fs at a sampling rate `2 ^ wide` × 1966.08 MS/s, none where MIN_ENERGY is not met (R242). -/
def skewEstimate (s : State) (sheet wide : Nat) (l : List (Int × Int × Int)) : Option Int :=
  let z := skewSums l
  let e : Int := sfld (calRec s sheet) 4 2
  let ok := decide (0 < l.length) && decide ((l.length * 2 ^ 30) ^ 40 ≤ z.2 ^ 40 * 10 ^ (-e).toNat)
  if ok then some (divRna (15625000 * z.1) (384 * 2 * 2 ^ wide * z.2)) else none

/-- e_b of a window for a bit, as a fraction, none where it is not valid. -/
def threshEstimate (b : Nat) (l : List (Int × Int × Int)) : Option (Int × Nat) :=
  let codes := l.map fun t => t.2.1 / 16
  let m : Int := (2 ^ (12 - b) : Nat)
  let up := (codes.filter fun c => decide (c % m = 0) && decide (c ≠ -2048)).length
  let down := (codes.filter fun c => decide ((c + 1) % m = 0) && decide (c + 1 ≠ -2048) && decide (c + 1 ≤ 2047)).length
  if 256 ≤ up + down then some ((up : Int) - down, up + down) else none

/-- Two skew estimates agree and lie above the deadband: the sign of their mean. -/
def skewMove (s : State) (sheet : Nat) (a b : Option Int) : Int :=
  match a, b with
  | some x, some y =>
    if (x - y).natAbs ≤ fld (calRec s sheet) 3 1 ∧ 0 < x * y ∧ 2 * fld (calRec s sheet) 2 1 < (x + y).natAbs
    then (if 0 < x then 1 else -1) else 0
  | _, _ => 0

/-- Two e_b agree and exceed 1/16: their sign. -/
def threshMove (a b : Option (Int × Nat)) : Int :=
  match a, b with
  | some x, some y =>
    if 0 < x.1 * y.1 ∧ x.2 < 16 * x.1.natAbs ∧ y.2 < 16 * y.1.natAbs then (if 0 < x.1 then 1 else -1) else 0
  | _, _ => 0

/-- Estimates of a receiver's window in wide mode: the mean of the odd positions' minus that of the even ones'. -/
def wideEstimate (s : State) (sheet : Nat) (l : List (List (Int × Int × Int))) : Option Int :=
  let e := l.map (skewEstimate s sheet 1)
  if e.any Option.isNone || l.length != 32 then none
  else
    let v := e.map fun x => x.getD 0
    some (divRna (sumI (v.zipIdx.map fun p => if p.2 % 2 = 1 then p.1 else -p.1)) 16)

/-- ESTIMATION_WINDOW_END (R242, R243, R247): a window of a position of an ADC closes with its samples and their
neighbours; in wide mode a window of a receiver's 32 positions closes. -/
def execEstimationWindowEnd (conv pos : Nat) (samples : List (List (Int × Int × Int))) (s : State) :
    Host.Outcome State Fault Refusal :=
  let sheet := (convSheet conv).getD 0
  let k := (conv - 128) / 2
  let orx := tfind s.dpd.orx k
  let leased := (orx.map fun o => o.owner != 0 && (o.source == 1 || o.source == 2)).getD false
  let wide := (orx.map (·.wide)).getD false
  let runs := fun n => decide (convStateNow s n = 2 ∨ convStateNow s n = 4)
  let live := decide (conv < 144) && runs conv
  let c := convOf s conv
  done (if conv ≥ 128 && live && runs (128 + 2 * k) && runs (129 + 2 * k) && leased && wide then
      (match wideEstimate s sheet samples with
        | none => convCount conv 4
        | some e => match tfind s.conv.wideWindow k with
          | none => modConv fun x => { x with wideWindow := tset x.wideWindow k e }
          | some a =>
            let m := skewMove s sheet (some a) (some e)
            let old := tget (Config.wideSkew k).toInt s.conv.wideSkew k
            .seq (modConv fun x => { x with wideWindow := tdel x.wideWindow k })
              (whenP (m != 0) (if (old - m).natAbs ≤ 2047 then .seq
                (modConv fun x => { x with wideSkew := tset x.wideSkew k (old - m) }) (convCount conv 3) else convCount conv 2)))
    else whenP (live && decide (pos < 16) && (if conv < 128 then rxReadyNow s sheet else leased) &&
        elapsed s (tkEst conv pos) 533333) (
      let l := samples.headD []
      let sk := skewEstimate s sheet 0 l
      let th := (List.range 4).map fun i => threshEstimate (11 - i) l
      let key := conv * 32 + pos
      .seq (.seq (stamp (tkEst conv pos)) (whenP sk.isNone (convCount conv 4))) (match tfind s.conv.window key, holderOf c pos with
        | none, _ => modConv fun x => { x with window := tset x.window key (sk, th) }
        | some (a, ta), some h =>
          let x := c.slices.getD h (sliceBefore s conv h)
          let m := skewMove s sheet a sk
          let mt := (ta.zip th).map fun p => threshMove p.1 p.2
          let fits := fun (lim : Nat) (v d : Int) => decide ((v - d).natAbs ≤ lim)
          let move := fun (lim : Nat) (v d : Int) => if fits lim v d then v - d else v
          let all : List (Nat × Int × Int) := (2047, x.skew, m) :: (x.thresh.zip mt).map fun p => (63, p.1, p.2)
          let moved := all.filter fun p => p.2.2 != 0
          let out := (moved.filter fun p => !fits p.1 p.2.1 p.2.2).length
          seqs
            [ modConv fun v => { v with window := tdel v.window key },
              modSlice conv h fun y => { y with skew := move 2047 x.skew m, thresh := (x.thresh.zip mt).map fun p => move 63 p.1 p.2 },
              countN blkConv sheet 3 (moved.length - out), countN blkConv sheet 2 out,
              whenP (out != 0) (failSlice conv h) ]
        | some _, none => modConv fun v => { v with window := tdel v.window key }))) s

/-! ### Dither (R248) -/

/-- Seed of a DAC's LFSR. -/
def lfsrSeed (n : Nat) : Nat := (0x400001 + n) % 2 ^ 23

/-- LFSR of a DAC. -/
def lfsrOf (s : State) (n : Nat) : Nat := tget (lfsrSeed n) s.conv.lfsr n

/-- The LFSRs of the DACs that dither, one cycle of the DATUM clock on (assumption log 10). -/
def ditherCycle : Prog := .ask fun s => each ((sheets s).filter fun n => fbit (calRec s n) 1 1 2) fun sheet =>
  each ((List.range 32).filter fun i => decide (convStateNow s (256 + 32 * sheet + i) ≠ 0)) fun i =>
    modConv fun c => { c with lfsr := tset c.lfsr (256 + 32 * sheet + i) (Config.ditherStep (lfsrOf s (256 + 32 * sheet + i)) % 2 ^ 23) }

/-! ### Housekeeping channels (R251 to R253) -/

/-- A channel with no value. -/
def chan0 : HkChan := { code := 0, value := -32768, timeNs := 0, out := false }

/-- VALUE of a channel; a sheet's temperatures have none while it is in SLEEP. -/
def hkVal (s : State) (ch : Nat) : Int :=
  if 32 ≤ ch ∧ (sh s ((ch - 32) / 2)).state = .sleep then -32768 else (tget chan0 s.hk.chan ch).value

/-- HK_SEQ_SET record in force. -/
def seqRec (s : State) : Rec :=
  setting s 0x0D01 0 ([31, 0, 0, 0] ++ (List.range 31).flatMap fun i => leBytes 1 i ++ leBytes 1 4)

/-- HK_LIMIT_SET record in force. -/
def limitRec (s : State) (ch : Nat) : Rec :=
  setting s 0x0D03 ch (leBytes 1 ch ++ [0] ++ leBytes 2 0x8001 ++ leBytes 2 0x7FFF ++ leBytes 2 0)

/-- A new VALUE of a channel, judged against its window (R253). -/
def hkUpdate (ch code : Nat) (v : Int) : Prog := .ask fun s =>
  let r := limitRec s ch
  let lo := sfld r 2 2
  let hi := sfld r 4 2
  let hy : Int := (fld r 6 2 : Nat)
  let old := tget chan0 s.hk.chan ch
  let bad := fbit r 1 1 0 && (decide (v < lo) || decide (hi < v))
  let fresh := bad && !old.out
  let stays := bad || (old.out && !(decide (lo + hy ≤ v) && decide (v ≤ hi - hy)))
  seqs
    [ modHk fun h => { h with chan := tset h.chan ch { code := code, value := v, timeNs := now s, out := stays } },
      whenP fresh (if fbit r 1 1 1 then .seq (setFault 7) (raiseFl 2 (evCode 11 3) ch [v]) else raise (evCode 11 3) ch [v]) ]

/-- Channel of the sequence's current entry. -/
def hkChannel (s : State) : Nat := fld (seqRec s) (4 + 2 * s.hk.idx) 1

/-- The housekeeping converter converts: ON, and in RUN or NO_SPARE. -/
def hkLive (s : State) : Bool := domOn s dHK && decide ((convOf s 144).state = 2 ∨ (convOf s 144).state = 4)

/-- Conversions that the sequence's current entry averages. -/
def hkCount (s : State) : Nat := 2 ^ fld (seqRec s) (5 + 2 * s.hk.idx) 1

/-- Mean of the conversions of an entry × 16, to the nearest (assumption log 10). -/
def hkMean (l : List Nat) : Nat := (divRna (16 * (sumN l : Nat)) l.length).toNat

/-- VALUE of a channel from its averaged code × 16: the fused gain and offset, rounded to the nearest unit (R252). -/
def hkValue (ch code : Nat) : Int := toSigned 16 (ofSigned 16 (divRna (Config.hkGain ch * (code : Nat) + Config.hkOffset ch) (2 ^ 32)))

/-- The conversions of the sequence's current entry are complete, one every 0.49 us (R251, R252). -/
def hkReady (s : State) (conversions : List Nat) : Bool :=
  hkLive s && conversions.length == hkCount s && elapsed s tkHk (490 * conversions.length)

/-- What they give. -/
def hkConvert (conversions : List Nat) : Prog := .ask fun s => whenP (hkReady s conversions)
  (.seq (.seq (stamp tkHk) (hkUpdate (hkChannel s) (hkMean conversions) (hkValue (hkChannel s) (hkMean conversions))))
    (modHk fun h => { h with idx := if fld (seqRec s) 0 1 ≤ h.idx + 1 then 0 else h.idx + 1 }))

/-- A sheet sends the temperatures of its two sensors, every 100 us (R252). -/
def sheetTemps (sheet : Nat) (t0 t1 : Int) : Prog := .ask fun s =>
  whenP (sheetFit s sheet && domOn s (dSHEET sheet) && (sh s sheet).state != .sleep && elapsed s (tkTemp sheet) 100000)
    (seqs [stamp (tkTemp sheet), hkUpdate (32 + 2 * sheet) 0 t0, hkUpdate (33 + 2 * sheet) 0 t1])

/-- Sheet temperature θ_s: the mean of its two sensors, rounded (13 R296). -/
def sheetTemp (s : State) (n : Nat) : Int := divRna (hkVal s (32 + 2 * n) + hkVal s (33 + 2 * n)) 2

/-- HK.STATUS. -/
def hkStatusWord (s : State) : Nat :=
  let c := convOf s 144
  (match spareOf c with
    | some k => if c.state = 2 then k else 3
    | none => 3) + 16 * c.state + 256 * bit (decide (failedSlices c = 2))

/-- SHEET.CONV_STATE. -/
def convStateWord (s : State) (n : Nat) : Nat :=
  let c := convOf s n
  (c.lastPos % 64) + 256 * (match spareOf c with
    | some k => if c.state = 2 then k else 0x7F
    | none => 0x7F) + 65536 * convStateNow s n

/-! ### Commands (R257) -/

/-- CONV_CAL_SET (0x0B40): a visit in progress is abandoned where FREEZE is set. -/
def cmdConvCalSet : CmdDef :=
  { op := 0x0B40, kind := .n, len := fixed 8, doms := fun r => [dSHEET (fld r 0 1)], units := fun r => [uSHEET (fld r 0 1)]
    keys := fun r => [fld r 0 1]
    fields := fun _ _ => [⟨0, 1, .unit .sheet⟩, ⟨1, 1, .bits 7⟩, ⟨2, 1, .uns 0 8⟩, ⟨3, 1, .uns 1 16⟩, ⟨4, 2, .sgn (-240) (-40)⟩, ⟨6, 2, .zero⟩]
    effect := fun _ r => .seq (setSetting 0x0B40 (fld r 0 1) r) (each (List.range 68) fun i => .ask fun s =>
      whenP (convFrozen s (convNumber (fld r 0 1) i) && decide ((convOf s (convNumber (fld r 0 1) i)).visit ≠ 0))
        (modConverter (convNumber (fld r 0 1) i) fun c => { c with visit := 0 })) }

/-- CONV_STATUS (0x0B41). -/
def cmdConvStatus : CmdDef :=
  { op := 0x0B41, kind := .r, len := fixed 2, doms := fun r => [dSHEET (fld r 0 1)], units := fun r => [uSHEET (fld r 0 1)]
    fields := fun _ _ => [⟨0, 1, .unit .sheet⟩, ⟨1, 1, .bits 1⟩]
    answer := fun _ r s =>
      let n := fld r 0 1
      (stOK, ((List.range 68).flatMap fun i => leBytes 1 (convStateNow s (convNumber n i))) ++ cntBytes s blkConv n 5 ++
        leBytes 4 (satBits s blkConv n 5))
    effect := fun _ r => whenP (fbit r 1 1 0) (clearCnts blkConv (fld r 0 1) 5) }

/-- Domain of a converter's command. -/
def convDoms (n : Nat) : List Nat :=
  match convSheet n with
  | some sh => [dSHEET sh]
  | none => []

/-- Sheet a converter's command names. -/
def convUnits (n : Nat) : List Nat :=
  match convSheet n with
  | some sh => [uSHEET sh]
  | none => []

/-- Fields that name a converter. -/
def convFields (r : Rec) : List Fld := [⟨0, 2, .unit .converter⟩, ⟨0, 2, .cond (decide (fld r 0 2 ≤ 144 ∨ 256 ≤ fld r 0 2))⟩]

/-- CONV_SLICE_READ (0x0B42). -/
def cmdConvSliceRead : CmdDef :=
  { op := 0x0B42, kind := .r, len := fixed 4, doms := fun r => convDoms (fld r 0 2), units := fun r => convUnits (fld r 0 2)
    fields := fun _ r => convFields r ++ [⟨2, 2, .zero⟩]
    answer := fun _ r s =>
      let n := fld r 0 2
      let c := convOf s n
      let slice := fun k => (c.slices[k]?).getD { sliceBefore s n k with skew := 0, thresh := [0, 0, 0, 0] }
      let body := (List.range (sliceCount n)).flatMap fun k =>
        let x := slice k
        if isDac n then leBytes 1 (if x.failed then 0xFF else x.pos) ++ leSigned 1 x.offset
        else leBytes 1 (if x.failed then 0xFF else x.pos) ++ [0] ++ leSigned 2 x.offset ++ leSigned 2 x.gain ++ leSigned 2 x.skew ++
          x.thresh.flatMap fun t => leSigned 1 t
      (stOK, leBytes 1 (convStateNow s n) ++ leBytes 1 (match spareOf c with
          | some k => if c.state = 2 then k else 0xFF
          | none => 0xFF) ++ leBytes 1 (sliceCount n) ++ [0] ++
        leBytes 8 (maskOf ((List.range (sliceCount n)).filter fun k => (slice k).failed)) ++ body) }

/-- A slice found good returns to service (CONV_SLICE_SERVICE): into a position that no slice holds, else as the spare. A converter
that is OFF or in INIT stays so. -/
def returnSlice (n k : Nat) (t : Int × Int) : Prog := .ask fun s =>
  let c := convOf s n
  let open_ := if c.state = 4 ∨ c.state = 5 then (List.range (posCount n)).find? fun j => (holderOf c j).isNone else none
  seqs
    [ modSlice n k fun x => { x with failed := false, pos := open_.getD 0xFF, offset := t.1, gain := t.2 },
      modConverter n fun v => { v with
        state := if c.state = 5 then 4 else if c.state = 4 ∧ failedSlices c ≤ 1 then 2 else c.state, visit := 0 },
      isolate 3 2 (64 * n + k),
      whenP (c.state == 5) (if n < 128 then isolate 3 1 (n / 2 + 512) else if n < 144 then .skip else if n = 144 then .skip
        else .seq (modTx fun t => { t with pathHold := andNot t.pathHold (2 ^ ((n - 256) / 2)) })
          (isolate 3 1 ((n - 256) / 2 + 256))) ]

/-- The two offline measurements of a returning slice, 16 bits each: OFFSET or CELL_TRIM of A and B, then GAIN of A and B. -/
def servicePair (data : Rec) : Pair := (sfld data 0 2, sfld data 2 2, sfld data 4 2, sfld data 6 2)

/-- CONV_SLICE_SERVICE (0x0B43): completion brings the two measurements. -/
def cmdConvSliceService : CmdDef :=
  { op := 0x0B43, kind := .n, parked := true, len := fixed 4, doms := fun r => convDoms (fld r 0 2), units := fun r => convUnits (fld r 0 2)
    fields := fun _ r => convFields r ++ [⟨2, 1, .uns 0 (sliceCount (fld r 0 2) - 1)⟩, ⟨3, 1, .uns 0 1⟩]
    finish := fun _ r ok data s =>
      let n := fld r 0 2
      let k := fld r 2 1
      if fld r 3 1 = 0 then (stOK, [], failSlice n k)
      else if (((convOf s n).slices[k]?).map (·.failed)).getD false = false then (stOK, [], .skip)
      else
        let m := servicePair data
        if ok && agreesAt n m && inTrim n (pairMean m) then (stOK, [], returnSlice n k (pairMean m))
        else (stHW_FAULT, [], whenP ok (if agreesAt n m then convCount n 2 else convCount n 0))
    clashes := fun r op r2 => op == 0x0B43 && fld r 0 2 == fld r2 0 2 }

/-- HK_SEQ_SET (0x0D01). -/
def cmdHkSeqSet : CmdDef :=
  { op := 0x0D01, kind := .n, len := fun r => 4 + 2 * fld r 0 1, doms := fun _ => [dHK], units := fun _ => [uHK], keys := fun _ => [0]
    fields := fun _ r => [⟨0, 1, .uns 1 32⟩] ++ rsv 1 3 ++ (List.range (fld r 0 1)).flatMap fun i =>
      [⟨4 + 2 * i, 1, .uns 0 30⟩, ⟨5 + 2 * i, 1, .uns 0 8⟩]
    effect := fun _ r => .seq (setSetting 0x0D01 0 r) (modHk fun h => { h with idx := 0 }) }

/-- HK_READ (0x0D02). -/
def cmdHkRead : CmdDef :=
  { op := 0x0D02, kind := .r, len := fixed 4
    fields := fun s r => [⟨0, 1, .uns 0 39⟩, ⟨1, 1, .uns 1 24⟩, ⟨1, 1, .cond (decide (fld r 0 1 + fld r 1 1 ≤ 40))⟩, ⟨2, 2, .zero⟩,
      ⟨0, 1, .fit (decide (fld r 0 1 + fld r 1 1 ≤ 32 + 2 * nSheets s))⟩]
    answer := fun _ r s => (stOK, (List.range (fld r 1 1)).flatMap fun i =>
      let ch := fld r 0 1 + i
      let c := tget chan0 s.hk.chan ch
      leSigned 2 (hkVal s ch) ++ leBytes 2 c.code ++ leBytes 4 c.timeNs) }

/-- Least and greatest VALUE of a channel (R252). -/
def hkRange (ch : Nat) : Int × Int :=
  if ch ≤ 16 then (0, 12000) else if ch = 17 then (0, 6000) else if ch ≤ 19 then (-440, 1200) else if ch ≤ 25 then (0, 24000)
  else if ch = 26 then (-12000, 0) else if ch = 27 then (0, 6500) else if ch = 28 then (0, 1600)
  else if ch ≤ 30 then (0, 12000) else (-440, 1200)

/-- HK_LIMIT_SET (0x0D03). -/
def cmdHkLimitSet : CmdDef :=
  { op := 0x0D03, kind := .n, len := fixed 8, keys := fun r => [fld r 0 1]
    fields := fun s r =>
      let ch := fld r 0 1
      let lim := hkRange ch
      [ ⟨0, 1, .cond (decide (ch ≤ 39) && ch != 31)⟩, ⟨0, 1, .fit (decide (ch < 32) || decide (ch < 32 + 2 * nSheets s))⟩, ⟨1, 1, .bits 3⟩,
        ⟨2, 2, .sgn lim.1 lim.2⟩, ⟨4, 2, .sgn (sfld r 2 2) lim.2⟩,
        ⟨6, 2, .cond (decide (2 * (fld r 6 2 : Int) ≤ sfld r 4 2 - sfld r 2 2))⟩ ]
    effect := fun _ r => .seq (setSetting 0x0D03 (fld r 0 1) r) (modHk fun h => { h with
      chan := match tfind h.chan (fld r 0 1) with
        | some c => tset h.chan (fld r 0 1) { c with out := false }
        | none => h.chan }) }

end Sys2Proof.Machine
end

