-- ==== Sys2Proof/Machine/Fits.lean ====
section
/-! DEFINITION. The survey's reduction of measurements (13_array_survey R277 to R282, R290): real magnitudes in quarter
decibels and phases in bearing units, held to 2^−24 of a unit (assumption log 36), their fits over a tone set, and the array
frame. -/

namespace Sys2Proof.Machine

open Sys2Proof

/-! ### Magnitudes and phases -/

/-- One quarter decibel, one bearing unit or one dtap. -/
def fxOne : Int := 2 ^ 24

/-- A whole turn. -/
def fxTurn : Int := 512 * fxOne

/-- A phase step taken into −256 to 255 bu and fractions. -/
def fxWrap (a : Int) : Int := (a + 256 * fxOne) % fxTurn - 256 * fxOne

/-- Rounding to a whole unit, halves to the larger (R282). -/
def fxRound (a : Int) : Int := (a + fxOne / 2) / fxOne

/-- The direction num / den of a turn lies at or before the angle of (x, y). -/
def dirAtMost (x y : Int) (num den : Nat) : Bool :=
  let low := decide (y < 0) || (decide (y = 0) && decide (x < 0))
  let tl := decide (den ≤ 2 * num)
  if low && !tl then true
  else if !low && tl then false
  else decide (0 ≤ cosFix num den * y - sinFix num den * x)

/-- Angle of (x, y), 0 up to a turn. -/
def fxAngle (x y : Int) : Int := (bisect (fun k => dirAtMost x y k (2 ^ 33)) 33 0 : Nat)

/-- Circular mean of phases. -/
def circMean (l : List Int) : Int :=
  match l with
  | [] => 0
  | [a] => a
  | [a, b] => a + fxWrap (b - a) / 2
  | _ =>
    let den : Nat := fxTurn.toNat
    fxAngle (sumI (l.map fun a => cosFix a den)) (sumI (l.map fun a => sinFix a den))

/-- Arithmetic mean. -/
def fxMean (l : List Int) : Int := if l = [] then 0 else divRna (sumI l) l.length

/-- Binary digits of log2 of a mantissa in [1, 2) held to 2^96. -/
def logDigits : Nat → Nat → Nat → Nat
  | 0, _, acc => acc
  | k + 1, m, acc =>
    let q := m * m / 2 ^ 96
    if 2 ^ 97 ≤ q then logDigits k (q / 2) (2 * acc + 1) else logDigits k q (2 * acc)

/-- log2(n / d) in 2^−40, for positive n and d. -/
def log2Fix (n d : Nat) : Int :=
  let sh : Int := (Nat.log2 n : Int) - Nat.log2 d
  let m := if 0 ≤ sh then n * 2 ^ 96 / (d * 2 ^ sh.toNat) else n * 2 ^ (96 + (-sh).toNat) / d
  let lowered := decide (m < 2 ^ 96)
  (sh - (bit lowered : Nat)) * 2 ^ 40 + (logDigits 40 (if lowered then 2 * m else m) 0 : Nat)

/-- 40 × log10(n / d) in 2^−24 qdB; 40 log10 2 is held to 2^−40. -/
def fxPower (n d : Nat) : Int := log2Fix n d * 13239439221676 / 2 ^ 56

/-- Phase that a delay of `tau` dtap turns over `df` kHz (R277, R280): one dtap is 1 / (64 × 983.04 MHz). -/
def fxDelay (df tau : Int) : Int := divRna (df * tau) 122880

/-! ### Fits (R280) -/

/-- The fit at a frequency: MAG and PH. -/
def fitAt (q : Fit) (f : Nat) : Int × Int := (q.mag, q.ph - fxDelay ((f : Int) - q.f) q.tau)

/-- The fit with its phase taken at another frequency. -/
def fitMove (q : Fit) (f : Nat) : Fit := { q with f := f, ph := (fitAt q f).2 }

/-- Composition of two fits at the first one's frequency; `k` is 1, or −1 to remove the second. -/
def fitJoin (k : Int) (a b : Fit) : Fit :=
  { a with mag := a.mag + k * b.mag, ph := a.ph + k * (fitAt b a.f).2, tau := a.tau + k * b.tau }

/-- Phases unwrapped from the first one upwards. -/
def unwrap : List Int → List Int
  | [] => []
  | a :: t => a :: (t.foldl (fun s b => (s.1 ++ [s.2 + fxWrap (b - s.2)], s.2 + fxWrap (b - s.2))) (([] : List Int), a)).1

/-- The fit of values over tones, φ0 at `f`. -/
def fitTones (f : Nat) (fs : List Nat) (v : List (Int × Int)) : Fit :=
  let x := fs.map fun (a : Nat) => (a : Int) - f
  let p := unwrap (v.map (·.2))
  let n : Int := v.length
  let sx := sumI x
  let sp := sumI p
  let sxx := sumI (x.map fun a => a * a)
  let sxp := sumI ((x.zip p).map fun a => a.1 * a.2)
  let d := n * sxx - sx * sx
  let b := n * sxp - sx * sp
  { f := f, mag := fxMean (v.map (·.1))
    ph := if d ≤ 0 then fxMean p else divRna (sp * d - b * sx) (n * d).toNat
    tau := if d ≤ 0 then 0 else divRna (-122880 * b) d.toNat }

/-! ### Settings -/

/-- SURVEY_CONFIG record in force. -/
def surveyRec (s : State) : Rec :=
  setting s 0x0A01 0 ([1, 0, 8, 20, 2, 4, 8, 2, 1, 2, 4, 8] ++ leSigned 2 (-120) ++ leSigned 2 (-200) ++ leBytes 2 0 ++
    [4, 0] ++ leBytes 2 60 ++ zeros 2)

/-- SURVEY_NET_SET record in force of an element. -/
def netRec (s : State) (e : Nat) : Rec := setting s 0x0A04 e (leBytes 1 e ++ zeros 7 ++ leBytes 4 3500000)

/-- n_e (R277). -/
def netFit (s : State) (e : Nat) : Fit :=
  let r := netRec s e
  { f := fld r 8 4, mag := cbMag (fld r 4 2) * fxOne, ph := (cbPh (fld r 4 2) : Int) * fxOne, tau := sfld r 6 2 * fxOne }

/-! ### Tones (R278) -/

/-- Lowest and highest band edge of a direction's committed carriers, or the span beside the LO, in 100 Hz. -/
def toneSpan (s : State) (dir : Nat) : Int × Int :=
  let lo : Int := 10 * (fld (loRec s) (4 * dir) 4 : Nat)
  let rs := if dir = 0 then txRecs s else rxRecs s
  let edges := rs.map fun r => (carNco r - 5000 * (fld r 2 1 : Int), carNco r + 5000 * (fld r 2 1 : Int))
  match edges with
  | [] => (lo + 1000000, lo + 2000000)
  | a :: t => (lo + t.foldl (fun x y => min x y.1) a.1, lo + t.foldl (fun x y => max x y.2) a.2)

/-- Tone frequencies of a direction in kHz, at most `most` of them. -/
def toneSet (s : State) (dir most : Nat) : List Nat :=
  let sp := toneSpan s dir
  let w := sp.2 - sp.1
  let n := min most ((w / 40000).toNat + 1)
  (List.range n).map fun (j : Nat) => (10 * divRna (sp.1 * (n - 1 : Nat) + (j : Int) * w) (100 * max 1 (n - 1))).toNat

/-- Centre of a direction's tone span in kHz (assumption log 37). -/
def toneCentre (fs : List Nat) : Nat := (fs.headD 0 + fs.getLastD 0) / 2

/-- Frequencies of the tones an element emits in a transmit lease, and those a benchmark transmitter emits (R278). -/
def emitted (kind a : Nat) (fs : List Nat) : List Nat :=
  fs.map fun f => if kind = 0 then f + 240 * (a % 16) - 1800 else f + 240 * a

/-! ### Reading a tone (R278) -/

/-- Samples of a block. -/
def blockLen : Nat := 32768

/-- The 4-term Blackman-Harris window over a block, in 10^−5 × 2^120 (assumption log 36). -/
def blackmanHarris (i : Nat) : Int :=
  35875 * cosFix 0 1 - 48829 * cosFix i blockLen + 14128 * cosFix (2 * (i : Int)) blockLen - 1168 * cosFix (3 * (i : Int)) blockLen

/-- Single-frequency DFT of a weighted block whose first sample has index `n` at 1966.08 MS/s, at `f` kHz from the mixer's LO. -/
def toneSum (f n : Int) (x : List (Int × Int)) : Int × Int :=
  csum ((x.take blockLen).zipIdx.map fun (p : (Int × Int) × Nat) =>
    let k := -(f * (n + (p.2 : Int)))
    let w := blackmanHarris p.2
    cmul (w * p.1.1, w * p.1.2) (cosFix k 1966080, sinFix k 1966080))

/-- Sum of the window, in the unit of `toneSum`. -/
def windowSum : Nat := (sumI ((List.range blockLen).map blackmanHarris)).toNat * 2 ^ 120

/-- MAG and PH of a tone in a block, against one code; MAG of nothing lies below every other. -/
def toneValue (f n : Int) (x : List (Int × Int)) : Int × Int :=
  let z := toneSum f n x
  let pw := (z.1 * z.1 + z.2 * z.2).toNat
  if pw = 0 then (-4096 * fxOne, 0) else (fxPower pw (windowSum ^ 2), fxAngle z.1 z.2)

/-- The stimulus phasor of tone `j`: TX_LEVEL against full scale for an element `a`, BT_LEVEL for a benchmark transmitter. -/
def stimulus (s : State) (kind a j : Nat) : Int × Int :=
  let r := surveyRec s
  if kind = 0 then (fxPower ((expRound 32767 (sfld r 12 2)) ^ 2) 1, (Config.tonePhase a j : Int) * fxOne)
  else (sfld r 14 2 * fxOne, (Config.tonePhase (64 + a) j : Int) * fxOne)

/-- Values of the tones `fs` of a lease: the mean over its blocks, the first of which begins at sample `n`, each divided by the
stimulus phasor of its source (R278). Receive paths mix with RXLO, the benchmark receiver with TXLO. -/
def leaseValues (s : State) (kind src : Nat) (fs : List Nat) (n : Int) (blocks : List (List (Int × Int))) : List (Int × Int) :=
  let lo : Int := fld (loRec s) (if kind = 1 then 4 else 0) 4
  if blocks = [] then [] else fs.zipIdx.map fun (f : Nat × Nat) =>
    let v := blocks.zipIdx.map fun (x : List (Int × Int) × Nat) => toneValue ((f.1 : Int) - lo) (n + (blockLen : Int) * (x.2 : Int)) x.1
    let st := stimulus s kind src f.2
    (fxMean (v.map (·.1)) - st.1, circMean (v.map (·.2)) - st.2)

/-! ### Agreement (R290) -/

/-- A measured quantity: its fit, whether its pair agrees, and its MAG. -/
structure Meas where
  fit : Fit
  agrees : Bool
  deriving DecidableEq, Repr

/-- Two fits agree within the tolerances. -/
def fitsAgree (s : State) (a b : Fit) : Bool :=
  let r := surveyRec s
  let near := fun (x : Int) (k : Nat) => decide ((x.natAbs : Int) ≤ (k : Int) * fxOne)
  near (a.mag - b.mag) (fld r 4 1) && near (fxWrap (a.ph - b.ph)) (fld r 5 1) && near (a.tau - b.tau) (fld r 6 1)

/-- A quantity from the values of A and B over a tone set: its value is the pair's mean. -/
def measure (s : State) (f : Nat) (fs : List Nat) (a b : List (Int × Int)) : Meas :=
  let mean := (a.zip b).map fun p => (fxMean [p.1.1, p.2.1], circMean [p.1.2, p.2.2])
  { fit := fitTones f fs mean, agrees := a != [] && b != [] && fitsAgree s (fitTones f fs a) (fitTones f fs b) }

/-- The quantity lies more than 160 qdB below the mean of its kind. -/
def noSignal (all : List Meas) (q : Meas) : Bool := decide (q.fit.mag < fxMean (all.map fun x => x.fit.mag) - 160 * fxOne)

/-! ### The frame (R281, R288) -/

/-- K_s − λ_s. -/
def loopFit (k : Fit) (n : Nat) : Fit := { k with mag := k.mag - (Config.loopTerm n).1, ph := k.ph - (Config.loopTerm n).2 }

/-- No gain, phase or delay. -/
def zeroFit (f : Nat) : Fit := { f := f, mag := 0, ph := 0, tau := 0 }

/-- ℓ with no partner: the phase predicted from TIE_DELAY and half the mean MAG of K − λ (R288). -/
def tieFit (s : State) (f : Nat) (mags : List Int) : Fit :=
  let tau : Int := (fld (surveyRec s) 16 2 : Nat) * fxOne
  { f := f, mag := fxMean mags / 2, ph := -fxDelay f tau, tau := tau }

/-- ℓ at a tone from L2 over the pairs: half their circular mean, the half nearest the predicted phase. -/
def tieTone (s : State) (f : Nat) (l : List (Int × Int)) : Int × Int :=
  let half := circMean (l.map (·.2)) / 2
  let want := -fxDelay f ((fld (surveyRec s) 16 2 : Nat) * fxOne)
  let near := if (fxWrap (half - want)).natAbs ≤ 128 * fxOne.natAbs then half else half + 256 * fxOne
  (fxMean (l.map (·.1)) / 2, near)

/-- The frame of two or more sheets at the tones `fs`: `y a b` and `k a` are the fits of Y and of K − λ. -/
def solveFrame (s : State) (f : Nat) (fs : List Nat) (set : List Nat) (y : Nat → Nat → Fit) (k : Nat → Fit) : Frame :=
  let a0 := set.headD 0
  let pairs := set.flatMap fun a => (set.filter fun b => decide (a < b)).map fun b => (a, b)
  let add := fun (p q : Int × Int) => (p.1 + q.1, p.2 + q.2)
  let sub := fun (p q : Int × Int) => (p.1 - q.1, p.2 - q.2)
  let ell := fitTones f fs (fs.map fun t => tieTone s t (pairs.map fun p =>
    sub (sub (add (fitAt (y p.1 p.2) t) (fitAt (y p.2 p.1) t)) (fitAt (k p.1) t)) (fitAt (k p.2) t)))
  let b0 := fitMove (k a0) f
  let r := fun n => if n = a0 then zeroFit f else fitJoin (-1) (fitJoin (-1) (fitMove (y a0 n) f) ell) b0
  { r := set.map fun n => (n, r n), b := set.map fun n => (n, if n = a0 then b0 else fitJoin (-1) (fitMove (k n) f) (r n))
    ell := some ell }

/-- A sheet tied to a partner through a stored frame (R288). -/
def tieSheet (f : Nat) (y k ell bp : Fit) : Fit × Fit :=
  let r := fitJoin (-1) (fitJoin (-1) (fitMove y f) ell) bp
  (r, fitJoin (-1) (fitMove k f) r)

end Sys2Proof.Machine
end

