-- ==== Sys2Proof/Machine/Rffe.lean ====
section
/-! DEFINITION. The RFFE masters: their queues, triggered writes, bound entries and coupler selects
(14_front_end_control R313 to R319; 09_predistortion_observation R194). -/

namespace Sys2Proof.Machine

open Sys2Proof

/-! ### Masters and messages (R313, R314) -/

/-- An idle master with empty queues. -/
def master0 : RffeMaster := { crit := [], sched := [], imm := [], busy := none, doneAt := 0, opened := none, result := none }

/-- A master. -/
def masterOf (s : State) (m : Nat) : RffeMaster := tget master0 s.rffe.master m

/-- Change a master. -/
def modMaster (m : Nat) (f : RffeMaster → RffeMaster) : Prog :=
  modRffe fun r => { r with master := tmod master0 r.master m f }

/-- RFFE_MASTER_SET record in force. -/
def masterRec (s : State) (m : Nat) : Rec := setting s 0x0C10 m (leBytes 1 m ++ [0] ++ leBytes 2 38)

/-- The master is enabled. -/
def masterOn (s : State) (m : Nat) : Bool := fbit (masterRec s m) 1 1 0

/-- The master may drive its bus: its sheet is in service and its SHEETn domain ON (R318). -/
def masterLive (s : State) (m : Nat) : Bool := inService s (uRFFE m) && domOn s (dSHEET (m / 2))

/-- Duration in ns of `k` SCLK cycles of a master. -/
def sclkNs (s : State) (m k : Nat) : Nat := (divRna ((k * fld (masterRec s m) 2 2 * 3125 : Nat) : Int) 3072).toNat

/-- The item reads. -/
def itemReads (i : Rec) : Bool := [2, 4, 6].contains (fld i 0 1)

/-- SCLK cycles of a message (R314). -/
def itemCycles (i : Rec) : Nat :=
  let n := fld i 4 1
  match fld i 0 1 with
  | 0 => 16
  | 1 => 25
  | 2 => 26
  | 3 => 25 + 9 * n
  | 4 => 26 + 9 * n
  | 5 => 34 + 9 * n
  | 6 => 35 + 9 * n
  | _ => 43

/-- Duration of a message in ns; reads run at half rate unless FULL_READ is set. -/
def itemNs (s : State) (m : Nat) (i : Rec) : Nat :=
  sclkNs s m (itemCycles i * if itemReads i && !fbit (masterRec s m) 1 1 1 then 2 else 1)

/-- A Register Write to a trigger register. -/
def triggerItem (usid reg val : Nat) : Rec := [1] ++ leBytes 1 usid ++ leBytes 2 reg ++ [1, 0, 0, 0] ++ padTo 8 (leBytes 1 val)

/-- A Masked Write. -/
def maskedItem (usid reg mask val : Nat) : Rec :=
  [7] ++ leBytes 1 usid ++ leBytes 2 reg ++ [1] ++ leBytes 1 mask ++ [0, 0] ++ padTo 8 (leBytes 1 val)

/-- Duration of a triggered write in ns. -/
def groupNs (s : State) (m : Nat) (data : List Rec) : Nat := sumN (data.map (itemNs s m)) + sclkNs s m 25

/-! ### Triggered writes (R315) -/

/-- Start of a trigger message whose instant, 24 SCLK cycles later, is the target. -/
def triggerStart (s : State) (m target : Nat) : Nat := add32 target (-(sclkNs s m 24 : Int))

/-- The messages of a triggered write: data from `due` on, its trigger at `target`. -/
def groupMsgs (s : State) (m origin due target tag : Nat) (data : List Rec) (trig : Rec) : List Rffe :=
  (data.map fun i => { origin := origin, due := due, trigger := false, item := i, group := s.rffe.group, tag := tag }) ++
    [{ origin := origin, due := triggerStart s m target, trigger := true, item := trig, group := s.rffe.group, tag := tag }]

/-- A triggered write enters the critical queue. -/
def critGroup (m origin due target tag : Nat) (data : List Rec) (trig : Rec) : Prog := .ask fun s => .seq
  (modMaster m fun x => { x with crit := x.crit ++ groupMsgs s m origin due target tag data trig })
  (modRffe fun r => { r with group := r.group + 1 })

/-- Messages of the groups that start their trigger before a time, and the others. -/
def schedBefore (l : List Rffe) (t : Nat) : List Rffe × List Rffe :=
  let early := (l.filter fun r => r.trigger && decide (int32Diff r.due t ≤ 0)).map (·.group)
  (l.filter fun r => early.contains r.group, l.filter fun r => !early.contains r.group)

/-- A triggered write enters the scheduled queue, ordered by target (R316). -/
def schedGroup (m due target : Nat) (data : List Rec) (trig : Rec) : Prog := .ask fun s => .seq
  (modMaster m fun x =>
    let p := schedBefore x.sched (triggerStart s m target)
    { x with sched := p.1 ++ groupMsgs s m 1 due target 0 data trig ++ p.2 })
  (modRffe fun r => { r with group := r.group + 1 })

/-- Scheduled entries queued. -/
def schedDepth (x : RffeMaster) : Nat := (x.sched.filter (·.trigger)).length

/-- The first message of a queue that may start now: due, the first of its group, and no other group standing open. -/
def nextMsg (s : State) (x : RffeMaster) (q : List Rffe) : Option Rffe :=
  q.find? fun r => due s r.due && ((q.find? fun o => o.group == r.group) == some r) &&
    (r.origin == 0 || x.opened == none || x.opened == some r.group)

/-- The message an idle master starts (R316): critical, scheduled, immediate. -/
def pickMsg (s : State) (x : RffeMaster) : Option Rffe :=
  (nextMsg s x x.crit).or ((nextMsg s x x.sched).or (nextMsg s x x.imm))

/-- A master without one message. -/
def takeMsg (x : RffeMaster) (r : Rffe) : RffeMaster :=
  { x with crit := x.crit.erase r, sched := x.sched.erase r, imm := x.imm.erase r }

/-- A trigger that starts late counts, with its event once per slot (R316). -/
def lateTrigger (m : Nat) (r : Rffe) : Prog := .ask fun s =>
  let slot := (slotOf s (now s)).getD 0
  whenP (r.trigger && decide (2 < int32Diff (now s) r.due)) (.seq (count blkRffe m 0)
    (whenP (s.rffe.lateSlot != some slot) (.seq (modRffe fun x => { x with lateSlot := some slot })
      (raise (evCode 12 6) m [int32Diff (now s) r.due]))))

/-- Due triggers of a master that sends nothing are dropped with their groups (R318). -/
def dropDue (m : Nat) : Prog := .ask fun s =>
  let x := masterOf s m
  let gone := ((x.crit ++ x.sched).filter fun r => r.trigger && due s r.due).map (·.group)
  .seq (countN blkRffe m 2 gone.length) (modMaster m fun y => { y with
    crit := y.crit.filter fun r => !gone.contains r.group, sched := y.sched.filter fun r => !gone.contains r.group })

/-- RFFE_MESSAGE_START (R316): an idle master starts the first due message. -/
def execRffeMessageStart (master : Nat) (s : State) : Host.Outcome State Fault Refusal :=
  let x := masterOf s master
  done (if !masterLive s master then dropDue master
    else whenP (masterOn s master && x.busy == none) (match pickMsg s x with
      | some r => .seq (modMaster master fun y => { takeMsg y r with
            busy := some r, doneAt := upNs s + itemNs s master r.item, opened := if r.origin = 0 then y.opened else some r.group }) (lateTrigger master r)
      | none => .skip)) s

/-- RFFE_MESSAGE_DONE (R314): the message on the bus ends at its time, with the parity and bytes of a read. -/
def execRffeMessageDone (master : Nat) (parityGood : Bool) (data : Rec) (s : State) : Host.Outcome State Fault Refusal :=
  done (match (masterOf s master).busy with
    | some r => whenP (decide ((masterOf s master).doneAt ≤ upNs s)) (.seq (whenP (itemReads r.item && !parityGood) (count blkRffe master 1)) (modMaster master fun y => { y with
        busy := none, opened := if r.trigger then none else y.opened
        result := if r.origin = 0 then some (parityGood || !itemReads r.item, padTo (fld r.item 4 1) data) else y.result }))
    | none => .skip) s

/-! ### Coupler selects (09 R194) -/

/-- ORX_COUPLER_SET record in force. -/
def couplerRec (s : State) (p : Nat) : Rec := setting s 0x0909 p (leBytes 1 p ++ zeros 11)

/-- The path's coupler map is VALID. -/
def couplerValid (s : State) (p : Nat) : Bool := fbit (couplerRec s p) 1 1 0

/-- A coupler write under a map: off, or onto a line; triggered as soon as its data is sent (assumption log 35). -/
def couplerWrite (r : Rec) (line : Option Nat) : Prog := .ask fun s =>
  let m := fld r 2 1
  let data := [maskedItem (fld r 3 1) (fld r 4 1) (fld r 5 1) (match line with
    | some l => fld r (7 + l) 1
    | none => fld r 6 1)]
  critGroup m 4 (now s) (add32 (now s) (groupNs s m data - sclkNs s m 1 : Nat)) 0 data (triggerItem (fld r 3 1) 0x1C 1)

/-! ### Bound entries (R319) -/

/-- RFFE_BIND_SET record in force of an entry, key master × 16 + entry. -/
def bindRec (s : State) (k : Nat) : Rec := setting s 0x0C13 k (leBytes 1 (k / 16) ++ [0] ++ leBytes 1 (k % 16) ++ zeros 13)

/-- Data items of a scheduled or bound record. -/
def recItems (r : Rec) : List Rec := (List.range (fld r 1 1)).map fun i => (r.drop (16 + 16 * i)).take 16

/-- Trigger item of a scheduled or bound record. -/
def recTrigger (r : Rec) : Rec := triggerItem (fld r 8 1) (fld r 9 1) (fld r 10 1)

/-- EVENT codes of a transition. -/
def bindEvents (a b : Radio) : List Nat :=
  (if b = .tx then [0] else []) ++ (if a = .tx then [1] else []) ++ (if b = .rx then [2] else []) ++ (if a = .rx then [3] else [])

/-- Tag of a sheet's timer. -/
def timerTag (sheet timer : Nat) : Nat := 1 + 8 * sheet + timer

/-- The steps between adjacent states on the way from `a` to `b`, over at `te`, each with its own t_e (12 R267). -/
def hopsOf : Nat → Radio → Radio → Nat → List (Radio × Radio × Nat)
  | 0, _, _, _ => []
  | k + 1, a, b, te => if a = b then [] else
      (a, nextHop a b, add32 te (-(deltaOf (nextHop a b) b : Int))) :: hopsOf k (nextHop a b) b te

/-- Bound writes of a step from `a` to `b` at `te`: their data goes out now, the trigger at t_e + OFFSET, no earlier than the firing
time. -/
def bindHop (sheet tag : Nat) (h : Radio × Radio × Nat) : Prog := .ask fun s =>
  each ((List.range 32).filterMap fun i =>
    let k := 32 * sheet + i
    let r := bindRec s k
    if fbit r 3 1 0 && (bindEvents h.1 h.2.1).contains (slice (fld r 3 1) 3 1) then some (k / 16, r) else none) fun p =>
      critGroup p.1 2 (now s) (add32 h.2.2 (max (sfld p.2 4 2) (-(adjDelta h.1 h.2.1 : Int)))) tag (recItems p.2) (recTrigger p.2)

/-- Bound writes of a transition whose timer is armed. -/
def armBound (sheet tag te : Nat) (a b : Radio) : Prog := each (hopsOf 4 a b te) (bindHop sheet tag)

/-- Bound writes of a timer that is cancelled or replaced are not sent. -/
def dropBound (sheet tag : Nat) : Prog := each [2 * sheet, 2 * sheet + 1] fun m => modMaster m fun x =>
  let gone := x.crit.filter fun r => r.tag == tag
  { x with
    crit := x.crit.filter fun r => r.tag != tag
    opened := if gone.any fun r => x.opened == some r.group then none else x.opened }

/-- Two triggers that one transition produces lie too close on a master (check 5 of R68). -/
def bindClose (s : State) (m : Nat) : Bool :=
  let all := ((List.range 16).map fun i => bindRec s (16 * m + i)).filter fun r => fbit r 3 1 0
  [[0, 3], [1, 2]].any fun ev =>
    let l := all.zipIdx.filter fun r => ev.contains (slice (fld r.1 3 1) 3 1)
    l.any fun x => l.any fun y => x.2 != y.2 && decide (sfld x.1 4 2 ≤ sfld y.1 4 2) &&
      decide (sfld y.1 4 2 - sfld x.1 4 2 < (groupNs s m (recItems y.1) + 1000 : Nat))

/-! ### Commands of the masters (R329) -/

/-- Fields of a message item at an offset. -/
def itemFields (r : Rec) (at_ : Nat) (reads : Bool) : List Fld :=
  let op := fld r at_ 1
  let n := fld r (at_ + 4) 1
  let most := if op = 0 then 0 else if op = 1 ∨ op = 2 then 31 else if op = 5 ∨ op = 6 then 65535 else 255
  let one := [0, 1, 2, 7].contains op
  [ ⟨at_, 1, .uns 0 7⟩, ⟨at_, 1, .cond (reads || !([2, 4, 6].contains op))⟩,
    ⟨at_ + 1, 1, .uns (if [2, 4, 6].contains op then 1 else 0) 15⟩, ⟨at_ + 2, 2, .uns 0 most⟩,
    ⟨at_ + 4, 1, .uns 1 (if one then 1 else 8)⟩, ⟨at_ + 5, 1, if op = 7 then .any else .zero⟩, ⟨at_ + 6, 2, .zero⟩ ] ++
    (if op = 0 then [⟨at_ + 8, 1, .uns 0 127⟩] else []) ++ [⟨at_ + 8, 8, .cond (decide (fld r (at_ + 8) 8 < 256 ^ n))⟩]

/-- RFFE_MASTER_SET (0x0C10). -/
def cmdRffeMasterSet : CmdDef :=
  { op := 0x0C10, kind := .t, len := fixed 4, units := fun r => [uRFFE (fld r 0 1)], keys := fun r => [fld r 0 1]
    fields := fun _ _ => [⟨0, 1, .unit .master⟩, ⟨1, 1, .bits 3⟩, ⟨2, 2, .uns 38 30720⟩] }

/-- RFFE_XFER (0x0C11): refused with STATE on a disabled master (assumption log 35). -/
def cmdRffeXfer : CmdDef :=
  { op := 0x0C11, kind := .n, parked := true, len := fixed 20, doms := fun r => [dSHEET (fld r 0 1 / 2)], units := fun r => [uRFFE (fld r 0 1)]
    fields := fun _ r => [⟨0, 1, .unit .master⟩] ++ rsv 1 3 ++ itemFields r 4 true
    own := fun _ r s => if masterOn s (fld r 0 1) then stOK else stSTATE
    effect := fun _ r => .ask fun s => .seq
      (modMaster (fld r 0 1) fun x => { x with
        result := none
        imm := x.imm ++ [{ origin := 0, due := now s, trigger := false, item := r.drop 4, group := s.rffe.group, tag := 0 }] })
      (modRffe fun x => { x with group := x.group + 1 })
    ready := fun r s => (masterOf s (fld r 0 1)).result.isSome
    finish := fun _ r _ _ s => match (masterOf s (fld r 0 1)).result with
      | some (true, d) =>
        let n := if itemReads (r.drop 4) then fld r 8 1 else 0
        (stOK, leBytes 1 n ++ [0, 0, 0] ++ padTo 8 (d.take n), modMaster (fld r 0 1) fun x => { x with result := none })
      | _ => (stHW_FAULT, [], modMaster (fld r 0 1) fun x => { x with result := none })
    clashes := fun r op r2 => decide (0x0C11 ≤ op) && decide (op ≤ 0x0C14) && fld r 0 1 == fld r2 0 1 }

/-- RFFE_SCHED (0x0C12): its data goes out 20 µs before the group's duration ahead of the target (assumption log 35). -/
def cmdRffeSched : CmdDef :=
  { op := 0x0C12, kind := .n, len := fun r => 16 + 16 * fld r 1 1, doms := fun r => [dSHEET (fld r 0 1 / 2)], units := fun r => [uRFFE (fld r 0 1)]
    fields := fun _ r => [⟨0, 1, .unit .master⟩, ⟨1, 1, .uns 0 4⟩, ⟨2, 2, .zero⟩, ⟨8, 1, .uns 0 15⟩, ⟨9, 1, .uns 0 31⟩] ++
      rsv 11 5 ++ (List.range (fld r 1 1)).flatMap fun i => itemFields r (16 + 16 * i) false
    own := fun _ r s =>
      let d := int32Diff (fld r 4 4) (now s)
      if 2000000000 < d then stBAD_PARAM
      else if d < (20000 + groupNs s (fld r 0 1) (recItems r) : Nat) then stLATE
      else if 64 ≤ schedDepth (masterOf s (fld r 0 1)) then stBUSY else stOK
    answer := fun _ r s => (stOK, leBytes 1 (schedDepth (masterOf s (fld r 0 1))) ++ [0, 0, 0] ++
      leBytes 4 (triggerStart s (fld r 0 1) (fld r 4 4)))
    effect := fun _ r => .ask fun s => schedGroup (fld r 0 1)
      (add32 (fld r 4 4) (-((20000 + groupNs s (fld r 0 1) (recItems r) : Nat) : Int))) (fld r 4 4) (recItems r) (recTrigger r) }

/-- RFFE_BIND_SET (0x0C13). -/
def cmdRffeBindSet : CmdDef :=
  { op := 0x0C13, kind := .t, len := fun r => 16 + 16 * fld r 1 1, units := fun r => [uRFFE (fld r 0 1)]
    keys := fun r => [16 * fld r 0 1 + fld r 2 1]
    fields := fun _ r => [⟨0, 1, .unit .master⟩, ⟨1, 1, .uns 0 2⟩, ⟨2, 1, .uns 0 15⟩, ⟨3, 1, .bits 7⟩, ⟨4, 2, .sgn (-4000) 4000⟩,
      ⟨6, 2, .zero⟩, ⟨8, 1, .uns 0 15⟩, ⟨9, 1, .uns 0 31⟩] ++ rsv 11 5 ++
      (List.range (fld r 1 1)).flatMap fun i => itemFields r (16 + 16 * i) false
    agree := fun r s => if bindClose s (fld r 0 1) then stBAD_PARAM else stOK }

/-- RFFE.STATUS. -/
def rffeStatusWord (s : State) (m : Nat) : Nat :=
  let x := masterOf s m
  bit (masterOn s m) + 2 * bit x.busy.isSome + 4 * bit (x.crit.any fun r => due s r.due) + 256 * schedDepth x

/-- RFFE_STATUS (0x0C14). -/
def cmdRffeStatus : CmdDef :=
  { op := 0x0C14, kind := .r, len := fixed 2, units := fun r => [uRFFE (fld r 0 1)]
    fields := fun _ _ => [⟨0, 1, .unit .master⟩, ⟨1, 1, .bits 1⟩]
    answer := fun _ r s => (stOK, leBytes 4 (rffeStatusWord s (fld r 0 1)) ++ cntBytes s blkRffe (fld r 0 1) 3 ++
      leBytes 4 (satBits s blkRffe (fld r 0 1) 3))
    effect := fun _ r => whenP (fbit r 1 1 0) (clearCnts blkRffe (fld r 0 1) 3) }

end Sys2Proof.Machine
end

