-- ==== Sys2Proof/Machine/Survey.lean ====
section
/-! DEFINITION. Campaigns of the array survey: their start, solution, rejection and abandonment, and their results coming
into force (13_array_survey R276 to R299; 12_lo_radio_states R265). -/

namespace Sys2Proof.Machine

open Sys2Proof

/-! ### Boundaries the survey uses (R296, 03 R64) -/

/-- Carrier record that times the survey's slot boundaries: REF_CARRIER, else the lowest-numbered downlink carrier, else
the lowest-numbered uplink one (R296, R300). -/
def surveyCar (s : State) (c : Nat) : Option Rec :=
  if (cars s).contains c then some (refCar s c)
  else match txCars s, rxCars s with
    | a :: _, _ => some (txCar s a)
    | [], a :: _ => some (rxCar s a)
    | [], [] => none

/-- Least extended time of a boundary that satisfies 03 R64. -/
def commitNs (s : State) : Int := extNow s + (ltxMax s + 50000 : Nat)

/-- The first boundary of a kind that satisfies 03 R64, as a datum value; now with no carrier committed. -/
def commitAt (s : State) (kind c : Nat) : Nat :=
  match surveyCar s c with
  | some r => counterAt s (nextBoundary s kind (carMu r) (commitNs s)).2.2
  | none => now s

/-- REF_CARRIER of SURVEY_CONFIG. -/
def surveyRef (s : State) : Nat := fld (surveyRec s) 1 1

/-! ### Campaigns (R284 to R286) -/

/-- The sheet can be surveyed: it is in service, or returns to it (12 R274). -/
def surveyed (s : State) (n : Nat) : Bool := inService s (uSHEET n) || (sheetFit s n && (sh s n).returning)

/-- The element is measured in a direction; a path that carries the tone is not transmitted on (08 R170). -/
def elSurv (s : State) (dir e : Nat) : Bool := !(dir == 0 && toneOn s e) && (
  elIn s dir e || (pathFit s e && (sh s (e / 16)).returning && !(if dir = 0 then s.clk.isoTx else s.clk.isoRx).testBit e))

/-- An empty result. -/
def set0 : SurveySet :=
  { elems := [], images := [], orx := [], fits := [], frame := { b := [], r := [], ell := none }, ref := [], fSurv := (0, 0), theta := [] }

/-- Campaign that a sheet is in. -/
def campOf (s : State) (n : Nat) : Option Camp := s.survey.camps.find? fun c => c.sheets.testBit n

/-- Sheets in a quick survey, and in a full campaign. -/
def campMask (s : State) (full : Bool) : Nat := maskOf ((List.range 4).filter fun n =>
  s.survey.camps.any fun c => c.full == full && c.sheets.testBit n)

/-- Benchmark receiver of a sheet: 2s, or 2s + 1 while that is out of service (R276). -/
def bench (s : State) (n : Nat) : Nat := if (orxOf s (2 * n)).service = 0 then 2 * n else 2 * n + 1

/-- Both observation receivers of a sheet are out of service. -/
def noReceiver (s : State) (n : Nat) : Bool := (orxOf s (2 * n)).service != 0 && (orxOf s (2 * n + 1)).service != 0

/-- Arrangements of a campaign's leases, in order (R287, R289): 1 TX, 2 RX, 5 ORX. -/
def campPlan (c : Camp) : List Nat :=
  if c.full then (if c.skipOrx then [] else [5, 5]) ++ [1, 1, 2, 2] else [1, 2]

/-- Leases of a campaign begun on a sheet. -/
def campLeases (s : State) (c : Camp) (n : Nat) : Nat := tget 0 c.leases (bench s n)

/-- Every lease of the campaign has begun on every sheet that has a receiver, and the blocks of the last are over: 38,333 ns after
its start (R287). -/
def campTaken (s : State) (c : Camp) : Bool := (setBits 4 c.sheets).all fun n =>
  noReceiver s n || (decide ((campPlan c).length ≤ campLeases s c n) &&
    ((orxOf s (bench s n)).owner != 2 || due s (add32 (orxOf s (bench s n)).leaseStart 38334)))

/-- Change a campaign. -/
def modCamp (number : Nat) (f : Camp → Camp) : Prog := modSurvey fun v => { v with
  camps := v.camps.map fun c => if c.number = number then f c else c }

/-- A campaign ends. -/
def dropCamp (number : Nat) : Prog := .ask fun s =>
  match s.survey.camps.find? fun c => c.number == number with
  | some c => modSurvey fun v => { v with
      camps := v.camps.filter fun x => x.number != number
      arr := v.arr.filter fun p => !(c.sheets.testBit p.1) && c.partner != some p.1 }
  | none => .skip

/-- Fitted sheets in service, as a mask. -/
def liveMask (s : State) : Nat := maskOf (liveSheets s)

/-- Partner of a lone quick survey (R288): the lowest-numbered in-service sheet outside it that is ready, or that the
campaign whose rejection it follows accepted. -/
def partnerOf (s : State) (mask : Nat) (parent : Option (Frame × Nat)) : Option Nat :=
  (liveSheets s).find? fun n => !mask.testBit n && (txReadyNow s n || rxReadyNow s n ||
    match parent with
    | some p => p.2.testBit n
    | none => false)

/-- A setting that a campaign keeps: the survey's configuration and network, the carriers and the channel. -/
def isCampCfg (k : Nat) : Bool := [0x0A01, 0x0A04, 0x0701, 0x0801, 0x0B05].contains (k / 65536)

/-- Those settings in force. -/
def campCfg (s : State) : Tab Rec := s.cfg.filter fun p => isCampCfg p.1

/-- The state as a campaign sees it: with the settings in force at its start (R300). -/
def campView (s : State) (c : Camp) : State := { s with cfg := c.cfg ++ s.cfg.filter fun p => !isCampCfg p.1 }

/-- A campaign starts at a datum time (R284, R285, R287): it takes the next number, and each quick survey counts as an
attempt of its sheets. -/
def startCamp (full skip : Bool) (mask tk : Nat) (parent : Option (Frame × Nat)) : Prog := .ask fun s => whenP (mask != 0) (
  let n := (s.survey.campaign + 1) % 2 ^ 32
  let whole := full || mask == liveMask s
  seqs
    [ modSurvey fun v => { v with
        campaign := n
        camps := v.camps ++ [{ number := n, full := full, skipOrx := skip, sheets := mask, setting := whole
                               partner := if whole then none else partnerOf s mask parent, parent := parent, start := tk, leases := [], starts := []
                               temps := [], rxMeas := [], solved := false, accepted := 0, boundary := 0, result := set0, cfg := campCfg s }] },
      whenP (!full) (each (setBits 4 mask) fun k => modSheet k fun r => { r with qsAttempts := min 255 (r.qsAttempts + 1) }) ])

/-- A sheet is rejected for a reason (R292). -/
def rejectSheet (n code : Nat) : Prog := .seq (modSurvey fun v => { v with reject := tset v.reject n code }) (count blkSurvey 0 1)

/-- SURVEY_DONE with the campaign's number and status. -/
def surveyDone (number status : Nat) : Prog := raise (evCode 10 1) noUnit [number, status]

/-- Campaigns of a sheet are abandoned and commit nothing (R286, R292). A quick survey starts anew at once with its other
sheets; with `again`, the sheet itself repeats it alone (12 R265, 14 R310). -/
def abandonCamps (n : Nat) (again : Bool) : Prog := .ask fun s =>
  each (s.survey.camps.filter fun c => c.sheets.testBit n) fun c => seqs
    [ dropCamp c.number, each (setBits 4 c.sheets) fun k => rejectSheet k 5,
      whenP c.full (surveyDone c.number 0x0B),
      whenP (!c.full) (.ask fun t => startCamp false false (andNot c.sheets (2 ^ n)) (now t) none),
      whenP (!c.full && again) (.ask fun t => startCamp false false (2 ^ n) (now t) none) ]

/-- QUICK_SURVEY_START (R287): the sheets that calibrated together hold lock; t_k is the later of their last lock and now. -/
def execQuickSurveyStart (sheets : Nat) (s : State) : Host.Outcome State Fault Refusal :=
  let ok := fun n => surveyed s n && (sh s n).txLock && (sh s n).rxLock && (sh s n).changing && !(sh s n).done &&
    (sh s n).calDue == none && (campOf s n).isNone
  done (whenP ((setBits 4 sheets).all ok && !engineLost s) (startCamp false false (maskOf (setBits 4 sheets)) (now s) none)) s

/-- QS_RETRY (12 R265): a sheet rejected four times repeats its quick survey every 10 ms. -/
def execQsRetry (sheet : Nat) (s : State) : Host.Outcome State Fault Refusal :=
  let r := sh s sheet
  done (whenP (r.qsFail && r.txLock && r.rxLock && surveyed s sheet && (campOf s sheet).isNone && !engineLost s
    && due s r.retryAt) (.seq (modSheet sheet fun x => { x with retryAt := add32 x.retryAt 10000000 })
      (startCamp false false (2 ^ sheet) (now s) none))) s

/-! ### Image taps (10 R216) -/

/-- e^{j2πfk / 1966.08 MHz} for f in kHz, in binary32. -/
def imagePhase (f k : Int) : C32 := (fOf (cosFix (f * k) 1966080) (-120), fOf (sinFix (f * k) 1966080) (-120))

/-- Quotient of complex values. -/
def cDiv (a b : C32) : C32 :=
  cOver (cMul a (cConj b)) (fAdd (fMul b.1 b.1) (fMul b.2 b.2))

/-- A complex integer in binary32. -/
def cOf (z : Int × Int) : C32 := (fOf z.1 0, fOf z.2 0)

/-- Nearest integer to 2^15 × x, clamped to ±32,767. -/
def tapOf (x : F32) : Int :=
  match x with
  | some (m, e) => clampI (-32767) 32767 (if 0 ≤ e + 15 then m * 2 ^ (e + 15).toNat else divRna m (2 ^ (-(e + 15)).toNat))
  | none => 0

/-- The eight taps solved from A_j and B_j at the tones, none where the solution fails: taps as integers. -/
def imageTaps (fs : List Int) (ab : List ((Int × Int) × (Int × Int))) : Option (List (Int × Int)) :=
  let ks := (List.range 8).map fun (i : Nat) => (i : Int) - 3
  let g := ab.map fun p => cDiv (fNeg (fOf p.2.1 0), fNeg (fOf p.2.2 0)) (cConj (cOf p.1))
  let col := fun k => fs.map fun f => imagePhase f k
  let gram := ks.map fun a => ks.map fun b => cDot (col b) (col a)
  let load := fMul (fDiv (fOf 1 0) (fOf 1000000 0)) (fDiv (fTrace gram) (fOf 8 0))
  let f := ldl (loaded gram fun _ => load)
  let x := ldlSolve f (ks.map fun k => cDot g (col k))
  if ldlGood (loaded gram fun _ => load) f.2 && x.all cFinite then some (x.map fun z => (tapOf z.1, tapOf z.2)) else none

/-- Predicted rejection of the worst tone in wide qdB: the inverse of what the taps leave of the image (assumption log 38). -/
def imageIrr (fs : List Int) (ab : List ((Int × Int) × (Int × Int))) (taps : List (Int × Int)) : Int :=
  let left := (fs.zip ab).map fun p =>
    let g := cDiv (fNeg (fOf p.2.2.1 0), fNeg (fOf p.2.2.2 0)) (cConj (cOf p.2.1))
    let sum := taps.zipIdx.foldl (fun a t => cAdd a (cMul (cOver (cOf t.1) (fOf 32768 0)) (imagePhase p.1 ((t.2 : Nat) - (3 : Int))))) cZero
    let z := cExact (cSub g sum)
    let pw := (z.1 * z.1 + z.2.1 * z.2.1).toNat
    if pw = 0 then 32767
    else -divRna (fxPower (pw * 2 ^ (2 * z.2.2).toNat) (2 ^ (-2 * z.2.2).toNat)) fxOne.toNat
  clampI (-32767) 32767 (left.foldl min 32767)

/-! ### Solving a campaign (R280 to R282, R288 to R292) -/

/-- Tones of a campaign: downlink and uplink. -/
def campTones (s : State) (c : Camp) : List Nat × List Nat :=
  let most := if c.full then 16 else 4
  (toneSet s 0 most, toneSet s 1 most)

/-- The campaign sets F_SURV and the references: frame-setting, or none stored (assumption log 37). -/
def campSets (s : State) (c : Camp) : Bool := c.setting || s.survey.fSurvDl == 0 || s.survey.fSurvUl == 0

/-- F_SURV of a direction for a campaign. -/
def campF (s : State) (c : Camp) : Nat × Nat :=
  let t := campTones s c
  if campSets s c then (toneCentre t.1, toneCentre t.2) else (s.survey.fSurvDl, s.survey.fSurvUl)

/-- Source of a quantity's stimulus: the element of T_e, the sheet of the benchmark transmitter of the others (R279). -/
def sourceOf (kind a : Nat) : Nat := if kind = 1 then a / 16 else a

/-- Datum time of a sheet's lease `k` of an arrangement in a campaign. -/
def leaseTime (c : Camp) (n arr k : Nat) : Nat := (((tget [] c.starts n).filter fun l => l.1 == arr).map (·.2)).getD k 0

/-- First samples of the blocks of A and of B of a quantity: 5 µs after a lease start; B follows A in a quick survey's lease, and
has a lease of its own in a full campaign (R287, R289). -/
def blockStarts (s : State) (c : Camp) (kind a b : Nat) : Int × Int :=
  let n := if kind = 2 then b else if kind = 3 then a else a / 16
  let at_ := fun k => dpIndex s (add32 (leaseTime c n (if kind = 0 then 1 else 2) k) 5000)
  (at_ 0, if c.full then at_ 1 else at_ 0 + blockLen)

/-- What was captured of a quantity. -/
def captured (l : List Reading) (kind a b : Nat) : Option Reading := l.find? fun r => r.kind == kind && r.a == a && r.b == b

/-- A quantity of a campaign, none where it was not measured. -/
def reading (s : State) (c : Camp) (l : List Reading) (kind a b : Nat) : Option Meas :=
  (captured l kind a b).map fun r =>
    let dir := if kind = 0 then 0 else 1
    let t := if dir = 0 then (campTones s c).1 else (campTones s c).2
    let src := sourceOf kind a
    let fs := emitted kind src t
    let at_ := blockStarts s c kind a b
    measure s (if dir = 0 then (campF s c).1 else (campF s c).2) fs
      (leaseValues s kind src fs at_.1 r.blocksA) (leaseValues s kind src fs at_.2 r.blocksB)

/-- How an element's direction came out: 0 agrees, 1 fails, 2 fails for NO_SIGNAL. -/
def elemFails (s : State) (c : Camp) (l : List Reading) (dir e : Nat) : Nat :=
  let all := ((List.range 64).filter fun x => c.sheets.testBit (x / 16) && elSurv s dir x).filterMap fun x => reading s c l dir x 0
  match reading s c l dir e 0 with
  | some q => if noSignal all q then 2 else if q.agrees then 0 else 1
  | none => 2

/-- A tie or loop quantity agrees. -/
def tieGood (s : State) (c : Camp) (l : List Reading) (kind a b : Nat) : Bool :=
  let ks := setBits 4 c.sheets
  let all := if kind = 3 then ks.filterMap fun x => reading s c l 3 x 0
    else (ks ++ c.partner.toList).flatMap fun x => ks.filterMap fun y => if x = y then none else reading s c l 2 x y
  match reading s c l kind a b with
  | some q => q.agrees && !noSignal all q
  | none => false

/-- The last fit of an element's direction. -/
def lastFit (s : State) (dir e : Nat) : Option Fit := tfind s.survey.fits (64 * dir + e)

/-- Elements of a sheet measured in a direction. -/
def sheetEls (s : State) (dir n : Nat) : List Nat := ((List.range 16).map fun i => 16 * n + i).filter (elSurv s dir)

/-- Elements of a sheet that agree in a direction. -/
def agreeing (s : State) (c : Camp) (l : List Reading) (dir n : Nat) : List Nat :=
  (sheetEls s dir n).filter fun e => elemFails s c l dir e == 0

/-- No element of the sheet agrees in TX: its fits of T_e are kept (R291). -/
def txReused (s : State) (c : Camp) (l : List Reading) (n : Nat) : Bool :=
  agreeing s c l 0 n == [] && sheetEls s 0 n != []

/-- The quantities of R281 a sheet's tie rests on. -/
def tiesOf (c : Camp) (n : Nat) : List (Nat × Nat × Nat) :=
  (3, n, 0) :: (if c.partner.isSome && !c.setting then c.partner.toList.map fun p => (2, p, n)
    else ((setBits 4 c.sheets).filter fun m => m != n).flatMap fun m => [(2, m, n), (2, n, m)])

/-- Reason for which a sheet is rejected, 0 where it is accepted: the first that holds (R292). -/
def rejectCode (s : State) (c : Camp) (l : List Reading) (n : Nat) : Nat :=
  let reused := txReused s c l n
  let most := fld (surveyRec s) 7 1
  let bad := fun dir => ((sheetEls s dir n).filter fun e => elemFails s c l dir e != 0).length
  if noReceiver s n then 4
  else if reused && (sheetEls s 0 n).any fun e => (lastFit s 0 e).isNone then 3
  else if (tiesOf c n).any fun q => !tieGood s c l q.1 q.2.1 q.2.2 then 1
  else if (!reused && decide (most < bad 0)) || decide (most < bad 1) then 2
  else 0

/-- The fit an element's direction takes from a campaign (R291). -/
def newFit (s : State) (c : Camp) (l : List Reading) (dir e : Nat) : Option Fit :=
  let f := if dir = 0 then (campF s c).1 else (campF s c).2
  if elemFails s c l dir e = 0 then (reading s c l dir e 0).map (·.fit)
  else (lastFit s dir e).map fun old =>
    let moves := (agreeing s c l dir (e / 16)).filterMap fun x =>
      match reading s c l dir x 0, lastFit s dir x with
      | some q, some o => some (q.fit.mag - o.mag, q.fit.ph - (fitAt o f).2)
      | _, _ => none
    let o := fitMove old f
    { o with mag := o.mag + fxMean (moves.map (·.1)), ph := o.ph + circMean (moves.map (·.2)) }

/-- The frame a campaign solves for the sheets it accepts, and whether it is provisional. -/
def campFrame (s : State) (c : Camp) (l : List Reading) (set : List Nat) : Frame × Bool :=
  let f := (campF s c).2
  let fit := fun kind a b => ((reading s c l kind a b).map (·.fit)).getD (zeroFit f)
  let k := fun n => loopFit (fit 3 n 0) n
  let base := match c.parent with
    | some p => p.1
    | none => s.survey.frame
  match (if c.setting then none else c.partner), base.ell with
  | some p, some ell =>
    let bp := (tfind base.b p).getD (zeroFit f)
    let t := set.map fun n => (n, tieSheet f (fit 2 p n) (k n) ell bp)
    ({ base with r := t.foldl (fun x q => tset x q.1 q.2.1) base.r, b := t.foldl (fun x q => tset x q.1 q.2.2) base.b }, false)
  | _, _ =>
    if 2 ≤ set.length then (solveFrame s f (campTones s c).2 set (fit 2) k, false)
    else
      let ell := tieFit s f (set.map fun n => (k n).mag)
      ({ r := set.map fun n => (n, zeroFit f), b := set.map fun n => (n, fitMove (k n) f)
         ell := some (if c.setting then s.survey.frame.ell.getD ell else ell) }, !c.setting)

/-- t_e or u_e of an element: its fit without network and sheet terms, and without the decimation skew (R281). -/
def pureFit (s : State) (fr : Frame) (dir e : Nat) (q : Fit) : Fit :=
  let g := fitJoin (-1) (fitJoin (-1) q (netFit s e)) (tget (zeroFit q.f) (if dir = 0 then fr.r else fr.b) (e / 16))
  if dir = 0 then g else { g with tau := g.tau - skewOf s (e % 16) * fxOne }

/-- The array reference of a direction from the pure fits of the active elements measured (R282). -/
def refOf (l : List (Nat × Fit)) (a0 : Nat) : ArrayRef :=
  { mag := fxMean (l.map fun p => p.2.mag), tau := fxMean (l.map fun p => p.2.tau)
    ph := ((l.find? fun p => p.1 / 16 == a0).map fun p => p.2.ph).getD 0 }

/-- Correction word and delay of a direction, and how many of them were clamped (R282). -/
def corrOf (r : ArrayRef) (q : Fit) : Nat × Int × Nat :=
  let m := fxRound (r.mag - q.mag)
  let d := fxRound (q.tau - r.tau)
  (cbMk (clampI (-63) 63 m) (fxRound (r.ph - q.ph)), clampI (-4094) 4094 d,
    bit (decide (63 < m.natAbs)) + bit (decide (4094 < d.natAbs)))

/-- The reciprocity residual ρ_e (R282), and whether it was clamped. -/
def rhoOf (t u : Fit) (tx rx : Nat) : Nat × Bool :=
  let m := fxRound (t.mag + cbMag tx * fxOne - u.mag - cbMag rx * fxOne)
  (cbMk (clampI (-63) 63 m) (fxRound (t.ph + cbPh tx * fxOne - u.ph - cbPh rx * fxOne)), decide (63 < m.natAbs))

/-- Corrections of the accepted sheets, and how many values were clamped. -/
def campElems (s : State) (c : Camp) (l : List Reading) (set : List Nat) (fr : Frame) (ref : Tab ArrayRef) : List (Nat × Elem) × Nat :=
  let els := (List.range 64).filter fun e => set.contains (e / 16) && (elSurv s 0 e || elSurv s 1 e)
  let one := els.map fun e =>
    let old := elemOf s e
    let pure_ := fun dir => (newFit s c l dir e).map (pureFit s fr dir e)
    let part := fun dir => (pure_ dir).map (corrOf (tget { mag := 0, ph := 0, tau := 0 } ref dir))
    let tx := ((part 0).map (·.1)).getD old.txCorr
    let rx := ((part 1).map (·.1)).getD old.rxCorr
    let rho := match pure_ 0, pure_ 1 with
      | some t, some u => rhoOf t u tx rx
      | _, _ => (old.rho, false)
    ((e, { old with
        txCorr := tx, rxCorr := rx, rho := rho.1
        txDelay := ((part 0).map (·.2.1)).getD old.txDelay, rxDelay := ((part 1).map (·.2.1)).getD old.rxDelay }),
      ((part 0).map (·.2.2)).getD 0 + ((part 1).map (·.2.2)).getD 0 + bit rho.2)
  (one.map (·.1), sumN (one.map (·.2)))

/-- What a campaign commits for the sheets it accepts, and the clamps met. -/
def campResult (s : State) (c : Camp) (l : List Reading) (set : List Nat) : SurveySet × Nat × Bool :=
  let f := campF s c
  let fr := campFrame s c l set
  let measured := fun dir => ((List.range 64).filter fun e => set.contains (e / 16) && elActive s dir e).filterMap fun e =>
    (newFit s c l dir e).map fun q => (e, pureFit s fr.1 dir e q)
  let a0 := set.headD 0
  let ref := if campSets s c then [(0, refOf (measured 0) a0), (1, refOf (measured 1) a0)] else s.survey.ref
  let els := campElems s c l set fr.1 ref
  let fits := [0, 1].flatMap fun dir => ((List.range 64).filter fun e => set.contains (e / 16)).filterMap fun e =>
    (newFit s c l dir e).map fun q => (64 * dir + e, q)
  ({ elems := els.1, images := [], orx := [], fits := fits, frame := fr.1, ref := ref, fSurv := f
     theta := set.map fun n => (n, let t := tget [] c.temps n; if t = [] then sheetTemp s n else divRna (sumI t) t.length) },
    els.2, fr.2)

/-! ### SURVEY_SOLVE_DONE (R290 to R292, 12 R265) -/

/-- Streaks of an element after a campaign, and its isolation (R291). -/
def streak (s : State) (c : Camp) (l : List Reading) (e : Nat) : Prog :=
  let how := max (if elSurv s 0 e then elemFails s c l 0 e else 0) (if elSurv s 1 e then elemFails s c l 1 e else 0)
  let f := if how = 0 then 0 else tget 0 s.survey.failStreak e + 1
  let z := if how = 2 then tget 0 s.survey.noSignal e + 1 else 0
  seqs
    [ modSurvey fun v => { v with
        failStreak := tset v.failStreak e (min 4 f), noSignal := tset v.noSignal e z, lastMeas := tset v.lastMeas e (now s) },
      whenP (how != 0) (count blkSurvey 0 0),
      whenP (decide (4 ≤ f) || decide (2 ≤ z)) (isolate 2 1 (e + 256 + 512)) ]

/-- A sheet that a quick survey rejects: its fourth rejection raises QS_FAIL and leaves it to QS_RETRY; before that it is
surveyed again at once alone (12 R265). -/
def requeue (n : Nat) (parent : Frame × Nat) : Prog := .ask fun s =>
  let k := tget 0 s.survey.qsReject n + 1
  .seq (modSurvey fun v => { v with qsReject := tset v.qsReject n k })
    (if k < 4 then startCamp false false (2 ^ n) (now s) (some parent)
      else whenP (!(sh s n).qsFail) (seqs
        [ modSheet n fun r => { r with qsFail := true, retryAt := add32 (now s) 10000000 }, setFault 6, raiseFl 2 (evCode 9 3) n [] ]))

/-- A tone and its image over a quantity's blocks: A_j at +f and B_j at −f, f in kHz from the LO (10 R216, 13 R283). -/
def toneImage (f : Int) (blocks : List (Int × List (Int × Int))) : (Int × Int) × (Int × Int) :=
  (csum (blocks.map fun x => toneSum f x.1 x.2), csum (blocks.map fun x => toneSum (-f) x.1 x.2))

/-- Blocks of a lease with their first samples. -/
def placed (n : Int) (blocks : List (List (Int × Int))) : List (Int × List (Int × Int)) :=
  blocks.zipIdx.map fun x => (n + (blockLen : Int) * (x.2 : Int), x.1)

/-- What the receive leases give of a path's image: its record's taps, and its predicted rejection. -/
def imageOf (s : State) (c : Camp) (l : List Reading) (p : Nat) : Option (Nat × Rec × Int) :=
  (captured l 1 p 0).bind fun r =>
    let at_ := blockStarts s c 1 p 0
    let blocks := placed at_.1 r.blocksA ++ placed at_.2 r.blocksB
    let fs := (emitted 1 (p / 16) (campTones s c).2).map fun (f : Nat) => (f : Int) - (fld (loRec s) 4 4 : Nat)
    let ab := fs.map fun f => toneImage f blocks
    (imageTaps fs ab).map fun t => (p, t.flatMap (fun z => leSigned 2 z.1 ++ leSigned 2 z.2), imageIrr fs ab t)

/-- Nearest integer to 2^14 × x, clamped to 16 bits. -/
def q14Of (x : F32) : Int :=
  match x with
  | some (m, e) => sat16 (if 0 ≤ e + 14 then m * 2 ^ (e + 14).toNat else divRna m (2 ^ (-(e + 14)).toNat))
  | none => 0

/-- The correction of an observation receiver (R283) from the codes of its loop block: the matrix that takes g × conj(z) away from z,
with g the mean of B_j / conj(A_j) over the tones, and the offset that takes the mean away (assumption log 38). -/
def orxSolve (s : State) (c : Camp) (k : Nat) (codes : List (Int × Int)) : Nat × List Int :=
  let x := codes.map fun z => (16 * z.1, 16 * z.2)
  let fs := (emitted 3 (k / 2) (campTones s c).2).map fun (f : Nat) => (f : Int) - (fld (loRec s) 0 4 : Nat)
  let g := cOver ((fs.map fun f => let t := toneImage f [(0, x)]; cDiv (cOf t.2) (cConj (cOf t.1))).foldl cAdd cZero) (fOf fs.length 0)
  let m := [q14Of (fSub (fOf 1 0) g.1), q14Of (fNeg g.2), q14Of (fNeg g.2), q14Of (fAdd (fOf 1 0) g.1)]
  let dc := (fxMean (x.map (·.1)), fxMean (x.map (·.2)))
  (k, m ++ [sat16 (-divRna (m.getD 0 0 * dc.1 + m.getD 1 0 * dc.2) 16384), sat16 (-divRna (m.getD 2 0 * dc.1 + m.getD 3 0 * dc.2) 16384)])

/-- SURVEY_SOLVE_DONE: a campaign whose leases are over is solved from the blocks captured in them at the benchmark
receivers and in the receive paths, and, in a full campaign, from
the loop blocks of the observation receivers. -/
def execSurveySolveDone (campaign : Nat) (bench paths : List Reading) (orx : List (Nat × List (Int × Int))) (s : State) :
    Host.Outcome State Fault Refusal :=
  let readings := bench ++ paths
  done (match s.survey.camps.find? fun c => c.number == campaign && !c.solved with
    | none => .skip
    | some c => whenP (campTaken s c && !engineLost s) (
      let view := campView s c
      let all := setBits 4 c.sheets
      let codes := all.map fun n => (n, rejectCode view c readings n)
      let good := (codes.filter fun p => p.2 == 0).map (·.1)
      let set := if c.full && good.length != all.length then [] else good
      let res := campResult view c readings set
      let img := ((List.range 64).filter fun p => set.contains (p / 16)).filterMap (imageOf view c readings)
      let b := if c.full then commitAt s 1 (surveyRef s) else add32 c.start 400000
      seqs
        [ each ((List.range 64).filter fun e => c.sheets.testBit (e / 16) && (elSurv s 0 e || elSurv s 1 e)) (streak view c readings),
          each codes fun p => if p.2 = 0
            then modSurvey fun v => { v with reject := tset v.reject p.1 (128 * bit (txReused view c readings p.1)) }
            else rejectSheet p.1 (p.2 + 128 * bit (p.2 != 3 && p.2 != 4 && txReused view c readings p.1)),
          whenP (set != []) (countN blkSurvey 0 2 res.2.1),
          modRx fun x => { x with irr := img.foldl (fun t p => tset t p.1 (p.2.2, tget (sheetTemp s (p.1 / 16), now s) c.rxMeas (p.1 / 16))) x.irr },
          if set = [] then dropCamp campaign
          else modCamp campaign fun x => { x with
            solved := true, accepted := maskOf set, boundary := b
            result := { res.1 with
              images := img.map fun p => (p.1, p.2.1), orx := if c.full && !c.skipOrx then (orx.filter fun p => set.contains (p.1 / 2)).map fun p => orxSolve view c p.1 p.2 else [] } },
          whenP (res.2.2 && set != []) (.seq (modSurvey fun v => { v with provisional := true }) (raise (evCode 10 2) (set.headD 0) [])),
          if c.full then whenP (set == []) (surveyDone campaign 0x0B)
          else .seq
            (each set fun n => .seq (modSurvey fun v => { v with qsReject := tdel v.qsReject n })
              (modSheet n fun r => { r with qsFail := false }))
            (each (all.filter fun n => !set.contains n) fun n => requeue n (res.1.frame, maskOf set)) ])) s

/-! ### Drift terms and temperature latches (R296) -/

/-- SURVEY_TEMP_SET record in force of an element. -/
def tempRec (s : State) (e : Nat) : Rec := setting s 0x0A08 e (leBytes 1 e ++ zeros 11)

/-- Drift term of a direction at a latched temperature, and whether its MAG was clamped. -/
def driftWord (s : State) (dir e : Nat) (latched : Int) : Nat × Bool :=
  let d := latched - tget 0 s.survey.thetaRef (e / 16)
  let m := divRna (sfld (tempRec s e) (2 + 4 * dir) 2 * d) 2048
  (cbMk (clampI (-63) 63 m) (divRna (sfld (tempRec s e) (4 + 4 * dir) 2 * d) 2048), decide (63 < m.natAbs))

/-- Reciprocity corrections recomposed since the state `s0`, one of their terms changed, that saturate: each counts once (R282;
02 R46). -/
def countRecip (s0 : State) : Prog := .ask fun s => countN blkSurvey 0 2 ((List.range 64).filter fun e =>
  let c := elemOf s e
  let o := elemOf s0 e
  (c.rho, c.txDrift, c.rxDrift) != (o.rho, o.txDrift, o.rxDrift) && (cbCompose [c.rho, c.txDrift, cbInv c.rxDrift]).2).length

/-- Elements of a sheet. -/
def elsOf (n : Nat) : List Nat := (List.range 16).map fun i => 16 * n + i

/-- Change an element's record. -/
def modElem (e : Nat) (f : Elem → Elem) : Prog := modSurvey fun v => { v with elem := tmod elem0 v.elem e f }

/-- The drift terms and bias codes of a sheet formed anew at a latched temperature and logged as a latch (R296, 14 R303). -/
def latchTerms (n : Nat) (t : Int) (b kind : Nat) : Prog := .ask fun s => seqs
  [ each (elsOf n) fun e =>
      let x := driftWord s 0 e t
      let y := driftWord s 1 e t
      .seq (modElem e fun el => { el with txDrift := x.1, rxDrift := y.1 }) (countN blkSurvey 0 2 (bit x.2 + bit y.2)),
    countRecip s, biasSheet n,
    .ask fun u => logCommit b 0x0A kind n 0 0
      (leSigned 2 t ++ (elsOf n).flatMap fun e => leBytes 2 (elemOf u e).txDrift ++ leBytes 2 (elemOf u e).rxDrift) (ofSigned 32 t) ]

/-- A temperature-compensation latch of a sheet at boundary `b` (R296). -/
def latchSheet (n : Nat) (t : Int) (b kind : Nat) : Prog := seqs
  [ holdUl b, modSurvey fun v => { v with latched := tset v.latched n t, latchPend := tdel v.latchPend n }, latchTerms n t b kind ]

/-- TEMP_COMPARE (R296): firmware compares the temperature of every sheet not in SLEEP with the latched one. -/
def execTempCompare (s : State) : Host.Outcome State Fault Refusal :=
  let far := (liveSheets s).filter fun n => (sh s n).state != .sleep && (tfind s.survey.latchPend n).isNone &&
    decide (fld (surveyRec s) 18 1 ≤ (sheetTemp s n - tget 0 s.survey.latched n).natAbs)
  done (whenP (fwRuns s) (each far fun n =>
    if (surveyCar s (surveyRef s)).isNone then latchSheet n (sheetTemp s n) (now s) 0
    else modSurvey fun v => { v with latchPend := tset v.latchPend n (sheetTemp s n, commitAt s 2 (surveyRef s)) })) s

/-! ### Steepings (R294, R295) -/

/-- A steeping of a sheet and direction is in progress. -/
def steeping (s : State) (n dir : Nat) : Bool := s.survey.steep.any fun q => q.sheet == n && q.dir == dir

/-- Steepings of some sheets and directions are abandoned (R295). -/
def abandonSteeps (want : Steep → Bool) : Prog := .ask fun s =>
  .seq (countN blkSurvey 0 3 (s.survey.steep.filter want).length)
    (modSurvey fun v => { v with steep := v.steep.filter fun q => !want q })

/-- Word of step k of N from the old to the new one (R294). -/
def steepWord (old new k n : Nat) : Nat :=
  let d : Int := ((cbPh new : Int) - cbPh old + 256) % 512 - 256
  cbMk (cbMag old + divRna ((cbMag new - cbMag old) * k) n) (cbPh old + divRna (d * k) n)

/-- Slots after a slot boundary of a carrier, as a datum value. -/
def slotAfter (s : State) (r : Rec) (b k : Nat) : Nat :=
  let t := extTotal s.datum.ref b
  let mu := carMu r
  let h := halfOf s t
  let j := if mu = 2 ∧ symNs s mu h 14 ≤ t then 1 else 0
  if mu = 0 then counterAt s (symNs s mu (h + 2 * (k : Int)) 0)
  else if mu = 1 then counterAt s (symNs s mu (h + (k : Int)) 0)
  else counterAt s (symNs s mu (h + (((j + k) / 2 : Nat) : Int)) (14 * ((j + k) % 2)))

/-- A reciprocity prerequisite that tracking cleared is current again with the last step (R299). -/
def steepDone (q : Steep) : Prog := modSurvey fun v => { v with
  base := q.base.foldl (fun t x => tset t (64 * q.dir + x.1) (x.2.1, x.2.2.1, x.2.2.2)) v.base
  recip := if v.align.testBit q.sheet && !(v.steep.any fun p => p.sheet == q.sheet && p.dir != q.dir) then v.recip ||| 2 ^ q.sheet else v.recip }

/-- The step of a steeping due at boundary `b` applies; its start is logged (R294). -/
def steepStep (b kind : Nat) (q : Steep) : Prog := .ask fun s =>
  let k := q.step + 1
  let next := match surveyCar s (surveyRef s) with
    | some r => slotAfter s r b q.gap
    | none => b
  seqs
    [ each q.items fun x => modElem x.1 fun el =>
        let w := steepWord x.2.1 x.2.2 k q.steps
        if q.dir = 0 then { el with txCorr := w } else { el with rxCorr := w },
      if q.steps ≤ k then .seq (modSurvey fun v => { v with steep := v.steep.erase q }) (steepDone q)
        else modSurvey fun v => { v with steep := v.steep.map fun p => if p = q then { q with step := k, next := next } else p },
      whenP (q.step == 0) (logCommit b 0x07 kind q.sheet 0 0
        (q.items.flatMap fun x => leBytes 1 x.1 ++ leBytes 1 q.dir ++ leBytes 2 x.2.1 ++ leBytes 2 x.2.2) (q.steps + 65536 * q.gap)) ]

/-! ### Coming into force (R293, R299) -/

/-- Record of RX_IMAGE_SET in force of a path. -/
def imageRec (s : State) (p : Nat) : Rec := setting s 0x0805 p (leBytes 1 p ++ zeros 35)

/-- Correction of an observation receiver in force (R283). -/
def orxCorr (s : State) (k : Nat) : List Int := tget [16384, 0, 0, 16384, 0, 0] s.dpd.corr k

/-- F0 of a carrier and direction after F_SURV moves (06 R142, assumption log 21). -/
def f0Value (s : State) (dir c : Nat) : Int :=
  let r := dirCar s dir c
  let f : Int := ((if dir = 0 then s.survey.fSurvDl else s.survey.fSurvUl) : Nat)
  divRna (10 * (fld (loRec s) (4 * dir) 4 : Nat) + carNco r - 10 * f) 75 +
    (12 * (groupSize s dir c : Int) - 1 - 12 * carPrb r) * 2 ^ carMu r

/-- The GRAT.F0 registers of the committed carriers. -/
def writeF0 : Prog := .ask fun s => each [0, 1] fun dir => each (dirCars s dir) fun c =>
  .upd (.setReg (0x40201200 + 32 * dir + 4 * c) (ofSigned 18 (f0Value s dir c)))

/-- Content of a KIND 0x06 record for the committed sheets (01 R39), from the state after the commit. -/
def surveyContent (s : State) (set : List Nat) : Rec :=
  (set.flatMap elsOf).flatMap (fun e => let x := elemOf s e
    leBytes 2 x.txCorr ++ leBytes 2 x.rxCorr ++ leBytes 2 x.rho ++ leSigned 2 x.txDelay ++ leSigned 2 x.rxDelay) ++
  (set.flatMap elsOf).flatMap (fun p => (imageRec s p).drop 4) ++
  (set.flatMap fun n => [2 * n, 2 * n + 1]).flatMap fun k => (orxCorr s k).flatMap fun v => leSigned 2 v

/-- A campaign measured a direction of an element. -/
def hasFit (q : SurveySet) (dir e : Nat) : Bool := (tfind q.fits (64 * dir + e)).isSome

/-- An element's record with the results of a campaign: those of the directions it measured, ρ_e with both. -/
def mergeElem (q : SurveySet) (e : Nat) (old new : Elem) : Elem :=
  let t := if hasFit q 0 e then { old with txCorr := new.txCorr, txDelay := new.txDelay } else old
  let u := if hasFit q 1 e then { t with rxCorr := new.rxCorr, rxDelay := new.rxDelay } else t
  if hasFit q 0 e && hasFit q 1 e then { u with rho := new.rho } else u

/-- A campaign's results come into force at boundary `b` for its accepted sheets (order 4 of 01 R24); the latch of each sheet
at θ_ref waits for order 7. -/
def surveyCommit (c : Camp) (b : Nat) : Prog := .ask fun s =>
  let set := setBits 4 c.accepted
  let q := c.result
  let sets := campSets s c
  seqs
    [ holdUl b,
      abandonSteeps fun p => c.accepted.testBit p.sheet,
      modSurvey fun v => { v with
        elem := q.elems.foldl (fun t x => tmod elem0 t x.1 fun e => mergeElem q x.1 e x.2) v.elem
        fits := q.fits.foldl (fun t x => tset t x.1 x.2) v.fits
        frame := q.frame, ref := q.ref
        fSurvDl := if sets then q.fSurv.1 else v.fSurvDl, fSurvUl := if sets then q.fSurv.2 else v.fSurvUl
        thetaRef := q.theta.foldl (fun t x => tset t x.1 x.2) v.thetaRef
        lastCommit := set.foldl (fun t n => tset t n b) v.lastCommit
        latchPend := q.theta.foldl (fun t x => tset t x.1 (x.2, b)) v.latchPend
        provisional := if c.setting then false else v.provisional
        align := v.align ||| c.accepted, recip := v.recip ||| c.accepted
        tracked := v.tracked.filter fun p => !c.accepted.testBit (p.1 % 64 / 16)
        base := q.fits.foldl (fun t x => tset t x.1
          ((fitAt x.2 (if x.1 < 64 then q.fSurv.1 else q.fSurv.2)).1, (fitAt x.2 (if x.1 < 64 then q.fSurv.1 else q.fSurv.2)).2, 0)) v.base },
      countRecip s,
      each q.images fun p => .ask fun t => setSetting 0x0805 p.1 (putAt (imageRec t p.1) 4 p.2),
      modDpd fun d => { d with corr := q.orx.foldl (fun t x => tset t x.1 x.2) d.corr },
      whenP sets writeF0,
      .ask fun t => logCommit b 0x06 0 (if !c.setting && set.length = 1 then set.headD 0 else noUnit) 0 0 (surveyContent t set) c.number ]

/-- Campaigns whose results are due at a datum time. -/
def dueCamps (s : State) (b : Nat) : List Camp := s.survey.camps.filter fun c => c.solved && decide (0 ≤ int32Diff b c.boundary)

/-- Order 4 of a boundary for one campaign: its results come into force and it ends; a quick survey's boundary is T_done of
its accepted sheets (R287), and a full campaign reports (R289). -/
def campCommit (c : Camp) : Prog := seqs
  [ surveyCommit c c.boundary, dropCamp c.number,
    if c.full then surveyDone c.number 0 else each (setBits 4 c.accepted) fun n => sheetDone n c.boundary ]

end Sys2Proof.Machine
end

