-- ==== Sys2Proof/Machine/SurveyCmd.lean ====
section
/-! DEFINITION. Tracking of the array (13_array_survey R297, R298), the survey's status and its commands (13 R300). -/

namespace Sys2Proof.Machine

open Sys2Proof

/-! ### Tracking captures (R297) -/

/-- Tones of tracking in a direction. -/
def trackTones (s : State) (dir : Nat) : List Nat := toneSet s dir 8

/-- F_SURV of a direction. -/
def fSurv (s : State) (dir : Nat) : Nat := if dir = 0 then s.survey.fSurvDl else s.survey.fSurvUl

/-- The mean of two fits at one frequency: arithmetic in MAG and delay, circular in PH. -/
def fitMean (a b : Fit) : Fit := { a with mag := fxMean [a.mag, b.mag], ph := circMean [a.ph, b.ph], tau := fxMean [a.tau, b.tau] }

/-- A tracking measurement of an element: the first of a pair is kept, the second must agree with it; a pair that disagrees
is discarded (assumption log 38). -/
def trackMeasure (dir e : Nat) (q : Fit) : Prog := .ask fun s =>
  let k := 64 * dir + e
  match tfind s.survey.trackA k with
  | none => modSurvey fun v => { v with trackA := tset v.trackA k q }
  | some a => modSurvey fun v => { v with
      trackA := tdel v.trackA k
      tracked := if fitsAgree s a q then tset v.tracked k (fitMean a q, extNow s) else v.tracked
      lastMeas := tset v.lastMeas e (now s) }

/-- Receive tracking: every path's block from sample `n` on, of the tones the benchmark transmitter emits. -/
def trackRx (n : Nat) (at_ : Int) (blocks : List (Nat × List (Int × Int))) : Prog := .ask fun s =>
  let fs := emitted 1 n (trackTones s 1)
  each (blocks.filter fun b => b.1 / 16 == n && elIn s 1 b.1) fun b =>
    trackMeasure 1 b.1 (fitTones (fSurv s 1) fs (leaseValues s 1 n fs at_ [b.2]))

/-- Tone sums of a sheet with nothing accumulated. -/
def acc0 (tones : Nat) : TrackAcc :=
  { n := 0, tones := List.replicate tones { a := List.replicate 16 (List.replicate 16 cZero), v := List.replicate 16 cZero } }

/-- One bin added to a tone's sums: A += X^H X, v += X^H z. -/
def accBin (t : TrackTone) (b : List (Int × Int) × (Int × Int)) : TrackTone :=
  let x := (List.range 16).map fun i => cOf (b.1.getD i (0, 0))
  { a := t.a.zipIdx.map fun r => r.1.zipIdx.map fun c => cAdd c.1 (cMul (cConj (x.getD r.2 cZero)) (x.getD c.2 cZero))
    v := t.v.zipIdx.map fun c => cAdd c.1 (cMul (cConj (x.getD c.2 cZero)) (cOf b.2)) }

/-- Every pivot exceeds 2^−20 × trace(A) / 16. -/
def pivotsGood (a : List (List C32)) (piv : List F32) : Bool := piv.all fun d => fAbove d (fTrace a) (-24)

/-- MAG and PH of a complex gain in 2^−24 qdB and bu. -/
def gainFix (g : C32) : Int × Int :=
  let z := cExact g
  let pw := (z.1 * z.1 + z.2.1 * z.2.1).toNat
  (if pw = 0 then -fxTurn else fxPower (pw * 2 ^ (2 * z.2.2).toNat) (2 ^ (-2 * z.2.2).toNat), fxAngle z.1 z.2.1)

/-- The gains of a sheet's sixteen elements at each tone, none while a pivot test or a value fails. -/
def trackSolve (t : TrackAcc) : Option (List (List C32)) :=
  let sol := t.tones.map fun x => (x, ldl x.a)
  if sol.all fun x => pivotsGood x.1.a x.2.2 then
    let g := sol.map fun x => ldlSolve x.2 x.1.v
    if g.all fun l => l.all cFinite then some g else none
  else none

/-- Transmit tracking: a capture's bins are accumulated by tone; from eight captures on they are solved, and at 64 without a
solution discarded. -/
def trackTx (n : Nat) (bins : List (List (List (Int × Int) × (Int × Int)))) : Prog := .ask fun s =>
  let fs := trackTones s 0
  let old := tget (acc0 fs.length) s.survey.acc n
  let old := if old.tones.length = fs.length then old else acc0 fs.length
  let new : TrackAcc := { n := old.n + 1, tones := (old.tones.zip bins).map fun p => p.2.foldl accBin p.1 }
  let drop := modSurvey fun v => { v with acc := tdel v.acc n }
  let keep := modSurvey fun v => { v with acc := tset v.acc n new }
  whenP (bins.length == fs.length) (
    match if 8 ≤ new.n then trackSolve new else none with
    | some g => .seq drop (each ((List.range 16).filter fun i => elIn s 0 (16 * n + i)) fun i =>
        trackMeasure 0 (16 * n + i) (fitTones (fSurv s 0) fs (g.map fun l => gainFix (l.getD i cZero))))
    | none => if 64 ≤ new.n then .seq drop (count blkSurvey 0 4) else keep)

/-- Samples of a capture of transmit tracking. -/
def trackLen : Nat := 8192

/-- Bins of a capture within ±1 MHz of a frequency in kHz from the LO; bins lie 240 kHz apart. -/
def nearBins (f : Int) : List Int := (List.range 10).filterMap fun (i : Nat) =>
  let k := -((1000 - f) / 240) + (i : Int)
  if 240 * k ≤ f + 1000 then some k else none

/-- Bin `k` of the spectrum of a capture, in 2^−120. -/
def binOf (k : Int) (x : List (Int × Int)) : Int × Int :=
  csum ((x.take trackLen).zipIdx.map fun (p : (Int × Int) × Nat) => cmul p.1 (cosFix (-(k * (p.2 : Int))) trackLen, sinFix (-(k * (p.2 : Int))) trackLen))

/-- The bins about each tone of transmit tracking: the sixteen path spectra and the receiver's. -/
def trackBins (s : State) (x : List (List (Int × Int))) (z : List (Int × Int)) : List (List (List (Int × Int) × (Int × Int))) :=
  (trackTones s 0).map fun (f : Nat) => (nearBins ((f : Int) - (fld (loRec s) 0 4 : Nat))).map fun k => (x.map (binOf k), binOf k z)

/-! ### Evaluation (R298) -/

/-- An element's error of a direction before the mean is taken: MAG and PH. -/
def trackError (s : State) (dir e : Nat) : Int × Int :=
  let k := 64 * dir + e
  let g := match tfind s.survey.tracked k with
    | some q => fitAt q.1 (fSurv s dir)
    | none => (0, 0)
  let b := tget (0, 0, 0) s.survey.base k
  let d := if dir = 0 then (elemOf s e).txDrift else (elemOf s e).rxDrift
  ((g.1 - b.1) + (cbMag d - cbMag b.2.2) * fxOne, fxWrap ((g.2 - b.2.1) + ((cbPh d : Int) - cbPh b.2.2) * fxOne))

/-- Every in-service element of a sheet holds an agreed measurement younger than TRACK_AGE. -/
def trackFull (s : State) (dir n : Nat) : Bool :=
  sheetEls s dir n != [] && (sheetEls s dir n).all fun e =>
    (match tfind s.survey.tracked (64 * dir + e) with
      | some q => decide (extNow s - q.2 < (fld (surveyRec s) 20 2 : Int) * 1000000000)
      | none => false) && (tfind s.survey.base (64 * dir + e)).isSome

/-- TRACK_EVALUATE: the direction's errors within the sheet; beyond the deadband a steeping starts at the first slot boundary
that satisfies 03 R64. -/
def execTrackEvaluate (sheet dir : Nat) (s : State) : Host.Outcome State Fault Refusal :=
  let els := sheetEls s dir sheet
  let raw := els.map fun e => (e, trackError s dir e)
  let mm := fxMean (raw.map fun x => x.2.1)
  let mp := circMean (raw.map fun x => x.2.2)
  let eps := raw.map fun x => (x.1, x.2.1 - mm, fxWrap (x.2.2 - mp))
  let r := surveyRec s
  let beyond := fun (o : Nat) (x : Nat × Int × Int) =>
    decide ((fld r o 1 : Int) * fxOne < x.2.1.natAbs) || decide ((fld r (o + 1) 1 : Int) * fxOne < x.2.2.natAbs)
  let far := eps.filter (beyond 10)
  let items := eps.map fun x =>
    let c := if dir = 0 then (elemOf s x.1).txCorr else (elemOf s x.1).rxCorr
    let m := fxRound (cbMag c * fxOne - x.2.1)
    ((x.1, c, cbMk (clampI (-63) 63 m) (fxRound (cbPh c * fxOne - x.2.2))), decide (63 < m.natAbs))
  let base := els.map fun e =>
    let g := match tfind s.survey.tracked (64 * dir + e) with
      | some q => fitAt q.1 (fSurv s dir)
      | none => (0, 0)
    (e, g.1, g.2, if dir = 0 then (elemOf s e).txDrift else (elemOf s e).rxDrift)
  done (whenP (decide (dir < 2) && fbit r 0 1 0 && trackFull s dir sheet && !steeping s sheet dir) (seqs
    [ each far fun x => .seq (count blkSurvey 0 5) (raise (evCode 10 3) x.1 []),
      whenP (far != []) (modSurvey fun v => { v with recip := andNot v.recip (2 ^ sheet) }),
      whenP (eps.any (beyond 8)) (.seq (countN blkSurvey 0 2 (items.filter (·.2)).length)
        (modSurvey fun v => { v with steep := v.steep ++
          [{ sheet := sheet, dir := dir, items := items.map (·.1), step := 0, steps := fld r 2 1, gap := fld r 3 1
             next := commitAt s 2 (surveyRef s), base := base }] })) ])) s

/-! ### Status and commands (R300) -/

/-- SURVEY.STATUS. -/
def surveyStatusWord (s : State) : Nat :=
  campMask s true + 16 * campMask s false + 256 * maskOf ((List.range 4).filter fun n => s.survey.steep.any fun q => q.sheet == n) +
    4096 * s.survey.align + 65536 * s.survey.recip + 1048576 * bit s.survey.provisional

/-- SURVEY.THETA of a sheet. -/
def thetaWord (s : State) (n : Nat) : Nat :=
  ofSigned 16 (tget 0 s.survey.thetaRef n) + 65536 * ofSigned 16 (tget 0 s.survey.latched n)

/-- Sheet of the path at an offset of a record. -/
def pathUnits (off : Nat) (r : Rec) : List Nat := [uSHEET (fld r off 1 / 16)]

/-- SURVEY_CONFIG (0x0A01). -/
def cmdSurveyConfig : CmdDef :=
  { op := 0x0A01, kind := .t, len := fixed 24, keys := fun _ => [0]
    fields := fun _ r =>
      [ ⟨0, 1, .bits 1⟩, ⟨1, 1, .uns 0 7⟩, ⟨2, 1, .uns 1 64⟩, ⟨3, 1, .uns 1 200⟩, ⟨4, 1, .uns 1 16⟩, ⟨5, 1, .uns 1 32⟩,
        ⟨6, 1, .uns 1 64⟩, ⟨7, 1, .uns 0 8⟩, ⟨8, 1, .uns 1 8⟩, ⟨9, 1, .uns 1 16⟩, ⟨10, 1, .uns 1 32⟩,
        ⟨10, 1, .cond (decide (fld r 8 1 ≤ fld r 10 1))⟩, ⟨11, 1, .uns 1 64⟩, ⟨11, 1, .cond (decide (fld r 9 1 ≤ fld r 11 1))⟩,
        ⟨12, 2, .sgn (-240) (-40)⟩, ⟨14, 2, .sgn (-320) (-80)⟩, ⟨16, 2, .uns 0 32767⟩, ⟨18, 1, .uns 1 80⟩, ⟨19, 1, .zero⟩,
        ⟨20, 2, .uns 1 3600⟩, ⟨22, 2, .zero⟩ ] }

/-- SURVEY_RUN (0x0A02). -/
def cmdSurveyRun : CmdDef :=
  { op := 0x0A02, kind := .n, len := fixed 4, units := fun _ => [uSURVEY], fields := fun _ _ => ⟨0, 1, .bits 1⟩ :: rsv 1 3
    own := fun _ _ s =>
      if ((liveSheets s).any fun n => inRxTx s n) || !((liveSheets s).any fun n => (sh s n).state == .synth) then stSTATE
      else if (liveSheets s).any fun n => (sh s n).state == .synth && (elsOf n).any fun p => toneOn s p then stSTATE
      else if s.survey.camps != [] then stBUSY
      else if !granted s 3 then stBUDGET else stOK
    answer := fun _ _ s => (stOK, leBytes 4 ((s.survey.campaign + 1) % 2 ^ 32))
    effect := fun _ r => .ask fun s => startCamp true (fbit r 0 1 0) (maskOf ((liveSheets s).filter fun n => (sh s n).state == .synth)) (now s) none }

/-- SURVEY_STATUS (0x0A03). -/
def cmdSurveyStatus : CmdDef :=
  { op := 0x0A03, kind := .r, len := fixed 1, fields := fun _ _ => [⟨0, 1, .bits 1⟩]
    answer := fun _ _ s => (stOK, leBytes 4 (surveyStatusWord s) ++ leBytes 4 s.survey.campaign ++ leBytes 4 s.survey.fSurvDl ++
      leBytes 4 s.survey.fSurvUl ++ ((List.range 4).flatMap fun n => leBytes 1 (tget 0 s.survey.reject n)) ++
      ((List.range 4).flatMap fun n => leBytes 4 (tget 0 s.survey.lastCommit n)) ++ cntBytes s blkSurvey 0 6 ++
      leBytes 4 (satBits s blkSurvey 0 6) ++ (List.range 4).flatMap fun n => leBytes 4 (thetaWord s n))
    effect := fun _ r => whenP (fbit r 0 1 0) (clearCnts blkSurvey 0 6) }

/-- SURVEY_NET_SET (0x0A04). -/
def cmdSurveyNetSet : CmdDef :=
  { op := 0x0A04, kind := .t, len := fixed 12, units := pathUnits 0, keys := fun r => [fld r 0 1]
    fields := fun _ _ => [⟨0, 1, .unit .path⟩] ++ rsv 1 3 ++ [⟨4, 2, .cb .both⟩, ⟨6, 2, .sgn (-8192) 8191⟩, ⟨8, 4, .uns 1400000 7125000⟩] }

/-- SURVEY_NET_GET (0x0A05). -/
def cmdSurveyNetGet : CmdDef :=
  { op := 0x0A05, kind := .r, len := fixed 1, units := pathUnits 0, fields := fun _ _ => [⟨0, 1, .unit .path⟩]
    answer := fun _ r s => (stOK, netRec s (fld r 0 1)) }

/-- SURVEY_CORR_SET (0x0A06): it abandons every steeping of the sheet and the directions it covers (R295). -/
def cmdSurveyCorrSet : CmdDef :=
  { op := 0x0A06, kind := .t, len := fixed 12, units := pathUnits 0, keys := fun r => [fld r 0 1], stores := false
    fields := fun _ _ => [⟨0, 1, .unit .path⟩, ⟨1, 1, .uns 1 7⟩, ⟨2, 2, .cb .both⟩, ⟨4, 2, .cb .both⟩, ⟨6, 2, .cb .both⟩,
      ⟨8, 2, .sgn (-4094) 4094⟩, ⟨10, 2, .sgn (-4094) 4094⟩]
    apply := fun _ r => .ask fun s => seqs
      [ abandonSteeps fun q => q.sheet == fld r 0 1 / 16 && fbit r 1 1 q.dir,
      (modElem (fld r 0 1) fun e =>
        let e := if fbit r 1 1 0 then { e with txCorr := fld r 2 2, txDelay := sfld r 8 2 } else e
        let e := if fbit r 1 1 1 then { e with rxCorr := fld r 4 2, rxDelay := sfld r 10 2 } else e
        if fbit r 1 1 2 then { e with rho := fld r 6 2 } else e), countRecip s ] }

/-- SURVEY_CORR_GET (0x0A07). -/
def cmdSurveyCorrGet : CmdDef :=
  { op := 0x0A07, kind := .r, len := fixed 1, units := pathUnits 0, fields := fun _ _ => [⟨0, 1, .unit .path⟩]
    answer := fun _ r s =>
      let p := fld r 0 1
      let e := elemOf s p
      (stOK, leBytes 1 p ++ leBytes 1 0 ++ leBytes 2 e.txCorr ++ leBytes 2 e.rxCorr ++ leBytes 2 e.rho ++ leSigned 2 e.txDelay ++
        leSigned 2 e.rxDelay ++ leBytes 2 e.txDrift ++ leBytes 2 e.rxDrift ++ leBytes 2 (recipOf s p) ++
        leBytes 1 (tget 0 s.survey.failStreak p) ++ leBytes 1 0 ++ leBytes 4 (tget 0 s.survey.lastMeas p)) }

/-- SURVEY_TEMP_SET (0x0A08): the drift terms follow at its boundary, by a latch of each sheet it affects. -/
def cmdSurveyTempSet : CmdDef :=
  { op := 0x0A08, kind := .t, len := fixed 12, units := pathUnits 0, keys := fun r => [fld r 0 1]
    fields := fun _ _ => [⟨0, 1, .unit .path⟩, ⟨1, 1, .zero⟩, ⟨10, 2, .zero⟩] }

/-- SURVEY_TEMP_GET (0x0A09). -/
def cmdSurveyTempGet : CmdDef :=
  { op := 0x0A09, kind := .r, len := fixed 1, units := pathUnits 0, fields := fun _ _ => [⟨0, 1, .unit .path⟩]
    answer := fun _ r s => (stOK, tempRec s (fld r 0 1)) }

end Sys2Proof.Machine
end

