-- ==== Sys2Proof/Machine/Front.lean ====
section
/-! DEFINITION. Bias outputs, bias clears and coexistence (14_front_end_control R301 to R312, R325 to R329). -/

namespace Sys2Proof.Machine

open Sys2Proof

/-! ### Settings of a bias DAC (R303 to R307) -/

/-- Number of spans of a DAC. -/
def biasSpans (n : Nat) : Nat := if n < 128 then 4 else 3

/-- A BIAS_SET of a DAC comes into force at `b` (R304 to R306). -/
def biasSet (n b : Nat) (r : Rec) : Prog := .ask fun s =>
  let d := biasDac s n
  let clr := fld r 6 2
  let span := fld r 2 1
  .seq (setSetting 0x0C01 n r)
    (if !fbit r 1 1 0 then whenP d.configured (modDac n fun x => { x with out := clr, clr := clr, phase := some b, swap := none })
     else .seq
      (if !d.configured then modDac n fun x => { x with configured := true, span := span, clr := clr, out := clr, phase := some b }
       else if d.span != span then modDac n fun x => { x with out := x.clr, swap := some (b, span, false), phase := none }
       else .ask fun t => modDac n fun x => { x with
         clr := clr, cleared := biasHeld t n, out := if biasHeld t n || x.phase.isSome then clr else biasOut s n, since := upNs s })
      (biasRefresh n))

/-- BIAS_CLEAR_PHASE_END (R304): 20 µs at CLR_CODE are over. -/
def execBiasClearPhaseEnd (dac : Nat) (s : State) : Host.Outcome State Fault Refusal :=
  done (match (biasDac s dac).phase with
    | some t => whenP (due s (add32 t 20000)) (
        if biasEnable s dac then modDac dac fun x => { x with phase := none, cleared := biasHeld s dac, since := upNs s }
        else modDac dac fun _ => bias0)
    | none => .skip) s

/-- SPAN_SWITCH (R306): at B + 2 µs the span switches, at B + 22 µs the effective code applies. -/
def execSpanSwitch (dac : Nat) (s : State) : Host.Outcome State Fault Refusal :=
  done (match (biasDac s dac).swap with
    | some (b, span, false) => whenP (due s (add32 b 2000)) (modDac dac fun x => { x with
        span := span, clr := fld (biasRec s dac) 6 2, out := fld (biasRec s dac) 6 2, swap := some (b, span, true) })
    | some (b, _, true) => whenP (due s (add32 b 22000)) (modDac dac fun x => { x with swap := none, cleared := biasHeld s dac, since := upNs s })
    | none => .skip) s

/-- BIAS_SETTLED (R305): a configured output that drives its effective code has reached it. -/
def execBiasSettled (dac : Nat) (s : State) : Host.Outcome State Fault Refusal :=
  let d := biasDac s dac
  done (whenP (d.configured && biasEnable s dac && !biasCleared d && biasOut s dac == d.target) (modDac dac fun x => { x with out := x.target })) s

/-- Longest time in ns in which an output reaches its effective code (R305). -/
def settleNs (s : State) (n : Nat) : Nat :=
  let d := biasDac s n
  let slew := fld (biasRec s n) 12 2
  let sc := biasScale n d.span
  (if slew = 0 then 0 else ceilDiv (((d.target : Int) - d.out).natAbs * sc.1 * 1000) (sc.2 * slew)) + 5000

/-- Configured and enabled DACs of a sheet. -/
def sheetDacs (s : State) (n : Nat) : List Nat :=
  (s.bias.dac.map (·.1)).filter fun k => dacSheet k == n && (biasDac s k).configured && biasEnable s k

/-! ### Bias clears (R310 to R312) -/

/-- A bias clear begins on some sheets: their outputs clear, their transmit paths are held, and campaigns they are in are
abandoned, each of the sheets repeating a quick survey alone. -/
def biasClear (ns : List Nat) : Prog := seqs
  [ modBias fun b => { b with clear := b.clear ||| maskOf ns },
    each ns fun n => setHold n holdBias,
    biasFollow,
    .ask fun s => each (s.survey.camps.filter fun c => ns.any fun n => c.sheets.testBit n) fun c => seqs
      [ dropCamp c.number, each (setBits 4 c.sheets) fun k => rejectSheet k 5,
        if c.full then surveyDone c.number 0x0B
        else each (setBits 4 c.sheets) fun k => .ask fun t => startCamp false false (2 ^ k) (now t) none ] ]

/-- BIASCLR_N is low. -/
def clearPinLow (s : State) : Bool := decide (upNs s < s.bias.pinLow)

/-- BIASCLR_N_ACCEPT (R311): a low level, of which `lowNs` lie behind or ahead of its acceptance at 40 ns, clears every fitted
sheet. -/
def execBiasclrNAccept (lowNs : Nat) (s : State) : Host.Outcome State Fault Refusal :=
  done (whenP (decide (40 ≤ lowNs) && domOn s dAO) (seqs
    [ modBias fun b => { b with pinLow := upNs s + (lowNs - 40), pinSeen := true },
      biasClear (sheets s), raise (evCode 12 4) noUnit [] ])) s

/-- A reading of the −10 V supply, mV (R312): two above −9,000 declare its fault and clear the sheets that use it, two at or
below −9,500 end it. -/
def supplyJudge (v : Int) : Prog := .ask fun s =>
  let bad := if -9000 < v then s.bias.negBad + 1 else 0
  let good := if v ≤ -9500 then s.bias.negGood + 1 else 0
  let users := (sheets s).filter fun n => (sheetDacs s n).any fun k => decide (k < 128) && decide (1 ≤ (biasDac s k).span)
  seqs
    [ modBias fun b => { b with negBad := min 2 bad, negGood := min 2 good },
      whenP (decide (2 ≤ bad) && s.bias.vneg == 0) (seqs
        [ modBias fun b => { b with vneg := maskOf (sheets s) }, biasClear users, setFault 8, raiseFl 2 (evCode 12 5) noUnit [v] ]),
      whenP (decide (2 ≤ good)) (modBias fun b => { b with vneg := 0 }) ]

/-! ### Supervision (R309) -/

/-- A declared condition and its count of samples against it, after one more sample; `need` samples declare, three clear. -/
def judgeSample (need : Nat) (declared : Bool) (n : Nat) (found : Bool) : Bool × Nat :=
  if found == declared then (declared, 0)
  else if (if found then need else 3) ≤ n + 1 then (found, 0) else (declared, n + 1)

/-- The element of a DAC is isolated in both directions. -/
def biasIsolate (s : State) (n : Nat) : Prog :=
  match biasElement s n with
  | some e => isolate 2 1 (e + 256 + 512)
  | none => .skip

/-- BIAS_SUPERVISE_SAMPLE (R309): for a voltage output `over` is current limit over 10 µs; for a current output `over` is above
1.30 V and `far` above 1.60 V, in samples at least 50 µs apart. -/
def execBiasSuperviseSample (dac : Nat) (excess far : Bool) (s : State) : Host.Outcome State Fault Refusal :=
  let d := biasDac s dac
  let n := dacSheet dac
  let flags := fld (biasRec s dac) 1 1
  let short := judgeSample 1 d.short d.nShort excess
  let comp := judgeSample 3 d.compliance d.nComp excess
  let open_ := judgeSample 3 d.openLoad d.nOpen (far && decide (8 ≤ fld (biasRec s dac) 4 2))
  let ready := match d.sampled with
    | some t => decide (t + 50000 ≤ upNs s)
    | none => true
  done (whenP d.configured (if dac < 128 then seqs
      [ modDac dac fun x => { x with short := short.1, nShort := short.2 },
        whenP (short.1 && !d.short) (seqs
          [count blkBias n 2, raise (evCode 12 1) dac [], whenP (flags.testBit 3) (biasIsolate s dac)]) ]
    else whenP ready (seqs
      [ modDac dac fun x => { x with sampled := some (upNs s) },
        modDac dac fun x => { x with compliance := comp.1, nComp := comp.2, openLoad := open_.1, nOpen := open_.2 },
        whenP (comp.1 && !d.compliance) (.seq (count blkBias n 4) (raise (evCode 12 2) dac [])),
        whenP (open_.1 && !d.openLoad) (seqs
          [count blkBias n 3, raise (evCode 12 3) dac [], whenP (flags.testBit 4) (biasIsolate s dac)]) ]))) s

/-! ### Bias commands (R329) -/

/-- BIAS.STATUS of a sheet. -/
def biasStatusWord (s : State) (n : Nat) : Nat :=
  let used := (List.range 144).filter fun k => dacSheet k == n && biasEnable s k
  bit (used != [] && used.all fun k => (biasDac s k).configured) + 4 * bit (s.bias.clear.testBit n) + 8 * bit (s.bias.vneg.testBit n) +
    16 * bit ((sheetDacs s n).any fun k => !biasCleared (biasDac s k) && biasOut s k != (biasDac s k).target)

/-- BIAS.VDAC or BIAS.IDAC of a DAC. -/
def biasDacWord (s : State) (n : Nat) : Nat :=
  let b := biasDac s n
  let top := 2 ^ 24 * b.span + 2 ^ 26 * bit (!b.configured) + 2 ^ 27 * bit (biasCleared b)
  if n < 128 then biasOut s n + 4096 * b.target + top + 2 ^ 28 * bit b.short
  else biasOut s n + 1024 * b.target + top + 2 ^ 28 * bit b.compliance + 2 ^ 29 * bit b.openLoad

/-- Sheet of the DAC at offset 0 of a record. -/
def dacUnits (r : Rec) : List Nat := [uSHEET (dacSheet (fld r 0 1))]

/-- BIAS_SET (0x0C01). -/
def cmdBiasSet : CmdDef :=
  { op := 0x0C01, kind := .t, len := fixed 20, units := dacUnits, keys := fun r => [fld r 0 1]
    fields := fun _ r =>
      let n := fld r 0 1
      let top := topCode n
      [ ⟨0, 1, .unit .dac⟩, ⟨1, 1, .bits 0x1F⟩, ⟨2, 1, .uns 0 (biasSpans n - 1)⟩, ⟨3, 1, .cond (decide (fld r 3 1 ≤ 15 ∨ fld r 3 1 = 255))⟩,
        ⟨4, 2, .uns 0 top⟩, ⟨6, 2, .uns 0 top⟩, ⟨8, 2, .uns 0 (min top (fld r 10 2))⟩, ⟨10, 2, .uns (fld r 8 2) top⟩, ⟨12, 2, .uns 0 10000⟩,
        ⟨16, 2, .uns 0 top⟩ ]
    legal := fun r s =>
      let n := fld r 0 1
      let x := sh s (dacSheet n)
      let toTx := match x.trans with
        | some t => t.1 == .tx
        | none => false
      if (biasDac s n).configured && fbit r 1 1 0 && (biasDac s n).span != fld r 2 1 && (x.state == .tx || toTx) then stSTATE else stOK
    apply := fun b r => biasSet (fld r 0 1) b r }

/-- BIAS_GET (0x0C02). -/
def cmdBiasGet : CmdDef :=
  { op := 0x0C02, kind := .r, len := fixed 1, units := dacUnits, fields := fun _ _ => [⟨0, 1, .unit .dac⟩]
    answer := fun _ r s => (stOK, biasRec s (fld r 0 1)) }

/-- BIAS_GAIN_SET (0x0C03): CODE = BASE_CODE + ROUND(MAG × SLOPE / 16), clamped to the top code (R307). -/
def cmdBiasGainSet : CmdDef :=
  { op := 0x0C03, kind := .t, len := fixed 4, units := dacUnits, keys := fun r => [fld r 0 1], store := 0x0C01, stores := false
    fields := fun _ _ => [⟨0, 1, .unit .dac⟩, ⟨1, 1, .zero⟩, ⟨2, 2, .cb .magOnly⟩]
    apply := fun _ r => .ask fun s =>
      let n := fld r 0 1
      let b := biasRec s n
      let code : Int := (fld b 16 2 : Nat) + divRna (cbMag (fld r 2 2) * sfld b 18 2) 16
      let c := clampI 0 (topCode n) code
      seqs
        [ whenP (c != code) (count blkBias (dacSheet n) 0), setSetting 0x0C01 n (putAt b 4 (leBytes 2 c.toNat)),
          whenP ((biasDac s n).configured && fbit b 1 1 0) (biasRefresh n) ] }

/-- BIAS_STATUS (0x0C04). -/
def cmdBiasStatus : CmdDef :=
  { op := 0x0C04, kind := .r, len := fixed 2, units := fun r => [uSHEET (fld r 0 1)]
    fields := fun _ _ => [⟨0, 1, .unit .sheet⟩, ⟨1, 1, .bits 1⟩]
    answer := fun _ r s => (stOK, leBytes 4 (biasStatusWord s (fld r 0 1)) ++ cntBytes s blkBias (fld r 0 1) 5 ++
      leBytes 4 (satBits s blkBias (fld r 0 1) 5))
    effect := fun _ r => whenP (fbit r 1 1 0) (clearCnts blkBias (fld r 0 1) 5) }

/-- Sheets a BIAS_RESTORE names. -/
def restoreSheets (s : State) (r : Rec) : List Nat := if fld r 0 1 = 255 then sheets s else [fld r 0 1]

/-- BIAS_RESTORE (0x0C05): outputs return to their effective codes, and the hold ends once the last has settled (R311). -/
def cmdBiasRestore : CmdDef :=
  { op := 0x0C05, kind := .n, len := fixed 4, units := fun r => if fld r 0 1 = 255 then [] else [uSHEET (fld r 0 1)]
    fields := fun s r => [⟨0, 1, .cond (decide (fld r 0 1 ≤ 3 ∨ fld r 0 1 = 255))⟩, ⟨0, 1, .fit (fld r 0 1 == 255 || sheetFit s (fld r 0 1))⟩] ++ rsv 1 3
    own := fun _ r s => if clearPinLow s || (restoreSheets s r).any fun n => s.bias.vneg.testBit n then stSTATE else stOK
    effect := fun _ r => .ask fun s =>
      let ns := (restoreSheets s r).filter fun n => s.bias.clear.testBit n
      seqs
        [ modBias fun b => { b with clear := andNot b.clear (maskOf ns) }, biasFollow,
          .ask fun t => each ns fun n => endHold n holdBias
            (add32 (now t) (maxN (((sheetDacs t n).filter fun k => !(biasDac t k).cleared).map (settleNs t)) : Nat)) ] }

/-! ### Coexistence (R325 to R328) -/

/-- COEX_SET record in force. -/
def coexRec (s : State) : Rec :=
  setting s 0x0C30 0 ([0, 1] ++ leBytes 2 20 ++ leBytes 2 5 ++ leBytes 2 1 ++ leBytes 2 100 ++ zeros 2)

/-- DENY_MUTE. -/
def denyMute (s : State) : Bool := fbit (coexRec s) 1 1 0

/-- Some sheet is in TX. -/
def someTx (s : State) : Bool := (sheets s).any fun n => (sh s n).state == .tx

/-- Effective times of transitions into TX, armed or in progress. -/
def txEntries (s : State) : List Nat := (sheets s).flatMap fun n =>
  let r := sh s n
  (match r.trans with
    | some (.tx, te) => [te]
    | _ => []) ++ (r.timers.filter fun t => t.2.action == 4).map fun t => t.2.tE

/-- The effective time that will bring the first sheet into TX. -/
def firstTx (s : State) : Option Nat :=
  match if someTx s then [] else txEntries s with
  | [] => none
  | a :: l => some (l.foldl (fun x y => if int32Diff y x < 0 then y else x) a)

/-- Every sheet's transmit is held for coexistence: at once, or in whole symbols. -/
def coexHold (whole : Bool) : Prog := .ask fun s => each (sheets s) fun n => setHold n (if whole then holdCoexWhole else holdCoex)

/-- The coexistence holds end at the first symbol start at or after a datum time. -/
def coexRelease (t : Nat) : Prog := .ask fun s => each (sheets s) fun n => .seq (endHold n holdCoex t) (endHold n holdCoexWhole t)

/-- COEX_ROLE_TAKE_EFFECT (R325). -/
def execCoexRoleTakeEffect (s : State) : Host.Outcome State Fault Refusal :=
  done (match s.coex.next with
    | some (role, b) => whenP (due s (add32 b 10000)) (modCoex fun c => { c with role := role, next := none })
    | none => .skip) s

/-- COEX_REQ_RAISE (R326): REQ_LEAD before the first transition into TX. -/
def execCoexReqRaise (s : State) : Host.Outcome State Fault Refusal :=
  done (match firstTx s with
    | some te => whenP (s.coex.role == 1 && !s.coex.req && due s (add32 te (-1000 * (fld (coexRec s) 2 2 : Int)))) (seqs
        [ modCoex fun c => { c with req := true, pri := fbit (coexRec s) 1 1 1, left := none }, count blkCoex 0 2 ])
    | none => .skip) s

/-- REQ stands for the next transition into TX: REQ_LEAD before it has come. -/
def coexLead (s : State) : Bool := (firstTx s).any fun te => due s (add32 te (-1000 * (fld (coexRec s) 2 2 : Int)))

/-- COEX_REQ_DROP (R326): REQ_TAIL after the last sheet left TX, unless REQ stands for the next. -/
def execCoexReqDrop (s : State) : Host.Outcome State Fault Refusal :=
  done (match s.coex.left with
    | some te => whenP (s.coex.role == 1 && !someTx s && !coexLead s && due s (add32 te (1000 * (fld (coexRec s) 6 2 : Int))))
        (modCoex fun c => { c with req := false, pri := false, left := none, sampled := none })
    | none => .skip) s

/-- COEX_GNT_SAMPLE (R326): GNT at t_e − GNT_SETUP of the first transition into TX. -/
def execCoexGntSample (s : State) : Host.Outcome State Fault Refusal :=
  done (match firstTx s with
    | some te => whenP (s.coex.role == 1 && s.coex.sampled != some te && due s (add32 te (-1000 * (fld (coexRec s) 4 2 : Int)))) (.seq
        (modCoex fun c => { c with sampled := some te })
        (whenP (!s.coex.gnt) (if denyMute s then coexHold true else count blkCoex 0 1)))
    | none => .skip) s

/-- COEX_GNT_CHANGE (R326): a rise ends a hold 1 µs later; a fall while transmission is requested places one. -/
def execCoexGntChange (level : Bool) (s : State) : Host.Outcome State Fault Refusal :=
  done (whenP (s.coex.role == 1 && s.coex.gnt != level) (.seq (modCoex fun c => { c with gnt := level })
    (if level then coexRelease (add32 (now s) 1000)
      else whenP (denyMute s && (someTx s || s.coex.sampled.isSome)) (coexHold false)))) s

/-- The first condition of R327: no sheet in TX and no transition into TX within GUARD. -/
def coexClear (s : State) : Bool :=
  !someTx s && (txEntries s).all fun te => decide ((1000 * (fld (coexRec s) 8 2 : Int)) < int32Diff te (now s))

/-- As arbiter, GNT rises with every sheet's transmit held in whole symbols. -/
def coexGrant : Prog := .seq (modCoex fun c => { c with gnt := true, wait := none }) (coexHold true)

/-- COEX_REQ_CHANGE (R327): as arbiter. -/
def execCoexReqChange (req pri : Bool) (s : State) : Host.Outcome State Fault Refusal :=
  done (whenP (s.coex.role == 2) (seqs
    [ modCoex fun c => { c with req := req, pri := pri },
      if req && !s.coex.req then .seq (count blkCoex 0 2) (if coexClear s then coexGrant
        else modCoex fun c => { c with wait := some (if pri && fbit (coexRec s) 1 1 2 then some (add32 (now s) 1000) else none) })
      else whenP (!req && s.coex.req) (.seq (modCoex fun c => { c with gnt := false, wait := none })
        (coexRelease (add32 (now s) 1000))) ])) s

/-- A deferred grant is given: at the first symbol start at or after its time, or as soon as the first condition holds. -/
def coexWait : Prog := .ask fun s =>
  match s.coex.wait with
  | some (some t) => whenP (s.coex.role == 2 && due s (firstSymbol s t)) coexGrant
  | some none => whenP (s.coex.role == 2 && coexClear s) coexGrant
  | none => .skip

/-- COEX.STATUS. -/
def coexStatusWord (s : State) : Nat :=
  bit s.coex.req + 2 * bit s.coex.pri + 4 * bit s.coex.gnt + 16 * s.coex.role +
    64 * bit ((sheets s).any fun n => (holds s n).testBit holdCoex || (holds s n).testBit holdCoexWhole)

/-- COEX_SET (0x0C30): a change of role first drives the outputs low; the role in force is off until the new one takes effect
(R325). -/
def cmdCoexSet : CmdDef :=
  { op := 0x0C30, kind := .t, len := fixed 12, keys := fun _ => [0]
    fields := fun _ r => [⟨0, 1, .uns 0 2⟩, ⟨1, 1, .bits 7⟩, ⟨2, 2, .uns 0 100⟩, ⟨4, 2, .uns 0 (fld r 2 2)⟩, ⟨6, 2, .uns 0 10⟩,
      ⟨8, 2, .uns 0 1000⟩, ⟨10, 2, .zero⟩]
    apply := fun b r => .ask fun s => whenP (fld r 0 1 != fld (coexRec s) 0 1) (.seq
      (modCoex fun c => { c with
        role := 0, next := some (fld r 0 1, b), req := false, gnt := false, pri := false, wait := none, left := none, sampled := none })
      (coexRelease b)) }

/-- COEX_STATUS (0x0C31). -/
def cmdCoexStatus : CmdDef :=
  { op := 0x0C31, kind := .r, len := fixed 1, fields := fun _ _ => [⟨0, 1, .bits 1⟩]
    answer := fun _ _ s => (stOK, leBytes 4 (coexStatusWord s) ++ cntBytes s blkCoex 0 3 ++ leBytes 4 (satBits s blkCoex 0 3))
    effect := fun _ r => whenP (fbit r 0 1 0) (clearCnts blkCoex 0 3) }

end Sys2Proof.Machine
end

