-- ==== Sys2Proof/Machine/Dpd.lean ====
section
/-! DEFINITION. Predistortion: tables, adaptation states, the alignment of captures, the solution and its commit
(09_predistortion_observation R185 to R208). -/

namespace Sys2Proof.Machine

open Sys2Proof

/-! ### Settings (R210) -/

/-- Reset of DPD_CONFIG. -/
def dpdReset : Rec :=
  [2, 0, 8, 8] ++ leBytes 2 8192 ++ leBytes 2 1600 ++ leSigned 2 (-160) ++ leSigned 2 (-120) ++ [4, 8] ++ leBytes 2 10 ++
    leBytes 2 20 ++ zeros 2

/-- DPD_CONFIG record in force. -/
def dpdRec (s : State) : Rec := setting s 0x0901 0 dpdReset

/-- DPD_PATH_SET record in force. -/
def dpdPathRec (s : State) (p : Nat) : Rec :=
  setting s 0x0902 p (dpdPathReset p)

/-- MODE of a path's record. -/
def dpdMode (r : Rec) : Nat := fld r 1 1
/-- M, the number of memory taps. -/
def dpdTaps (r : Rec) : Nat := slice (fld r 3 1) 3 0
/-- Lags in use, as j of the table number. -/
def dpdLags (r : Rec) : List Nat := if fbit r 3 1 4 then [0, 1, 2] else [1]
/-- K, the terms of a main table. -/
def dpdOrder (r : Rec) : Nat := fld r 4 1
def dpdNbrs (r : Rec) : Nat := slice (fld r 5 1) 2 0
def dpdXcTaps (r : Rec) : Nat := 1 + bit (fbit r 5 1 3)
/-- XC_K, the terms of a cross table. -/
def dpdXcOrder (r : Rec) : Nat := slice (fld r 5 1) 7 4

/-- Tables of a structure, ascending, each with its number of terms (R187). -/
def dpdTables (r : Rec) : List (Nat × Nat) :=
  ((List.range (dpdTaps r)).flatMap fun m => (dpdLags r).map fun j => (3 * m + j, dpdOrder r)) ++
    (List.range (dpdNbrs r)).flatMap fun k => (List.range (dpdXcTaps r)).map fun m => (24 + 2 * k + m, dpdXcOrder r)

/-- Coefficients of a structure in the order of their columns, as table × 8 + term. -/
def dpdKeys (r : Rec) : List Nat := (dpdTables r).flatMap fun t => (List.range t.2).map fun k => 8 * t.1 + k

/-! ### Tables of polynomials in binary64 (R203) -/

/-- A value m × 2^e rounded to 53 bits, ties to even. -/
def dRound (m e : Int) : Int × Int :=
  let d := bitLen m.natAbs - 53
  (divRne m (2 ^ d), e + (d : Nat))

/-- A sum in binary64. -/
def dAdd (a b : Int × Int) : Int × Int :=
  let e := min a.2 b.2
  dRound (a.1 * 2 ^ (a.2 - e).toNat + b.1 * 2 ^ (b.2 - e).toNat) e

/-- One component of a table entry: ROUND(8,192 × Σ β_k (i / 64)^k), terms ascending, and whether it is clamped. -/
def tableComp (beta : List F32) (i : Nat) : Int × Bool :=
  let sum := beta.zipIdx.foldl (fun a p => match p.1 with
    | some (m, e) => dAdd a (dRound (m * (i ^ p.2 : Nat)) (e - 6 * (p.2 : Nat)))
    | none => a) ((0, 0) : Int × Int)
  let e := sum.2 + 13
  let v := if 0 ≤ e then sum.1 * 2 ^ e.toNat else divRna sum.1 (2 ^ (-e).toNat)
  (clampI (-32768) 32767 v, decide (v < -32768) || decide (32767 < v))

/-- The 64 entries of a table. -/
def tableOf (beta : List C32) : List ((Int × Bool) × (Int × Bool)) :=
  (List.range 64).map fun i => (tableComp (beta.map (·.1)) i, tableComp (beta.map (·.2)) i)

/-- Coefficients of a path: β_0 of table 1 is 1 until it changes (R210, R191). -/
def betaAt (b : Tab C32) (key : Nat) : C32 := tget (if key = 8 then (fOf 1 0, f0) else cZero) b key

/-- Terms of one table. -/
def tableBeta (b : Tab C32) (t : Nat × Nat) : List C32 := (List.range t.2).map fun k => betaAt b (8 * t.1 + k)

/-- Bytes of a table. -/
def tableBytes (l : List ((Int × Bool) × (Int × Bool))) : Rec := l.flatMap fun x => leSigned 2 x.1.1 ++ leSigned 2 x.2.1

/-- Offset of a table in the coefficient RAM (R190). -/
def coefOff (p bank t : Nat) : Nat := p * 0x4000 + bank * 0x2000 + t * 256

/-- The first write of a set copies the bank in force into the other one (R190). -/
def openSet (p : Nat) : Prog := .ask fun s =>
  let q := dpdOf s p
  whenP (!q.pending) (seqs
    [ .upd (.copy .coef (coefOff p q.bank 0) (coefOff p (1 - q.bank) 0) 0x2000),
      noteWrite 6 (coefOff p (1 - q.bank) 0) 0x2000,
      modPath p fun x => { x with pending := true } ])

/-- The tables of a structure are written into the pending bank from coefficients. -/
def writeSet_ (p : Nat) (r : Rec) (b : Tab C32) : Prog := .seq (openSet p) (.ask fun s =>
  each (dpdTables r) fun t => store .coef 6 (coefOff p (1 - (dpdOf s p).bank) t.1) (tableBytes (tableOf (tableBeta b t))))

/-- Entry 0 of table 1 of a bank. -/
def smallSignal (s : State) (p bank : Nat) : Int × Int :=
  let r := readBytes s .coef 6 (coefOff p bank 1) 4
  (sfld r 0 2, sfld r 2 2)

/-! ### States (R199, R200, R207) -/

/-- A sheet has an observation receiver in service. -/
def hasReceiver (s : State) (n : Nat) : Bool := inService s (uORX (2 * n)) || inService s (uORX (2 * n + 1))

/-- The conditions under which a path requests leases (R200). -/
def dpdCond (s : State) (p : Nat) : Bool :=
  elActive s 0 p && !fbit (txPathRec s p) 1 1 0 && txReadyNow s (p / 16) && !toneOn s p && couplerValid s p &&
    hasReceiver s (p / 16) && domOn s dDPDE && !engineLost s

/-- A lease, a capture or a solution of the path is under way. -/
def dpdBusy (s : State) (p : Nat) : Bool := dpdUnderWay s.dpd p

/-- A path's adaptation state once the conditions of this moment are taken into account. -/
def pathView (s : State) (p : Nat) : DpdPath :=
  let q := dpdOf s p
  if dpdMode (dpdPathRec s p) != 2 || q.state == 5 then q
  else if dpdCond s p then
    (if q.state = 2 then { q with state := if q.gT.isSome then 4 else 3, since := upNs s } else q)
  else if q.state = 3 ∨ q.state = 4 then dpdHalt s.dpd p q
  else q

/-- Every adapting path follows the conditions of this moment. -/
def dpdRefresh : Prog := .ask fun s => each ((s.dpd.path.map (·.1)).filter fun p => pathView s p != dpdOf s p) fun p =>
  .seq (whenP ((pathView s p).state == 2) (modDpd (cutCycle p))) (modPath p fun _ => pathView s p)

/-- A synthesizer calibration starts on a sheet (R207). -/
def dpdCancel (n : Nat) : Prog := .ask fun s => each ((List.range 16).map fun i => 16 * n + i) fun p =>
  whenP ((tfind s.dpd.path p).isSome)
    (.seq (modDpd (cutCycle p)) (modPath p fun q => { dpdHalt s.dpd p q with gT := none }))

/-- The path requests a lease for adaptation: one cycle at a time. -/
def dpdWants (s : State) (p : Nat) : Bool :=
  let q := dpdOf s p
  dpdMode (dpdPathRec s p) == 2 && (q.state == 3 || q.state == 4) && dpdCond s p && q.staged.isNone && !dpdBusy s p

/-! ### Alignment of a capture (R202) -/

/-- A stream delayed by whole samples, in its own span. -/
def delayBy (d : Int) (x : List (Int × Int)) : List (Int × Int) :=
  if 0 ≤ d then ((List.replicate d.toNat (0, 0)) ++ x).take x.length
  else x.drop (-d).toNat ++ List.replicate (min x.length (-d).toNat) (0, 0)

/-- L_k of the 8-tap interpolator for a fraction of f sixteenths (08 R175). -/
def lagrange (f k : Int) : Int :=
  let ms := ([-3, -2, -1, 0, 1, 2, 3, 4] : List Int).filter fun m => m != k
  let num := ms.foldl (fun a m => a * (f - 16 * m)) 1
  let den := ms.foldl (fun a m => a * (16 * (k - m))) 1
  divRna (32768 * num * (if den < 0 then -1 else 1)) den.natAbs

/-- A stream delayed by d sixteenths of a sample, each component rounded (08 R175). -/
def fracDelay (d : Int) (x : List (Int × Int)) : List (Int × Int) :=
  let parts := ([-3, -2, -1, 0, 1, 2, 3, 4] : List Int).map fun k =>
    let l := lagrange (d % 16) k
    (delayBy (d / 16 + k) x).map fun z => (l * z.1, l * z.2)
  let sums := parts.foldl (fun a b => (a.zip b).map fun p => (p.1.1 + p.2.1, p.1.2 + p.2.2)) (x.map fun _ => ((0, 0) : Int × Int))
  sums.map fun z => cdiv z 32768

/-- Σ z × conj(x). -/
def corrSum (z x : List (Int × Int)) : Int × Int := csum ((z.zip x).map fun p => cmul p.1 (p.2.1, -p.2.2))

/-- Σ |x|². -/
def energy (x : List (Int × Int)) : Int := sumI (x.map fun z => z.1 * z.1 + z.2 * z.2)

/-- |z|². -/
def norm2 (z : Int × Int) : Int := z.1 * z.1 + z.2 * z.2

/-- The integer delay of the correlation peak over ±64 samples. -/
def peakDelay (z x : List (Int × Int)) : Int :=
  let at_ := fun d : Int => norm2 (corrSum (delayBy (-d) z) x)
  ((List.range 129).foldl (fun (a : Int × Int) (i : Nat) =>
    let d := (i : Int) - 64
    if a.2 < at_ d then (d, at_ d) else a) (-64, at_ (-64))).1

/-- Magnitude of a correlation, with 32 fractional bits. -/
def corrMag (z : Int × Int) : Int := (Nat.sqrt ((norm2 z).toNat * 2 ^ 64) : Nat)

/-- Sixteenths of a sample from the peak to the vertex of the parabola through the magnitudes before, at and after it
(assumption log 31). -/
def parabola (a b c : Int) : Int := if a + c < 2 * b then divRna (8 * (c - a)) (2 * b - a - c).toNat else 0

/-- An observation aligned to its stream. -/
def alignTo (z x : List (Int × Int)) : List (Int × Int) :=
  let d := peakDelay z x
  let c := fun k : Int => corrMag (corrSum (delayBy (-(d + k)) z) x)
  fracDelay (-(16 * d + parabola (c (-1)) (c 0) (c 1))) z

/-- The normalised correlation peak reaches 0.95. -/
def aligned95 (z x : List (Int × Int)) : Bool :=
  let e := energy z * energy x
  decide (e ≠ 0) && decide (361 * e ≤ 400 * norm2 (corrSum z x))

/-- The RMS of a stream lies below a level in wide qdB against full scale 32,768. -/
def belowRms (x : List (Int × Int)) (m : Int) : Bool :=
  decide ((energy x).toNat ^ 40 * 10 ^ (-m).toNat < (x.length * 2 ^ 30) ^ 40 * 10 ^ m.toNat)

/-! ### The solution (R203, R204) -/

/-- a[n] of R186. -/
def ampOf (z : Int × Int) : Nat := min (Nat.sqrt (z.1 * z.1 + z.2 * z.2).toNat) 32767

/-- x^0 to x^(k−1) in binary32, each from the one before. -/
def powersOf (a : F32) : Nat → List F32 → List F32
  | 0, acc => acc
  | k + 1, acc => powersOf a k (acc ++ [match acc.getLast? with
    | some p => fMul p a
    | none => fOf 1 0])

/-- Basis columns of one table: the stream at tap m, the amplitude at tap m and lag l. -/
def basisOf (x : List (Int × Int)) (a : List (Int × Int)) (m l : Int) (terms : Nat) : List (List C32) :=
  let rows := ((delayBy m x).zip (delayBy (m + l) a)).map fun p =>
    (powersOf (fOf (ampOf p.2 : Nat) (-15)) terms []).map fun w => cScale w (cOf p.1)
  (List.range terms).map fun k => rows.map fun r => r.getD k cZero

/-- Basis columns of a structure, tables ascending and terms ascending within each. -/
def dpdBasis (r : Rec) (c : DpdCapture) : List (List C32) := (dpdTables r).flatMap fun t =>
  if t.1 < 24 then basisOf c.x c.x (t.1 / 3 : Nat) ((t.1 % 3 : Nat) - (1 : Int)) t.2
  else basisOf (c.nbr.getD ((t.1 - 24) / 2) []) c.x ((t.1 - 24) % 2 : Nat) 0 t.2

/-- A stream through the adapter's low-pass. -/
def lowpass (h : List F32) (x : List C32) : List C32 :=
  h.zipIdx.foldl (fun acc p =>
    (acc.zip ((List.replicate p.2 cZero ++ x).take x.length)).map fun q => cAdd q.1 (cScale p.1 q.2)) (x.map fun _ => cZero)

/-- Σ |z|² of binary32 values, exact, as a fraction. -/
def energy32 (x : List C32) : Nat × Nat :=
  let s := x.foldl (fun (a : Int × Int) z =>
    let v := cExact z
    let e := min a.2 (2 * v.2.2)
    (a.1 * 2 ^ (a.2 - e).toNat + (v.1 * v.1 + v.2.1 * v.2.1) * 2 ^ (2 * v.2.2 - e).toNat, e)) (0, 0)
  if 0 ≤ s.2 then (s.1.toNat * 2 ^ s.2.toNat, 1) else (s.1.toNat, 2 ^ (-s.2).toNat)

/-- A solution: its reason code, coefficients, and the energies of the error before and predicted. -/
structure DpdSolution where
  code : Nat
  beta : Tab C32
  cur : Nat × Nat
  pred : Nat × Nat

/-- The CB16 words of two entries differ by more than the guards. -/
def gainJumps (r : Rec) (old new : Int × Int) : Bool :=
  let a := (cbForm old.1 old.2 (8192 * 8192) 1).1
  let b := (cbForm new.1 new.2 (8192 * 8192) 1).1
  let d := toSigned 9 ((cbPh b + 512 - cbPh a) % 512)
  decide (fld r 12 1 < (cbMag b - cbMag a).natAbs) || decide (fld r 13 1 < d.natAbs) || (cbNull a != cbNull b)

/-- The adapter's solution of a capture against a target gain. -/
def dpdSolve (s : State) (p : Nat) (c : DpdCapture) (g : Int × Int × Nat) : DpdSolution :=
  let cfg := dpdRec s
  let r := dpdPathRec s p
  let gt : C32 := (fDiv (fOf g.1 0) (fOf (g.2.2 : Nat) 0), fDiv (fOf g.2.1 0) (fOf (g.2.2 : Nat) 0))
  let h := Config.dpdLowpass (fld cfg 6 2)
  let e := lowpass h ((c.z.zip c.x).map fun q => cSub (cDiv (cOf q.1) gt) (cOf q.2))
  let cols := (dpdBasis r c).map (lowpass h)
  let keys := dpdKeys r
  let a := cols.map fun x => cols.map fun y => cDot y x
  let load := fMul (fPow (sfld cfg 8 2)) (fDiv (fTrace a) (fOf (keys.length : Nat) 0))
  let a1 := loaded a fun _ => load
  let f := ldl a1
  let delta := ldlSolve f (cols.map fun x => cDot e x)
  let mu : F32 := fOf (fld cfg 3 1 : Nat) (-4)
  let step := delta.map (cScale mu)
  let q := dpdOf s p
  let beta : Tab C32 := (keys.zip step).foldl (fun t x => tset t x.1 (cSub (betaAt q.beta x.1) x.2)) []
  let pred := (cols.zip step).foldl (fun acc x => (acc.zip x.1).map fun y => cSub y.1 (cMul x.2 y.2)) e
  let cur := energy32 e
  let new := energy32 pred
  let tabs := (dpdTables r).map fun t => tableOf (tableBeta beta t)
  let bad := !ldlGood a1 f.2 || !delta.all cFinite || !beta.all fun x => cFinite x.2
  let first := match (tableOf (tableBeta beta (1, dpdOrder r))).head? with
    | some x => (x.1.1, x.2.1)
    | none => (0, 0)
  { code := if bad then 5 else if tabs.any fun t => t.any fun x => x.1.2 || x.2.2 then 6
      else if gainJumps cfg (smallSignal s p q.bank) first then 7
      else if cur.1 * new.2 < new.1 * cur.2 then 8 else 0
    beta := beta, cur := cur, pred := new }

/-- A cycle of a path ends with a reason code (R204). -/
def dpdReject (p code : Nat) : Prog := .ask fun s =>
  let n := p / 16
  let streak := if code = 4 then (dpdOf s p).alignStreak + 1 else 0
  seqs
    [ count blkDpd n (if code < 5 then 2 else 1), whenP (code == 3) (count blkDpd n 3), count blkDpd (1000 + p) 1,
      modPath p fun q => { q with
        lastReject := code, solving := false, alignStreak := streak, state := if 8 ≤ streak then 5 else q.state } ]

/-- DPD_SOLVE_DONE (R203 to R205) of the path being solved, one at a time: a set is staged in the pending bank, or the cycle is rejected. -/
def execDpdSolveDone (path : Nat) (s : State) : Host.Outcome State Fault Refusal :=
  done (.seq dpdRefresh (.ask fun s =>
    let q := dpdOf s path
    match q.gT, s.dpd.capture.head? with
    | some g, some c => whenP (c.path == path && q.solving && q.state == 4) (
        let v := dpdSolve s path c g
        let e := fun (x : Nat × Nat) => ofSigned 16 (ratioQdb x.1 (x.2 * (energy c.x).toNat) (toSigned 16 (freeNow s)))
        seqs
          [ whenP (v.cur.1 == 0 || v.pred.1 == 0) drawFree,
            modDpd fun d => { d with capture := d.capture.drop 1 },
            modPath path fun x => { x with eCur := toSigned 16 (e v.cur), ePred := toSigned 16 (e v.pred) },
            if v.code = 0 then seqs
              [ writeSet_ path (dpdPathRec s path) v.beta, count blkDpd (path / 16) 0, count blkDpd (1000 + path) 0,
                modPath path fun x => { x with
                  betaNext := v.beta, staged := some (now s), solving := false, lastReject := 0, alignStreak := 0 } ]
            else dpdReject path v.code ])
    | _, _ => .skip)) s

/-! ### Sets in force (R190, R205, R206, R191) -/

/-- Content of a KIND 0x09 record (01 R39): the 32 tables in force, and the stage-10 values where IQ_TRACK is set. -/
def setContent (s : State) (p : Nat) : Rec :=
  peek s .coef (coefOff p (dpdOf s p).bank 0) 0x2000 ++ (if fbit (txPathRec s p) 1 1 1 then ((txPathRec s p).drop 8).take 12 else [])

/-- The pending set of a path comes into force at `b`. -/
def dpdFlip (p b : Nat) : Prog := modPath p fun q => { q with
  bank := 1 - q.bank, pending := false, setNo := if q.setNo + 1 = 2 ^ 32 then 1 else q.setNo + 1, commitNs := b, bypass := false
  starved := false }

/-- The stage-10 values estimated with an accepted set take effect with it (R205): values the manual does not state. -/
def iqTrack (p : Nat) : Prog := .ask fun s => whenP (fbit (txPathRec s p) 1 1 1) (seqs
  [ setSetting 0x0703 p (putAt (txPathRec s p) 8 ((List.range 4).flatMap (fun i => leBytes 2 (freeAt s i)) ++
      (List.range 2).flatMap fun i => leSigned 2 ((freeAt s (4 + i) % 8192 : Nat) - (4096 : Int)))),
    seqs (List.replicate 6 drawFree) ])

/-- An accepted set of a path is due at a boundary `b` (R206). -/
def dpdDue (s : State) (b p : Nat) : Bool :=
  let c := dpdRec s
  match (dpdOf s p).staged with
  | some t => carValid (txCar s (fld c 1 1)) && decide (((ltxMax s + 50000 : Nat) : Int) ≤ int32Diff b t) &&
      isBoundary s (fld c 0 1) (carMu (txCar s (fld c 1 1))) (extTotal s.datum.ref b)
  | none => false

/-- Order 6 of a boundary: accepted and regenerated sets come into force and are logged; the identity sets of R191 are logged
at the first slot boundary. -/
def dpdCommit (b kind : Nat) : Prog := .seq dpdRefresh (.ask fun s =>
  let slot := (cars s).any fun c => isBoundary s 2 (carMu (refCar s c)) (extTotal s.datum.ref b)
  seqs
    [ each ((paths s).filter fun p => dpdDue s b p || s.dpd.regen.testBit p) fun p => seqs
        [ dpdFlip p b, whenP (dpdOf s p).staged.isSome (iqTrack p),
          modPath p fun q => { q with beta := q.betaNext, staged := none, since := upNs s },
          .ask fun t => logCommit b 9 kind p 0 0 (setContent t p) (dpdOf t p).setNo ],
      modDpd fun d => { d with regen := 0 },
      whenP slot (.seq (each (setBits 64 s.dpd.identity) fun p => .ask fun t => logCommit b 9 kind p 0 0 (setContent t p) 0)
        (modDpd fun d => { d with identity := 0 })) ])

/-! ### Starvation and memory errors (R208, R192) -/

/-- DPD_STARVED (R208): no set for STALE_MAX on an adapting path; DATA the reason, 0 kiln withheld, 1 no receiver, 2 rejections. -/
def execDpdStarved (path : Nat) (s : State) : Host.Outcome State Fault Refusal :=
  done (.seq dpdRefresh (.ask fun s =>
    let q := dpdOf s path
    let why := if !granted s 2 then 0 else if q.lastReject = 0 ∨ q.lastReject = 9 then 1 else 2
    whenP ((q.state == 3 || q.state == 4) && !q.starved && decide (fld (dpdRec s) 14 2 * 1000000000 ≤ upNs s - q.since))
      (.seq (modPath path fun x => { x with starved := true }) (raise (evCode 7 5) path [(why : Nat)])))) s

/-- A table that the predistorter of a path reads holds an uncorrectable entry. -/
def tablesBad (s : State) (p : Nat) : Bool :=
  let r := dpdPathRec s p
  dpdMode r != 0 && (dpdTables r).any fun t => badRange s 6 (coefOff p (dpdOf s p).bank t.1) 256

/-- DPD_COEF_ECC (R192): a table the predistorter reads holds an uncorrectable entry, and the path goes to bypass. -/
def execDpdCoefEcc (path : Nat) (s : State) : Host.Outcome State Fault Refusal :=
  done (whenP (pathFit s path && domOn s (dTXD (path / 16)) && tablesBad s path && !(dpdOf s path).bypass) (seqs
    [ count blkDpd (path / 16) 6, raise (evCode 7 4) path [],
      if dpdMode (dpdPathRec s path) = 2 then
        .seq (modDpd (cutCycle path)) (modPath path fun q => { dpdHalt s.dpd path q with bypass := true, state := 5 })
      else modPath path fun q => { q with bypass := true } ])) s

/-! ### Commands (R210) -/

/-- Every occupied downlink band lies within LIN_BW. -/
def linCovers (s : State) : Bool := (txRecs s).all fun r =>
  decide ((carNco r).natAbs + 5000 * fld r 2 1 ≤ fld (dpdRec s) 6 2 * 5000)

/-- DPD_CONFIG (0x0901). -/
def cmdDpdConfig : CmdDef :=
  { op := 0x0901, kind := .t, len := fixed 20, units := fun _ => [uDPDE], keys := fun _ => [0]
    fields := fun _ r =>
      [ ⟨0, 1, .uns 1 3⟩, ⟨1, 1, .uns 0 7⟩, ⟨2, 1, .uns 1 15⟩, ⟨3, 1, .uns 1 16⟩, ⟨4, 2, .cond ([4096, 8192, 16384].contains (fld r 4 2))⟩,
        ⟨6, 2, .uns 200 1600⟩, ⟨8, 2, .sgn (-320) 0⟩, ⟨10, 2, .sgn (-160) (-40)⟩, ⟨12, 1, .uns 1 24⟩, ⟨13, 1, .uns 1 64⟩,
        ⟨14, 2, .uns 1 600⟩, ⟨16, 2, .uns 5 100⟩, ⟨18, 2, .zero⟩ ]
    agree := fun r s => if carValid (txCar s (fld r 1 1)) && linCovers s then stOK else stBAD_PARAM }

/-- Neighbours of a record (R188). -/
def nbrsOf (r : Rec) : List Nat := (List.range (dpdNbrs r)).map fun k => fld r (8 + k) 1

/-- The structure part of a record: MEM, ORDER, XC and the neighbours. -/
def structureOf (r : Rec) : Nat × List Nat := (fld r 3 3, nbrsOf r)

/-- What a DPD_PATH_SET changes when it comes into force (R199, R210). -/
def dpdPathSet (p : Nat) (r : Rec) : Prog := .seq dpdRefresh (.ask fun s =>
  let old := dpdPathRec s p
  let q := dpdOf s p
  let change := structureOf old != structureOf r
  let fresh := change || fld old 6 1 != fld r 6 1
  let keep := dpdMode r == 2 && dpdMode old == 2 && !fresh && q.state != 5
  let beta : Tab C32 := q.beta.filter fun x => (dpdKeys r).contains x.1
  seqs
    [ whenP (!keep) (.seq (modDpd (cutCycle p)) (modPath p fun x => { dpdHalt s.dpd p x with
        state := if dpdMode r = 2 then 2 else dpdMode r, gT := if fresh || (dpdMode r == 2 && dpdMode old != 2) then none else x.gT
        alignStreak := 0 })),
      whenP change (.seq (writeSet_ p r beta) (.seq (modPath p fun x => { x with beta := beta, betaNext := beta })
        (modDpd fun d => { d with regen := d.regen ||| 2 ^ p }))) ])

/-- DPD_PATH_SET (0x0902). -/
def cmdDpdPathSet : CmdDef :=
  { op := 0x0902, kind := .t, len := fixed 16, doms := fun r => [dTXD (fld r 0 1 / 16)], units := pathUnits 0, keys := fun r => [fld r 0 1]
    fields := fun s r =>
      let p := fld r 0 1
      let n := dpdNbrs r
      [ ⟨0, 1, .unit .path⟩, ⟨1, 1, .uns 0 2⟩, ⟨2, 1, .bits 1⟩, ⟨3, 1, .bits 0x1F⟩, ⟨3, 1, .cond (decide (1 ≤ dpdTaps r ∧ dpdTaps r ≤ 8))⟩,
        ⟨4, 1, .uns 1 8⟩, ⟨5, 1, .cond (decide (n ≤ 4 ∧ 1 ≤ dpdXcOrder r ∧ dpdXcOrder r ≤ 8))⟩, ⟨5, 1, .fit (decide (n = 0) || xcFit s)⟩,
        ⟨6, 1, .cond (decide (fld r 6 1 ≤ 120 ∧ fld r 6 1 % 4 = 0))⟩, ⟨7, 1, .zero⟩, ⟨12, 4, .zero⟩,
        ⟨3, 1, .cond (decide ((dpdKeys r).length ≤ 256))⟩ ] ++
        (List.range 4).map fun k =>
          let q := fld r (8 + k) 1
          ⟨8 + k, 1, .cond (if k < n then decide (q / 16 = p / 16 ∧ q ≠ p) && !((nbrsOf r).take k).contains q else q == 255)⟩
    legal := fun r s => if dpdMode r = 2 ∧ toneOn s (fld r 0 1) = true then stSTATE else stOK
    apply := fun _ r => dpdPathSet (fld r 0 1) r }

/-- DPD_PATH_GET (0x0903). -/
def cmdDpdPathGet : CmdDef :=
  { op := 0x0903, kind := .r, len := fixed 1, units := pathUnits 0, fields := fun _ _ => [⟨0, 1, .unit .path⟩]
    answer := fun _ r s => (stOK, dpdPathRec s (fld r 0 1)) }

/-- Fields that name half a table. -/
def halfFields (s : State) (r : Rec) : List Fld :=
  [⟨0, 1, .unit .path⟩, ⟨1, 1, .uns 0 31⟩, ⟨1, 1, .fit (decide (fld r 1 1 < 24) || xcFit s)⟩, ⟨2, 1, .uns 0 1⟩]

/-- A swap that names the path is COMMITTED. -/
def coefSwapCommitted (s : State) (p : Nat) : Bool :=
  s.txn.live.any fun t => t.state == .committed && t.items.any fun i => i.op == 0x0906 && (fld i.req 0 8).testBit p

/-- DPD_COEF_WRITE (0x0904). -/
def cmdDpdCoefWrite : CmdDef :=
  { op := 0x0904, kind := .n, len := fixed 132, doms := fun r => [dTXD (fld r 0 1 / 16)], units := pathUnits 0
    fields := fun s r => halfFields s r ++ [⟨3, 1, .zero⟩]
    own := fun _ r s =>
      if dpdMode (dpdPathRec s (fld r 0 1)) = 2 then stSTATE else if coefSwapCommitted s (fld r 0 1) then stBUSY else stOK
    effect := fun _ r => .seq (openSet (fld r 0 1)) (.ask fun s =>
      store .coef 6 (coefOff (fld r 0 1) (1 - (dpdOf s (fld r 0 1)).bank) (fld r 1 1) + 128 * fld r 2 1) (r.drop 4)) }

/-- Offset of the half table a DPD_COEF_READ names. -/
def coefReadOff (s : State) (r : Rec) : Nat :=
  let b := (dpdOf s (fld r 0 1)).bank
  coefOff (fld r 0 1) (if fld r 3 1 = 0 then b else 1 - b) (fld r 1 1) + 128 * fld r 2 1

/-- DPD_COEF_READ (0x0905): an uncorrectable entry reads zeros. -/
def cmdDpdCoefRead : CmdDef :=
  { op := 0x0905, kind := .r, len := fixed 4, doms := fun r => [dTXD (fld r 0 1 / 16)], units := pathUnits 0
    fields := fun s r => halfFields s r ++ [⟨3, 1, .uns 0 1⟩]
    answer := fun _ r s =>
      let off := coefReadOff s r
      (if badRange s 6 off 128 then stECC_UNCORR else stOK, (List.range 32).flatMap fun i =>
        if badRange s 6 (off + 4 * i) 4 then zeros 4 else readBytes s .coef 6 (off + 4 * i) 4)
    effect := fun _ r => .ask fun s => noteRead 6 (coefReadOff s r) 128 }

/-- DPD_COEF_SWAP (0x0906). -/
def cmdDpdCoefSwap : CmdDef :=
  { op := 0x0906, kind := .s, len := fixed 8, stores := false, keys := fun r => setBits 64 (fld r 0 8)
    doms := fun r => distinct ((setBits 64 (fld r 0 8)).map fun p => dTXD (p / 16))
    units := fun r => distinct ((setBits 64 (fld r 0 8)).map fun p => uSHEET (p / 16))
    fields := fun _ _ => [⟨0, 8, .units .path⟩]
    own := fun _ r s => if (setBits 64 (fld r 0 8)).any fun p => dpdMode (dpdPathRec s p) == 2 || toneOn s p then stSTATE else stOK
    apply := fun b r => each (setBits 64 (fld r 0 8)) fun p => .ask fun s =>
      whenP ((dpdOf s p).pending && !s.dpd.regen.testBit p) (dpdFlip p b) }

/-- DPD.STATUS of a sheet. -/
def dpdStatusWord (s : State) (n : Nat) : Nat :=
  bit (domOn s dDPDE && !engineLost s) +
    2 * bit ([2 * n, 2 * n + 1].any fun k => (orxOf s k).owner == 1 && (orxOf s k).capture == 1) +
    4 * bit (s.dpd.capture.head?.any fun c => c.path / 16 == n && (pathView s c.path).solving)

/-- DPD_STATUS (0x0907). -/
def cmdDpdStatus : CmdDef :=
  { op := 0x0907, kind := .r, len := fixed 2, doms := fun r => [dTXD (fld r 0 1)], units := fun r => [uSHEET (fld r 0 1)]
    fields := fun _ _ => [⟨0, 1, .unit .sheet⟩, ⟨1, 1, .bits 1⟩]
    answer := fun _ r s => (stOK, leBytes 4 (dpdStatusWord s (fld r 0 1)) ++ cntBytes s blkDpd (fld r 0 1) 7 ++
      leBytes 4 (satBits s blkDpd (fld r 0 1) 7))
    effect := fun _ r => whenP (fbit r 1 1 0) (clearCnts blkDpd (fld r 0 1) 7) }

/-- DPD_PATH_STATUS (0x0908). A G_T of zero has no gain or phase the manual states: free values. DESIGN CHOICE (assumption log
88): a gain clamped to ±63 qdB counts nothing, chapter 09 naming no CB_SAT. -/
def cmdDpdPathStatus : CmdDef :=
  { op := 0x0908, kind := .r, len := fixed 2, doms := fun r => [dTXD (fld r 0 1 / 16)], units := pathUnits 0
    fields := fun _ _ => [⟨0, 1, .unit .path⟩, ⟨1, 1, .bits 1⟩]
    answer := fun _ r s =>
      let p := fld r 0 1
      let q := pathView s p
      let z := smallSignal s p q.bank
      let g := match q.gT with
        | none => (0x8000, 0)
        | some (x, y, d) => if x = 0 ∧ y = 0 then (freeNow s % 65536, freeNow s / 65536 % 512)
          else (ofSigned 16 (qdbPower (x * x + y * y).toNat (d * d)), phaseBu x y)
      (stOK, leBytes 1 q.state ++ leBytes 1 q.lastReject ++ leBytes 2 (cbForm z.1 z.2 (8192 * 8192) 1).1 ++ leBytes 4 q.setNo ++
        leBytes 4 q.commitNs ++ leBytes 2 g.1 ++ leBytes 2 g.2 ++ leSigned 2 q.eCur ++ leSigned 2 q.ePred ++
        cntBytes s blkDpd (1000 + p) 2 ++ leBytes 4 q.captureNs ++ leBytes 1 q.orx ++
        leBytes 1 (q.flags % 4 + 4 * satBits s blkDpd (1000 + p) 2) ++ zeros 2)
    effect := fun _ r => .seq
      (.ask fun s => whenP ((pathView s (fld r 0 1)).gT.any fun g => g.1 == 0 && g.2.1 == 0) drawFree)
      (whenP (fbit r 1 1 0) (clearCnts blkDpd (1000 + fld r 0 1) 2)) }

/-- ORX_COUPLER_SET (0x0909). -/
def cmdOrxCouplerSet : CmdDef :=
  { op := 0x0909, kind := .t, len := fixed 12, units := pathUnits 0, keys := fun r => [fld r 0 1]
    fields := fun _ r => [⟨0, 1, .unit .path⟩, ⟨1, 1, .bits 1⟩, ⟨2, 1, .uns 0 7⟩, ⟨2, 1, .cond (decide (fld r 2 1 / 2 = fld r 0 1 / 16))⟩,
      ⟨3, 1, .uns 0 15⟩] ++ rsv 9 3 }

/-- ORX_COUPLER_GET (0x090A). -/
def cmdOrxCouplerGet : CmdDef :=
  { op := 0x090A, kind := .r, len := fixed 1, units := pathUnits 0, fields := fun _ _ => [⟨0, 1, .unit .path⟩]
    answer := fun _ r s => (stOK, couplerRec s (fld r 0 1)) }

end Sys2Proof.Machine
end

