-- ==== Sys2Proof/Machine/Filters.lean ====
section
/-! DEFINITION. Taps of the filters and pulses of both datapaths (08_transmit_path R167, R172): values the manual computes in
binary64, evaluated in 120-bit fixed point and rounded once (assumption log 15). -/

namespace Sys2Proof.Machine

open Sys2Proof

/-- 2^120. -/
def fixOne : Int := 2 ^ trigBits

/-- Terms of I0(x) = Σ (x² / 4)^k / (k!)² in 120-bit fixed point: `q` is x² / 4. -/
def besselTerms (q : Int) : Nat → Nat → Int → Int → Int
  | 0, _, _, acc => acc
  | n + 1, k, t, acc => let t' := t * q / fixOne / ((k * k : Nat) : Int); besselTerms q n (k + 1) t' (acc + t')

/-- I0(β √(1 − (2n / (L − 1))²)) in 120-bit fixed point, for β in tenths. -/
def besselAt (beta10 len : Nat) (n : Int) : Int :=
  let m : Int := ((len - 1 : Nat) : Int) ^ 2
  besselTerms ((beta10 : Int) ^ 2 * (m - 4 * n ^ 2) * fixOne / (400 * m)) 60 1 fixOne fixOne

/-- A ratio of fixed-point values scaled by `k` and rounded. -/
def fixRatio (k : Int) (a b : Int) : Int := divRna (k * a * (if b < 0 then -1 else 1)) b.natAbs

/-- The half-band filters: length and β in tenths. -/
inductive HalfBand where
  | a | b | c | d
  deriving DecidableEq, Repr

/-- Length of a half-band filter. -/
def hbLen : HalfBand → Nat
  | .a => 63
  | .b => 23
  | .c => 11
  | .d => 55

/-- β of a half-band filter, in tenths. -/
def hbBeta : HalfBand → Nat
  | .a => 70
  | .b => 60
  | .c => 50
  | .d => 70

/-- H[n] of R167: 0.5 sinc(n / 2) is 1/2 at 0, 0 at every other even n and ± 1/(π n) at odd n. -/
def hbTap (f : HalfBand) (n : Int) : Int :=
  if n = 0 then 131072
  else if n % 2 = 0 ∨ (hbLen f : Int) < 2 * n.natAbs + 1 then 0
  else
    let num := 262144 * 2 * (if (n.natAbs / 2) % 2 = 0 then 1 else -1) * fixOne * besselAt (hbBeta f) (hbLen f) n
    fixRatio 1 num (twoPiFix * n.natAbs * besselAt (hbBeta f) (hbLen f) 0 : Int)

/-- D_c(j) of R172 in 120-bit fixed point, for N subcarriers of `df` units of 100 Hz: sin(π N Δf j / F) / (N sin(π Δf j / F)). -/
def dirichlet (nre df : Nat) (j : Int) : Int :=
  if j = 0 then fixOne
  else sinFix (nre * df * j) 19660800 * fixOne / (nre * sinFix (df * j) 19660800)

/-- P[j] of the cancellation pulse of the committed downlink carriers (R172), j from −127 to 127. -/
def pulseTap (s : State) (j : Int) : Int × Int :=
  let rs := txRecs s
  let tot : Nat := sumN (rs.map fun r => 12 * carPrb r)
  let w := besselAt 80 255 j
  let part := fun (trig : Int → Nat → Int) => sumI (rs.map fun r =>
    let df := 150 * 2 ^ carMu r
    let n := 12 * carPrb r
    let d := dirichlet n df j * trig ((carNco r - (df / 2 : Nat)) * j) 9830400 / fixOne
    n * d)
  let out := fun z : Int => fixRatio 131071 (z * w) (tot * besselAt 80 255 0 * fixOne)
  (out (part cosFix), out (part sinFix))

end Sys2Proof.Machine
end

