-- ==== Sys2Proof/Machine/Down.lean ====
section
/-! DEFINITION. The stages of a receive path from the DC blocker to the path gain trim (10_receive_path R213 to R220). -/

namespace Sys2Proof.Machine

open Sys2Proof

/-! ### Settings of a path -/

/-- Whether each axis of a code stands at an end of its range (R213). -/
def codeClips (i q : Int) : Bool := i == -2048 || i == 2047 || q == -2048 || q == 2047

/-! ### The DC blocker (R214) -/

/-- A DC blocker while it runs: its accumulators, the updating samples still to pass at K − 6, its outputs last first. -/
structure DcRun where
  accI : Int
  accQ : Int
  left : Nat
  out : List (Int × Int)
  deriving DecidableEq, Repr

/-- Samples over which nothing changes for a blocker: their number, K, whether they update the accumulators, and whether the
accumulators are cleared before the first. -/
structure DcSeg where
  len : Nat
  k : Nat
  run : Bool
  clear : Bool
  deriving DecidableEq, Repr

/-- State of a sheet for the receive stages at a sample. -/
def rxCodeAt (s : State) (n : Nat) (i : Int) : Nat :=
  let l := tget [] s.rx.states n
  match l.find? fun e => decide (dpIndex s e.1 ≤ i) with
  | some e => e.2
  | none => (l.getLast?.map (·.2)).getD (rxCode s n)

/-- The worst state of a sheet over the samples [a, b). -/
def worstCode (s : State) (n : Nat) (a b : Int) : Nat :=
  maxN (rxCodeAt s n a :: ((tget [] s.rx.states n).filter fun e => decide (a < dpIndex s e.1) && decide (dpIndex s e.1 < b)).map (·.2))

/-- Cut points in rising order, each once. -/
def insertCut (x : Int) : List Int → List Int
  | [] => [x]
  | y :: l => if x = y then y :: l else if x < y then x :: y :: l else y :: insertCut x l

/-- The first `n` samples of half-subframe `h` for a path's blocker, cut where its settings or its sheet's state change. -/
def dcSegs (s : State) (p : Nat) (h : Int) (n : Nat) : List DcSeg :=
  let marks := (tget [] s.rx.marks p).map fun m => (max 0 (dpIndex s m.time - h * 983040), m)
  let moves := (tget [] s.rx.states (p / 16)).map fun e => dpIndex s e.1 - h * 983040
  let cuts := ((0 :: marks.map (·.1) ++ moves).filter fun i => decide (0 ≤ i ∧ i < (n : Int))).foldl (fun l x => insertCut x l) []
  (cuts.zip (cuts.drop 1 ++ [(n : Int)])).map fun c =>
    let set := ((marks.find? fun m => decide (c.1 < m.1)).map fun m => (m.2.k, m.2.freeze)).getD
      (fld (rxPathRec s p) 5 1, fbit (rxPathRec s p) 1 1 0)
    { len := (c.2 - c.1).toNat, k := set.1, run := !set.2 && rxCodeAt s (p / 16) (h * 983040 + c.1) == 0
      clear := marks.any fun m => m.1 == c.1 && m.2.clear }

/-- Updating samples at K − 6 that are left after the first `n` samples of a half-subframe. -/
def dcLeftAfter (s : State) (p : Nat) (h : Int) (n : Nat) : Nat :=
  (dcSegs s p h n).foldl (fun left g => (if g.clear then 65536 else left) - (if g.run then g.len else 0)) (tget 0 s.rx.dcLeft p)

/-- One axis: output and the accumulator after an update with shift `k`. -/
def dcAxis (k : Nat) (acc x : Int) : Int × Int := (sat16 (x - (acc + 32768) / 65536), acc + (x * 65536 - acc) / 2 ^ k)

/-- One sample of a path. -/
def dcStep (k : Nat) (run : Bool) (r : DcRun) (x : Int × Int) : DcRun :=
  let n := if r.left = 0 then k else k - 6
  let i := dcAxis n r.accI (16 * x.1)
  let q := dcAxis n r.accQ (16 * x.2)
  if run then { accI := i.2, accQ := q.2, left := r.left - 1, out := (i.1, q.1) :: r.out }
  else { r with out := (i.1, q.1) :: r.out }

/-- The DC blocker of a path over the codes of half-subframe `h` from its first sample on. -/
def dcRun (s : State) (p : Nat) (h : Int) (codes : List (Int × Int)) : DcRun :=
  let acc := tget ((0, 0) : Int × Int) s.rx.dc p
  ((dcSegs s p h codes.length).foldl (fun (a : DcRun × List (Int × Int)) g =>
    ((a.2.take g.len).foldl (dcStep g.k g.run) (if g.clear then { a.1 with accI := 0, accQ := 0, left := 65536 } else a.1), a.2.drop g.len))
    ({ accI := acc.1, accQ := acc.2, left := tget 0 s.rx.dcLeft p, out := [] }, codes)).1

/-- The codes of a path: 0 while one of its receive ADCs is FAILED (11 R245). -/
def pathCodes (s : State) (p : Nat) (codes : List (Int × Int)) : List (Int × Int) :=
  if (convOf s (2 * p)).state = 5 ∨ (convOf s (2 * p + 1)).state = 5 then codes.map fun _ => (0, 0) else codes

/-! ### Streams -/

/-- Sample of a stream. -/
def smp (x : Stream) (i : Int) : Int × Int := if i < x.base then (0, 0) else x.v.getD (i - x.base).toNat (0, 0)

/-- A stream from a function over `n` indices from `b`. -/
def streamOf (b : Int) (n : Nat) (f : Int → Int × Int) : Stream := { base := b, v := (List.range n).map fun (i : Nat) => f (b + (i : Int)) }

/-- Sum of products of real taps centred on 0 and samples from index `i` downwards. -/
def tapSum (x : Stream) (taps : List (Int × Int)) (i : Int) : Int × Int :=
  csum (taps.map fun t => (t.2 * (smp x (i - t.1)).1, t.2 * (smp x (i - t.1)).2))

/-- Outputs clamped among those in a window of indices. -/
def clampedIn (raw : Stream) (a b : Int) : Nat :=
  (raw.v.zipIdx.filter fun (p : (Int × Int) × Nat) => decide (a ≤ raw.base + (p.2 : Int)) && decide (raw.base + (p.2 : Int) < b) && csat p.1 != p.1).length

/-- A stream with every sample clamped. -/
def satStream (x : Stream) : Stream := { x with v := x.v.map csat }

/-! ### Image correction (R215) -/

/-- RX_IMAGE_SET's tap G_k, k from −3. -/
def imageTap (r : Rec) (k : Int) : Int × Int := (sfld r (4 + 4 * (k + 3).toNat) 2, sfld r (6 + 4 * (k + 3).toNat) 2)

/-- Stage 3. -/
def imageStage (r : Rec) (x : Stream) : Stream :=
  if fbit r 1 1 0 then x
  else streamOf x.base x.v.length fun i =>
    let z := csum ((List.range 8).map fun (j : Nat) =>
      let k : Int := (j : Int) - 3
      let y := smp x (i - k)
      cmul (imageTap r k) (y.1, -y.2))
    let d := cdiv z 32768
    csat ((smp x i).1 + d.1, (smp x i).2 + d.2)

/-! ### Shift to zero (R217) -/

/-- Stage 4: `n` counts sample periods from the frame's start. -/
def ncoStage (car : Rec) (x : Stream) : Stream := streamOf x.base x.v.length fun n =>
  let q := (-(carNco car) * (n % 19660800) + 38400 * (cbPh (fld car 6 2) : Int)) % 19660800 / 300
  cdiv (cmul (smp x n) (cos16 q, sin16 q)) 32768

/-- Samples before an index are lost: cleared filter memory (R225). -/
def fromIndex (b : Int) (x : Stream) : Stream := streamOf x.base x.v.length fun n => if n < b then (0, 0) else smp x n

/-! ### Decimation (R218, R219) -/

/-- Taps of a half-band filter with their positions. -/
def hbTaps (f : HalfBand) : List (Int × Int) :=
  (List.range (hbLen f)).map fun (i : Nat) => let n := (i : Int) - (hbLen f / 2 : Nat); (n, hbTap f n)

/-- One decimating stage, before its clamp. -/
def decimate (f : HalfBand) (x : Stream) : Stream :=
  let h : Int := (hbLen f / 2 : Nat)
  let a := (x.base - h) / 2
  let taps := hbTaps f
  streamOf a ((x.v.length + 2 * h.toNat) / 2 + 1) fun m => cdiv (tapSum x taps (2 * m)) 262144

/-- The chain of a rate class (R218). -/
def chainOf (rate : Nat) : List HalfBand := List.replicate (4 - rate) .c ++ [.b, .a]

/-- A chain: its output and the samples clamped in the span that ends as the window [a, b) of the output. -/
def runChain (a b : Int) : List HalfBand → Stream → Stream × Nat
  | [], x => (x, 0)
  | f :: fs, x =>
    let raw := decimate f x
    let k : Int := 2 ^ fs.length
    let r := runChain a b fs (satStream raw)
    (r.1, clampedIn raw (a * k) (b * k) + r.2)

/-- D of a rate class. -/
def decFactor (rate : Nat) : Nat := 64 / 2 ^ rate

/-- P of R219, 0 with no uplink carrier committed. -/
def skewStep (s : State) : Nat :=
  match (rxRecs s).map fun r => decFactor (carRate r) with
  | [] => 0
  | d :: ds => ds.foldl min d / 16

/-! ### Channel filter and trim (R220) -/

/-- Tap h[n] of the channel filter, h[0] apart. -/
def chanTap (car : Rec) (n : Int) : Int :=
  fixRatio 1 (65536 * sinFix ((12 * carPrb car + carN car : Nat) * n) (4 * carN car) * besselAt 60 47 n)
    ((twoPiFix : Int) * n * besselAt 60 47 0)

/-- Taps of the channel filter; the middle one makes their sum 32,768. -/
def chanTaps (car : Rec) : List (Int × Int) :=
  let side := (List.range 23).flatMap fun (i : Nat) =>
    let n : Int := (i : Int) + 1
    [(-n, chanTap car (-n)), (n, chanTap car n)]
  (0, 32768 - sumI (side.map (·.2))) :: side

/-- Stages 6 and 7 over a window: samples, and those clamped. -/
def chanTrim (car : Rec) (trim : Nat) (x : Stream) (a b : Int) : List (Int × Int) × Nat :=
  let taps := chanTaps car
  let raw := (List.range (b - a).toNat).map fun (i : Nat) => cdiv (tapSum x taps (a + (i : Int))) 32768
  let out := raw.map fun z => cdiv (cmul (csat z) (cbCart trim)) 4096
  (out.map csat, (raw.filter fun z => csat z != z).length + (out.filter fun z => csat z != z).length)

/-! ### The whole path -/

/-- Half-subframe in progress for the DC blockers. -/
def halfNow (s : State) : Int :=
  match s.rx.outHalf with
  | some n =>
    let cur := halfOf s (extNow s)
    cur + (((n : Int) - cur + 10240) % 20480 - 10240)
  | none => halfOf s (extNow s)

/-- Stage-2 output of a path: what the blocker has put out, and what it makes of the codes of the half-subframe in
progress, with the index of the first sample; indices count sample periods from the GPS epoch's frame. -/
def stage2 (s : State) (p : Nat) (codes : List (Int × Int)) : Int × List (Int × Int) :=
  let old := tget [] s.rx.out p
  (halfNow s * 983040 - old.length, old ++ (dcRun s p (halfNow s) (pathCodes s p codes)).out.reverse)

/-- Stage-7 samples of a carrier on a path over the output indices [a, b), with the samples clamped on the way; `v` holds the
settings of the stages behind the blocker. -/
def stage7 (s v : State) (c p : Nat) (codes : List (Int × Int)) (a b : Int) : List (Int × Int) × Nat :=
  let car := rxCar v c
  let rate := carRate car
  let y := stage2 s p codes
  let d : Int := decFactor rate
  let from_ := max y.1 ((a - 96) * d)
  let x : Stream := { base := from_, v := (y.2.drop (from_ - y.1).toNat).take ((b - a).toNat * d.toNat + 192 * d.toNat) }
  let m := ncoStage car (imageStage (setting v 0x0805 p (zeros 36)) x)
  let m := match tfind s.rx.retime c with
    | some (t, _) => fromIndex (dpIndex s t) m
    | none => m
  let z := runChain a b (chainOf rate) { m with base := m.base + (skewStep v * (p % 16) : Nat) }
  let r := chanTrim car (fld (rxPathRec v p) 2 2) z.1 a b
  (r.1, z.2 + r.2)

/-- Output indices of the samples of symbol `j` of half-subframe `h` of a carrier. -/
def symWindow (car : Rec) (h : Int) (j : Nat) : Int × Int :=
  let k : Nat := 4 / 2 ^ carRate car
  let a := h * (61440 / (k : Int)) + (symRef (carMu car) j / k : Nat)
  (a, a + (symLen (carMu car) j / k : Nat))

end Sys2Proof.Machine
end

