-- ==== Sys2Proof/Machine/Symbols.lean ====
section
/-! DEFINITION. Air symbols: the comparators of each carrier, completeness and release of downlink symbols, the building of
uplink messages, and the egress queues (04_fronthaul_link R88, R91 to R93; 05_datum_time R112, R113; 06 R122, R123; 10 R225,
R232, R233; 18 R420). -/

namespace Sys2Proof.Machine

open Sys2Proof

/-! ### The sections of a symbol (R91, R113, 03 R60) -/

/-- Live entries of a direction's carrier that cover symbol `sym` of a slot of subframe `k`, with their keys. -/
def coveringAll (s : State) (dir c k slot sym : Nat) : List (Nat × Section) :=
  let p := pageOf dir k
  if pageSub s p != k then [] else s.sect.entries.filter fun e =>
    inPage p e.1 && sectLive e.2 && e.2.carrier == c && flowDir (flowRec s e.2.flow) == dir && e.2.slot == slot &&
      decide (e.2.startSym ≤ sym) && decide (sym < e.2.startSym + e.2.numSym)

/-- Sections of symbol `j` of half-subframe `h`; an uncorrectable entry is absent. -/
def covering (s : State) (dir c : Nat) (h : Int) (j : Nat) : List Section :=
  let x := slotSym (carMu (dirCar s dir c)) h j
  ((coveringAll s dir c (subframeOf h) x.1 x.2).filter fun e => entryGood s e.1).map (·.2)

/-- Uncorrectable entries that the decision of a symbol meets (03 R62). -/
def coveringEcc (dir c : Nat) (h : Int) (j : Nat) : Prog := .ask fun s =>
  let x := slotSym (carMu (dirCar s dir c)) h j
  each ((coveringAll s dir c (subframeOf h) x.1 x.2).filter fun e => !entryGood s e.1) fun e =>
    eccHit e.1

/-- A section other than type 0 covers the symbol. -/
def hasSection (l : List Section) : Bool := l.any fun x => x.type != 0

/-- Datum time of symbol `j` of half-subframe `h`, and its length in whole ns, rounded up. -/
def symAir (s : State) (mu : Nat) (h : Int) (j : Nat) : Nat × Nat :=
  (counterAt s (symNs s mu h j), ceilDiv (symLen mu j * 3125) 384)

/-! ### Comparators (R112, R113) -/

/-- The symbol after one. -/
def symAfter (mu : Nat) (h : Int) (j : Nat) : Int × Nat := if j + 1 < symPerHalf mu then (h, j + 1) else (h + 1, 0)

/-- Target of a carrier's comparator for a symbol. -/
def symTarget (s : State) (dir c : Nat) (h : Int) (j : Nat) : Nat :=
  add32 (symAir s (carMu (dirCar s dir c)) h j).1 (-((if dir = 0 then ltx s c else 1000 : Nat) : Int))

/-- Set a carrier's comparator. -/
def setCmp (dir c : Nat) (x : Cmp) : Prog := modDatum fun d =>
  if dir = 0 then { d with cmpDl := tset d.cmpDl c x } else { d with cmpUl := tset d.cmpUl c x }

/-- A downlink symbol goes on the air: sheets judge it while its span lasts. -/
def putAir (c air len : Nat) (covered retime : Bool) : Prog := modTx fun t => { t with
  air := t.air ++ [{ carrier := c, air := air, len := len, covered := covered, retime := retime, coex := false, begun := false
                     stateMask := 0, readyMask := 0, holdMask := 0 }] }

/-- A downlink symbol is muted whole on every path. -/
def muteSymbol (c : Nat) (h : Int) (j why : Nat) : Prog := .ask fun s =>
  let a := symAir s (carMu (txCar s c)) h j
  seqs
    [ modTx fun t => { t with symOut := tset t.symOut c (a.1, why) },
      putAir c a.1 a.2 (hasSection (covering s 0 c h j)) (why == 4),
      modFh fun f => { f with held := f.held.filter fun x => !(x.carrier == c && x.air == a.1) } ]

/-- A carrier's comparator is armed for a symbol, or for the first one after it that is not discarded as late. -/
def armFrom (dir c : Nat) : Nat → Int → Nat → Prog
  | 0, _, _ => .skip
  | f + 1, h, j => .ask fun s =>
    let t := symTarget s dir c h j
    let d := int32Diff (now s) t
    let next := symAfter (carMu (dirCar s dir c)) h j
    let x : Cmp := { target := t, armed := true, late := decide (0 ≤ d), half := (h % 20480).toNat, sym := j }
    if d < 0 then setCmp dir c x
    else if d ≤ s.datum.airWindow then .seq (setCmp dir c x) (count blkDatum 0 0)
    else seqs [count blkDatum 0 1, whenP (dir == 0) (muteSymbol c h j 3), armFrom dir c f next.1 next.2]

/-- Half-subframe nearest to now with a number modulo 20,480. -/
def halfNear (s : State) (n : Nat) : Int :=
  let cur := halfOf s (extNow s)
  cur + (((n : Int) - cur + 10240) % 20480 - 10240)

/-- First symbol of a carrier that starts at or after an extended time. -/
def symFrom (s : State) (mu : Nat) (t : Int) : Int × Nat :=
  let b := nextBoundary s 1 mu t
  (b.1, b.2.1)

/-- Comparators of committed carriers that are not armed are armed for the first symbol whose target lies ahead. -/
def armMissing : Prog := .ask fun s => whenP (domOn s dDATUM) (each [0, 1] fun dir =>
  each ((dirCars s dir).filter fun c => (tfind (if dir = 0 then s.datum.cmpDl else s.datum.cmpUl) c).isNone) fun c => .ask fun t =>
    let x := symFrom t (carMu (dirCar t dir c)) (extNow t + (if dir = 0 then ltx t c else 1000 : Nat) + 1)
    armFrom dir c 64 x.1 x.2)

/-! ### The test pattern (18 R420) -/

/-- TESTGEN_SET record in force. -/
def testRec (s : State) (c : Nat) : Rec := setting s 0x1010 c (leBytes 1 c ++ zeros 5 ++ leBytes 2 1 ++ zeros 2 ++ leSigned 2 (-48) ++ zeros 8)

/-- One axis of the modulation mapper of TS 38.211, its bits most significant first. -/
def qamAxis : List Nat → Int
  | [] => 0
  | [b] => 1 - 2 * (b : Int)
  | b :: l => (1 - 2 * (b : Int)) * (2 ^ l.length - qamAxis l)

/-- The constellation point of an index and the square of its norm: M is 4, 16, 64 or 256 for `mod` 0 to 3. -/
def qamPoint (mod idx : Nat) : (Int × Int) × Nat :=
  let n := 2 * (mod + 1)
  let b := (List.range n).map fun i => idx / 2 ^ (n - 1 - i) % 2
  let axis := fun o => qamAxis ((List.range (mod + 1)).map fun i => b.getD (2 * i + o) 0)
  ((axis 0, axis 1), [2, 10, 42, 170].getD mod 2)

/-- ROUND(A × m / √n). -/
def overRoot (a : Nat) (m : Int) (n : Nat) : Int :=
  let r : Int := ((Nat.sqrt (4 * a * a * m.natAbs * m.natAbs / n) + 1) / 2 : Nat)
  if m < 0 then -r else r

/-- Value of resource element `k` of the allocation, of symbol `l` of a frame. -/
def patternAt (mod seed : Nat) (level : Int) (k l : Nat) : Int × Int :=
  let m := 4 ^ (mod + 1)
  let d := qamPoint mod ((5 * (k * (k + 1) / 2) + 3 * l + seed) % m)
  let a := expRound 32767 level
  (sat16 (overRoot a d.1.1 d.2), sat16 (overRoot a d.1.2 d.2))

/-- The pattern of a carrier on a path, none where it is not masked. -/
def testElem (s : State) (c p l k : Nat) : Option (Int × Int) :=
  let r := testRec s c
  if fbit r 1 1 0 && (fld r 12 8).testBit p then
    let lo := 12 * fld r 4 2
    some (if lo ≤ k ∧ k < lo + 12 * fld r 6 2 then patternAt (fld r 2 1) (fld r 8 2) (sfld r 10 2) (k - lo) l else (0, 0))
  else none

/-! ### Downlink symbols (R91, R122) -/

/-- The sample of a section for a resource element, where it is held. -/
def heldAt (l : List Held) (x : Section) (k : Nat) : Option (Int × Int) :=
  if !coversRe x k then none
  else (l.find? fun h => h.flow == x.flow && h.sect == x.id && h.prb == k / 12).map fun h => h.iq.getD (k % 12) (0, 0)

/-- Layer of a section's flow. -/
def sectLayer (s : State) (x : Section) : Nat := flowLayer (flowRec s x.flow)

/-- The sections whose layers are active: the graticule processes no other (R79). -/
def activeSects (s : State) (dir : Nat) (l : List Section) : List Section := l.filter fun x => layerActive s dir (sectLayer s x)

/-- Elements x_e of a symbol for one path, with the number clamped. `secs` are the sections that carry data, `unused` those of
type 0: their layers carry zero there (R84). -/
def gridOf (s : State) (c l : Nat) (unused secs : List Section) (held : List Held) (e : Nat) : List (Int × Int) × Nat :=
  let live := activeSects s 0 secs
  let v := (List.range (12 * carPrb (txCar s c))).map fun k => match testElem s c e l k with
    | some z => (z, false)
    | none => dlOut s c e k ((live.filter fun x => !(unused.any fun y => sectLayer s y == sectLayer s x && coversRe y k)).filterMap
        fun x => (heldAt held x k).map fun z => (x, z))
  (v.map (·.1), (v.filter (·.2)).length)

/-! ### Uplink symbols (R113, R123) -/

/-- AIR_SYMBOL_UL (R113): 1,000 ns before its air time a symbol's sections are fixed. -/
def execAirSymbolUl (carrier : Nat) (s : State) : Host.Outcome State Fault Refusal :=
  done (.seq armMissing (.ask fun s => match tfind s.datum.cmpUl carrier with
    | none => .skip
    | some x => whenP (domOn s dDATUM && x.armed && reached s x.target && carValid (rxCar s carrier)) (
        let mu := carMu (rxCar s carrier)
        let h := halfNear s x.half
        let a := symAir s mu h x.sym
        let next := symAfter mu h x.sym
        seqs
          [ coveringEcc 1 carrier h x.sym,
            modFh fun f => { f with
              ulSyms := f.ulSyms ++ [{ carrier := carrier, half := x.half, sym := x.sym, air := a.1, len := a.2
                                       sects := covering s 1 carrier h x.sym, late := x.late, stateMask := 0, readyMask := 0
                                       view := none }] },
            armFrom 1 carrier 64 next.1 next.2 ]))) s

/-- The state that holds the settings of an uplink symbol: those of before the commits after its time (03 R63, 06 R139). -/
def ulView (s : State) (u : UlSym) : State :=
  match u.view with
  | some v => seenWith s v
  | none => s

/-- A symbol overlaps the restart of its carrier's stages (10 R225). -/
def ulRetimed (s : State) (u : UlSym) : Bool :=
  match tfind s.rx.retime u.carrier with
  | some (b, e) => decide (int32Diff u.air e < 0) && decide (0 < int32Diff (add32 u.air u.len) b)
  | none => false

/-- Sheets whose elements contribute zero to a symbol. -/
def ulZero (s : State) (u : UlSym) : Nat := if ulRetimed s u then 15 else u.stateMask ||| u.readyMask

/-! ### Compression and framing (R87, R88, R92) -/

/-- The egress compressor: exponent and values of width W. -/
def compressPrb (w : Nat) (v : List Int) : Nat × List Int :=
  let lim : Int := 2 ^ (w - 1)
  let y := fun (e : Nat) => v.map fun x => if e = 0 then x else (x + 2 ^ (e - 1)) / 2 ^ e
  let fits := fun (e : Nat) => (y e).all fun x => decide (-lim ≤ x) && decide (x < lim)
  let e := ((List.range (17 - w)).find? fits).getD (16 - w)
  (e, (y e).map fun x => clampI (-lim) (lim - 1) x)

/-- A PRB of 24 values in a format. -/
def packPrb (comp : Nat) (v : List Int) : Rec :=
  let w := (compWidth comp).getD 16
  let pack := fun (l : List Int) => netBytes (3 * w) (l.foldl (fun a x => a * 2 ^ w + ofSigned w x) 0)
  if comp % 16 = 1 then
    let c := compressPrb w v
    leBytes 1 c.1 ++ pack c.2
  else pack v

/-- Zeros up to the least frame, the FCS apart. -/
def padFrame (f : Rec) : Rec := f ++ zeros (60 - f.length)

/-- An uplink message of a flow: sequence number, radio header from the first byte's filterIndex, section header, PRBs. -/
def ulFrame (s : State) (flow seq filter : Nat) (ids : Nat × Nat) (slot sym : Nat) (x : Section) (start num all : Nat)
    (comp : Nat) (prbs : Rec) : Rec :=
  let r := flowRec s flow
  let head := x.id * 2 ^ 20 + x.flags % 2 * 2 ^ 19 + start * 256 + (if num = all then 0 else num)
  let q : Rec := netBytes 1 (16 + filter) ++ netBytes 1 ids.1 ++ netBytes 2 (ids.2 * 4096 + slot * 64 + sym) ++ netBytes 4 head ++
    (if flowDyn r then leBytes 1 comp ++ [0] else []) ++ prbs
  padFrame (macHeader s (peerMac s) (flowPcp r) 0xAEFE ++ [0x10, 0] ++ netBytes 2 (q.length + 4) ++ netBytes 2 (flowEaxc r) ++
    netBytes 1 seq ++ [0x80] ++ q)

/-! ### Egress queues (R93) -/

/-- Egress queue. -/
def queueOf (s : State) (q : Nat) : List EgDesc := tget [] s.fh.egress q

/-- Change an egress queue. -/
def modQueue (q : Nat) (f : List EgDesc → List EgDesc) : Prog := modFh fun x => { x with egress := tmod [] x.egress q f }

/-- The head of a queue is tested: each descriptor that becomes eligible or is discarded moves the next one to the head. -/
def headTest (q : Nat) : Nat → Prog
  | 0 => .skip
  | f + 1 => .ask fun s =>
    let l := queueOf s q
    let front := l.takeWhile (·.eligible)
    match l.drop front.length with
    | [] => .skip
    | h :: t =>
      let d := int32Diff (now s) h.launch
      if h.tested then .skip
      else if d < 0 then modQueue q fun _ => front ++ { h with tested := true } :: t
      else if d ≤ (tget 0 s.regs 0x4010000C : Nat) then
        seqs [modQueue q fun _ => front ++ { h with eligible := true, late := true } :: t, count blkFlow h.flow 6, headTest q f]
      else seqs [modQueue q fun _ => front ++ t, count blkFlow h.flow 7, headTest q f]

/-- A descriptor joins its queue in the order of LAUNCH_NS, or is dropped by a full one. -/
def enqueue (q : Nat) (x : EgDesc) : Prog := .ask fun s =>
  let l := queueOf s q
  if queueSize s q < sumN (l.map fun y => y.frame.length) + x.frame.length then count blkFlow x.flow 3
  else
    let ahead := l.takeWhile fun y => y.eligible || decide (int32Diff y.launch x.launch ≤ 0)
    .seq (modQueue q fun _ => ahead ++ x :: (l.drop ahead.length).map fun y => { y with tested := false }) (headTest q (l.length + 1))

/-- Messages of a section's PRBs, split at PRB_MAX; a message that does not span the carrier names at most 255 PRBs. -/
def sendSection (x : Section) (filter t : Nat) (ids : Nat × Nat) (slot sym all : Nat) (prbs : List (List Int)) : Prog := .ask fun s =>
  let r := flowRec s x.flow
  let comp := if flowDyn r then x.comp else flowComp r
  let most := max 1 (if prbs.length = all then prbMax s comp else min 255 (prbMax s comp))
  let most := if most < prbs.length then min 255 most else most
  whenP (compWidth comp).isSome (each (List.range (ceilDiv prbs.length most)) fun i => .ask fun s =>
    let part := (prbs.drop (i * most)).take most
    let seq := tget 0 s.fh.seqTx (x.flow * 4)
    .seq (modFh fun f => { f with seqTx := tset f.seqTx (x.flow * 4) ((seq + 1) % 256) })
      (enqueue (flowQueue r)
        { launch := add32 t (flowOffset r : Nat), flow := x.flow, prb := x.startPrb + i * most, sect := x.id
          frame := ulFrame s x.flow seq filter ids slot sym x (x.startPrb + i * most) part.length all comp (part.flatMap (packPrb comp))
          late := false, eligible := false, tested := false }))

/-- UPLANE_MESSAGE_BUILD (R92, 06 R123, 10 R212 to R221, R233): a symbol of a carrier has ended; `codes` are the codes of the
paths' converters in the half-subframe in progress. -/
def execUplaneMessageBuild (carrier : Nat) (codes : List (Nat × List (Int × Int))) (s : State) : Host.Outcome State Fault Refusal :=
  done (.seq (.seq noteStates settleSymbols) (.ask fun s => match s.fh.ulSyms.find? fun u => u.carrier == carrier with
    | none => .skip
    | some u => whenP (due s (add32 u.air u.len)) (
        let v := ulView s u
        let car := rxCar v carrier
        let mu := carMu car
        let h := halfNear s u.half
        let x := slotSym mu h u.sym
        let mask := ulZero s u
        let win := symWindow car h u.sym
        let front := ((paths s).filter fun p => domOn s (dRXD (p / 16))).map fun p => (p, stage7 s v carrier p (tget [] codes p) win.1 win.2)
        let fit := front.map fun q => (q.1, q.2.1)
        let res := fit.map fun q => (q.1, symbolIn car (fld (loRec v) 4 4) (h % 2).toNat u.sym q.2)
        let live := res.filter fun q => !mask.testBit (q.1 / 16)
        let secs := u.sects.filter fun y => y.type == 1 && flowValid (flowRec v y.flow) &&
          (flowKind (flowRec v y.flow) != 0 || layerActive v 1 (flowLayer (flowRec v y.flow)))
        let outs := secs.map fun y => (y, (List.range y.numPrb).map fun i => (List.range 12).map fun j =>
          let k := 12 * (y.startPrb + i) + j
          if maskHas y j then ulOut v y k (live.map fun q => (q.1, q.2.1.getD k (0, 0))) else ((0, 0), false))
        let slotAir := (symAir s mu (2 * (h / 2) + ((x.1 * 14 / symPerHalf mu : Nat) : Int)) (x.1 * 14 % symPerHalf mu)).1
        let srs := (ctxs v).filter fun q => ctxCar q.2 == carrier && ctxOccasion v q.2 h x.1 && decide (ctxSym q.2 ≤ x.2) &&
          decide (x.2 < ctxSym q.2 + ctxNsym q.2)
        let fo := fun (n : Nat) => ((fit.filter fun q => q.1 / 16 == n).map fun q => correlate car u.sym q.2)
        seqs
          [ modFh fun f => { f with ulSyms := f.ulSyms.filter fun y => y != u },
            each (sheets s) fun n => countN blkRxd n 4 (sumN ((front.filter fun q => q.1 / 16 == n).map fun q => q.2.2)),
            each (sheets s) fun n => countN blkRxd n 5 (sumN ((res.filter fun q => q.1 / 16 == n).map fun q => q.2.2)),
            modRx fun r => { r with
              re := res.foldl (fun t q => tset t (8 * q.1 + carrier) q.2.1) r.re
              foAcc := (sheets s).foldl (fun t n => if (u.stateMask ||| u.readyMask).testBit n then t else
                tmod (0, 0, 0) t (8 * n + carrier) fun a =>
                  ((fo n).foldl (fun (b : Int × Int × Nat) q => (b.1 + q.1.1, b.2.1 + q.1.2, b.2.2 + q.2)) a)) r.foAcc },
            whenP (!ulRetimed s u) (modRx fun r => { r with retime := tdel r.retime carrier }),
            whenP (ulRetimed s u && ulCovered u) (each ((sheets s).filter fun n => (sh s n).state == .rx) fun n => count blkRxd n 2),
            whenP (srs != [] && domOn s dMASH) (modMash fun m => { m with
              staged := m.staged ++ [{ carrier := carrier, slot := slotAir, sym := x.2, tEnd := add32 u.air u.len
                                       zero := u.stateMask ||| u.readyMask, ctxs := srs
                                       re := if ulRetimed s u then [] else res.map fun q => (q.1, q.2.1) }] }),
            countWeights v 1 u.air secs,
            countN blkGrat 0 2 (sumN (outs.map fun o => sumN (o.2.map fun p => (p.filter (·.2)).length))),
            each outs fun o => sendSection o.1 0 u.air (frameIds s (symNs s mu h u.sym)) x.1 x.2 (carPrb car)
              (o.2.map fun p => p.flatMap fun z => [z.1.1, z.1.2]) ]))) s

/-- EGRESS_LAUNCH (R93): the waiting head of a queue becomes eligible at its LAUNCH_NS. -/
def execEgressLaunch (queue : Nat) (s : State) : Host.Outcome State Fault Refusal :=
  let l := queueOf s queue
  let front := l.takeWhile (·.eligible)
  done (match l.drop front.length with
    | [] => .skip
    | h :: t => .seq (whenP (h.tested && reached s h.launch) (modQueue queue fun _ => front ++ { h with eligible := true } :: t))
        (headTest queue l.length)) s

/-- An eligible frame with the order in which frames start: LAUNCH_NS, queue, flow, START_PRB, SECTION_ID. -/
structure Start where
  launch : Nat
  queue : Nat
  flow : Nat
  prb : Nat
  sect : Nat
  frame : Rec
  deriving DecidableEq, Repr

/-- One frame starts before another. -/
def startsBefore (a b : Start) : Bool :=
  let d := int32Diff a.launch b.launch
  decide (d < 0) || (decide (d = 0) && lexLt [a.queue, a.flow, a.prb, a.sect] [b.queue, b.flow, b.prb, b.sect])

/-- A management frame of queue 63 (18 R413, R414). -/
def mgmtFrame (s : State) (p : Rec) : Rec := padFrame (macHeader s (peerMac s) 7 0x88B5 ++ p)

/-- Eligible frames: those of the numbered queues, and the head of queue 63. -/
def starts (s : State) : List Start :=
  (s.fh.egress.flatMap fun q => (q.2.takeWhile (·.eligible)).map fun d =>
    { launch := d.launch, queue := q.1, flow := d.flow, prb := d.prb, sect := d.sect, frame := d.frame }) ++
    (s.mbx.queue63.take 1).map fun m => { launch := m.1, queue := 63, flow := 0, prb := 0, sect := 0, frame := mgmtFrame s m.2 }

/-- MAC_FRAME_START (R93): the first eligible frame starts on the MAC, behind every frame of the PTP ring (05 R106), and counts
as sent for its flow (R94); with an all-zero PEER_MAC none is sent, and the
eligible ones are discarded. -/
def execMacFrameStart (s : State) : Host.Outcome State Fault Refusal :=
  done (whenP (domOn s dFH && s.fh.link == 3 && s.datum.ptpTx == []) (if peerMac s = zeros 6 then flushEligible
    else match starts s with
      | [] => .skip
      | a :: l =>
        let x := l.foldl (fun m y => if startsBefore y m then y else m) a
        seqs [onWire x.frame, whenP (x.queue != 63) (total blkFlow x.flow 0 1),
          if x.queue = 63 then modMbx fun m => { m with queue63 := m.queue63.drop 1 }
          else modQueue x.queue fun q =>
            let i := (q.findIdx? fun d => d.eligible && d.launch == x.launch && d.flow == x.flow && d.prb == x.prb && d.sect == x.sect).getD 0
            q.eraseIdx i])) s

end Sys2Proof.Machine
end

