-- ==== Sys2Proof/Machine/Radio.lean ====
section
/-! DEFINITION. Synthesizers, radio states, timers, the TDD pattern and strobes, and sheets out of service
(12_lo_radio_states R258 to R275). -/

namespace Sys2Proof.Machine

open Sys2Proof

/-! ### Synthesizer calibration (R260 to R262) -/

/-- The paths of a sheet. -/
def sheetPaths (n : Nat) : List Nat := (List.range 16).map fun i => 16 * n + i

/-- The calibration of a sheet is stopped, and a quick survey with it. -/
def calStop (n : Nat) : Prog := .seq
  (modSheet n fun r => { r with
    calDue := none, txCal := false, rxCal := false, txLock := false, rxLock := false, changing := false, done := false
    txReady := false, rxReady := false, unlocked := none, calTry := 0 })
  (abandonCamps n false)

/-- Event 1 of a synthesizer calibration at datum time `t`, with what R262 makes follow. -/
def calStart (n t attempt : Nat) : Prog := .ask fun s => seqs
  [ leaveReady n,
    modSheet n fun r => { r with
      txCal := true, rxCal := true, txLock := false, rxLock := false, calStart := t, calTemp := sheetTemp s n, qsAttempts := 0
      calDue := none, qsFail := false, calTry := attempt },
    each (sheetPaths n) fun p => dcChange p t true,
    dpdCancel n,
    discardEst fun _ => true,
    modSurvey fun v => { v with
      align := andNot v.align (2 ^ n), recip := andNot v.recip (2 ^ n), qsReject := tdel v.qsReject n },
    abandonCamps n false ]

/-- SYNTH_CAL_START (R261 event 1): a calibration that is due begins. -/
def execSynthCalStart (sheet : Nat) (s : State) : Host.Outcome State Fault Refusal :=
  done (match (sh s sheet).calDue with
    | some t => whenP (due s t && domOn s (dSHEET sheet)) (calStart sheet t 1)
    | none => .skip) s

/-- Lock may be declared: the loop has been closed for 10 µs, and 500 µs from the start have not passed (R260, R261). -/
def lockTime (s : State) (n : Nat) : Bool :=
  due s (add32 (sh s n).calStart 104000) && decide (int32Diff (now s) (add32 (sh s n).calStart 500000) ≤ 0)

/-- SYNTH_LOCK (R261 event 6): both synthesizers hold lock on the bands their search chose. -/
def execSynthLock (sheet txBand rxBand : Nat) (s : State) : Host.Outcome State Fault Refusal :=
  done (whenP ((sh s sheet).txCal && (sh s sheet).rxCal && lockTime s sheet) (modSheet sheet fun r => { r with
    txCal := false, rxCal := false, txLock := true, rxLock := true, band := (txBand % 256, rxBand % 256), unlocked := none })) s

/-! ### Transitions (R267, R268) -/

/-- A step between adjacent states begins at datum time `t`. -/
def hopStart (n : Nat) (a b : Radio) (t : Nat) : Prog :=
  match a, b with
  | .sleep, .standby => convStart n
  | .standby, .synth => modSheet n fun r => { r with calDue := some (add32 t 30000), changing := true, done := false }
  | .synth, .standby => calStop n
  | _, _ => .skip

/-- A step between adjacent states ends at datum time `t`; a calibration that a channel change began on the way to STANDBY stops
(R264). -/
def hopEnd (n : Nat) (a b : Radio) (t : Nat) : Prog := seqs
  [ modSheet n fun r => { r with state := b, hopTe := t, strobes := if b = .sleep ∨ b = .standby then 0 else r.strobes },
    whenP (a == .tx) (.ask fun s => whenP (!someTx s) (modCoex fun c => { c with left := some t })),
    whenP (a == .synth && b == .standby) (calStop n),
    whenP (b == .sleep) (convStop n) ]

/-- A state beyond STANDBY, which no sheet enters before the CPU domain runs from the control PLL (01 R28). -/
def beyondStandby (r : Radio) : Bool := r != .sleep && r != .standby

/-- A transition begins, to be over at `te`; a request for the state the sheet is in changes nothing. -/
def startTransition (n : Nat) (target : Radio) (te : Nat) : Prog := .ask fun s =>
  let a := (sh s n).state
  whenP (a != target && (s.clk.cpuPll || !beyondStandby target)) (.seq (modSheet n fun r => { r with trans := some (target, te) })
    (hopStart n a (nextHop a target) (add32 te (-(deltaOf a target : Int)))))

/-- A channel change at datum time `t` (R264): a sheet in SYNTH, RX or TX departs from readiness and calibrates; one whose
calibration on entry to SYNTH has not begun takes the channel with it (assumption log 40). -/
def changeSheet (n t : Nat) : Prog := .ask fun s =>
  let r := sh s n
  let entering := r.state == .standby && (match r.trans with
    | some (b, _) => b != .standby && b != .sleep
    | none => false)
  whenP (r.state == .synth || r.state == .rx || r.state == .tx || (entering && r.calDue.isNone))
    (.seq (leaveReady n) (modSheet n fun x => { x with calDue := some t }))

/-- A timer fires with effective time `te`; during a transition it waits for its end. -/
def fireAction (n action te : Nat) : Prog := .ask fun s =>
  if action = 5 then changeSheet n te
  else if (sh s n).trans.isSome then .seq (count blkRs n 1) (modSheet n fun r => { r with
    deferred := r.deferred ++ [(action, te, now s)] })
  else startTransition n (radioOf action) te

/-- The deferred actions that would leave a sheet where it is are dropped. -/
def dropSame (b : Radio) (l : List (Nat × Nat × Nat)) : List (Nat × Nat × Nat) := l.dropWhile fun q => radioOf q.1 == b

/-- The transition of a sheet is over at `te`: the next deferred one starts, its t_e later by its wait (R268). -/
def nextDeferred (n te : Nat) : Prog := .ask fun s =>
  let r := sh s n
  match dropSame r.state r.deferred with
  | [] => modSheet n fun x => { x with deferred := [] }
  | q :: qs => .seq (modSheet n fun x => { x with deferred := qs })
      (startTransition n (radioOf q.1) (add32 q.2.1 (int32Diff te q.2.2)))

/-- RS_TRANSITION_END (R267): one step of a transition is over at its time, and the transition with the last. -/
def execRsTransitionEnd (sheet : Nat) (s : State) : Host.Outcome State Fault Refusal :=
  let r := sh s sheet
  done (match r.trans with
    | some (target, te) =>
      let b := nextHop r.state target
      let t := add32 te (-(deltaOf b target : Int))
      whenP (due s t) (.seq (hopEnd sheet r.state b t)
        (if b = target then .seq (modSheet sheet fun x => { x with trans := none, lastTe := te }) (nextDeferred sheet te)
          else hopStart sheet b (nextHop b target) t))
    | none => .skip) s

/-! ### Timers (R268; 05 R112) -/

/-- A timer is no longer armed, and its bound writes are not sent (14 R319). -/
def disarmTimer (n t : Nat) : Prog := .seq (modSheet n fun r => { r with timers := tdel r.timers t }) (dropBound n (timerTag n t))

/-- RS_WINDOW in force. -/
def rsWindow (s : State) : Nat := s.datum.rsWindow

/-- A timer is armed, in place of what it held: it waits for its firing time, acts at once up to RS_WINDOW late, or is
discarded. -/
def armTimer (n t action te : Nat) (pat : Bool) : Prog := .seq (disarmTimer n t) (.ask fun s =>
  let a := stateAhead (sh s n) te
  let delta := actionDelta a action
  let d := int32Diff (now s) (add32 te (-(delta : Int)))
  if d < 0 then .seq (modSheet n fun r => { r with timers := tset r.timers t { tE := te, action := action, pat := pat } })
    (whenP (decide (action ≤ 4)) (armBound n (timerTag n t) te a (radioOf action)))
  else if d ≤ rsWindow s then .seq (count blkDatum 0 0) (fireAction n action (add32 (now s) delta))
  else .seq (count blkDatum 0 2) (raise (evCode 4 5) n [te]))

/-- RS_TIMER_FIRE: an armed timer whose comparator target t_e − Δ has come. -/
def execRsTimerFire (sheet timer : Nat) (s : State) : Host.Outcome State Fault Refusal :=
  let r := sh s sheet
  done (match tfind r.timers timer with
    | some x => whenP (reached s (add32 x.tE (-(actionDelta (stateSoon r) x.action : Int))))
        (.seq (modSheet sheet fun q => { q with timers := tdel q.timers timer }) (fireAction sheet x.action x.tE))
    | none => .skip) s

/-! ### TDD pattern (R271) -/

/-- RS_PATTERN_SET record in force. -/
def patRec (s : State) (n : Nat) : Rec := setting s 0x0B02 n (leBytes 1 n ++ [0, 1, 1] ++ zeros 8 ++ [2, 0, 0, 0])

/-- Entries of a record: OFFSET_NS and STATE. -/
def patEntries (r : Rec) : List (Nat × Nat) := (List.range (fld r 3 1)).map fun i => (fld r (8 + 8 * i) 4, fld r (12 + 8 * i) 1)

/-- t_e of entry `i` of the period that starts at half-subframe `h`, in ns of extended time. -/
def entryTe (s : State) (r : Rec) (h : Int) (i : Nat) : Int := symNs s 0 h 0 + ((patEntries r).getD i (0, 0)).1

/-- Entry that precedes entry `i`, cyclically. -/
def entryBefore (r : Rec) (i : Nat) : Nat × Nat := (patEntries r).getD ((i + fld r 3 1 - 1) % fld r 3 1) (0, 0)

/-- Firing time of entry `i`: t_e − Δ of the transition the pattern makes there. -/
def entryFire (s : State) (r : Rec) (h : Int) (i : Nat) : Int :=
  entryTe s r h i - deltaOf (radioOf (entryBefore r i).2) (radioOf ((patEntries r).getD i (0, 0)).2)

/-- Period start and index of the first entry that satisfies a condition, from the period that holds an extended time. -/
def firstEntry (s : State) (r : Rec) (t : Int) (ok : Int → Nat → Bool) : Int × Nat :=
  let p : Int := fld r 2 1
  let h := halfOf s t / p * p
  let cand := (List.range 3).flatMap fun (k : Nat) => (List.range (fld r 3 1)).map fun i => (h + p * (k : Int), i)
  (cand.find? fun x => ok x.1 x.2).getD (h + 3 * p, 0)

/-- Enabling or replacing a pattern at boundary `b`: it starts with the first entry at least 200 µs later. -/
def patternStart (n b : Nat) (r : Rec) : Prog := .ask fun s =>
  let t := extTotal s.datum.ref b + 200000
  modSheet n fun x => { x with patternOn := true, pat := some (firstEntry s r t fun h i => decide (t ≤ entryTe s r h i)) }

/-- A pattern is disabled: its armed entries are dropped. -/
def patternStop (n : Nat) : Prog := .ask fun s => .seq
  (each ((sh s n).timers.filter fun t => t.2.pat) fun t => disarmTimer n t.1)
  (modSheet n fun x => { x with patternOn := false, pat := none })

/-- PATTERN_ARM: the engine arms its next entry on the next free timer of 0 to 5. After a step it goes on from the first
entry whose firing time lies at least 100 µs ahead (R269). -/
def execPatternArm (sheet : Nat) (s : State) : Host.Outcome State Fault Refusal :=
  let r := patRec s sheet
  let x := sh s sheet
  let at_ := x.pat.getD (firstEntry s r (extNow s) fun h i => decide (extNow s + 100000 ≤ entryFire s r h i))
  let e := (patEntries r).getD at_.2 (0, 2)
  let next := if at_.2 + 1 < fld r 3 1 then (at_.1, at_.2 + 1) else (at_.1 + (fld r 2 1 : Nat), 0)
  done (match (List.range 6).find? fun t => (tfind x.timers t).isNone with
    | some t => whenP (x.patternOn && domOn s dDATUM) (.seq (modSheet sheet fun q => { q with pat := some next })
        (armTimer sheet t e.2 (counterAt s (entryTe s r at_.1 at_.2)) true))
    | none => .skip) s

/-- The offsets ascend within the period, and entries are no closer than Δ + 1 µs, taken cyclically (R271). -/
def patternAgrees (r : Rec) : Bool :=
  let l := patEntries r
  let period := fld r 2 1 * 500000
  (List.range l.length).all fun i =>
    let a := entryBefore r i
    let b := l.getD i (0, 0)
    let gap : Int := if i = 0 then (period : Int) + b.1 - a.1 else (b.1 : Int) - a.1
    decide (b.1 < period) && (i == 0 || decide (a.1 < b.1)) &&
      (l.length == 1 || decide ((deltaOf (radioOf a.2) (radioOf b.2) + 1000 : Nat) ≤ gap))

/-! ### Strobes (R272, R273) -/

/-- TDD_STROBE_SET record in force. -/
def strobeRec (s : State) (n j : Nat) : Rec := setting s 0x0B07 (4 * n + j) (strobeReset n j)

/-- The states a FUNCTION asserts in. -/
def strobeStates (f : Nat) (x : Radio) : Bool := (f == 1 || f == 4) && x == .tx || (f == 2 || f == 4) && x == .rx

/-- State that counts for a sheet's strobes: from the first transmit lease of a campaign to the end of its last lease that of the
lease, transmit or receive (13 R286). -/
def strobeState (s : State) (n : Nat) : Radio :=
  match campOf s n with
  | some c =>
    let l := (tget [] c.starts n).map (·.1)
    if l.length < (campPlan c).length ∨ (orxOf s (bench s n)).owner = 2 then
      match l.getLast? with
      | some 1 => .tx
      | some 2 => .rx
      | _ => (sh s n).state
    else (sh s n).state
  | none => (sh s n).state

/-- The step between adjacent states that a sheet has under way: the state it leads to and its t_e (R267). -/
def hopNow (x : Sheet) : Option (Radio × Nat) := x.trans.map fun t =>
  let b := nextHop x.state t.1
  (b, add32 t.2 (-(deltaOf b t.1 : Int)))

/-- Level of a strobe now, before its polarity. -/
def strobeLevel (s : State) (n j : Nat) : Bool :=
  let r := strobeRec s n j
  let x := sh s n
  let f := fld r 2 1
  let st := strobeState s n
  let low := x.state == .sleep || x.state == .standby || x.outOfService || s.clk.lost.testBit 0 ||
    ((f == 1) && fbit r 3 1 1 && (holds s n).testBit holdPin)
  let was := x.strobes.testBit j
  if low then false
  else if f = 3 then x.txLock && x.rxLock
  else if strobeStates f st then
    (match hopNow x with
      | some (b, te) => if strobeStates f b then true else was && !due s (add32 te (sfld r 6 2))
      | none => was || due s (add32 x.hopTe (sfld r 4 2)))
  else match hopNow x with
    | some (b, te) => (strobeStates f b && due s (add32 te (sfld r 4 2))) || (was && f != 0 && !due s (add32 x.hopTe (sfld r 6 2)))
    | none => was && f != 0 && !due s (add32 x.hopTe (sfld r 6 2))

/-- STROBE_EDGE: a strobe takes the level its function gives it now. -/
def execStrobeEdge (sheet strobe : Nat) (s : State) : Host.Outcome State Fault Refusal :=
  done (whenP (sheetFit s sheet && decide (strobe < 4)) (modSheet sheet fun x => { x with
    strobes := if strobeLevel s sheet strobe then x.strobes ||| 2 ^ strobe else andNot x.strobes (2 ^ strobe) })) s

/-- ON_DELAY of a TX strobe lies at least 100 ns after OFF_DELAY of an RX strobe of the sheet, and the same exchanged. -/
def strobesAgree (s : State) (n : Nat) : Bool :=
  let l := (List.range 4).map (strobeRec s n)
  l.all fun a => l.all fun b => !((fld a 2 1 == 1 && fld b 2 1 == 2) || (fld a 2 1 == 2 && fld b 2 1 == 1)) ||
    decide (sfld b 6 2 + 100 ≤ sfld a 4 2)

/-! ### Forced changes and service (R260, R269, R274; 01 R30) -/

/-- Every armed timer, deferred action and bound write of a sheet is cancelled. -/
def dropTimers (n : Nat) : Prog := .ask fun s => .seq (each (sh s n).timers fun t => dropBound n (timerTag n t.1))
  (modSheet n fun x => { x with timers := [], deferred := [], trans := none })

/-- The sheet's pattern is disabled in its record too. -/
def patternOff (n : Nat) : Prog := .ask fun s => .seq
  (whenP (fbit (patRec s n) 1 1 0) (setSetting 0x0B02 n (putAt (patRec s n) 1 [0])))
  (modSheet n fun x => { x with patternOn := false, pat := none })

/-- A sheet is moved at once to STANDBY or SLEEP, its synthesizers off. -/
def forceState (n : Nat) (b : Radio) : Prog := .ask fun s => seqs
  [ dropTimers n, calStop n, hopEnd n (sh s n).state b (now s),
    modSheet n fun x => { x with strobes := 0 } ]

/-- Loss of REF (R269), and a thermal trip, which acts as it (15 R355): every sheet to STANDBY, every pattern disabled. -/
def forceStandby : Prog := .ask fun s => each (sheets s) fun n => seqs
  [ whenP (sh s n).patternOn (raise (evCode 9 4) n []),
    patternOff n,
    if (sh s n).state = .sleep then dropTimers n else forceState n .standby ]

/-- A sheet goes to SLEEP out of service, at its isolation (R274). -/
def forceSleep (n : Nat) : Prog := seqs
  [ patternOff n, forceState n .sleep,
    modSheet n fun x => { x with outOfService := true, losses := [], qsFail := false } ]

/-- The sheet's isolation waits for its boundary. -/
def isoWaits (s : State) (n : Nat) : Bool := s.clk.isoPend.any fun q => q.1 == 2 && q.2.1 == 8 && q.2.2 % 256 == n

/-- A sheet is taken out of service for a REASON (R274): isolated at the next slot boundary, where it goes to SLEEP; at once
with no carrier committed. -/
def outOfService (n reason : Nat) : Prog := .ask fun s => whenP (!isoWaits s n && !s.clk.isoSheet.testBit n) (seqs
  [ modSheet n fun x => { x with returning := false },
    isolate 2 8 (n + 256 * reason),
    whenP (cars s == []) (forceSleep n) ])

/-- SYNTH_CAL_TIMEOUT (R261): no lock 500 µs after the start. The calibration is repeated once; the second failure takes the
sheet out of service, and fails a return to service. -/
def execSynthCalTimeout (sheet : Nat) (s : State) : Host.Outcome State Fault Refusal :=
  let r := sh s sheet
  done (whenP (r.txCal && due s (add32 r.calStart 500000))
    (if r.calTry = 1 then calStart sheet (now s) 2
      else seqs [calStop sheet, raise (evCode 9 2) sheet [], outOfService sheet 2,
        whenP r.returning (.seq (modSheet sheet fun x => { x with returning := false }) (forceState sheet .sleep)) ])) s

/-- LO_UNLOCK (R260): an unplanned loss of lock of TXLO (0) or RXLO (1). Three within 10 s take the sheet out of service. -/
def execLoUnlock (sheet which : Nat) (s : State) : Host.Outcome State Fault Refusal :=
  let r := sh s sheet
  let recent := (r.losses.filter fun t => decide (upNs s < t + 10000000000)) ++ [upNs s]
  let locked := if which = 0 then r.txLock else r.rxLock
  done (whenP (decide (which < 2) && locked && (r.state == .synth || r.state == .rx || r.state == .tx)) (seqs
    [ setHold sheet holdLo, leaveReady sheet,
      modSheet sheet fun x => { x with
        txLock := x.txLock && which != 0, rxLock := x.rxLock && which != 1, losses := recent, unlocked := some (now s) },
      count blkRs sheet 0, raise (evCode 9 1) sheet [which],
      whenP (decide (3 ≤ recent.length)) (outOfService sheet 2) ])) s

/-- RECAL_AFTER_UNLOCK (R260 event 3): 1 µs after a loss the synthesizers calibrate at their committed frequency. -/
def execRecalAfterUnlock (sheet : Nat) (s : State) : Host.Outcome State Fault Refusal :=
  let r := sh s sheet
  done (match r.unlocked with
    | some t => whenP (due s (add32 t 1000) && (r.state == .synth || r.state == .rx || r.state == .tx))
        (.seq (modSheet sheet fun x => { x with unlocked := none }) (calStart sheet (now s) 1))
    | none => .skip) s

/-! ### Status words -/

/-- SHEET.RS_STATUS. -/
def rsStatusWord (s : State) (n : Nat) : Nat :=
  let r := sh s n
  radioCode r.state + 16 * radioCode ((r.trans.map (·.1)).getD r.state) + 256 * bit r.trans.isSome + 512 * bit r.changing +
    1024 * bit (txReadyNow s n) + 2048 * bit (rxReadyNow s n) + 4096 * bit r.outOfService + 8192 * bit r.patternOn

/-- SHEET.LO_STATUS. -/
def loStatusWord (s : State) (n : Nat) : Nat :=
  let r := sh s n
  bit r.txLock + 2 * bit r.rxLock + 8 * bit r.txCal + 16 * bit r.rxCal + 32 * bit r.qsFail

/-- Output divider of an LO in kHz (R258). -/
def loDiv (khz : Nat) : Nat := if 5600000 ≤ khz then 1 else if 2800000 ≤ khz then 2 else 4

/-- D, N and band of a synthesizer in one word, and F (R258). -/
def synthWords (khz band : Nat) : Nat × Nat :=
  let v := khz * loDiv khz
  (loDiv khz + 256 * (v / 245760) + 65536 * band, v % 245760)

/-- TDD.STROBE word of a record. -/
def strobeWord (r : Rec) : Nat :=
  fld r 2 1 + 16 * bit (fbit r 3 1 0) + 32 * bit (fbit r 3 1 1) + 64 * ofSigned 13 (sfld r 4 2) + 2 ^ 19 * ofSigned 13 (sfld r 6 2)

/-! ### Commands (R275) -/

/-- t_e of a request with NOW: the earliest symbol boundary of the lowest-numbered carrier that leaves 50 µs. -/
def nowTe (s : State) (n action : Nat) : Nat :=
  let at_ := fun d : Nat => extNow s + (50000 + d : Nat)
  let d := actionDelta (stateSoon (sh s n)) action
  match lowCar s with
  | some c => counterAt s (nextBoundary s 1 (carMu (refCar s c)) (at_ d)).2.2
  | none => add32 (now s) (50000 + d : Nat)

/-- t_e of an RS_TIMER_SET record. -/
def timerTe (s : State) (r : Rec) : Nat := if fbit r 3 1 0 then nowTe s (fld r 0 1) (fld r 2 1) else fld r 4 4

/-- The graticule sequencer or the survey solver is held for its microcode ABI: requests to RX or TX are refused (17 R391). -/
def engineHeld (s : State) : Bool := tget 0 s.clk.reason uGRAT == 1 || tget 0 s.clk.reason uSURVEY == 1

/-- Refusals of a radio-state request of RS_TIMER_SET (R269, R275; 01 R28, R30; 15 R355; 17 R391). -/
def timerOwn (s : State) (r : Rec) : Nat :=
  let n := fld r 0 1
  let a := fld r 2 1
  let x := sh s n
  if a = 0xFF then (if x.patternOn && decide (fld r 1 1 ≤ 5) then stBUSY else stOK)
  else if decide (3 ≤ a) && engineHeld s then stUNAVAILABLE
  else if !fbit r 3 1 0 && decide (2000000000 < int32Diff (fld r 4 4) (now s)) then stBAD_PARAM
  else if decide (2 ≤ a) && !s.clk.cpuPll then stSTATE
  else if s.clk.realign || s.clk.lost.testBit 0 then stSTATE
  else if x.patternOn && decide (a ≤ 1) then stSTATE
  else if x.patternOn && decide (fld r 1 1 ≤ 5) then stBUSY
  else if decide (3 ≤ a) && (!s.clk.aligned || s.kiln.tripped) then stSTATE
  else if stateSoon x == .sleep && a != 0 &&
      !([dDATUM, dGRAT, dSHEET n, dTXD n, dRXD n].all fun d => domOn s d) then stSTATE
  else stOK

/-- Unit of a sheet named at offset 0. -/
def sheetUnits : Rec → List Nat := fun r => [uSHEET (fld r 0 1)]

/-- RS_TIMER_SET (0x0B01). -/
def cmdRsTimerSet : CmdDef :=
  { op := 0x0B01, kind := .n, len := fixed 8, doms := fun _ => [dDATUM], units := sheetUnits
    fields := fun _ r => [⟨0, 1, .unit .sheet⟩, ⟨1, 1, .uns 0 6⟩, ⟨2, 1, .cond (decide (fld r 2 1 ≤ 4) || fld r 2 1 == 0xFF)⟩,
      ⟨3, 1, .bits 1⟩]
    own := fun _ r s => timerOwn s r
    answer := fun _ r s => (stOK, leBytes 4 (if fld r 2 1 = 0xFF then 0 else timerTe s r))
    effect := fun _ r => .ask fun s =>
      if fld r 2 1 = 0xFF then disarmTimer (fld r 0 1) (fld r 1 1)
      else armTimer (fld r 0 1) (fld r 1 1) (fld r 2 1) (timerTe s r) false }

/-- RS_PATTERN_SET (0x0B02). -/
def cmdRsPatternSet : CmdDef :=
  { op := 0x0B02, kind := .t, len := fun r => 8 + 8 * fld r 3 1, keys := fun r => [fld r 0 1], units := sheetUnits
    fields := fun _ r => [⟨0, 1, .unit .sheet⟩, ⟨1, 1, .bits 1⟩, ⟨2, 1, .cond ([1, 2, 4, 5, 8, 10, 16, 20, 40].contains (fld r 2 1))⟩,
        ⟨3, 1, .uns 1 24⟩, ⟨4, 4, .zero⟩] ++
      (List.range (fld r 3 1)).flatMap fun i => [⟨8 + 8 * i, 4, .cond (decide (fld r (8 + 8 * i) 4 < fld r 2 1 * 500000))⟩,
        ⟨12 + 8 * i, 1, .uns 2 4⟩] ++ rsv (13 + 8 * i) 3
    legal := fun r s =>
      if ((patEntries r).any fun e => decide (3 ≤ e.2)) && engineHeld s then stUNAVAILABLE
      else if beyondStandby (sh s (fld r 0 1)).state then stOK else stSTATE
    agree := fun r _ => if patternAgrees r then stOK else stBAD_PARAM
    apply := fun b r => .seq (patternStop (fld r 0 1)) (whenP (fbit r 1 1 0) (patternStart (fld r 0 1) b r)) }

/-- RS_PATTERN_GET (0x0B03). -/
def cmdRsPatternGet : CmdDef :=
  { op := 0x0B03, kind := .r, len := fixed 1, units := sheetUnits, fields := fun _ _ => [⟨0, 1, .unit .sheet⟩]
    answer := fun _ r s => (stOK, patRec s (fld r 0 1)) }

/-- RS_STATUS (0x0B04). -/
def cmdRsStatus : CmdDef :=
  { op := 0x0B04, kind := .r, len := fixed 2, units := sheetUnits, fields := fun _ _ => [⟨0, 1, .unit .sheet⟩, ⟨1, 1, .bits 1⟩]
    doms := fun r => [dSHEET (fld r 0 1)]
    answer := fun _ r s =>
      let n := fld r 0 1
      (stOK, leBytes 4 (rsStatusWord s n) ++ leBytes 4 (loStatusWord s n) ++ leBytes 4 (sh s n).lastTe ++ cntBytes s blkRs n 2 ++
        leBytes 4 (satBits s blkRs n 2))
    effect := fun _ r => whenP (fbit r 1 1 0) (clearCnts blkRs (fld r 0 1) 2) }

/-- A record of LO_SET that would change the channel: RECAL, or other frequencies than those in force. -/
def loChanges (s : State) (r : Rec) : Bool := fbit r 8 1 0 || r.take 8 != (loRec s).take 8

/-- LO_SET (0x0B05): its shadow load arms timer 7 of every fitted sheet with CHANGE for boundary B; at B the timers that are
still armed for it fire. -/
def cmdLoSet : CmdDef :=
  { op := 0x0B05, kind := .t, len := fixed 12, keys := fun _ => [0]
    fields := fun _ _ => [⟨0, 4, .uns 1400000 7125000⟩, ⟨4, 4, .uns 1400000 7125000⟩, ⟨8, 1, .bits 1⟩] ++ rsv 9 3
    agree := fun _ s => if txCarsAgree s && rxCarsAgree s then stOK else stBAD_PARAM
    load := fun b r => .ask fun s => whenP (loChanges s r) (each (sheets s) fun n => armTimer n 7 5 b false)
    apply := fun b _ => .ask fun s => each (sheets s) fun n =>
      match tfind (sh s n).timers 7 with
      | some x => whenP (x.tE == b) (.seq (modSheet n fun q => { q with timers := tdel q.timers 7 }) (fireAction n 5 b))
      | none => .skip }

/-- LO_STATUS (0x0B06). -/
def cmdLoStatus : CmdDef :=
  { op := 0x0B06, kind := .r, len := fixed 1, units := sheetUnits, fields := fun _ _ => [⟨0, 1, .unit .sheet⟩]
    answer := fun _ r s =>
      let n := fld r 0 1
      let x := sh s n
      let w := fun k band => synthWords (fld (loRec s) k 4) band
      (stOK, (loRec s).take 8 ++ leBytes 1 (loStatusWord s n) ++ leBytes 1 x.qsAttempts ++ leSigned 2 x.calTemp ++
        leBytes 4 x.calStart ++ leBytes 4 x.tDone ++ leBytes 4 (w 0 x.band.1).1 ++ leBytes 4 (w 0 x.band.1).2 ++
        leBytes 4 (w 4 x.band.2).1 ++ leBytes 4 (w 4 x.band.2).2) }

/-- TDD_STROBE_SET (0x0B07). -/
def cmdTddStrobeSet : CmdDef :=
  { op := 0x0B07, kind := .t, len := fixed 8, keys := fun r => [4 * fld r 0 1 + fld r 1 1], units := sheetUnits
    fields := fun _ _ => [⟨0, 1, .unit .sheet⟩, ⟨1, 1, .uns 0 3⟩, ⟨2, 1, .uns 0 4⟩, ⟨3, 1, .bits 3⟩, ⟨4, 2, .sgn (-4000) 4000⟩,
      ⟨6, 2, .sgn (-4000) 4000⟩]
    agree := fun r s => if strobesAgree s (fld r 0 1) then stOK else stBAD_PARAM }

/-- TDD_STROBE_GET (0x0B08). -/
def cmdTddStrobeGet : CmdDef :=
  { op := 0x0B08, kind := .r, len := fixed 2, units := sheetUnits, fields := fun _ _ => [⟨0, 1, .unit .sheet⟩, ⟨1, 1, .uns 0 3⟩]
    answer := fun _ r s => (stOK, strobeRec s (fld r 0 1) (fld r 1 1)) }

/-- A sheet's domains for leaving SLEEP are ON and REF and the alignment stand. -/
def mayWake (s : State) (n : Nat) : Bool :=
  ([dDATUM, dGRAT, dSHEET n, dTXD n, dRXD n].all fun d => domOn s d) && !s.clk.realign && !s.clk.lost.testBit 0 && s.clk.cpuPll

/-- SHEET_SERVICE (0x0B09): out, or SLEEP to SYNTH with a quick survey and back into service (R274). -/
def cmdSheetService : CmdDef :=
  { op := 0x0B09, kind := .n, parked := true, len := fixed 4
    fields := fun _ _ => [⟨0, 1, .unit .sheet⟩, ⟨1, 1, .uns 0 1⟩, ⟨2, 2, .zero⟩]
    own := fun _ r s =>
      if fld r 1 1 = 1 then (if inService s (uSHEET (fld r 0 1)) || !mayWake s (fld r 0 1) then stSTATE else stOK)
      else if inService s (uSHEET (fld r 0 1)) then stOK else stUNAVAILABLE
    effect := fun _ r => .ask fun s =>
      let n := fld r 0 1
      if fld r 1 1 = 0 then outOfService n 3
      else .seq (modSheet n fun x => { x with returning := true, qsAttempts := 0, done := false })
        (startTransition n .synth (add32 (now s) (deltaOf .sleep .synth)))
    ready := fun r s =>
      let x := sh s (fld r 0 1)
      if fld r 1 1 = 0 then s.clk.isoSheet.testBit (fld r 0 1) else !x.returning || x.qsFail || x.done
    finish := fun _ r _ _ s =>
      let n := fld r 0 1
      let x := sh s n
      if fld r 1 1 = 0 then (stOK, [], .skip)
      else if x.done && !x.qsFail then
        (stOK, [], .seq (modSheet n fun q => { q with returning := false }) (isolate 3 8 n))
      else (stHW_FAULT, [], seqs [forceState n .sleep, modSheet n fun q => { q with returning := false, qsFail := false }])
    clashes := fun r op r2 => op == 0x0B09 && fld r2 0 1 == fld r 0 1 }

end Sys2Proof.Machine
end

