-- ==== Sys2Proof/Machine/Lease.lean ====
section
/-! DEFINITION. Leases of the observation receivers
(09_predistortion_observation R194, R197, R198, R209; 13 R276, R286 to R289, R297; 14 R322). -/

namespace Sys2Proof.Machine

open Sys2Proof

/-! ### What requests a lease (R197, R200) -/

/-- Reset of TUNER_SET. -/
def tunerReset (p : Nat) : Rec := leBytes 1 p ++ [0, 0, 1, 0, 1, 0x1C, 1] ++ zeros 7 ++ [40, 0, 0, 10, 0]

/-- TUNER_SET record in force. -/
def tunerRec (s : State) (p : Nat) : Rec := setting s 0x0C20 p (tunerReset p)

/-- A mismatch measurement of the path is due (14 R322). -/
def mismatchWants (s : State) (p : Nat) : Bool := s.rffe.want.testBit p && fbit (tunerRec s p) 1 1 1 && dpdCond s p

/-- Paths of a sheet in round-robin order, from the one after the last served. -/
def robin (s : State) (n : Nat) : List Nat :=
  match tfind s.dpd.lastPath n with
  | some p => (sheetPaths n).drop (p % 16 + 1) ++ (sheetPaths n).take (p % 16 + 1)
  | none => sheetPaths n

/-- The other receiver of the sheet. -/
def twin (k : Nat) : Nat := if k % 2 = 0 then k + 1 else k - 1

/-- The next path of the sheet that asks for a lease and is not held by the other receiver. -/
def dpdNext (s : State) (k : Nat) : Option Nat :=
  (robin s (k / 2)).find? fun p => (dpdWants s p || mismatchWants s p) && (orxOf s (twin k)).path != some p

/-- Parts of the 50 µs from now, in ns, in which a covered uplink symbol is on the air. -/
def coveredSpans (s : State) : List (Int × Int) := (rxCars s).flatMap fun c =>
  let mu := carMu (rxCar s c)
  let t := extNow s
  [halfOf s t - 1, halfOf s t, halfOf s t + 1].flatMap fun h => (List.range (symPerHalf mu)).filterMap fun j =>
    let a := symNs s mu h j - t
    let b := a + (symAir s mu h j).2
    if 0 < b ∧ a < 50000 ∧ hasSection (covering s 1 c h j) = true then some (a, b) else none

/-- Start, in ns from now, of 20 µs of the lease that starts now which no covered uplink symbol overlaps (13 R297). -/
def openGap (s : State) : Option Int :=
  let busy := coveredSpans s
  ((0 : Int) :: busy.map (·.2)).find? fun t => decide (0 ≤ t ∧ t + 20000 ≤ 50000) &&
    busy.all fun b => decide (b.2 ≤ t ∨ t + 20000 ≤ b.1)

/-- The sheet is the partner of a lone quick survey that has not been solved. -/
def partnerOwed (s : State) (n : Nat) : Bool := s.survey.camps.any fun c => c.partner == some n && !c.solved

/-- Arrangement of the tracking lease that receiver `k` may take, none where tracking asks for none (13 R297). -/
def trackWants (s : State) (k : Nat) : Option Nat :=
  let n := k / 2
  if fbit (surveyRec s) 0 1 0 && k == bench s n && inService s (uSHEET n) && (campOf s n).isNone && !engineLost s then
    if txReadyNow s n then (if (elsOf n).any (toneOn s) then none else some 1)
    else if rxReadyNow s n && (sh s n).trans.isNone && !partnerOwed s n && (openGap s).isSome then some 3 else none
  else none

/-- Receiver `k` can observe a path: one of its sheet with a VALID coupler map (R194). -/
def observable (s : State) (k p : Nat) : Bool := p / 16 == k / 2 && couplerValid s p

/-- The lowest capture slot that waits for a lease of receiver `k` (18 R418); a path that it cannot observe gets none. -/
def tapNext (s : State) (k : Nat) : Option CapSlot :=
  (s.cap.slots.find? fun c => c.2.state == 1 && fld c.2.req 1 1 == 5 && fld c.2.req 12 1 == k && due s (fld c.2.req 16 4) &&
    (setBits 64 (fld c.2.req 4 8)).all (observable s k)).map (·.2)

/-! ### Grants (R197, R198) -/

/-- The lease of index `i` of a frame of 16 is reserved for predistortion: SHARE of them are, in an order the manual leaves
open (a free value where both are possible, assumption log 3). -/
def leaseReserved (s : State) (o : Orx) : Bool :=
  let left := fld (dpdRec s) 2 1 - o.reserved
  if left = 0 then false else if 16 - o.index ≤ left then true else decide (freeNow s % 2 = 1)

/-- The lease of a receiver begins: its holder, source and path. -/
def grant (k owner source : Nat) (path : Option Nat) (wide mismatch : Bool) : Prog := .ask fun s => seqs
  [ modOrx k fun o => { o with
      owner := owner, source := source, path := path, wide := wide, leaseStart := now s, capture := 0, mismatch := mismatch
      touched := false, map := match path with
        | some p => couplerRec s p
        | none => []
      recent := match owner, path with
        | 1, some p => ((p, 255) :: o.recent).take 16
        | _, _ => o.recent },
    count blkOrx k (owner - 1),
    match path with
    | some p => couplerWrite (couplerRec s p) (some (k % 2))
    | none => .skip ]

/-- The span TXLO ± LIN_BW / 2 lies in one of the zones of wide mode (R195). -/
def wideFits (s : State) : Bool :=
  let lo : Int := (fld (loRec s) 0 4 : Int) - 500 * fld (dpdRec s) 6 2
  let hi : Int := (fld (loRec s) 0 4 : Int) + 500 * fld (dpdRec s) 6 2
  decide ((40000 ≤ lo ∧ hi ≤ 1926080) ∨ (2006080 ≤ lo ∧ hi ≤ 3892160))

/-- The path asks for wide mode. -/
def wideAsked (s : State) (p : Nat) : Bool := fbit (dpdPathRec s p) 2 1 0

/-- A predistortion lease, for a mismatch measurement where one is due (14 R322): its reverse select is triggered 20 µs
after the lease start. -/
def grantDpd (k p : Nat) : Prog := .ask fun s =>
  let mm := mismatchWants s p
  let t := tunerRec s p
  let c := couplerRec s p
  seqs
    [ grant k 1 1 (some p) (wideAsked s p && wideFits s && !mm) mm,
      modDpd fun d => { d with lastPath := tset d.lastPath (k / 2) p },
      whenP mm (.seq (modRffe fun r => { r with want := andNot r.want (2 ^ p) })
        (critGroup (fld c 2 1) 4 (now s) (add32 (now s) 20000) 0
          [maskedItem (fld c 3 1) (fld t 12 1) (fld t 13 1) (fld t 14 1)] (triggerItem (fld c 3 1) 0x1C 1))) ]

/-- The strobes and bound entries of a sheet follow a change of the survey's direction from `a`, as though a transition ended now
(13 R286, 14 R319). -/
def leaseTurn (n : Nat) (a : Radio) : Prog := .ask fun s => whenP (strobeState s n != a) (.seq
  (modSheet n fun x => { x with hopTe := now s }) (bindHop n 0 (a, strobeState s n, now s)))

/-- A lease of a campaign (13 R286 to R289): the arrangement of its plan on the sheet's network. -/
def grantCampaign (k : Nat) (c : Camp) : Prog := .ask fun s =>
  let n := k / 2
  let a := (campPlan c).getD (tget 0 c.leases k) 0
  let main := k == bench s n
  let src := if a = 0 then 0 else if a = 5 then (if tget 0 c.leases k = k % 2 then 2 else 0) else if main then 2 else 0
  seqs
    [ grant k 2 src none false false,
      modCamp c.number fun x => { x with
        leases := tset x.leases k (tget 0 x.leases k + 1)
        temps := if main && a != 0 then tset x.temps n (tget [] x.temps n ++ [sheetTemp s n]) else x.temps
        starts := if main then tmod [] x.starts n fun l => l ++ [(a, now s)] else x.starts
        rxMeas := if main && a == 2 then tset x.rxMeas n (sheetTemp s n, now s) else x.rxMeas },
      whenP main (modSurvey fun v => { v with
        arr := match c.partner with
          | some p => if a = 2 then tset (tset v.arr n a) p 4 else tset v.arr n a
          | none => tset v.arr n a }),
      whenP main (leaseTurn n (strobeState s n)) ]

/-- Survey tracking takes the lease. -/
def grantTrack (k a : Nat) : Prog := .ask fun s => seqs
  [ grant k 2 2 none false false,
    modOrx k fun o => { o with gap := add32 (now s) ((openGap s).getD 0 + 2000) },
    modSurvey fun v => { v with arr := tset v.arr (k / 2) a } ]

/-- A capture of class 0x10 takes the lease, with the coupler of the path it names. -/
def grantTap (k : Nat) (c : CapSlot) : Prog := grant k 3 1 (setBits 64 (fld c.req 4 8)).head? false false

/-- A receiver may take leases: in service, or of a sheet that returns to service (12 R274). -/
def orxLive (s : State) (k : Nat) : Bool :=
  decide (k < 8) && domOn s (dSHEET (k / 2)) && domOn s dDATUM && domOn s dDPDE &&
    (inService s (uORX k) || (sheetFit s (k / 2) && (sh s (k / 2)).returning && (orxOf s k).service == 0))

/-- LEASE_START (R197): the next lease of a receiver begins and is granted in the order of priority. A reserved lease that
its owner does not ask for goes to the other; what the kiln holds is not granted and counts. -/
def execLeaseStart (orx : Nat) (s : State) : Host.Outcome State Fault Refusal :=
  let o := orxOf s orx
  let n := orx / 2
  let mine := leaseReserved s o
  let d := dpdNext s orx
  let t := trackWants s orx
  let dOk := d.isSome && granted s 2
  let tOk := t.isSome && granted s 3
  let takeD := dOk && (mine || !tOk)
  let tap := tapNext s orx
  done (whenP (orxLive s orx && o.owner == 0) (.seq dpdRefresh (.seq
    (.seq drawFree (modOrx orx fun x => { x with
      index := (x.index + 1) % 16, reserved := if x.index = 15 then 0 else x.reserved + bit mine }))
    (match s.survey.camps.find? fun c => c.sheets.testBit n && due s c.start with
    | some c => grantCampaign orx c
    | none => seqs
      [ whenP (d.isSome && !dOk) held, whenP (t.isSome && !tOk) held,
        match d, t, tap with
        | some p, a, c =>
          if takeD then grantDpd orx p
          else if tOk then grantTrack orx (a.getD 1)
          else (match c with
            | some x => whenP (granted s 5) (grantTap orx x)
            | none => .skip)
        | none, a, c =>
          if tOk then grantTrack orx (a.getD 1)
          else (match c with
            | some x => whenP (granted s 5) (grantTap orx x)
            | none => .skip) ])))) s

/-- LEASE_END (R201 event 4): 50 µs after its start the coupler goes off and the network returns to IDLE. -/
def execLeaseEnd (orx : Nat) (s : State) : Host.Outcome State Fault Refusal :=
  let o := orxOf s orx
  done (whenP (o.owner != 0 && due s (add32 o.leaseStart 50000)) (.seq dpdRefresh (seqs
    [ whenP (o.map != []) (couplerWrite o.map none),
      whenP (o.owner == 2 && orx == bench s (orx / 2)) (modSurvey fun v => { v with
        arr := v.arr.filter fun a => a.1 != orx / 2 && !(match campOf s (orx / 2) with
          | some c => c.partner == some a.1 && a.2 == 4
          | none => false) }),
      modOrx orx fun x => { x with owner := 0, source := 0, path := none, map := [], wide := false, capture := 0, mismatch := false },
      whenP (o.owner == 2 && orx == bench s (orx / 2)) (leaseTurn (orx / 2) (strobeState s (orx / 2))) ]))) s

/-- COUPLER_SETTLE in ns. -/
def settleDelay (s : State) : Nat := 100 * fld (dpdRec s) 16 2

/-! ### Receivers out of service (R209) -/

/-- Paths that ALIGN rejected in the last sixteen leases of a receiver. -/
def alignBad (o : Orx) : List Nat := distinct ((o.recent.filter fun r => r.2 == 4).map (·.1))

/-- ORX_FAILED (R209): ALIGN rejected four different paths, one of which the other receiver accepted. -/
def execOrxFailed (orx : Nat) (s : State) : Host.Outcome State Fault Refusal :=
  let bad := alignBad (orxOf s orx)
  done (whenP (decide (orx < 8) && inService s (uORX orx) && decide (4 ≤ bad.length) &&
    bad.any fun p => (orxOf s (twin orx)).recent.contains (p, 0)) (orxFail orx)) s

/-- ORX.STATUS. -/
def orxStatusWord (s : State) (k : Nat) : Nat :=
  let o := orxOf s k
  o.source + 8 * bit o.wide + 16 * o.service + 256 * o.owner

/-- ORX.LEASE_PATH. -/
def leasePathWord (s : State) (k : Nat) : Nat :=
  match (orxOf s k).path with
  | some p => p + 64
  | none => 0

/-- ORX_STATUS (0x090B). -/
def cmdOrxStatus : CmdDef :=
  { op := 0x090B, kind := .r, len := fixed 2, doms := fun r => [dSHEET (fld r 0 1 / 2)], units := fun r => [uORX (fld r 0 1)]
    fields := fun _ _ => [⟨0, 1, .unit .orx⟩, ⟨1, 1, .bits 1⟩]
    answer := fun _ r s =>
      let k := fld r 0 1
      (stOK, leBytes 4 (orxStatusWord s k) ++ leBytes 4 (leasePathWord s k) ++ cntBytes s blkOrx k 3 ++
        leBytes 4 (satBits s blkOrx k 3))
    effect := fun _ r => whenP (fbit r 1 1 0) (clearCnts blkOrx (fld r 0 1) 3) }

/-- Pairs of 16-bit I and Q. -/
def iqPairs (r : Rec) : List (Int × Int) := (List.range (r.length / 4)).map fun i => (sfld r (4 * i) 2, sfld r (4 * i + 2) 2)

/-- The check of R202 on what a return measured: the first half of the bytes is the observation of the calibration network, the
second the stream it is held against, of which the manual says nothing more (assumption log 90). -/
def returnGood (data : Rec) : Bool :=
  let z := iqPairs (data.take (data.length / 2))
  let x := iqPairs (data.drop (data.length / 2))
  aligned95 (alignTo z x) x

/-- ORX_SERVICE (0x090C): out, or back once a capture of the calibration network passes the checks of R202; completion brings
the capture. -/
def cmdOrxService : CmdDef :=
  { op := 0x090C, kind := .n, parked := true, len := fixed 4
    fields := fun _ _ => [⟨0, 1, .unit .orx⟩, ⟨1, 1, .uns 0 1⟩, ⟨2, 2, .zero⟩]
    doms := fun r => [dSHEET (fld r 0 1 / 2)], units := fun r => [uSHEET (fld r 0 1 / 2)]
    own := fun _ r s =>
      let o := orxOf s (fld r 0 1)
      if fld r 1 1 = 0 ∧ o.service ≠ 0 then stUNAVAILABLE else if fld r 1 1 = 1 ∧ o.service = 0 then stSTATE else stOK
    effect := fun _ r => whenP (fld r 1 1 == 0) (isolate 2 7 (fld r 0 1 + 768))
    ready := fun r s => fld r 1 1 == 1 || (orxOf s (fld r 0 1)).service != 0
    finish := fun _ r ok data s =>
      if fld r 1 1 = 0 then (if (orxOf s (fld r 0 1)).service = 2 then stUNAVAILABLE else stOK, [], .skip)
      else if ok && returnGood data then (stOK, [], isolate 3 7 (fld r 0 1)) else (stHW_FAULT, [], .skip)
    clashes := fun r op r2 => op == 0x090C && fld r2 0 1 == fld r 0 1 }

end Sys2Proof.Machine
end

