-- ==== Sys2Proof/Machine/Tuner.lean ====
section
/-! DEFINITION. Antenna tuners and mismatch (14_front_end_control R320 to R324). -/

namespace Sys2Proof.Machine

open Sys2Proof

/-- INTERVAL has passed since the path's last request. -/
def intervalOver (s : State) (p : Nat) : Bool :=
  match tfind s.rffe.asked p with
  | some t => decide (t + 1000000000 * fld (tunerRec s p) 18 2 ≤ upNs s)
  | none => true

/-- MISMATCH_INTERVAL (R322): a measurement of the path is requested. -/
def execMismatchInterval (path : Nat) (s : State) : Host.Outcome State Fault Refusal :=
  done (whenP (pathFit s path && fbit (tunerRec s path) 1 1 1 && intervalOver s path) (modRffe fun r => { r with
    want := r.want ||| 2 ^ path, asked := tset r.asked path (upNs s) })) s

/-- The word of Γ composed with REV_CAL against 0.1, and whether its MAG was clamped: magnitudes and phases add before the
clamp. -/
def gammaWord (f r : Int × Int) (cal : Nat) : Nat × Bool :=
  let g := cmul r (f.1, -f.2)
  let p := (norm2 g).toNat
  if p = 0 then (cbNullWord, false)
  else
    let m := qdbPower (p * 100) (norm2 f * norm2 f).toNat + cbMag cal
    (cbMk (clampI (-63) 63 m) ((phaseBu g.1 g.2 + cbPh cal : Nat) : Int), decide (63 < m.natAbs))

/-- RFFE.GAMMA of a path. -/
def gammaOf (s : State) (p : Nat) : Nat := tget 0x8000 s.rffe.gamma p

/-- TUNER_SET (0x0C20). -/
def cmdTunerSet : CmdDef :=
  { op := 0x0C20, kind := .t, len := fixed 20, keys := fun r => [fld r 0 1], units := fun r => [uSHEET (fld r 0 1 / 16)]
    fields := fun _ r => [⟨0, 1, .unit .path⟩, ⟨1, 1, .bits 7⟩, ⟨2, 1, .unit .master⟩, ⟨2, 1, .cond (fld r 2 1 / 2 == fld r 0 1 / 16)⟩,
      ⟨3, 1, .uns 1 15⟩, ⟨4, 1, .cond (decide (fld r 4 1 + fld r 5 1 ≤ 256))⟩, ⟨5, 1, .uns 1 4⟩, ⟨6, 1, .uns 0 31⟩,
      ⟨8, 4, .cond (decide (fld r 8 4 < 256 ^ fld r 5 1))⟩, ⟨15, 1, .sgn (-63) 63⟩, ⟨16, 2, .cb .both⟩, ⟨18, 2, .uns 1 3600⟩]
    load := fun b r => .ask fun s => whenP (fbit r 1 1 0) (critGroup (fld r 2 1) 3 (now s) b 0
      [[3] ++ leBytes 1 (fld r 3 1) ++ leBytes 2 (fld r 4 1) ++ leBytes 1 (fld r 5 1) ++ zeros 3 ++ padTo 8 ((r.drop 8).take (fld r 5 1))]
      (triggerItem (fld r 3 1) (fld r 6 1) (fld r 7 1))) }

/-- TUNER_GET (0x0C21). -/
def cmdTunerGet : CmdDef :=
  { op := 0x0C21, kind := .r, len := fixed 1, units := pathUnits 0, fields := fun _ _ => [⟨0, 1, .unit .path⟩]
    answer := fun _ r s => (stOK, tunerRec s (fld r 0 1)) }

/-- TUNER_STATUS (0x0C22). -/
def cmdTunerStatus : CmdDef :=
  { op := 0x0C22, kind := .r, len := fixed 2, units := pathUnits 0, fields := fun _ _ => [⟨0, 1, .unit .path⟩, ⟨1, 1, .bits 1⟩]
    answer := fun _ r s =>
      let p := fld r 0 1
      (stOK, leBytes 2 (gammaOf s p) ++ zeros 2 ++ leBytes 4 (tget 0 s.rffe.lastNs p) ++ cntBytes s blkTuner p 4 ++
        leBytes 4 (satBits s blkTuner p 4))
    effect := fun _ r => whenP (fbit r 1 1 0) (clearCnts blkTuner (fld r 0 1) 4) }

end Sys2Proof.Machine
end

