-- ==== Sys2Proof/Machine/Capture.lean ====
section
/-! DEFINITION. Captures, the test pattern and its analysis: class 0x10 (18_mailbox_commands R417 to R421). -/

namespace Sys2Proof.Machine

open Sys2Proof

/-! ### Slots (R417, R418) -/

/-- An IDLE slot that has not captured. -/
def slot0 : CapSlot :=
  { state := 0, req := zeros 24, hold := false, abort := 0, firstSym := 0, firstNs := 0, doneLen := 0, stream := 0, prb := 0, mu := 0
    analysis := none }

/-- A capture slot. -/
def capOf (s : State) (k : Nat) : CapSlot := tget slot0 s.cap.slots k

/-- Change a slot. -/
def modSlot (k : Nat) (f : CapSlot → CapSlot) : Prog := modCap fun c => { c with slots := tmod slot0 c.slots k f }

/-- CARRIER, BASE and LEN of a request. -/
def capCar (r : Rec) : Nat := fld r 2 1
def capBase (r : Rec) : Nat := fld r 13 1
def capLen (r : Rec) : Nat := fld r 20 4

/-- Streams of a request: one for each path, and the receiver's alone at tap 5. -/
def capStreams (r : Rec) : Nat := if capTap r = 5 then 1 else (capPaths r).length

/-- Bytes of one stream. -/
def streamLen (s : State) (r : Rec) : Nat :=
  if capTap r = 2 then capLen r * 48 * carPrb (rxCar s (capCar r)) else capLen r * 4

/-- ADDR and BYTES of a slot; 0 while it is IDLE. -/
def capAddr (c : CapSlot) : Nat := if c.state = 0 then 0 else 0x60000000 + capBase c.req * 0x10000
def capBytes (c : CapSlot) : Nat := c.stream * capStreams c.req

/-- Samples per second of a path at the tap of a request. -/
def tapRate (s : State) (r : Rec) : Nat :=
  match capTap r with
  | 1 => 30720000 * 2 ^ carRate (rxCar s (capCar r))
  | 2 => 12 * carPrb (rxCar s (capCar r)) * 14000 * 2 ^ carMu (rxCar s (capCar r))
  | 3 => 983040000
  | 4 => 3932160000
  | _ => 1966080000

/-- Two byte ranges overlap. -/
def rangesMeet (a n b m : Nat) : Bool := decide (a < b + m) && decide (b < a + n)

/-- The refusals of CAPTURE_SET beyond its fields (R417): the slot itself must be IDLE. -/
def captureOwn (s : State) (r : Rec) : Nat :=
  let n := streamLen s r * capStreams r
  let d := int32Diff (fld r 16 4) (now s)
  if (capOf s (fld r 0 1)).state ≠ 0 then stSTATE
  else if (256 - capBase r) * 0x10000 < n then stBAD_PARAM
  else if s.cap.slots.any fun c => c.2.state != 0 && rangesMeet (capBase r * 0x10000) n (capBase c.2.req * 0x10000) (capBytes c.2) then
    stBAD_PARAM
  else if 32000000000 < 4 * tapRate s r * capStreams r then stBAD_PARAM
  else if !fbit r 3 1 0 && decide (2000000000 < d) then stBAD_PARAM
  else if !fbit r 3 1 0 && decide (d < 10000) then stLATE
  else if !granted s 5 then stBUDGET
  else stOK

/-- CAPTURE_SET (0x1001). -/
def cmdCaptureSet : CmdDef :=
  { op := 0x1001, kind := .n, len := fixed 24, doms := fun _ => [dGRAT], units := fun _ => [uGRAT], stores := false
    fields := fun s r =>
      let t := capTap r
      let onCar := t == 1 || t == 2
      [⟨0, 1, .uns 0 3⟩, ⟨1, 1, .uns 0 5⟩,
        ⟨2, 1, .cond (if onCar then (rxCars s).contains (capCar r) else capCar r == 0)⟩, ⟨3, 1, .bits 1⟩, ⟨4, 8, .units .path⟩,
        ⟨4, 8, .cond (t == 5 || fld r 4 8 != 0)⟩, ⟨4, 8, .cond (t != 5 || decide ((capPaths r).length ≤ 1))⟩,
        (if t = 5 then ⟨12, 1, .unit .orx⟩ else ⟨12, 1, .zero⟩), ⟨14, 2, .zero⟩,
        ⟨20, 4, .uns 1 (if t = 5 then 65536 else 4194304)⟩]
    own := fun _ r s => captureOwn s r
    answer := fun _ r s => (stOK, leBytes 4 (0x60000000 + capBase r * 0x10000) ++ leBytes 4 (streamLen s r * capStreams r))
    effect := fun _ r => .ask fun s => modSlot (fld r 0 1) fun _ => { slot0 with
      state := 1, req := if fbit r 3 1 0 then putAt r 16 (leBytes 4 (now s)) else r, stream := streamLen s r
      prb := carPrb (rxCar s (capCar r)), mu := carMu (rxCar s (capCar r)) } }

/-- A hold touches a captured transmit path, or a captured sheet is not in RX and ready (R418). -/
def capTouched (s : State) (r : Rec) : Bool :=
  let ps := capPaths r
  if capTap r = 3 ∨ capTap r = 4 ∨ capTap r = 5 then ps.any (pathTouched s)
  else ps.any fun p => !rxReadyNow s (p / 16)

/-- A capture is aborted for a reason. -/
def capAbort (k why : Nat) : Prog := modSlot k fun c => { c with state := 4, abort := why }

/-- CAPTURE_START (R418): an armed capture whose start has come, at its first sample's time for taps 0, 1, 3 and 4, which the
tap's rate sets; a capture that finds TEST held is aborted. -/
def execCaptureStart (slot firstNs : Nat) (s : State) : Host.Outcome State Fault Refusal :=
  let c := capOf s slot
  let r := c.req
  let go := fun (t sym : Nat) => modSlot slot fun x => { x with state := 2, firstNs := t, firstSym := sym, hold := capTouched s r }
  let k := fld r 12 1
  let o := orxOf s k
  let at_ := add32 o.leaseStart (settleDelay s)
  done (whenP (c.state == 1 && due s (fld r 16 4)) (
    if capTap r = 5 then whenP (o.owner == 3 && o.capture == 0 && o.path == (capPaths r).head? && due s at_)
      (.seq (modOrx k fun x => { x with capture := 1 }) (go at_ 0))
    else if !granted s 5 then capAbort slot 2
    else if capTap r = 2 then
      let b := nextBoundary s 1 c.mu (extTotal s.datum.ref (fld r 16 4))
      whenP (due s (counterAt s b.2.2)) (go (counterAt s b.2.2) ((b.1 % 20).toNat * symPerHalf c.mu + b.2.1))
    else
      let d := int32Diff firstNs (fld r 16 4)
      whenP (due s firstNs && decide (0 ≤ d) && decide (d * (tapRate s r : Nat) ≤ 1000000000 + (tapRate s r : Nat))) (go firstNs 0))) s

/-- Length of a capture in whole ns. -/
def capSpan (s : State) (c : CapSlot) : Nat :=
  if capTap c.req = 2 then capLen c.req * 1000000 / (14 * 2 ^ c.mu) else capLen c.req * 1000000000 / tapRate s c.req

/-- Running captures that a hold touches at this moment, or whose sheet is not in RX and ready, keep it (R418). -/
def touchSlots : Prog := .ask fun s => whenP (s.cap.slots.any fun c => c.2.state == 2) (modCap fun c => { c with
  slots := c.slots.map fun x => (x.1, { x.2 with hold := x.2.hold || (x.2.state == 2 && capTouched s x.2.req) }) })

/-- CAPTURE_DONE (R417, R418), after so many samples of each stream: LEN samples of every stream stand in the slot's region. -/
def execCaptureDone (slot samples : Nat) (data : Rec) (s : State) : Host.Outcome State Fault Refusal :=
  let c := capOf s slot
  done (whenP (c.state == 2 && samples == capLen c.req && due s (add32 c.firstNs (capSpan s c))) (seqs
    [ store .tun 4 (capBase c.req * 0x10000) (padTo (capBytes c) data),
      whenP (capTap c.req == 5) (modOrx (fld c.req 12 1) fun o => { o with capture := 2 }),
      modSlot slot fun x => { x with state := 3, doneLen := capLen c.req, hold := x.hold || capTouched s c.req } ])) s

/-- CAPTURE_ABORT (R418): a domain of the capture is not ON, or TEST is held before the start. -/
def execCaptureAbort (slot : Nat) (s : State) : Host.Outcome State Fault Refusal :=
  let c := capOf s slot
  done (whenP (c.state == 1 || c.state == 2)
    (if !((dGRAT :: capDoms c.req).all fun d => domOn s d) then capAbort slot 1
      else whenP (c.state == 1 && !granted s 5) (capAbort slot 2))) s

/-- CAPTURE_LEASE_TIMEOUT (R418): no lease within 100 ms. -/
def execCaptureLeaseTimeout (slot : Nat) (s : State) : Host.Outcome State Fault Refusal :=
  let c := capOf s slot
  done (whenP (c.state == 1 && capTap c.req == 5 && due s (add32 (fld c.req 16 4) 100000000)) (capAbort slot 4)) s

/-- CAPTURE_STATUS (0x1002). -/
def cmdCaptureStatus : CmdDef :=
  { op := 0x1002, kind := .r, len := fixed 1, doms := fun _ => [dGRAT], fields := fun _ _ => [⟨0, 1, .uns 0 3⟩]
    answer := fun _ r s =>
      let c := capOf s (fld r 0 1)
      (stOK, leBytes 1 c.state ++ leBytes 1 (capTap c.req) ++ leBytes 1 (capCar c.req) ++ leBytes 1 (bit c.hold) ++
        leBytes 1 c.abort ++ zeros 1 ++ leBytes 2 c.firstSym ++ leBytes 4 c.firstNs ++ leBytes 4 c.doneLen ++
        leBytes 4 (capAddr c) ++ leBytes 4 (capBytes c)) }

/-- Offset in the tun of the bytes a CAPTURE_READ names. -/
def capReadOff (s : State) (r : Rec) : Nat := capBase (capOf s (fld r 0 1)).req * 0x10000 + fld r 4 4

/-- CAPTURE_READ (0x1003): units with an uncorrectable error read as zeros (R419). -/
def cmdCaptureRead : CmdDef :=
  { op := 0x1003, kind := .r, len := fixed 12, doms := fun _ => [dGRAT]
    fields := fun _ r => [⟨0, 1, .uns 0 3⟩] ++ rsv 1 3 ++ [⟨4, 4, .cond (fld r 4 4 % 8 == 0)⟩, ⟨8, 1, .uns 8 192⟩,
      ⟨8, 1, .cond (fld r 8 1 % 8 == 0)⟩] ++ rsv 9 3
    own := fun _ r s =>
      let c := capOf s (fld r 0 1)
      if c.state ≠ 3 ∧ c.state ≠ 4 then stSTATE else if capBytes c < fld r 4 4 + fld r 8 1 then stBAD_PARAM else stOK
    answer := fun _ r s =>
      let off := capReadOff s r
      (if badRange s 4 off (fld r 8 1) then stECC_UNCORR else stOK, (List.range (fld r 8 1 / 8)).flatMap fun i =>
        if badRange s 4 (off + 8 * i) 8 then zeros 8 else readBytes s .tun 4 (off + 8 * i) 8)
    effect := fun _ r => .ask fun s => noteRead 4 (capReadOff s r) (fld r 8 1) }

/-- CAPTURE_RELEASE (0x1004): the slot is IDLE at once. -/
def cmdCaptureRelease : CmdDef :=
  { op := 0x1004, kind := .n, len := fixed 4, doms := fun _ => [dGRAT], units := fun _ => [uGRAT], stores := false
    fields := fun _ _ => [⟨0, 1, .uns 0 3⟩] ++ rsv 1 3
    effect := fun _ r => .ask fun s =>
      let c := capOf s (fld r 0 1)
      modSlot (fld r 0 1) fun _ => { slot0 with abort := if c.state = 1 ∨ c.state = 2 then 3 else 0 } }

/-! ### The test pattern (R420) -/

/-- Fields of an allocation and its pattern from offset `o`: START_PRB, NUM_PRB, SEED, LEVEL. -/
def patternFields (o : Nat) : List Fld := [⟨o, 2, .uns 0 272⟩, ⟨o + 2, 2, .uns 1 273⟩, ⟨o + 6, 2, .sgn (-320) 0⟩]

/-- TESTGEN_SET (0x1010). -/
def cmdTestgenSet : CmdDef :=
  { op := 0x1010, kind := .t, len := fixed 20, keys := fun r => [fld r 0 1]
    fields := fun _ _ => [⟨0, 1, .uns 0 7⟩, ⟨1, 1, .bits 1⟩, ⟨2, 1, .uns 0 3⟩, ⟨3, 1, .zero⟩] ++ patternFields 4 ++
      [⟨12, 8, .units .path⟩]
    legal := fun r s => if (setBits 64 (fld r 12 8)).all fun p => domOn s (dTXD (p / 16)) then stOK else stSTATE
    agree := fun r s => if carValid (txCar s (fld r 0 1)) && decide (fld r 4 2 + fld r 6 2 ≤ carPrb (txCar s (fld r 0 1))) then stOK
      else stBAD_PARAM }

/-- TESTGEN_GET (0x1011). -/
def cmdTestgenGet : CmdDef :=
  { op := 0x1011, kind := .r, len := fixed 1, fields := fun _ _ => [⟨0, 1, .uns 0 7⟩]
    answer := fun _ r s => (stOK, testRec s (fld r 0 1)) }

/-! ### Analysis (R421) -/

/-- Captured value of path index `i`, symbol `sym` and resource element `k` of a tap-2 slot. -/
def capValue (s : State) (c : CapSlot) (i sym k : Nat) : Int × Int :=
  let b := readBytes s .tun 4 (capBase c.req * 0x10000 + i * c.stream + (sym * 12 * c.prb + k) * 4) 4
  (sfld b 0 2, sfld b 2 2)

/-- Symbols of a slot with a value other than 0 on some path. -/
def capUsed (s : State) (c : CapSlot) : List Nat := (List.range (capLen c.req)).filter fun j =>
  (List.range (capStreams c.req)).any fun i => (List.range (12 * c.prb)).any fun k => capValue s c i j k != (0, 0)

/-- Values of one path in the allocation with the constellation points sent, unscaled. -/
def analysePairs (s : State) (c : CapSlot) (r : Rec) (used : List Nat) (i : Nat) : List ((Int × Int) × (Int × Int)) :=
  used.flatMap fun j =>
    let l := (c.firstSym + j) % (140 * 2 ^ c.mu)
    (List.range (12 * fld r 4 2)).map fun k =>
      (capValue s c i j (12 * fld r 2 2 + k),
        (qamPoint (fld r 1 1) ((5 * (k * (k + 1) / 2) + 3 * l + fld r 6 2) % 4 ^ (fld r 1 1 + 1))).1)

/-- EVM, GAIN and POWER of one path, exactly before they are rounded: `c` the points, G = Σ r c* / Σ |c|².
DESIGN CHOICE (assumption log 88): a GAIN clamped to ±63 qdB counts nothing, chapter 18 naming no CB_SAT. -/
def analysePath (s : State) (r : Rec) (ps : List ((Int × Int) × (Int × Int))) : Int × Nat × Int :=
  let pw := sumI (ps.map fun q => norm2 q.2)
  let g := csum (ps.map fun q => cmul q.1 (q.2.1, -q.2.2))
  let err := sumI (ps.map fun q => let m := cmul g q.2; norm2 (q.1.1 * pw - m.1, q.1.2 * pw - m.2))
  let ref := norm2 g * pw
  let a := expRound 32767 (sfld r 8 2)
  let norm := (qamPoint (fld r 1 1) 0).2
  let tot := sumI (ps.map fun q => norm2 q.1)
  (ratioQdb err.toNat ref.toNat (toSigned 16 (freeNow s)), (cbForm g.1 g.2 (a * a * (pw * pw).toNat) norm).1,
    ratioQdb tot.toNat (ps.length * 2 ^ 30) (toSigned 16 (freeAt s 1)))

/-- The entries of an analysis, one per captured path ascending, and NSYM_USED. -/
def analyseAll (s : State) (c : CapSlot) (r : Rec) : Nat × Rec :=
  let used := capUsed s c
  (used.length, (capPaths c.req).zipIdx.flatMap fun p =>
    if used = [] then leBytes 1 p.1 ++ zeros 1 ++ leBytes 2 0x8000 ++ leBytes 2 0x8000 ++ leBytes 2 0x8000
    else
      let v := analysePath s r (analysePairs s c r used p.2)
      leBytes 1 p.1 ++ zeros 1 ++ leSigned 2 v.1 ++ leBytes 2 v.2.1 ++ leSigned 2 v.2.2)

/-- The pattern fields of an ANALYSE request. -/
def patternKey (r : Rec) : Rec := (r.drop 1).take 9

/-- ANALYSE (0x1012): the result is kept until the slot is released or other pattern fields are asked for. -/
def cmdAnalyse : CmdDef :=
  { op := 0x1012, kind := .r, parked := true, len := fixed 16, doms := fun _ => [dGRAT]
    fields := fun _ _ => [⟨0, 1, .uns 0 3⟩, ⟨1, 1, .uns 0 3⟩] ++ patternFields 2 ++ [⟨10, 1, .uns 0 63⟩] ++ rsv 11 5
    own := fun _ r s =>
      let c := capOf s (fld r 0 1)
      if c.state ≠ 3 ∨ capTap c.req ≠ 2 then stSTATE
      else if c.prb < fld r 2 2 + fld r 4 2 then stBAD_PARAM
      else if !granted s 5 then stBUDGET
      else stOK
    finish := fun _ r _ _ s =>
      let c := capOf s (fld r 0 1)
      let res := match c.analysis with
        | some a => if a.1 = patternKey r then a.2 else analyseAll s c r
        | none => analyseAll s c r
      let first := ((capPaths c.req).filter fun p => decide (p < fld r 10 1)).length
      let n := min 16 ((capPaths c.req).length - first)
      (stOK, leBytes 1 n ++ zeros 1 ++ leBytes 2 res.1 ++ (res.2.drop (8 * first)).take (8 * n),
        seqs [drawFree, drawFree, modSlot (fld r 0 1) fun x => { x with analysis := some (patternKey r, res) }])
    clashes := fun r op r2 => ((decide (0x1001 ≤ op) && decide (op ≤ 0x1004)) || op == 0x1012) && fld r2 0 1 == fld r 0 1 }

end Sys2Proof.Machine
end

