-- ==== Sys2Proof/Machine/Tx.lean ====
section
/-! DEFINITION. The transmit path's commands and TXMUTE_N (08_transmit_path R164, R170, R179 to R184). -/

namespace Sys2Proof.Machine

open Sys2Proof

/-! ### TXMUTE_N (R181) -/

/-- Strobes with MUTE_GATE take their level at once (12 R273). -/
def gateStrobes : Prog := .ask fun s => each (sheets s) fun n => modSheet n fun x => { x with
  strobes := andNot x.strobes (maskOf ((List.range 4).filter fun j => fld (strobeRec s n j) 2 1 == 1 && fbit (strobeRec s n j) 3 1 1)) }

/-- TXMUTE_N_FALL: every fitted sheet carries its mute codes, the symbol in progress cut. -/
def execTxmuteNFall (s : State) : Host.Outcome State Fault Refusal :=
  done (whenP s.tx.mutePin (seqs
    [ modTx fun t => { t with mutePin := false, muteSeen := true, rise := none },
      each (sheets s) fun n => setHold n holdPin,
      gateStrobes, count blkTxd 16 0, raise (evCode 7 1) noUnit [] ])) s

/-- TXMUTE_N_RISE: the release waits 1,000 ns. -/
def execTxmuteNRise (s : State) : Host.Outcome State Fault Refusal :=
  done (whenP (!s.tx.mutePin) (modTx fun t => { t with mutePin := true, rise := some (now s) })) s

/-- TXMUTE_RELEASE: high throughout 1,000 ns, the hold ends at the first symbol start 5,000 ns after the rise or later. -/
def execTxmuteRelease (s : State) : Host.Outcome State Fault Refusal :=
  done (match s.tx.rise with
    | some t => whenP (s.tx.mutePin && due s (add32 t 1000)) (.seq (modTx fun x => { x with rise := none })
        (each (sheets s) fun n => endHold n holdPin (add32 t 5000)))
    | none => .skip) s

/-! ### Commands (R184) -/

/-- TXD.STATUS of a sheet. -/
def txdStatusWord (s : State) (n : Nat) : Nat :=
  bit (txReadyNow s n) + 2 * bit (sheetHeld s n || (sheetPaths n).all fun p => pathHeld s p) +
    4 * bit ((sheetPaths n).any fun p => toneOn s p) + 8 * bit ((holds s n).testBit holdPin)

/-- What a change of carriers must agree with: R177, R211, the flows of 04 R89 and the weight slots of 06 R131. -/
def carriersAgree (s : State) : Nat := if txCarsAgree s && rxCarsAgree s && slotsAgree s && flowsAgree s then stOK else stBAD_PARAM

/-- TX_CARRIER_SET (0x0701). -/
def cmdTxCarrierSet : CmdDef :=
  { op := 0x0701, kind := .t, len := fixed 16, keys := fun r => [fld r 0 1]
    fields := fun _ r => [⟨0, 1, .uns 0 7⟩, ⟨1, 1, .bits 15⟩, ⟨1, 1, .cond (decide (carMu r ≤ 2))⟩,
      ⟨2, 1, .cond (prbTable (carMu r) (fld r 2 1) != 0)⟩, ⟨3, 1, .cond (fld r 3 1 == 0 || decide (3 ≤ fld r 3 1 ∧ fld r 3 1 ≤ 10))⟩,
      ⟨6, 2, .cb .phaseOnly⟩, ⟨8, 4, .sgn (-4000000) 4000000⟩, ⟨12, 4, .zero⟩]
    agree := fun _ s => carriersAgree s }

/-- TX_CARRIER_GET (0x0702). -/
def cmdTxCarrierGet : CmdDef :=
  { op := 0x0702, kind := .r, len := fixed 1, fields := fun _ _ => [⟨0, 1, .uns 0 7⟩]
    answer := fun _ r s => (stOK, txCar s (fld r 0 1)) }

/-- TX_PATH_SET (0x0703). -/
def cmdTxPathSet : CmdDef :=
  { op := 0x0703, kind := .t, len := fixed 24, keys := fun r => [fld r 0 1]
    doms := fun r => [dTXD (fld r 0 1 / 16)], units := fun r => [uSHEET (fld r 0 1 / 16)]
    fields := fun _ _ => [⟨0, 1, .unit .path⟩, ⟨1, 1, .bits 3⟩, ⟨2, 2, .cb .both⟩, ⟨4, 2, .sgn (-8192) 8191⟩, ⟨6, 2, .sgn (-8192) 8191⟩,
      ⟨16, 2, .sgn (-4096) 4095⟩, ⟨18, 2, .sgn (-4096) 4095⟩, ⟨20, 4, .zero⟩] }

/-- TX_PATH_GET (0x0704). -/
def cmdTxPathGet : CmdDef :=
  { op := 0x0704, kind := .r, len := fixed 1, units := pathUnits 0, fields := fun _ _ => [⟨0, 1, .unit .path⟩]
    answer := fun _ r s => (stOK, txPathRec s (fld r 0 1)) }

/-- TX_CFR_SET record in force. -/
def cfrRec (s : State) : Rec := setting s 0x0705 0 ([2, 64] ++ leSigned 2 (-24) ++ zeros 4)

/-- TX_CFR_SET (0x0705). -/
def cmdTxCfrSet : CmdDef :=
  { op := 0x0705, kind := .t, len := fixed 8, keys := fun _ => [0]
    fields := fun _ _ => [⟨0, 1, .uns 0 2⟩, ⟨1, 1, .uns 32 255⟩, ⟨2, 2, .sgn (-96) 0⟩, ⟨4, 4, .zero⟩] }

/-- TX_TONE_SET (0x0706). -/
def cmdTxToneSet : CmdDef :=
  { op := 0x0706, kind := .t, len := fixed 12, keys := fun r => [fld r 0 1]
    doms := fun r => [dTXD (fld r 0 1)], units := sheetUnits
    fields := fun _ _ => [⟨0, 1, .unit .sheet⟩, ⟨1, 1, .bits 1⟩, ⟨4, 4, .sgn (-4000000) 4000000⟩, ⟨8, 2, .sgn (-320) 0⟩,
      ⟨10, 2, .cb .phaseOnly⟩] }

/-- TX_SHEET_SET (0x0707). -/
def cmdTxSheetSet : CmdDef :=
  { op := 0x0707, kind := .t, len := fixed 8, keys := fun r => [fld r 0 1]
    doms := fun r => [dTXD (fld r 0 1)], units := sheetUnits
    fields := fun _ _ => [⟨0, 1, .unit .sheet⟩, ⟨1, 1, .zero⟩, ⟨2, 2, .uns 0 8191⟩, ⟨4, 4, .zero⟩]
    legal := fun r s => if (sh s (fld r 0 1)).state = .tx then stSTATE else stOK }

/-- TX_STATUS (0x0708). -/
def cmdTxStatus : CmdDef :=
  { op := 0x0708, kind := .r, len := fixed 2, units := sheetUnits, doms := fun r => [dTXD (fld r 0 1)]
    fields := fun _ _ => [⟨0, 1, .unit .sheet⟩, ⟨1, 1, .bits 1⟩]
    answer := fun _ r s =>
      let n := fld r 0 1
      (stOK, leBytes 4 (txdStatusWord s n) ++ leBytes 4 (uFig (txRecs s)) ++ ((List.range 8).flatMap fun c => leBytes 4 (ltx s c)) ++
        cntBytes s blkTxd n 7 ++ cntBytes s blkTxd 16 1 ++ leBytes 4 (satBits s blkTxd n 7 + 128 * satBits s blkTxd 16 1))
    effect := fun _ r => whenP (fbit r 1 1 0) (.seq (clearCnts blkTxd (fld r 0 1) 7) (clearCnts blkTxd 16 1)) }

/-- TX_CFR_GET (0x0709). -/
def cmdTxCfrGet : CmdDef :=
  { op := 0x0709, kind := .r, len := fixed 4, fields := fun _ _ => [⟨0, 1, .uns 0 254⟩] ++ rsv 1 3
    answer := fun _ r s =>
      let first := fld r 0 1
      let n := if txCars s = [] then 0 else min 16 (255 - first)
      (stOK, leBytes 1 n ++ zeros 3 ++ (List.range n).flatMap fun (i : Nat) =>
        let p := pulseTap s ((first + i : Nat) - (127 : Int))
        leSigned 4 p.1 ++ leSigned 4 p.2) }

end Sys2Proof.Machine
end

