-- ==== Sys2Proof/Machine/Rx.lean ====
section
/-! DEFINITION. The receive path's measurements, PRACH extraction and commands (10_receive_path R211, R214, R216, R222, R223,
R228 to R234). -/

namespace Sys2Proof.Machine

open Sys2Proof

/-! ### Levels and the DC blocker (R213, R214, R223) -/

/-- A power of `n / d` in wide qdB, the free value where it is 0. -/
def wideQdb (n d : Nat) (free : Int) : Int := if n = 0 then free else qdbPower n d

/-- States of a sheet that samples from an index on still read: the newest ones, to the first that lies before it. -/
def keepStates (s : State) (i : Int) (l : List (Nat × Nat)) : List (Nat × Nat) :=
  l.take ((l.findIdx fun e => decide (dpIndex s e.1 ≤ i)) + 1)

/-- HALF_SUBFRAME_LEVEL (R214, R223): a half-subframe has ended, once for each; `codes` are all its codes by path. -/
def execHalfSubframeLevel (codes : List (Nat × List (Int × Int))) (s : State) : Host.Outcome State Fault Refusal :=
  done (.seq noteStates (.ask fun s =>
    let h := halfOf s (extNow s) - 1
    let hsf := counterAt s (symNs s 0 h 0)
    let kept := s.rx.outHalf == some (h % 20480).toNat
    let live := (paths s).filter fun p => domOn s (dRXD (p / 16))
    let free := toSigned 16 (freeNow s)
    whenP (s.rx.outHalf != some ((h + 1) % 20480).toNat) (seqs
      [ modRx fun r => { r with
          outHalf := some ((h + 1) % 20480).toNat, out := if kept then r.out else []
          states := r.states.map fun p => (p.1, keepStates s ((h - 2) * 983040) p.2) },
        each live fun p =>
          let l := pathCodes s p (tget [] codes p)
          let run := dcRun s p h l
          let sq := l.map fun x => ((16 * x.1) ^ 2 + (16 * x.2) ^ 2).toNat
          let clips := (l.filter fun x => codeClips x.1 x.2).length
          let whole := l != [] && worstCode s (p / 16) (h * 983040) ((h + 1) * 983040) == 0
          let lvl := fun (n d : Nat) => if whole then wideQdb n (d * 2 ^ 30) free else -32768
          .seq (countN blkRxd (p / 16) 3 clips) (modRx fun r => { r with
            dc := tset r.dc p (run.accI, run.accQ), dcLeft := tset r.dcLeft p run.left
            marks := tmod [] r.marks p fun m => m.filter fun x => decide ((h + 1) * 983040 ≤ dpIndex s x.time)
            dcAcq := if run.left = 0 then andNot r.dcAcq (2 ^ p) else r.dcAcq
            out := tmod [] r.out p fun (o : List (Int × Int)) => let o := o ++ run.out.reverse; o.drop (o.length - 2949120)
            level := tset r.level p (hsf, lvl (sumN sq) l.length, lvl (maxN sq) 1, clips) }),
        drawFree ]))) s

/-- DC_ACQ_END (R214): 65,536 updating samples have passed since a path's clear; its shift is K again. -/
def execDcAcqEnd (path : Nat) (s : State) : Host.Outcome State Fault Refusal :=
  done (.seq noteStates (.ask fun s =>
    let h := halfNow s
    whenP (pathFit s path && s.rx.dcAcq.testBit path && dcLeftAfter s path h (dpIndex s (now s) - h * 983040).toNat == 0)
      (modRx fun r => { r with dcAcq := andNot r.dcAcq (2 ^ path) }))) s

/-! ### Frequency offset (R233) -/

/-- QUAL: twice |c| over the energy sum, in units of 2^−15. -/
def foQual (c : Int × Int) (e : Nat) : Nat :=
  min 32767 ((Nat.sqrt (4 * 65536 ^ 2 * (c.1 ^ 2 + c.2 ^ 2).toNat / (e * e)) + 1) / 2)

/-- Start of the slot of a carrier that ended last. -/
def lastSlot (s : State) (mu : Nat) : Nat :=
  let t := extNow s
  let b := ((List.range 6).flatMap fun (i : Nat) =>
    let h := halfOf s t - 5 + (i : Int)
    (boundarySyms 2 mu h).map fun j => symNs s mu h j).filter fun x => decide (x ≤ t)
  counterAt s ((b.dropLast.getLast?).getD t)

/-- FO_SLOT_END (R233): the reports of a carrier's slot that has ended. -/
def execFoSlotEnd (carrier : Nat) (s : State) : Host.Outcome State Fault Refusal :=
  let car := rxCar s carrier
  let at_ := lastSlot s (carMu car)
  done (whenP (carValid car) (.seq (each (sheets s) fun n => .ask fun t =>
    let k := 8 * n + carrier
    let rep : Int × Nat := match tfind t.rx.foAcc k with
      | some (x, y, e) =>
        (if x = 0 ∧ y = 0 then toSigned 32 (freeNow t) else -(argScaled x y (15000 * 2 ^ carMu car) 1),
         if e = 0 then freeAt t 1 % 32768 else foQual (x, y) e)
      | none => (-2147483648, freeAt t 1 % 32768)
    seqs [modRx fun r => { r with fo := tset r.fo k (rep.1, rep.2, at_), foAcc := tdel r.foAcc k }, drawFree]) drawFree)) s

/-! ### PRACH (R228 to R231) -/

/-- A row of R228: decimations from the carrier's rate as a power of two of the extraction rate, L_RA, N_RA, N_u,RA in T_s,
Δf_RA in Hz, extraction rate in units of 1.92 MS/s. -/
structure PrachRow where
  len : Nat
  size : Nat
  useful : Nat
  df : Nat
  rate : Nat
  deriving DecidableEq, Repr

/-- The row of a filterIndex. -/
def prachShape (f : Nat) : PrachRow :=
  if f = 1 then { len := 839, size := 1536, useful := 24576, df := 1250, rate := 1 }
  else if f = 2 then { len := 839, size := 1536, useful := 6144, df := 5000, rate := 4 }
  else if f = 3 then { len := 139, size := 256, useful := 2048, df := 15000, rate := 2 }
  else { len := 139, size := 256, useful := 1024, df := 30000, rate := 4 }

/-- Step 1 of R230: the shift by f_sh; the accumulator is 0 at index `a0` (assumption log 41). -/
def prachShift (row : PrachRow) (freqOff : Int) (fs : Nat) (a0 : Int) (x : Stream) : Stream :=
  let inc := divRna (2 ^ 32 * ((freqOff + (row.len : Int) - 1) * (row.df : Int))) (2 * fs)
  streamOf x.base x.v.length fun i =>
    let q := (inc * (i - a0)) % 2 ^ 32 / 65536
    cdiv (cmul (smp x i) (cos16 q, sin16 q)) 32768

/-- Steps 2 to 4 of R230 for a repetition whose window starts `w` samples at f_s after the occasion start: its resource
elements, the samples the filters clamped and those the transform did. -/
def prachElements (row : PrachRow) (freqOff : Int) (rate : Nat) (a0 w : Int) (x : Stream) : List (Int × Int) × Nat × Nat :=
  let stages := Nat.log2 (16 * 2 ^ rate / row.rate)
  let chain := List.replicate (stages - 1) HalfBand.c ++ (if stages = 0 then [] else [HalfBand.a])
  let shifted := prachShift row freqOff (30720000 * 2 ^ rate) a0 x
  let rel : Stream := { shifted with base := shifted.base - a0 }
  let a := w / 2 ^ stages
  let y := runChain a (a + row.size) chain rel
  let z := prachOut row.size row.len ((List.range row.size).map fun (i : Nat) => smp y.1 (a + (i : Int)))
  (z.1, y.2, z.2)

/-- PRACH_OCCASION_DONE (R230, R231): repetition `rep` of a type 3 section's occasion has left the receive plane; `codes` as
in UPLANE_MESSAGE_BUILD. -/
def execPrachOccasionDone (flow id k slot startSym rep : Nat) (codes : List (Nat × List (Int × Int))) (s : State) :
    Host.Outcome State Fault Refusal := done (.seq noteStates (.ask fun s =>
  let car := rxCar s (flowCar (flowRec s flow))
  let mu := carMu car
  let rate := carRate car
  let p := pageOf 1 k
  let entry := s.sect.entries.find? fun e => inPage p e.1 && sectLive e.2 && e.2.type == 3 && e.2.flow == flow && e.2.id == id &&
    e.2.slot == slot && e.2.startSym == startSym
  match entry, occasionAt s p flow slot with
    | some e, some o =>
      let x := e.2
      let row := prachShape o.filter
      let hs := symAt s mu k slot 0 (extNow s)
      let start := symStart s mu hs.1 hs.2 + (o.timeOffset * 12500 : Nat)
      let lead := o.cpLength + rep * row.useful
      let end_ := counterAt s ((start + ((lead + row.useful) * 12500 : Nat) + 383) / 384)
      whenP (pageSub s p == k && carValid car && decide (rep < x.numSym) && flowValid (flowRec s flow) &&
          domOn s dFH && due s end_) (if entryGood s e.1 = false then eccHit e.1 else
        let a0 : Int := hs.1 * (15360 * 2 ^ rate) + ((symRef mu hs.2 + 4 * o.timeOffset) / (4 / 2 ^ rate) : Nat)
        let w : Int := (lead * 2 ^ rate : Nat)
        let len : Int := (row.useful * 2 ^ rate : Nat)
        let live := (paths s).filter fun q => domOn s (dRXD (q / 16))
        let d : Int := decFactor rate
        let code := fun (n : Nat) => worstCode s n ((a0 + w) * d) ((a0 + w + len) * d)
        let state := maskOf ((sheets s).filter fun n => code n == 2)
        let notReady := maskOf ((sheets s).filter fun n => code n == 1)
        let res := live.map fun q =>
          let y := stage7 s s x.carrier q (tget [] codes q) (a0 + w - 2048) (a0 + w + len + 2048)
          let z := prachElements row x.freqOff rate a0 w { base := a0 + w - 2048, v := y.1 }
          (q, z.1, y.2 + z.2.1, z.2.2)
        let good := res.filter fun q => !(state ||| notReady).testBit (q.1 / 16)
        let out := (List.range x.numPrb).map fun i => (List.range 12).map fun j =>
          let m := 12 * (x.startPrb + i) + j
          if maskHas x j && decide (m < row.len) then ulOut s x m (good.map fun q => (q.1, q.2.1.getD m (0, 0))) else ((0, 0), false)
        let t := counterAt s (start / 384)
        seqs
          [ each (sheets s) fun n => countN blkRxd n 4 (sumN ((res.filter fun q => q.1 / 16 == n).map fun q => q.2.2.1)),
            each (sheets s) fun n => countN blkRxd n 5 (sumN ((res.filter fun q => q.1 / 16 == n).map fun q => q.2.2.2)),
            each (setBits 4 state) fun n => .seq (count blkRxd n 1)
              (.ask fun t1 => whenP (slotOf t1 t != t1.rx.stateSlot || t1.rx.stateSlot == none)
                (.seq (modRx fun y => { y with stateSlot := slotOf t1 t }) (raise (evCode 8 2) n []))),
            each (setBits 4 (andNot notReady state)) fun n => .seq (count blkRxd n 0) (modRx fun y => { y with zeroed := addTime y.zeroed n t }),
            countWeights s 1 t [x],
            countN blkGrat 0 2 (sumN (out.map fun o => (o.filter (·.2)).length)),
            sendSection x o.filter t (frameIds s (symNs s mu hs.1 hs.2)) slot (startSym + rep) (carPrb car)
              (out.map fun o => o.flatMap fun z => [z.1.1, z.1.2]) ])
    | _, _ => .skip)) s

/-! ### Commands (R234) -/

/-- RXD.STATUS of a sheet. -/
def rxdStatusWord (s : State) (n : Nat) : Nat :=
  bit (rxReadyNow s n) + 2 * bit (!rxReadyNow s n) + 4 * bit ((sh s n).state == .rx) + 8 * bit (s.rx.dcAcq &&& sheetMask n != 0)

/-- RX_CARRIER_SET (0x0801). -/
def cmdRxCarrierSet : CmdDef :=
  { op := 0x0801, kind := .t, len := fixed 16, keys := fun r => [fld r 0 1]
    fields := fun _ r => [⟨0, 1, .uns 0 7⟩, ⟨1, 1, .bits 15⟩, ⟨1, 1, .cond (decide (carMu r ≤ 2))⟩,
      ⟨2, 1, .cond (prbTable (carMu r) (fld r 2 1) != 0)⟩, ⟨3, 1, .cond (fld r 3 1 == 0 || decide (3 ≤ fld r 3 1 ∧ fld r 3 1 ≤ 10))⟩,
      ⟨6, 2, .cb .phaseOnly⟩, ⟨8, 4, .sgn (-9300000) 9300000⟩, ⟨12, 1, .cond (decide (fld r 12 1 ≤ carNcp r / 2))⟩] ++ rsv 13 3
    agree := fun _ s => carriersAgree s }

/-- RX_CARRIER_GET (0x0802). -/
def cmdRxCarrierGet : CmdDef :=
  { op := 0x0802, kind := .r, len := fixed 1, fields := fun _ _ => [⟨0, 1, .uns 0 7⟩]
    answer := fun _ r s => (stOK, rxCar s (fld r 0 1)) }

/-- RX_PATH_SET (0x0803). -/
def cmdRxPathSet : CmdDef :=
  { op := 0x0803, kind := .t, len := fixed 8, keys := fun r => [fld r 0 1]
    doms := fun r => [dRXD (fld r 0 1 / 16)], units := fun r => [uSHEET (fld r 0 1 / 16)]
    fields := fun _ r => [⟨0, 1, .unit .path⟩, ⟨1, 1, .bits 3⟩, ⟨2, 2, .cb .both⟩, ⟨4, 1, .uns 0 60⟩,
      ⟨4, 1, .cond (decide (fld r 4 1 % 4 = 0))⟩, ⟨5, 1, .uns 10 20⟩] ++ rsv 6 2
    apply := fun b r => dcChange (fld r 0 1) b (fbit r 1 1 1) }

/-- RX_PATH_GET (0x0804). -/
def cmdRxPathGet : CmdDef :=
  { op := 0x0804, kind := .r, len := fixed 1, units := pathUnits 0, fields := fun _ _ => [⟨0, 1, .unit .path⟩]
    answer := fun _ r s =>
      let q := rxPathRec s (fld r 0 1)
      (stOK, putAt q 1 (leBytes 1 (fld q 1 1 % 2))) }

/-- RX_IMAGE_SET (0x0805). -/
def cmdRxImageSet : CmdDef :=
  { op := 0x0805, kind := .t, len := fixed 36, keys := fun r => [fld r 0 1]
    doms := fun r => [dRXD (fld r 0 1 / 16)], units := fun r => [uSHEET (fld r 0 1 / 16)]
    fields := fun _ _ => [⟨0, 1, .unit .path⟩, ⟨1, 1, .bits 1⟩] ++ rsv 2 2 ++
      (List.range 16).map fun i => ⟨4 + 2 * i, 2, .sgn (-32767) 32767⟩ }

/-- RX_IMAGE_GET (0x0806). -/
def cmdRxImageGet : CmdDef :=
  { op := 0x0806, kind := .r, len := fixed 1, units := pathUnits 0, fields := fun _ _ => [⟨0, 1, .unit .path⟩]
    answer := fun _ r s =>
      let p := fld r 0 1
      let m := tget (-32768, 0, 0) s.rx.irr p
      (stOK, imageRec s p ++ leSigned 2 m.1 ++ leSigned 2 m.2.1 ++ leBytes 4 m.2.2) }

/-- RX_STATUS (0x0807). -/
def cmdRxStatus : CmdDef :=
  { op := 0x0807, kind := .r, len := fixed 2, units := sheetUnits, doms := fun r => [dRXD (fld r 0 1)]
    fields := fun _ _ => [⟨0, 1, .unit .sheet⟩, ⟨1, 1, .bits 1⟩]
    answer := fun _ r s =>
      let n := fld r 0 1
      (stOK, leBytes 4 (rxdStatusWord s n) ++ leBytes 1 (skewStep s) ++ zeros 3 ++
        ((List.range 8).flatMap fun c => leBytes 4 (lul s c)) ++ cntBytes s blkRxd n 7 ++ leBytes 4 (satBits s blkRxd n 7))
    effect := fun _ r => whenP (fbit r 1 1 0) (clearCnts blkRxd (fld r 0 1) 7) }

/-- GAIN_STATE of a path (R223). DESIGN CHOICE (assumption log 88): a composition that saturates counts nothing, chapter 10 naming
no CB_SAT. -/
def gainState (s : State) (p : Nat) : Nat :=
  let r := rxPathRec s p
  (cbCompose [fld r 2 2, cbMk (-(fld r 4 1 : Int)) 0]).1

/-- RX_LEVEL (0x0808). -/
def cmdRxLevel : CmdDef :=
  { op := 0x0808, kind := .r, len := fixed 4, units := sheetUnits, doms := fun r => [dRXD (fld r 0 1)]
    fields := fun _ _ => ⟨0, 1, .unit .sheet⟩ :: rsv 1 3
    answer := fun _ r s =>
      let lvl := fun (p : Nat) => tget ((0, -32768, -32768, 0) : Nat × Int × Int × Nat) s.rx.level p
      let n := fld r 0 1
      (stOK, leBytes 4 (lvl (16 * n)).1 ++ zeros 4 ++ (List.range 16).flatMap fun i =>
        let l := lvl (16 * n + i)
        leSigned 2 l.2.1 ++ leSigned 2 l.2.2.1 ++ leBytes 2 (gainState s (16 * n + i)) ++ zeros 2 ++ leBytes 4 l.2.2.2) }

/-- RX_FO (0x0809). -/
def cmdRxFo : CmdDef :=
  { op := 0x0809, kind := .r, len := fixed 4, units := sheetUnits, doms := fun r => [dRXD (fld r 0 1)]
    fields := fun _ _ => ⟨0, 1, .unit .sheet⟩ :: rsv 1 3
    answer := fun _ r s => (stOK, (List.range 8).flatMap fun c =>
      if carValid (rxCar s c) then
        let f := tget ((-2147483648, 0, 0) : Int × Nat × Nat) s.rx.fo (8 * fld r 0 1 + c)
        leSigned 4 f.1 ++ leBytes 2 f.2.1 ++ zeros 2 ++ leBytes 4 f.2.2
      else zeros 12) }

end Sys2Proof.Machine
end

