-- ==== Sys2Proof/Machine/Kiln.lean ====
section
/-! DEFINITION. The kiln scheduler: its inputs and power model, budget, levels, reductions and commands
(15_power_domains_kiln R344 to R361). -/

namespace Sys2Proof.Machine

open Sys2Proof

/-! ### Settings -/

/-- KILN_MODEL_SET record in force. -/
def modelRec (s : State) : Rec := setting s 0x0212 0 (zeros 4 ++ leBytes 2 3000 ++ zeros 2)

/-! ### Inputs (R344, R345) -/

/-- Temperature channels the kiln reads. -/
def tempChannels (s : State) : List Nat :=
  [18, 19] ++ ((sheets s).filter fun n => (sh s n).state != .sleep).flatMap fun n => [32 + 2 * n, 33 + 2 * n]

/-- HK_ASSUMED: HK is not ON or has failed, or a channel reads no value. -/
def hkAssumed (s : State) : Bool :=
  !domOn s dHK || (convOf s 144).state == 5 || ([16, 20, 21, 27, 28] ++ tempChannels s).any fun c => hkVal s c == -32768

/-- T_hot of the latest values, 110 °C while it is assumed. -/
def tHotNow (s : State) : Int :=
  if hkAssumed s then 880 else ((tempChannels s).map (hkVal s)).foldl max (-32768)

/-- V_feed × 1,000,000 in 0.1 mV units × 0.001; none while channel 16 has no value. -/
def feedRaw (s : State) : Option Int :=
  if hkVal s 16 = -32768 then none else some (hkVal s 16 * (fld (budgetRec s) 12 4 : Nat))

/-! ### The power model (R346, R347) -/

/-- Bandwidth committed in a direction, MHz. -/
def bandMhz (rs : List Rec) : Nat := sumN (rs.map fun r => fld r 2 1)

/-- What the model takes of a configuration: active layers and elements of both directions, sheets out of SLEEP. -/
structure Draw where
  layDl : Nat
  layUl : Nat
  elDl : Nat
  elUl : Nat
  awake : Nat
  deriving DecidableEq, Repr

/-- Active elements of a direction. -/
def activeCount (s : State) (dir : Nat) : Nat := (activeEls s dir).length

/-- The configuration in force. -/
def drawNow (s : State) : Draw :=
  { layDl := layersLeft s 0, layUl := layersLeft s 1, elDl := activeCount s 0, elUl := activeCount s 1
    awake := ((liveSheets s).filter fun n => (sh s n).state != .sleep).length }

/-- Sheet, element analog and front-end terms, mW. -/
def analogMw (s : State) (d : Draw) : Nat :=
  d.awake * (476 + 16 * 125) + d.elDl * fld (modelRec s) 0 2 + d.elUl * fld (modelRec s) 2 2

/-- Lane-mode term, mW. -/
def laneMw (s : State) : Nat :=
  if s.fh.link = 0 then 0 else [0, 1000, 2000, 1800, 3000, 2800, 6000].getD (rungMode s s.fh.rung) 0

/-- P_est of a configuration, rounded up to 1 mW; its terms have the common denominator 12,800. -/
def pEst (s : State) (d : Draw) : Nat :=
  let bDl := bandMhz (txRecs s)
  let bUl := bandMhz (rxRecs s)
  let n := 16 * (liveSheets s).length
  let dpd := ((paths s).filter fun p => inService s (uSHEET (p / 16)) && dpdMode (dpdPathRec s p) != 0).map fun p =>
    40 + 30 * dpdNbrs (dpdPathRec s p)
  let mash := if ctxs s != [] && (layerSrc s 0 == 1 || layerSrc s 1 == 1) then 3168 * d.layDl * bUl else 0
  let whole := 4000 + laneMw s + 800 + n * (80 + 60) + sumN dpd + analogMw s d
  let parts := 16 * (6 * d.layDl * d.elDl * bDl + 6 * d.layUl * d.elUl * bUl + n * (160 * bDl + 100 * bUl)) + mash
  whole + ceilDiv parts 12800

/-- P_est in force under a list of steps. -/
def pEstSteps (s : State) (steps : List (Option Nat)) : Nat :=
  let t := { s with kiln := { s.kiln with steps := steps, dirs := fld (kilnRec s) 1 1 } }
  pEst t (drawNow t)

/-- P_dev, mW, to nearest: channels 20 and 21 in 0.1 mV, 27 and 28 in 10 mA. -/
def pDevNow (s : State) : Nat :=
  let w := fun (v i : Nat) => if hkVal s v = -32768 ∨ hkVal s i = -32768 then 0 else hkVal s v * hkVal s i
  (divRna (w 20 27 + w 21 28) 1000).toNat + analogMw s (drawNow s) + fld (modelRec s) 4 2

/-! ### The budget (R348) -/

/-- Entries of the schedule: START and P_B. -/
def budgetEntries (s : State) : List (Nat × Nat) :=
  (List.range (fld (budgetRec s) 0 1)).map fun i => (fld (budgetRec s) (20 + 8 * i) 4, fld (budgetRec s) (24 + 8 * i) 4)

/-- Index of the entry of least power. -/
def lowEntry : List (Nat × Nat) → Nat
  | [] => 0
  | l => ((l.zipIdx.find? fun e => l.all fun x => decide (e.1.2 ≤ x.2)).map (·.2)).getD 0

/-- Index of the entry in force. -/
def entryNow (s : State) : Nat :=
  let l := budgetEntries s
  let sec := (((extTime s (now s)).1 : Int) - s.datum.utcOffset + 60 * sfld (budgetRec s) 2 2) % 86400
  if !s.datum.timeValid || s.kiln.feedLow || s.kiln.assumed then lowEntry l
  else (((l.zipIdx.filter fun e => decide ((e.1.1 : Int) ≤ sec)).getLast?).map (·.2)).getD (l.length - 1)

/-- Power of the entry in force. -/
def budgetNow (s : State) : Nat := ((budgetEntries s).getD (entryNow s) (0, 500000)).2

/-- The budget follows the schedule: at every change of the entry or its power the credit starts at BURST again (R349). -/
def followBudget : Prog := .ask fun s =>
  let i := entryNow s
  let p := budgetNow s
  whenP (s.kiln.entry != some i || s.kiln.pB != p) (seqs
    [ modKiln fun k => { k with entry := some i, pB := p, creditUj := 1000 * (burst s : Int) },
      whenP s.kiln.entry.isSome (raise (evCode 3 2) noUnit [p]) ])

/-! ### Steps and declarations (R356 to R360) -/

/-- FLAGS of KILN_CONFIG in force. -/
def kilnFlags (s : State) : Nat := fld (kilnRec s) 1 1

/-- The next step after a list of steps (newest first), within the floors. -/
def nextStep (s : State) (steps : List (Option Nat)) : Option (Option Nat) :=
  let r := kilnRec s
  let off := (steps.filterMap id).length
  let el : Option (Option Nat) :=
    if kilnFlags s / 2 % 4 != 0 && decide (off + fld r 2 1 < 16) then some (some (fld r (12 + off) 1)) else none
  let lay : Option (Option Nat) := if fld r 3 1 < layerCapOf steps then some none else none
  if (kilnFlags s).testBit 0 then lay.or el else el.or lay

/-- Steps added, at most `n`, until a test holds. -/
def stepsUntil (s : State) (enough : List (Option Nat) → Bool) : Nat → List (Option Nat) → List (Option Nat)
  | 0, l => l
  | n + 1, l => if enough l then l else match nextStep s l with
    | some x => stepsUntil s enough n (x :: l)
    | none => l

/-- Steps that stand once every declared change has applied. -/
def planned (s : State) : List (Option Nat) := ((s.kiln.declared.getLast?).map (·.steps)).getD s.kiln.steps

/-- Elements and layers a change is declared and logged with: of the downlink, or of the uplink when DIR_DL is clear. -/
def stepCounts (s : State) (steps : List (Option Nat)) : Nat × Nat :=
  let t := { s with kiln := { s.kiln with steps := steps, dirs := kilnFlags s } }
  let dir := if (kilnFlags s).testBit 1 then 0 else 1
  (activeCount t dir, layersLeft t dir)

/-- A change of the overlay applies at `b` and is logged. -/
def kilnChange (b boundary : Nat) (d : Declared) : Prog := seqs
  [ .ask fun s => modKiln fun k => { k with steps := d.steps, dirs := kilnFlags s },
    count blkKiln 0 (if d.restore then 1 else 0),
    biasFollow,
    .ask fun s =>
      let c := stepCounts s s.kiln.steps
      logCommit b (if d.restore then 5 else 4) boundary noUnit 3 0
        (leBytes 2 (offSet s) ++ leBytes 1 (layerCap s) ++ leBytes 1 (kilnFlags s)) (c.1 + 65536 * c.2) ]

/-- Carrier whose slots bound the kiln's changes: REF_CARRIER, else the lowest-numbered committed one, downlink first. -/
def kilnCarrier (s : State) : Option Nat :=
  let r := fld (kilnRec s) 4 1
  if carValid (txCar s r) || carValid (rxCar s r) then some r
  else (txCars s).head?.or (rxCars s).head?

/-- A change is declared (R358). -/
def declare (restore : Bool) (steps : List (Option Nat)) : Prog := .ask fun s =>
  let at_ := extNow s + (fld (kilnRec s) 5 1 * 1000000 : Nat)
  let b : Option Nat := (kilnCarrier s).map fun c => counterAt s (nextBoundary s 2 (carMu (refCar s c)) at_).2.2
  let d : Declared := { restore := restore, boundary := b.getD (now s), steps := steps }
  let c := stepCounts s steps
  seqs
    [ modKiln fun k => { k with gapMs := some 0 },
      raise (evCode 3 (if restore then 5 else 4)) noUnit [d.boundary, c.1, c.2],
      if b.isSome then modKiln fun k => { k with declared := k.declared ++ [d] } else kilnChange (now s) 0 d ]

/-- Changes declared for a boundary at or before `b` apply in order (01 R24 order 3). -/
def kilnApply (b boundary : Nat) : Prog := .ask fun s =>
  let due := s.kiln.declared.takeWhile fun d => decide (0 ≤ int32Diff b d.boundary)
  whenP (due != []) (.seq (modKiln fun k => { k with declared := k.declared.drop due.length }) (each due (kilnChange b boundary)))

/-- What an evaluation declares (R357, R359). -/
def kilnDecide : Prog := .ask fun s =>
  let k := s.kiln
  let r := kilnRec s
  let plan := planned s
  let gap := match k.gapMs with
    | some n => decide (fld r 6 2 ≤ n)
    | none => true
  let model := pEst s (drawNow s)
  let saved := fun (l : List (Option Nat)) => decide (10 * ((k.pDev : Int) - model + pEstSteps s l) ≤ 9 * (k.pB : Int))
  if k.level = 3 then
    let heat := decide (k.heat = 3)
    let goal := stepsUntil s (fun l => !heat && saved l) 32 k.steps
    whenP (decide (plan.length < goal.length)) (declare false goal)
  else if k.level = 2 then
    whenP (gap && ((k.energy == 2 && decide (k.pB < k.pDev)) || (k.heat == 2 && decide (sfld r 30 2 ≤ k.tPred))))
      (match nextStep s plan with
        | some x => declare false (x :: plan)
        | none => .skip)
  else match plan with
    | [] => .skip
    | _ :: rest =>
      let cost : Int := (pEstSteps s rest : Int) - pEstSteps s plan
      whenP (gap && k.level == 0 && decide (1000 * fld r 8 2 < k.zeroMs) && decide (k.tPred < sfld r 28 2) &&
        decide (100 * ((k.pDev : Int) + cost) ≤ (fld r 10 1 * k.pB : Nat))) (declare true rest)

/-! ### Evaluation (R345, R349 to R351, R355) -/

/-- The thermal trip and its end (R355), at a T_hot. -/
def thermal (t : Int) : Prog := .ask fun s => seqs
  [ whenP (decide (944 ≤ t) && !s.kiln.tripped) (seqs
      [ modKiln fun k => { k with tripped := true }, forceStandby, setFault 5, raiseFl 2 (evCode 3 6) noUnit [t] ]),
    whenP (decide (t < 840) && s.kiln.tripped) (modKiln fun k => { k with tripped := false }) ]

/-- One more evaluation for which a condition has held. -/
def ran (on : Bool) (n : Nat) : Nat := if on then n + 1 else 0

/-- The feed check (R344). -/
def feedCheck : Prog := .ask fun s =>
  let low := fld (budgetRec s) 16 2
  match feedRaw s with
  | none => modKiln fun k => { k with feedBelow := 0, feedAbove := 0 }
  | some v =>
    let below := low != 0 && decide (v < (low * 1000000 : Nat))
    let above := low == 0 || decide ((low * 1020000 : Nat) ≤ v)
    let enter := below && decide (10 ≤ s.kiln.feedBelow) && !s.kiln.feedLow
    .seq (modKiln fun k => { k with
        feedBelow := ran below k.feedBelow, feedAbove := ran above k.feedAbove
        feedLow := if low = 0 then false else if enter then true else k.feedLow && !(above && decide (1000 ≤ k.feedAbove)) })
      (whenP enter (raise (evCode 3 3) noUnit [divRna v 100000]))

/-- Levels of an evaluation (R349 to R351). -/
def kilnLevels : Prog := .ask fun s =>
  let r := kilnRec s
  let t := tHotNow s
  let past := s.kiln.hist.getD 999 ((s.kiln.hist.getLast?).getD t)
  let pred := t + (fld r 11 1 : Int) * max 0 (t - past)
  let p := pDevNow s
  let peak := decide (fld (budgetRec s) 8 4 < p)
  let credit := min (1000 * (burst s : Int)) (s.kiln.creditUj + (s.kiln.pB : Int) - p)
  let full := 1000 * (burst s : Int)
  let energy := if peak && decide (10 ≤ s.kiln.peakMs) then 3 else if credit < 0 then 3 else if 5 * credit < full then 2
    else if 2 * credit < full then 1 else 0
  let heat := if sfld r 32 2 ≤ pred then 3 else if sfld r 30 2 ≤ pred then 2 else if sfld r 28 2 ≤ pred then 1 else 0
  let raw := max energy heat
  let f := s.kiln.fall
  let f := (ran (raw == 0) f.1, ran (decide (raw ≤ 1)) f.2.1, ran (decide (raw ≤ 2)) f.2.2)
  let heldFor := if s.kiln.level = 3 then f.2.2 else if s.kiln.level = 2 then f.2.1 else f.1
  let level := if s.kiln.level ≤ raw then raw else if 1000 < heldFor then s.kiln.level - 1 else s.kiln.level
  seqs
    [ modKiln fun k => { k with
        level := level, energy := energy, heat := heat, creditUj := credit, pDev := p, tHot := t, tPred := pred
        hist := (t :: k.hist).take 1000, fall := f, peakMs := ran peak k.peakMs, gapMs := k.gapMs.map (· + 1)
        zeroMs := ran (level == 0) k.zeroMs },
      whenP (level != s.kiln.level) (raise (evCode 3 1) noUnit [level]) ]

/-- KILN_EVALUATE (R345): every 1 ms of datum time. -/
def execKilnEvaluate (s : State) : Host.Outcome State Fault Refusal :=
  done (whenP (domOn s dCTRL && elapsed s tkKiln 1000000) (seqs
    [ stamp tkKiln, .ask fun s => modKiln fun k => { k with assumed := hkAssumed s },
      feedCheck, followBudget, kilnLevels,
      .ask fun s => thermal s.kiln.tHot,
      .ask fun s => whenP (kilnAuto s && !s.kiln.assumed) kilnDecide ])) s

/-- HK_CONVERSION (11 R251, R252): the conversions of the sequence's current entry; its channel feeds the thermal trip and the bias
supply's supervision (14 R312). -/
def execHkConversion (conversions : List Nat) (s : State) : Host.Outcome State Fault Refusal :=
  let ch := hkChannel s
  done (.seq (hkConvert conversions) (seqs
    [ .ask fun t => whenP (hkReady s conversions && ch == 26) (supplyJudge (hkVal t 26)),
      .ask fun t => whenP (domOn t dCTRL && !hkAssumed t) (thermal (tHotNow t)) ])) s

/-- SHEET_TEMP_UPDATE (11 R252): a sheet sends its two temperatures. -/
def execSheetTempUpdate (sheet : Nat) (t0 t1 : Int) (s : State) : Host.Outcome State Fault Refusal :=
  done (.seq (sheetTemps sheet t0 t1) (.ask fun t => whenP (domOn t dCTRL && !hkAssumed t) (thermal (tHotNow t)))) s

/-! ### Admission (R354) -/

/-- A configuration as admission takes it: every sheet in service awake, every element in the array active, layers after
shedding; at the kiln's floors where `floor`. -/
def drawFull (s : State) (floor : Bool) : Draw :=
  let r := kilnRec s
  let auto := floor && kilnAuto s
  let lay := fun (dir : Nat) =>
    let n := min (nLayers s) (if s.fh.link = 0 then 16 else shedNow s dir)
    if auto then min n (max 1 (min 16 (fld r 3 1))) else n
  let off := if auto then maskOf ((List.range (16 - fld r 2 1)).map fun k => fld r (12 + k) 1) else 0
  let els := fun (dir : Nat) => ((List.range 64).filter fun e =>
    elIn s dir e && !((kilnFlags s).testBit (1 + dir) && off.testBit (e % 16))).length
  { layDl := lay 0, layUl := lay 1, elDl := els 0, elUl := els 1, awake := (liveSheets s).length }

/-- Check 6 of 03 R68: the kiln admits the configuration `t` in place of `s`. -/
def admitted (s t : State) : Bool :=
  let full := pEst t (drawFull t false)
  decide (full ≤ pEst s (drawFull s false)) ||
    (!kilnAuto s && decide (full ≤ budgetNow s) && decide (s.kiln.tHot < sfld (kilnRec s) 30 2)) ||
    (kilnAuto s && decide (pEst t (drawFull t true) ≤ budgetNow s))

/-! ### Registers and commands -/

/-- KILN.STATUS. -/
def kilnStatusWord (s : State) : Nat :=
  s.kiln.level + 4 * s.kiln.energy + 16 * s.kiln.heat + 128 * bit (kilnAuto s) + 256 * bit s.kiln.assumed +
    512 * bit s.kiln.feedLow + 65536 * ((layerCap s - 1) % 16)

/-- KILN.CREDIT, mJ. -/
def creditMj (s : State) : Int := s.kiln.creditUj / 1000

/-- KILN_CONFIG (0x0210). -/
def cmdKilnConfig : CmdDef :=
  { op := 0x0210, kind := .n, len := fixed 36
    fields := fun _ r => [⟨0, 1, .uns 0 1⟩, ⟨1, 1, .bits 7⟩, ⟨2, 1, .uns 1 16⟩, ⟨3, 1, .uns 1 16⟩, ⟨4, 1, .uns 0 7⟩,
      ⟨5, 1, .uns 1 20⟩, ⟨6, 2, .uns 10 10000⟩, ⟨8, 2, .uns 1 3600⟩, ⟨10, 1, .uns 50 99⟩, ⟨11, 1, .uns 0 60⟩,
      ⟨12, 1, .cond ((List.range 16).all fun i => (List.range 16).any fun k => fld r (12 + k) 1 == i)⟩,
      ⟨28, 2, .uns 0 880⟩, ⟨30, 2, .uns 0 880⟩, ⟨32, 2, .uns 0 880⟩,
      ⟨28, 2, .cond (decide (fld r 28 2 < fld r 30 2 ∧ fld r 30 2 < fld r 32 2))⟩, ⟨34, 2, .zero⟩]
    effect := fun _ r => .seq (setSetting 0x0210 0 r) (.seq biasFollow
      (.ask fun s => whenP (fld r 0 1 == 0 && planned s != []) (declare true []))) }

/-- KILN_BUDGET_SET (0x0211). -/
def cmdKilnBudgetSet : CmdDef :=
  { op := 0x0211, kind := .n, len := fun r => 20 + 8 * fld r 0 1
    fields := fun _ r =>
      let n := fld r 0 1
      [⟨0, 1, .uns 1 4⟩, ⟨1, 1, .zero⟩, ⟨2, 2, .sgn (-1440) 1440⟩, ⟨4, 4, .uns 0 600000⟩, ⟨8, 4, .uns 1000 500000⟩,
        ⟨12, 4, .uns 1000 200000⟩, ⟨16, 2, .uns 0 600⟩, ⟨18, 2, .zero⟩] ++
      (List.range n).flatMap (fun i => [⟨20 + 8 * i, 4, .uns 0 86399⟩, ⟨24 + 8 * i, 4, .uns 1000 500000⟩]) ++
      (List.range (n - 1)).map fun i => ⟨28 + 8 * i, 4, .cond (decide (fld r (20 + 8 * i) 4 < fld r (28 + 8 * i) 4))⟩
    effect := fun _ r => .seq (setSetting 0x0211 0 r) followBudget }

/-- KILN_MODEL_SET (0x0212). -/
def cmdKilnModelSet : CmdDef :=
  { op := 0x0212, kind := .n, len := fixed 8
    fields := fun _ _ => [⟨0, 2, .uns 0 20000⟩, ⟨2, 2, .uns 0 5000⟩, ⟨4, 2, .uns 0 20000⟩, ⟨6, 2, .zero⟩]
    effect := fun _ r => setSetting 0x0212 0 r }

/-- KILN_STATUS (0x0213). -/
def cmdKilnStatus : CmdDef :=
  { op := 0x0213, kind := .r, len := fixed 1, fields := fun _ _ => [⟨0, 1, .bits 1⟩]
    answer := fun _ _ s =>
      let grants := bitsOf ((List.range 6).map (granted s)) + 64 * bit (grantLevel s == 2)
      let feed := match feedRaw s with
        | some v => leSigned 4 (divRna v 100000)
        | none => leBytes 4 0x80000000
      (stOK, leBytes 4 (kilnStatusWord s) ++ leBytes 4 s.kiln.pB ++ leBytes 4 s.kiln.pDev ++ leBytes 4 (pEst s (drawNow s)) ++
        leSigned 4 (creditMj s) ++ leSigned 2 s.kiln.tHot ++ leSigned 2 s.kiln.tPred ++ leBytes 2 (offSet s) ++ leBytes 1 grants ++
        [0] ++ feed ++ cntBytes s blkKiln 0 3 ++ leBytes 4 (satBits s blkKiln 0 3))
    effect := fun _ r => whenP (fbit r 0 1 0) (clearCnts blkKiln 0 3) }

end Sys2Proof.Machine
end

