-- ==== Sys2Proof/Machine/Clocks.lean ====
section
/-! DEFINITION. Clock monitoring, fixed-latency alignment and the die-to-die links (01_architecture R18, R19, R25 to R33). -/

namespace Sys2Proof.Machine

open Sys2Proof

/-! ### Loss and return of a clock (R29, R30) -/

/-- Loss of REF: mute codes, every sheet to STANDBY, the processor to FIO, an armed alignment cancelled. -/
def refLost : Prog := .ask fun s => seqs
  [ each (sheets s) fun n => setHold n holdRef,
    forceStandby,
    modClk fun k => { k with cpuPll := false, armed := false, aligned := false, stage := 0, realign := true },
    setFault 0, raiseFl 2 (evCode 1 1) noUnit [] ]

/-- REF is present again: the holds of its loss end and firmware arms alignment; radio states wait for ALIGNED. -/
def refBack : Prog := .ask fun s => .seq (each (sheets s) fun n => endHold n holdRef (now s)) firmwareArm

/-- A clock is declared lost: 0 REF, 1 Ethernet reference, 2 control PLL, 3 engine PLL. -/
def clockLost (c : Nat) : Prog := .seq (modClk fun k => { k with lost := k.lost ||| 2 ^ c, good := tdel k.good c })
  (if c = 0 then .seq (stamp tkRef) refLost
    else if c = 1 then .ask fun s => seqs
      [whenP (s.fh.link == 2 || s.fh.link == 3) (linkTo 1), setFault 1, raiseFl 2 (evCode 1 2) noUnit []]
    else if c = 2 then .seq (modClk fun k => { k with cpuPll := false }) (raise (evCode 1 3) 0 [])
    else seqs [mashLost, dpdRefresh, raise (evCode 1 3) 1 []])

/-- A lost clock is declared present. -/
def clockBack (c : Nat) : Prog := .seq (modClk fun k => { k with lost := andNot k.lost (2 ^ c), bad := tdel k.bad c })
  (if c = 0 then refBack
    else if c = 1 then linkSettle
    else if c = 2 then .ask fun s => whenP (fwRuns s && !s.clk.lost.testBit 0) (modClk fun k => { k with cpuPll := true })
    else .skip)

/-- One clock of a window: two bad windows running declare a loss, two good ones a return. -/
def clockWindow (good c : Nat) : Prog := .ask fun s =>
  let lost := s.clk.lost.testBit c
  let n := tget 0 (if lost then s.clk.good else s.clk.bad) c + 1
  if good.testBit c = lost then
    (if 2 ≤ n then (if lost then clockBack c else clockLost c)
      else modClk fun k => if lost then { k with good := tset k.good c n } else { k with bad := tset k.bad c n })
  else modClk fun k => { k with good := tdel k.good c, bad := tdel k.bad c }

/-- CLOCK_WINDOW (R29): a 1 µs window of FIO ends; `good` has the bit of each clock that lies within 1,000 ppm. -/
def execClockWindow (good : Nat) (s : State) : Host.Outcome State Fault Refusal :=
  done (whenP (s.pwr.fio && elapsed s tkWindow 1000) (.seq (stamp tkWindow) (each [0, 1, 2, 3] (clockWindow good)))) s

/-- CPU_CLOCK_SWITCH (R28): firmware moves the CPU domain to the control PLL once REF is present. -/
def execCpuClockSwitch (s : State) : Host.Outcome State Fault Refusal :=
  done (whenP (fwRuns s && !s.clk.lost.testBit 0 && !s.clk.lost.testBit 2) (modClk fun k => { k with cpuPll := true })) s

/-! ### Alignment (R31 to R33) -/

/-- ARM_ALIGNMENT (R31, R32). -/
def execArmAlignment (s : State) : Host.Outcome State Fault Refusal := done (whenP (domOn s dCTRL) armAlign) s

/-- RESID now: the distance from the last 10 ms boundary of extended time in dtap of 3,125/196,608 ns, at most 511. -/
def residNow (s : State) : Nat :=
  min 511 ((((extNow s * 2 ^ 44 + s.datum.frac.toNat) % (10000000 * 2 ^ 44)).toNat * 196608) / (3125 * 2 ^ 44))

/-- Lanes found failing give way to spares, each a logged isolation (R19). Its UNIT is the link × 512 plus the lane
(assumption log 42). -/
def swapLanes : Prog := .ask fun s => .seq
  (each s.clk.laneSwap fun q => applyIso (now s) 0 2 4 (q.1 * 512 + q.2)) (modClk fun k => { k with laneSwap := [] })

/-- The trim that waits comes into force as a logged alignment trim (R33). -/
def trimApply : Prog := .ask fun s => match s.clk.trimNext with
  | some v => .seq (modClk fun k => { k with trim := v, trimNext := none })
      (logCommit (now s) 0x0D 0 noUnit 0 0 (leBytes 2 v) v)
  | none => .skip

/-- Event 5 of R31: the captured RESID trims the transmit delay, and ALIGNED is set if every distance is 4. -/
def alignJudge (good : Bool) : Prog := modClk fun k => { k with
  trim := k.resid, trimNext := none, stage := if good then 3 else 0, aligned := good, realign := k.realign && !good
  alignedResid := if good then k.resid else k.alignedResid }

/-- A slip of crossings (R32): bits 0 to 3 sheets, bit 4 DP and DATUM. -/
def slipNote (m : Nat) : Prog := whenP (m != 0) (seqs
  [ modClk fun k => { k with slip := k.slip ||| m % 16, slipDatum := k.slipDatum || m.testBit 4, aligned := false },
    setFault 2, raiseFl 2 (evCode 1 4) noUnit [(m % 16 : Nat), (m / 16 % 2 : Nat)] ])

/-- RESID of a later DASYNC: a move of a whole dtap is trimmed at the next one, a move of more than 32 is reported (R33). -/
def residFollow (r : Nat) : Prog := .ask fun s =>
  let far := fun x : Nat => decide (32 < ((x : Int) - (s.clk.alignedResid : Int)).natAbs)
  seqs
    [ whenP (fwRuns s && r != s.clk.resid) (modClk fun k => { k with trimNext := some r }),
      whenP (far r && !far s.clk.resid) (raise (evCode 1 5) noUnit [((r : Int) - (s.clk.alignedResid : Int))]),
      modClk fun k => { k with resid := r } ]

/-- DASYNC (R31 events 2, 5 and 6): `dist` gives the pointer distances of the crossings of sheets 0 to 3 and of DATUM. -/
def execDasync (dist : List Nat) (s : State) : Host.Outcome State Fault Refusal :=
  let odd := maskOf ((List.range 5).filter fun i => (i == 4 || sheetFit s i) && dist.getD i 4 != 4)
  done (whenP (domOn s dDATUM && !s.clk.lost.testBit 0) (
    if s.clk.stage = 4 ∧ s.clk.armed = true then .seq swapLanes
      (modClk fun k => { k with resid := residNow s, armed := false, stage := 1 })
    else if s.clk.stage = 2 then .seq swapLanes (alignJudge (odd == 0))
    else whenP (s.clk.stage == 3) (seqs [swapLanes, slipNote odd, trimApply, residFollow (residNow s)]))) s

/-- ELASTIC_BUFFER_RESET (R31 event 3): every fixed-latency buffer resets its read pointer 4 entries behind. -/
def execElasticBufferReset (s : State) : Host.Outcome State Fault Refusal :=
  done (whenP (s.clk.stage == 1) (modClk fun k => { k with stage := 2 })) s

/-- CLK.ALIGN_STATUS. -/
def alignStatusWord (s : State) : Nat :=
  bit s.clk.armed + 2 * bit s.clk.aligned + 4 * bit s.clk.refused + 256 * s.clk.slip + 4096 * bit s.clk.slipDatum +
    65536 * s.clk.resid

/-- A write of ones to CLK.ALIGN_STATUS. -/
def alignStatusClear (v : Nat) : Prog := modClk fun k => { k with
  refused := k.refused && !v.testBit 2, slip := andNot k.slip (v / 256 % 16), slipDatum := k.slipDatum && !v.testBit 12 }

/-! ### Die-to-die links (R18, R19) -/

/-- Groups of a link: 28 downstream (even number), 14 upstream. -/
def linkGroups (link : Nat) : Nat := if link % 2 = 0 then 28 else 14

/-- Data lanes of a link. -/
def linkLanes (link : Nat) : Nat := if link % 2 = 0 then 448 else 216

/-- D2D_CRC_FAIL (R19): link is the sheet × 2, plus 1 for upstream. Sixteen failures within 1 ms start the lane test. -/
def execD2dCrcFail (link group : Nat) (s : State) : Host.Outcome State Fault Refusal :=
  let key := link * 32 + group
  let times := (tget [] s.clk.crcTimes key).filter (fun t => decide (upNs s < t + 1000000)) ++ [upNs s]
  done (whenP (sheetFit s (link / 2) && decide (group < linkGroups link) && domOn s (dSHEET (link / 2))) (seqs
    [ count blkD2d (link / 2) 0,
      if times.length < 16 ∨ s.clk.laneTest.contains key = true then modClk fun k => { k with crcTimes := tset k.crcTimes key (times.drop (times.length - 15)) }
      else modClk fun k => { k with crcTimes := tdel k.crcTimes key, laneTest := k.laneTest ++ [key] } ])) s

/-- D2D_LANE_TEST_DONE (R19): the failing lane waits for the next alignment pulse and one of the link's eight spares; with
none left the sheet is taken out of service. -/
def execD2dLaneTestDone (link lane : Nat) (s : State) : Host.Outcome State Fault Refusal :=
  let key := link * 32 + lane / 16
  done (whenP (s.clk.laneTest.contains key && decide (lane < linkLanes link)) (.seq
    (modClk fun k => { k with laneTest := k.laneTest.erase key })
    (if tget 0 s.clk.spareUsed link < 8 then modClk fun k => { k with
        spareUsed := tmod 0 k.spareUsed link (· + 1), laneSwap := k.laneSwap ++ [(link, lane)] }
      else outOfService (link / 2) 2))) s

end Sys2Proof.Machine
end

