-- ==== Sys2Proof/Machine/Window.lean ====
section
/-! DEFINITION. The host window: what each register and memory word reads, the accesses that fail, the HI shadow, the
interrupt leaves and the event and commit logs as commands return them (19_host_registers_faults R423 to R434;
01_architecture R37, R40). -/

namespace Sys2Proof.Machine

open Sys2Proof

/-! ### Interrupts and the port (R423, R428, R429) -/

/-- Class mask of the EVENT leaf. -/
def eventMask (s : State) : Nat := fld (setting s 0x0109 0 (leBytes 4 0x3FFF)) 0 4

/-- Event records not yet acknowledged (R433). -/
def unacked (s : State) : List EvtRec := s.evt.recs.filter fun r => decide (0 ≤ int32Diff r.seq s.evt.acked)

/-- PWR.IRQ_STATUS: the four leaves. -/
def irqLeaves (s : State) : Nat :=
  bit (s.mbx.done &&& s.mbx.irqEn != 0) +
    2 * bit (!romSafeRuns s && (unacked s).any fun r => (eventMask s).testBit (r.code / 256)) +
    4 * bit (faultLow s) + 8 * bit (s.host.err != 0)

/-- IRQ_N is low. -/
def irqLow (s : State) : Bool := (irqLeaves s &&& s.host.irqEn) != 0

/-- PORT_STATUS (R423): one status byte from the AO domain. -/
def execPortStatus (s : State) : Host.Outcome State Fault Refusal :=
  done (whenP s.pwr.aoUp (modHost fun h => { h with
    lastPort := bit (h.err != 0) + 2 * bit (irqLow s) + 4 * bit (faultLow s) + 8 * bit h.aoReady })) s

/-! ### Registers by block; `o` is the offset in the block's range -/

/-- Counter `i` of a unit whose counters lie at offset `base` on, `n` of them in steps of 4. -/
def cntReg (s : State) (b u base n o : Nat) : Nat := if base ≤ o ∧ o < base + 4 * n then cntVal s b u ((o - base) / 4) else 0

/-- SYS. -/
def sysReg (s : State) (o : Nat) : Nat :=
  match o with
  | 0x00 => sysId s
  | 0x04 => sysCaps s
  | 0x40 => sysBoot s
  | 0x44 => s.boot.profLatched + 256 * s.boot.profPins
  | _ => 0

/-- PWR.STATE, 64 bits. -/
def domStates (s : State) : Nat := sumN ((List.range 21).map fun d => if domFit s d then domCode s d * 4 ^ d else 0)

/-- PWR and KILN. -/
def pwrReg (s : State) (o : Nat) : Nat :=
  match o with
  | 0x00 => domStates s % 2 ^ 32
  | 0x04 => domStates s / 2 ^ 32
  | 0x08 => bit ((List.range 21).any (domMoving s)) + 2 * bit s.pwr.fio + 4 * bit s.pwr.railFault + 256 * s.pwr.rail
  | 0x10 => s.pwr.retfail % 2 ^ 32
  | 0x14 => s.pwr.retfail / 2 ^ 32 % 2 ^ 32
  | 0x18 => s.pwr.retfail / 2 ^ 64 % 2 ^ 28
  | 0x20 => cntVal s blkPwr 0 0
  | 0x24 => cntVal s blkPwr 0 1
  | 0x28 => cntVal s blkPwr 0 2
  | 0x2C => satBits s blkPwr 0 3
  | 0x40 => s.host.fault
  | 0x44 => faultEnEff s
  | 0x48 => irqLeaves s
  | 0x4C => s.host.irqEn
  | 0x50 => s.host.err
  | 0x54 => s.host.errAddr
  | 0x100 => kilnStatusWord s
  | 0x104 => s.kiln.pB
  | 0x108 => s.kiln.pDev
  | 0x10C => ofSigned 32 (creditMj s)
  | 0x110 => offSet s
  | _ => 0

/-- CLK. -/
def clkReg (s : State) (o : Nat) : Nat :=
  match o with
  | 0x100 => s.clk.target
  | 0x108 => alignStatusWord s
  | _ => 0

/-- Channel a command came on, 7 for the in-band stream. -/
def srcChannel : Requester → Nat
  | .host c => c
  | _ => 7

/-- MBX.STATUS.PARKED. -/
def parkedMask (s : State) : Nat :=
  maskOf ((s.mbx.parked.filter fun p => p.cmd.src != .firmware).map fun p => srcChannel p.cmd.src)

/-- MBX. -/
def mbxReg (s : State) (o : Nat) : Nat :=
  match o with
  | 0x00 => s.mbx.ring
  | 0x04 => s.mbx.done
  | 0x08 => s.mbx.irqEn
  | 0x0C => parkedMask s + 256 * s.mbx.blocked + 65536 * bit s.mbx.ready + 131072 * bit s.mbx.inband
  | 0x20 => cntVal s blkMbx 0 0
  | 0x24 => cntVal s blkMbx 0 1
  | 0x28 => cntVal s blkMbx 0 2
  | 0x2C => satBits s blkMbx 0 3
  | _ => 0

/-- Live transactions in a state. -/
def txnsIn (s : State) (x : TxnState) : List Txn := s.txn.live.filter fun t => t.state == x

/-- TXN. -/
def txnReg (s : State) (o : Nat) : Nat :=
  match o with
  | 0x00 => bit ((txnsIn s .committed).any (·.loaded)) + 2 * bit s.txn.failed + 256 * (txnsIn s .opened).length +
      65536 * (txnsIn s .committed).length
  | 0x04 => s.txn.lastApply
  | _ => 0

/-- FH. -/
def fhReg (s : State) (o : Nat) : Nat :=
  match o with
  | 0x00 => linkStatusWord s
  | 0x04 => laneStatusWord s
  | _ => plainPeek s (0x40100000 + o)

/-- DATUM. -/
def datumReg (s : State) (o : Nat) : Nat :=
  let d := s.datum
  match o with
  | 0x00 => now s
  | 0x04 => d.incrLo
  | 0x08 => (incAhead s / 2 ^ 32) % 65536
  | 0x0C => d.stepNs
  | 0x10 => 256 * bit d.timeValid
  | 0x14 => d.airWindow + 65536 * d.rsWindow
  | 0x18 => d.todHold.1
  | 0x1C => d.todHold.2.1
  | 0x20 => d.todHold.2.2
  | 0x24 => d.tod.2.2
  | 0x28 => d.ppsNext
  | 0x2C => d.ppsInTs
  | 0x30 => bit d.timeValid + 2 * bit d.stepRefused + 4 * bit d.ppsInSeen + 8 * bit d.todStale + 65536 * d.servo
  | _ => 0

/-- Pending slots of a direction. -/
def pendCount (s : State) (dir : Nat) : Nat := (s.grat.pend.filter fun p => p.1 / 1024 == dir && p.2 != 0).length

/-- GRAT. -/
def gratReg (s : State) (o : Nat) : Nat :=
  match o with
  | 0x00 => gratStatusWord s
  | 0x04 => pendCount s 0 + 65536 * pendCount s 1
  | 0x08 => activeMask s 0 % 2 ^ 32
  | 0x0C => activeMask s 0 / 2 ^ 32
  | 0x10 => activeMask s 1 % 2 ^ 32
  | 0x14 => activeMask s 1 / 2 ^ 32
  | 0x2C => satBits s blkGrat 0 5
  | _ => if o < 0x1000 then cntReg s blkGrat 0 0x18 5 o else plainPeek s (0x40200000 + o)

/-- MASH. -/
def mashReg (s : State) (o : Nat) : Nat :=
  match o with
  | 0x00 => mashStatusWord s
  | 0x04 => s.mash.lastReady
  | 0x08 => s.mash.lastApply
  | 0x2C => satBits s blkMash 0 8
  | _ => cntReg s blkMash 0 0x0C 8 o

/-- A page of a sheet with seven counters at 0x10 and their SAT bits at 0x2C. -/
def pageReg (s : State) (b n status o : Nat) : Nat :=
  if o = 0 then status else if o = 0x2C then satBits s b n 7 else cntReg s b n 0x10 7 o

/-- TXD. -/
def txdReg (s : State) (o : Nat) : Nat :=
  if o < 0x400 then
    (if o % 256 = 4 then fld (txSheetRec s (o / 256)) 2 2 else pageReg s blkTxd (o / 256) (txdStatusWord s (o / 256)) (o % 256))
  else if 0x800 ≤ o ∧ o < 0x820 then ltx s ((o - 0x800) / 4)
  else if o = 0x900 then bit (!s.tx.mutePin) + 2 * bit s.tx.muteSeen
  else if o = 0x904 then cntVal s blkTxd 16 0
  else plainPeek s (0x40300000 + o)

/-- RXD.CFG and RXD.DC of a path. -/
def rxPathReg (s : State) (p i : Nat) : Nat :=
  let r := rxPathRec s p
  let dc := if (tget [] s.rx.marks p).any (·.clear) then (0, 0) else tget ((0, 0) : Int × Int) s.rx.dc p
  let est := fun a : Int => ofSigned 16 ((a + 32768) / 65536)
  match i with
  | 0 => fld r 2 2 + 65536 * bit (fbit r 1 1 0) + 262144 * fld r 4 1 + 16777216 * fld r 5 1
  | 1 => est dc.2 + 65536 * est dc.1
  | _ => 0

/-- RXD. -/
def rxdReg (s : State) (o : Nat) : Nat :=
  if o < 0x400 then pageReg s blkRxd (o / 256) (rxdStatusWord s (o / 256)) (o % 256)
  else if 0x800 ≤ o ∧ o < 0x820 then lul s ((o - 0x800) / 4)
  else if o = 0x900 then skewStep s
  else if 0x1000 ≤ o ∧ o < 0x1800 then rxPathReg s ((o - 0x1000) / 32) (o % 32 / 4)
  else if 0x2000 ≤ o ∧ o < 0x2800 then
    (let r := imageRec s ((o - 0x2000) / 32)
     let k := o % 32 / 4
     fld r (6 + 4 * k) 2 + 65536 * fld r (4 + 4 * k) 2)
  else 0

/-- DPD. -/
def dpdReg (s : State) (o : Nat) : Nat :=
  if o < 0x400 then pageReg s blkDpd (o / 256) (dpdStatusWord s (o / 256)) (o % 256)
  else if 0x1000 ≤ o ∧ o < 0x1400 then
    (let p := (o - 0x1000) / 16
     let q := dpdOf s p
     match o % 16 with
     | 0 => q.bank + 2 * bit q.pending + 16 * dpdMode (dpdPathRec s p) + 256 * q.state
     | 4 => q.setNo
     | 8 => q.commitNs
     | _ => 0)
  else 0

/-- Timer `t` of a sheet: its TARGET and CTRL. -/
def timerReg (s : State) (n t : Nat) (ctrl : Bool) : Nat :=
  match tfind (sh s n).timers t with
  | some x => if ctrl then x.action + 256 else x.tE
  | none => 0

/-- SHEETn. -/
def sheetReg (s : State) (n o : Nat) : Nat :=
  if o = 0 then rsStatusWord s n
  else if o = 4 then loStatusWord s n
  else if o = 0x10 then satBits s blkRs n 2
  else if 0x100 ≤ o ∧ o < 0x140 then timerReg s n ((o - 0x100) / 8) (o % 8 == 4)
  else if 0x8000 ≤ o ∧ o < 0x8110 then convStateWord s (convNumber n ((o - 0x8000) / 4))
  else if o = 0x8214 then satBits s blkConv n 5
  else if o = 0x8220 ∨ o = 0x8224 then
    (let k := 2 * n + (o - 0x8220) / 4
     ofSigned 12 (tget (Config.wideSkew k).toInt s.conv.wideSkew k))
  else if 0x8200 ≤ o then cntReg s blkConv n 0x8200 5 o
  else cntReg s blkRs n 8 2 o

/-- ORX. -/
def orxReg (s : State) (o : Nat) : Nat :=
  if 0x80 ≤ o then 0
  else match o % 16 with
    | 0 => orxStatusWord s (o / 16)
    | 4 => leasePathWord s (o / 16)
    | _ => 0

/-- HK. -/
def hkReg (s : State) (o : Nat) : Nat :=
  if o = 0 then hkStatusWord s
  else if 0x100 ≤ o ∧ o < 0x1A0 then
    (let ch := (o - 0x100) / 4
     ofSigned 16 (hkVal s ch) + 65536 * (if 32 ≤ ch then 0 else (tget chan0 s.hk.chan ch).code))
  else 0

/-- BIAS. -/
def biasReg (s : State) (o : Nat) : Nat :=
  if o < 0x400 then
    (let n := o / 256
     match o % 256 with
     | 0 => biasStatusWord s n
     | 0x24 => satBits s blkBias n 5
     | x => cntReg s blkBias n 0x10 5 x)
  else if 0x1000 ≤ o ∧ o < 0x1200 then biasDacWord s ((o - 0x1000) / 4)
  else if 0x1200 ≤ o ∧ o < 0x1240 then biasDacWord s (128 + (o - 0x1200) / 4)
  else if o = 0x1300 then bit (clearPinLow s) + 2 * bit s.bias.pinSeen
  else 0

/-- RFFE. -/
def rffeReg (s : State) (o : Nat) : Nat :=
  if o < 0x200 then
    (let m := o / 64
     match o % 64 with
     | 0 => rffeStatusWord s m
     | 0x1C => satBits s blkRffe m 3
     | x => cntReg s blkRffe m 0x10 3 x)
  else if 0x1000 ≤ o ∧ o < 0x1100 then gammaOf s ((o - 0x1000) / 4)
  else 0

/-- TDD.LEVEL. -/
def tddLevel (s : State) : Nat := sumN ((sheets s).map fun n => (sh s n).strobes % 16 * 16 ^ n)

/-- TDD and COEX. -/
def coexReg (s : State) (o : Nat) : Nat :=
  match o with
  | 0xF0 => tddLevel s
  | 0x100 => coexStatusWord s
  | 0x110 => satBits s blkCoex 0 3
  | _ => if o < 0x100 then (if o % 64 < 16 then strobeWord (strobeRec s (o / 64) (o % 64 / 4)) else 0) else cntReg s blkCoex 0 0x104 3 o

/-- MEM. -/
def memReg (s : State) (o : Nat) : Nat :=
  match o with
  | 0x00 => s.ecc.degraded + 256 * bitsOf ((List.range 8).map (fullRate s)) + 65536 * bit s.ecc.tmrValid
  | 0x04 => cntVal s blkMemAll 0 0
  | 0x08 => cntVal s blkMemAll 0 1
  | 0x10 => cntVal s blkMemAll 0 2
  | _ =>
    if 0x100 ≤ o ∧ o < 0x220 then
      (let m := (o - 0x100) / 32
       if o % 32 = 0x14 then satBits s blkMem m 5 else cntReg s blkMem m 0 5 (o % 32))
    else 0

/-- SURVEY. -/
def surveyWord (s : State) (o : Nat) : Nat :=
  if o = 0 then surveyStatusWord s
  else if o = 4 then s.survey.campaign
  else if o = 8 then s.survey.fSurvDl
  else if o = 0xC then s.survey.fSurvUl
  else if o = 0x28 then satBits s blkSurvey 0 6
  else if 0x40 ≤ o ∧ o < 0x50 then thetaWord s ((o - 0x40) / 4)
  else if 0x1000 ≤ o ∧ o < 0x1200 ∧ o % 8 = 4 then
    (let x := elemOf s ((o - 0x1000) / 8)
     x.txDrift + 65536 * x.rxDrift)
  else if 0x1600 ≤ o ∧ o < 0x1700 then
    (let e := (o - 0x1600) / 4
     recipOf s e + 65536 * (elemOf s e).rho)
  else if 0x1000 ≤ o then plainPeek s (0x40A00000 + o)
  else cntReg s blkSurvey 0 0x10 6 o

/-- The unit of 18 R416 a register belongs to, by its domain or block. -/
def addrUnit (a : Nat) : Option Nat :=
  let d := addrDom a
  if a / 65536 = 0x4070 then some (uORX (a % 65536 / 0x10 % 8))
  else if a / 65536 = 0x4082 ∧ a % 65536 < 0x200 then some (uRFFE (a % 65536 / 0x40))
  else if 8 ≤ d ∧ d < 20 then some (uSHEET (d % 4))
  else if d = dFH then some uFH
  else if d = dGRAT then some uGRAT
  else if d = dMASH then some uMASH
  else if d = dHK then some uHK
  else if a / 65536 = 0x40A0 then some uSURVEY
  else none

/-- The registers read 0 and ignore writes: their unit is absent (00 R4) or held out of service (00 R6). -/
def regHeld (s : State) (a : Nat) : Bool :=
  !domFit s (addrDom a) || (match addrUnit a with
    | some u => !inService s u
    | none => false)

/-- What a register reads; an address that holds none reads 0, and so do registers of units absent or held out of service
(R424, 00 R4, R6). -/
def regWord (s : State) (a : Nat) : Nat :=
  let o := a % 65536
  if regHeld s a then 0
  else match a / 65536 with
    | 0x4000 => sysReg s o
    | 0x4001 => pwrReg s o
    | 0x4002 => clkReg s o
    | 0x4003 => mbxReg s o
    | 0x4004 => txnReg s o
    | 0x4010 => fhReg s o
    | 0x4011 => datumReg s o
    | 0x4020 => gratReg s o
    | 0x4021 => mashReg s o
    | 0x4030 => txdReg s o
    | 0x4040 => rxdReg s o
    | 0x4050 => dpdReg s o
    | 0x4060 => sheetReg s 0 o
    | 0x4061 => sheetReg s 1 o
    | 0x4062 => sheetReg s 2 o
    | 0x4063 => sheetReg s 3 o
    | 0x4070 => orxReg s o
    | 0x4080 => hkReg s o
    | 0x4081 => biasReg s o
    | 0x4082 => rffeReg s o
    | 0x4083 => coexReg s o
    | 0x4090 => memReg s o
    | 0x40A0 => if pathFit s ((o - 0x1000) / 8) || o < 0x1000 || 0x1200 ≤ o then surveyWord s o else 0
    | _ => 0

/-! ### Accesses (R424, R425) -/

/-- Memory of the window that holds an address: its code (16 R362). -/
def windowMem (a : Nat) : Option Nat :=
  if 0x20000000 ≤ a ∧ a < 0x20010000 then some 1
  else if 0x60000000 ≤ a ∧ a < 0x62000000 then some 4
  else if 0x70000000 ≤ a ∧ a < 0x71000000 then some 3
  else none

/-- The address lies in the window. -/
def mapped (a : Nat) : Bool := (windowMem a).isSome || (decide (0x40000000 ≤ a) && decide (a < 0x41000000))

/-- Domain of a mapped address. -/
def windowDom (a : Nat) : Nat :=
  match windowMem a with
  | some c => memDom c (a - memBase c)
  | none => addrDom a

/-- HOST_ERR bit of an access that fails before it reaches its location: 0 NOT_ON, 1 UNMAPPED, 3 ALIGN, 4 ABORTED. -/
def accessError (s : State) (a : Nat) : Option Nat :=
  if a % 4 ≠ 0 then some 3
  else if !mapped a then some 1
  else
    let d := windowDom a
    if !domFit s d || domOn s d then none else if domSt s d == .quiescing then some 4 else some 0

/-- Ranges of the tun that the window hides (09 R196, 07 R152), and the mailbox SRAM of firmware (18 R399). -/
def hiddenWord (s : State) (a : Nat) : Bool :=
  (decide (0x61000000 ≤ a) && decide (a < 0x61800000) && domOn s dDPDE) ||
    (decide (0x61800000 ≤ a) && decide (a < 0x62000000) && domOn s dMASH) ||
    (decide (0x20001000 ≤ a) && decide (a < 0x20010000))

/-- The word is the LO word of a 64-bit pair (R426). -/
def isLo (a : Nat) : Bool :=
  a % 8 == 0 && (match windowMem a with
    | some c => c != 1
    | none => a == 0x40010000 || a == 0x40200008 || a == 0x40200010)

/-- The word is the HI word of a 64-bit pair. -/
def isHi (a : Nat) : Bool := decide (4 ≤ a) && isLo (a - 4)

/-- A failed host access sets its error bit, and its address is kept if no bit was set (R425). -/
def hostFail (e a : Nat) : Prog := modHost fun h => { h with
  err := h.err ||| 2 ^ e, errAddr := if h.err = 0 then a else h.errAddr }

/-- A requester's HI shadow. -/
def shadowOf (s : State) (cpu : Bool) : Nat := if cpu then s.host.hiCpu else s.host.hiHost

/-- Write a requester's HI shadow. -/
def setShadow (cpu : Bool) (v : Nat) : Prog := modHost fun h => if cpu then { h with hiCpu := v } else { h with hiHost := v }

/-- A word returned to its requester; the host port's words are kept as what the data lines carried. -/
def giveWord (cpu : Bool) (v : Nat) : Prog := whenP (!cpu) (modHost fun h => { h with lastRead := h.lastRead ++ [v] })

/-- A failed read returns 0; a failed LO read clears the shadow. -/
def readFail (cpu : Bool) (e a : Nat) : Prog := seqs
  [whenP (!cpu) (hostFail e a), whenP (isLo a) (setShadow cpu 0), giveWord cpu 0]

/-- A word of a memory; the LO read of a pair is the one 64-bit read (R426). -/
def readMem (cpu : Bool) (code a : Nat) : Prog := .ask fun s =>
  let off := a - memBase code
  let n := if isLo a then 8 else 4
  match codeMem code with
  | none => .skip
  | some i => .seq (noteRead code off n)
      (if badRange s code off n then readFail cpu 2 a
        else
          let r := readBytes s i code off n
          .seq (whenP (isLo a) (setShadow cpu (fld r 4 4))) (giveWord cpu (fld r 0 4)))

/-- One 32-bit read of the window. -/
def readWord (cpu : Bool) (a : Nat) : Prog := .ask fun s =>
  match accessError s a with
  | some e => readFail cpu e a
  | none =>
    if hiddenWord s a then .seq (whenP (isLo a) (setShadow cpu 0)) (giveWord cpu 0)
    else if isHi a then giveWord cpu (shadowOf s cpu)
    else match windowMem a with
      | some c => readMem cpu c a
      | none => .seq (whenP (isLo a) (setShadow cpu (regWord s (a + 4)))) (giveWord cpu (regWord s a))

/-- HOST_PORT_READ (R423): a burst of words from rising addresses. -/
def execHostPortRead (addr words : Nat) (s : State) : Host.Outcome State Fault Refusal :=
  done (whenP s.pwr.aoUp (.seq (modHost fun h => { h with lastRead := [] })
    (each (List.range words) fun i => readWord false ((addr + 4 * i) % 2 ^ 32)))) s

/-- SHADOW_LO_READ (R426): a requester reads the LO word of a pair. -/
def execShadowLoRead (cpu : Bool) (addr : Nat) (s : State) : Host.Outcome State Fault Refusal :=
  done (whenP (s.pwr.aoUp && isLo addr) (.seq (whenP (!cpu) (modHost fun h => { h with lastRead := [] })) (readWord cpu addr))) s

/-- SHADOW_HI_READ (R426): a requester reads the HI word of a pair. -/
def execShadowHiRead (cpu : Bool) (addr : Nat) (s : State) : Host.Outcome State Fault Refusal :=
  done (whenP (s.pwr.aoUp && isHi addr) (.seq (whenP (!cpu) (modHost fun h => { h with lastRead := [] })) (readWord cpu addr))) s

/-! ### Faults and events (R428, R430) -/

/-- The condition that sets a fault bit again after a clear holds. -/
def faultHolds (s : State) (b : Nat) : Bool :=
  match b with
  | 0 => s.clk.lost.testBit 0
  | 1 => s.clk.lost.testBit 1
  | 5 => s.kiln.tripped
  | 6 => (sheets s).any fun n => (sh s n).qsFail
  | 8 => s.bias.vneg != 0
  | _ => false

/-- A write of ones to PWR.FAULT_STATUS. -/
def faultClear (mask : Nat) : Prog := .ask fun s => modHost fun h => { h with
  fault := andNot h.fault (maskOf ((setBits 9 mask).filter fun b => !faultHolds s b)) }

/-- FAULT_STATUS_CLEAR (R428). -/
def execFaultStatusClear (mask : Nat) (s : State) : Host.Outcome State Fault Refusal := done (whenP s.pwr.aoUp (faultClear mask)) s

/-- FAULT_BIT_SET (R428): a fault source sets its bit. -/
def execFaultBitSet (source : Nat) (s : State) : Host.Outcome State Fault Refusal :=
  done (whenP (s.pwr.aoUp && decide (source < 9)) (setFault source)) s

/-- Events of each class (R432). -/
def classEvents : List Nat := [8, 5, 5, 6, 5, 6, 2, 5, 2, 4, 3, 3, 8, 4]

/-- EVENT_RAISE (R430): an event the manual names is raised. -/
def execEventRaise (code unit : Nat) (data : List Nat) (s : State) : Host.Outcome State Fault Refusal :=
  let n := code % 256
  done (whenP (decide (1 ≤ n) && decide (n ≤ classEvents.getD (code / 256) 0)) (raise code unit (data.map Int.ofNat))) s

/-- DONE_ACKNOWLEDGE (18 R403). -/
def doneAck (mask : Nat) : Prog := modMbx fun m => { m with done := andNot m.done (mask % 256) }

def execDoneAcknowledge (mask : Nat) (s : State) : Host.Outcome State Fault Refusal := done (whenP (domOn s dMBX) (doneAck mask)) s

/-- DIRECT_WRITE_CAPTURE_DRAIN (01 R37, R38): the captured direct writes enter the commit log. -/
def execDirectWriteCaptureDrain (s : State) : Host.Outcome State Fault Refusal :=
  done (whenP (fwRuns s) (.seq
    (each s.log.capture fun e => logCommit e.2.1 0x0C 0 noUnit 1 0 (leBytes 4 e.1 ++ leBytes 4 e.2.2) ((e.1 - 0x40000000) % 2 ^ 24))
    (.upd (.capture [])))) s

/-! ### Commands on the logs (R433; 01 R40) -/

/-- Position of FIRST_SEQ in a log: records are returned from it, or from the oldest where it is older. -/
def firstSeq (oldest first : Nat) : Nat := if int32Diff first oldest < 0 then oldest else first

/-- A log's answer: OLDEST_SEQ, NEXT_SEQ, OVERWRITTEN, FIRST_RETURNED, RETURNED, then the records in `width` bytes. -/
def logAnswer (oldest next lost first count width : Nat) (recs : List Rec) : Rec :=
  let f := firstSeq oldest first
  let out := (recs.drop (int32Diff f oldest).toNat).take count
  leBytes 4 oldest ++ leBytes 4 next ++ leBytes 4 lost ++ leBytes 4 f ++ leBytes 1 out.length ++ zeros 3 ++ padTo width out.flatten

/-- Oldest SEQ of a log of `n` records before `next`. -/
def oldestSeq (next n : Nat) : Nat := (next + 2 ^ 32 - n) % 2 ^ 32

/-- The later of two sequence numbers. -/
def laterSeq (a b : Nat) : Nat := if int32Diff a b < 0 then b else a

/-- EVENT_READ (0x0108); a host's FIRST_SEQ acknowledges the records before it. -/
def cmdEventRead : CmdDef :=
  { op := 0x0108, kind := .r, len := fixed 8, fields := fun _ _ => [⟨0, 4, .any⟩, ⟨4, 1, .uns 1 7⟩] ++ rsv 5 3
    own := fun _ r s => if 0 < int32Diff (fld r 0 4) s.evt.next then stBAD_PARAM else stOK
    answer := fun _ r s => (stOK, logAnswer (oldestSeq s.evt.next s.evt.recs.length) s.evt.next (cntVal s blkEvt 0 0) (fld r 0 4)
      (fld r 4 1) 224 (s.evt.recs.map evtBytes))
    effect := fun o r => .ask fun s => whenP (o == 1) (.upd (.evtAck (laterSeq s.evt.acked (fld r 0 4)))) }

/-- EVENT_MASK_SET (0x0109). -/
def cmdEventMaskSet : CmdDef :=
  { op := 0x0109, kind := .n, len := fixed 4, keys := fun _ => [0], fields := fun _ _ => [⟨0, 4, .bits 0x3FFF⟩]
    effect := fun _ r => setSetting 0x0109 0 r }

/-- COMMIT_LOG_READ (0x0120); what a host is returned, or names beyond, counts as returned. -/
def cmdCommitLogRead : CmdDef :=
  { op := 0x0120, kind := .r, len := fixed 8, fields := fun _ _ => [⟨0, 4, .any⟩, ⟨4, 1, .uns 1 6⟩] ++ rsv 5 3
    own := fun _ r s => if 0 < int32Diff (fld r 0 4) s.log.next then stBAD_PARAM else stOK
    answer := fun _ r s => (stOK, logAnswer (oldestSeq s.log.next s.log.recs.length) s.log.next (cntVal s blkLog 0 0) (fld r 0 4)
      (fld r 4 1) 192 (s.log.recs.map logBytes))
    effect := fun o r => .ask fun s =>
      let f := firstSeq (oldestSeq s.log.next s.log.recs.length) (fld r 0 4)
      let e := if int32Diff s.log.next (f + fld r 4 1) < 0 then s.log.next else (f + fld r 4 1) % 2 ^ 32
      whenP (o == 1) (.seq (.upd (.logReturn (laterSeq s.log.returned e) s.log.high)) logHigh) }

end Sys2Proof.Machine
end

