-- ==== Sys2Proof/Machine/Reply.lean ====
section
/-! DEFINITION. Responses of mailbox commands: the response area of R401, DONE and RING, the stored response that a
repeated command returns (R405), and the response frame of the in-band stream (18_mailbox_commands R399 to R414). -/

namespace Sys2Proof.Machine

open Sys2Proof

/-- First byte of a channel's command area in mailbox SRAM (R399). -/
def cmdArea (ch : Nat) : Nat := 0x200 * ch

/-- First byte of a channel's response area. -/
def respArea (ch : Nat) : Nat := 0x200 * ch + 0x100

/-- Bytes written from an area's first byte on, the rest of its 256 bytes zero (R402). -/
def putArea (at_ : Nat) (v : Rec) : Prog := seqs
  [.upd (.fill .mailbox at_ (at_ + 0x100)), noteWrite 1 at_ 0x100, store .mailbox 1 at_ (v.take 0x100)]

/-- A response as R401 lays it out. -/
def respBytes (c : Cmd) (st det : Nat) (r : Rec) : Rec :=
  leBytes 2 c.op ++ leBytes 1 c.seq ++ leBytes 1 r.length ++ leBytes 1 st ++ [0] ++ leBytes 2 det ++ r

/-- A management frame payload joins egress queue 63 (R413, R414). -/
def mgmtSend (type tag : Nat) (v : Rec) : Prog := .ask fun s =>
  modMbx fun m => { m with queue63 := m.queue63 ++ [(now s, [1] ++ leBytes 1 type ++ [0, 0] ++ leBytes 4 tag ++ v)] }

/-- RING of a channel clears and DONE is set in the same step (R403). -/
def ringDone (ch : Nat) : Prog := modMbx fun m => { m with ring := andNot m.ring (2 ^ ch), done := m.done ||| 2 ^ ch }

/-- A response reaches its requester: the response area of its channel, then DONE or the response frame. What firmware ran
itself it takes as a status. -/
def deliver (src : Requester) (st : Nat) (v : Rec) : Prog :=
  match src with
  | .host ch => .seq (putArea (respArea ch) v) (ringDone ch)
  | .baseband tag => .seq (putArea (respArea 7) v) (mgmtSend 2 tag v)
  | .firmware => modBoot fun b => { b with fwStatus := some st }

/-- SEQ and OPCODE of the last completed command of a channel (R405). -/
def noteLast (c : Cmd) : Prog :=
  if c.src = .firmware then .skip
  else modMbx fun m => { m with last := tset m.last (srcChannel c.src) (c.seq, c.op) }

/-- A command completes with a status, DETAIL and record (R401, R405). -/
def respond (c : Cmd) (st det : Nat) (r : Rec) : Prog :=
  .seq (noteLast c) (deliver c.src st (respBytes c st det r))

/-- Opcodes whose record is returned whatever the status (R410). -/
def fullRecord (c : Cmd) (st : Nat) : Bool :=
  st == stECC_UNCORR || c.op == 0x0F03 || (c.op == 0x0201 && st == stDRAIN_TIMEOUT) ||
    ((c.op == 0x0104 || c.op == 0x0F10) && fbit c.req 1 1 0)

/-- A command answers a status with the record that R410 leaves it. -/
def answer (c : Cmd) (st : Nat) (r : Rec) : Prog :=
  respond c st 0xFFFF (if st = stOK ∨ fullRecord c st = true then r else [])

/-- A repeated SEQ and OPCODE: the stored response with REPLAYED set (R405); in-band with the new TAG (R414). -/
def replay (src : Requester) : Prog := .ask fun s =>
  let a := respArea (srcChannel src)
  let v := peek s .mailbox a 0x100
  let v := putAt v 5 (leBytes 1 (fld v 5 1 ||| 1))
  seqs
    [ store .mailbox 1 (a + 5) [v.getD 5 1],
      count blkMbx 0 2,
      match src with
      | .host ch => ringDone ch
      | .baseband tag => mgmtSend 2 tag (v.take (8 + fld v 3 1))
      | .firmware => .skip ]

end Sys2Proof.Machine
end

