-- ==== Sys2Proof/Machine/Table.lean ====
section
/-! DEFINITION. The index of mailbox commands (18_mailbox_commands R422), but for MBX_INBAND_SET and MBX_STATUS, which belong to
the mailbox, and the transaction commands, which act on other commands. -/

namespace Sys2Proof.Machine

open Sys2Proof

/-- Commands of class 0x01. -/
def cmdsSystem : List CmdDef :=
  [cmdSysCapRead, cmdSysReset, cmdSysBootStatus, cmdFwWrite, cmdFwActivate, cmdFwConfirm, cmdSysFuseProgram,
    cmdEventRead, cmdEventMaskSet, cmdCommitLogRead]

/-- Commands of class 0x02. -/
def cmdsPower : List CmdDef :=
  [cmdPwrDomainSet, cmdPwrStatus, cmdPwrCaskClear, cmdPwrSavelistSet, cmdPwrSavelistGet, cmdKilnConfig,
    cmdKilnBudgetSet, cmdKilnModelSet, cmdKilnStatus]

/-- Commands of class 0x03. -/
def cmdsDatum : List CmdDef :=
  [cmdDatumStatus, cmdDatumConfig, cmdDatumTimeSet, cmdDatumStep, cmdDatumFreqSet, cmdEcpriOwd]

/-- Commands of class 0x04. -/
def cmdsFh : List CmdDef :=
  [cmdFhLinkSet, cmdFhLinkStatus, cmdFhFlowSet, cmdFhFlowGet, cmdFhQueueSet, cmdFhStats, cmdFhFlowStats]

/-- Commands of class 0x05. -/
def cmdsGrat : List CmdDef :=
  [cmdGratConfig, cmdGratBeamWrite, cmdGratBeamRead, cmdGratWeightWrite, cmdGratWeightRead, cmdGratWeightSwap,
    cmdGratStatus]

/-- Commands of class 0x06. -/
def cmdsMash : List CmdDef :=
  [cmdMashConfig, cmdMashCtxSet, cmdMashCtxGet, cmdMashStatus, cmdMashPortStatus, cmdMashEstRead]

/-- Commands of class 0x07. -/
def cmdsTx : List CmdDef :=
  [cmdTxCarrierSet, cmdTxCarrierGet, cmdTxPathSet, cmdTxPathGet, cmdTxCfrSet, cmdTxToneSet, cmdTxSheetSet,
    cmdTxStatus, cmdTxCfrGet]

/-- Commands of class 0x08. -/
def cmdsRx : List CmdDef :=
  [cmdRxCarrierSet, cmdRxCarrierGet, cmdRxPathSet, cmdRxPathGet, cmdRxImageSet, cmdRxImageGet, cmdRxStatus,
    cmdRxLevel, cmdRxFo]

/-- Commands of class 0x09. -/
def cmdsDpd : List CmdDef :=
  [cmdDpdConfig, cmdDpdPathSet, cmdDpdPathGet, cmdDpdCoefWrite, cmdDpdCoefRead, cmdDpdCoefSwap, cmdDpdStatus,
    cmdDpdPathStatus, cmdOrxCouplerSet, cmdOrxCouplerGet, cmdOrxStatus, cmdOrxService]

/-- Commands of class 0x0A. -/
def cmdsSurvey : List CmdDef :=
  [cmdSurveyConfig, cmdSurveyRun, cmdSurveyStatus, cmdSurveyNetSet, cmdSurveyNetGet, cmdSurveyCorrSet,
    cmdSurveyCorrGet, cmdSurveyTempSet, cmdSurveyTempGet]

/-- Commands of class 0x0B. -/
def cmdsRadio : List CmdDef :=
  [cmdRsTimerSet, cmdRsPatternSet, cmdRsPatternGet, cmdRsStatus, cmdLoSet, cmdLoStatus, cmdTddStrobeSet,
    cmdTddStrobeGet, cmdSheetService, cmdConvCalSet, cmdConvStatus, cmdConvSliceRead, cmdConvSliceService]

/-- Commands of class 0x0C. -/
def cmdsFront : List CmdDef :=
  [cmdBiasSet, cmdBiasGet, cmdBiasGainSet, cmdBiasStatus, cmdBiasRestore, cmdRffeMasterSet, cmdRffeXfer,
    cmdRffeSched, cmdRffeBindSet, cmdRffeStatus, cmdTunerSet, cmdTunerGet, cmdTunerStatus, cmdCoexSet,
    cmdCoexStatus]

/-- Commands of class 0x0D. -/
def cmdsHk : List CmdDef :=
  [cmdHkSeqSet, cmdHkRead, cmdHkLimitSet]

/-- Commands of class 0x0E. -/
def cmdsMem : List CmdDef :=
  [cmdMemConfig, cmdMemStatus, cmdMemRemapRead, cmdMemInject, cmdMemTmrRead, cmdMemTmrWrite]

/-- Commands of class 0x0F. -/
def cmdsProfile : List CmdDef :=
  [cmdSectionRead, cmdSectionStats, cmdProfileWrite, cmdProfileSelect, cmdProfileStatus]

/-- Commands of class 0x10. -/
def cmdsCapture : List CmdDef :=
  [cmdCaptureSet, cmdCaptureStatus, cmdCaptureRead, cmdCaptureRelease, cmdTestgenSet, cmdTestgenGet, cmdAnalyse]

/-- Commands that a transaction or the mailbox can carry. -/
def itemDefs : List CmdDef :=
  cmdsSystem ++ cmdsPower ++ cmdsDatum ++ cmdsFh ++ cmdsGrat ++ cmdsMash ++ cmdsTx ++ cmdsRx ++
    cmdsDpd ++ cmdsSurvey ++ cmdsRadio ++ cmdsFront ++ cmdsHk ++ cmdsMem ++ cmdsProfile ++ cmdsCapture

/-- The definition of an opcode. -/
def itemCmd (op : Nat) : Option CmdDef := itemDefs.find? fun d => d.op == op

end Sys2Proof.Machine
end

