-- ==== Sys2Proof/Machine/Txn.lean ====
section
/-! DEFINITION. Transactions: items and their keys, ownership of areas, validation, the application at the boundary and what it
sets going in the other units (03_control_path_transactions R63 to R72; 18_mailbox_commands R411). -/

namespace Sys2Proof.Machine

open Sys2Proof

/-! ### Register writes that act (00 R11, R50) -/

/-- What a write of a register does beyond its writable fields: the bits that a one clears, and PWR.CTRL. -/
def regAct (a v : Nat) : Prog :=
  if a = 0x40010008 then whenP (v.testBit 2) (modPwr fun p => { p with railFault := false })
  else if a = 0x4001000C then .seq (whenP (v.testBit 0) pwrWake) (whenP (v.testBit 1) pwrRestart)
  else if a = 0x40010040 then faultClear (v % 512)
  else if a = 0x40010050 then modHost fun h => { h with err := andNot h.err (v % 32) }
  else if a = 0x40110030 then whenP (v.testBit 2) (modDatum fun d => { d with ppsInSeen := false })
  else if a = 0x40300900 then whenP (v.testBit 1) (modTx fun t => { t with muteSeen := false })
  else if a = 0x40811300 then whenP (v.testBit 1) (modBias fun b => { b with pinSeen := false })
  else .skip

/-- A masked write of a register by the host or a transaction; registers of units absent or out of service ignore it
(00 R4, R6). -/
def regStore (a v mask : Nat) : Prog := .ask fun s =>
  whenP (!regHeld s a) (.seq (regPoke a v mask) (regAct a (v &&& mask)))

/-! ### Items (R66, R67) -/

/-- Keys an item locks: a register's address, or the settings of its command. -/
def itemKeys (i : Item) : List Nat :=
  if i.op = 0 then [i.addr]
  else match itemCmd i.op with
    | some d => (d.keys i.req).map (cfgKey d.keyOp)
    | none => []

/-- Bytes of an item, as the commit log's content has them (01 R39). -/
def itemBytes (i : Item) : Rec :=
  if i.op = 0 then leBytes 4 i.addr ++ leBytes 4 i.value ++ leBytes 4 i.mask
  else leBytes 2 i.op ++ leBytes 1 i.req.length ++ i.req

/-- Area of an item. -/
def itemArea (i : Item) : Nat := if i.op = 0 then addrArea i.addr else i.op / 256

/-- Origin that owns an area: 1 host, 2 baseband (R71). -/
def areaOwner (s : State) (a : Nat) : Nat := if 2 ≤ a ∧ a ≤ 14 ∧ s.txn.owner.testBit a = true then 2 else 1

/-- Origin of a requester. -/
def originOf : Requester → Nat
  | .baseband _ => 2
  | _ => 1

/-- Another OPEN or COMMITTED transaction holds one of the keys (R67). -/
def keysHeld (s : State) (id : Nat) (keys : List Nat) : Bool :=
  s.txn.live.any fun t => t.id != id && t.items.any fun i => (itemKeys i).any keys.contains

/-- The limits of R66 on items and staging memory hold with more items in a transaction. -/
def itemsFit (s : State) (t : Txn) (new : List Item) : Bool :=
  decide (t.items.length + new.length ≤ 1024) &&
    decide (sumN ((s.txn.live.flatMap (·.items) ++ new).map fun i => (itemBytes i).length) ≤ 192 * 1024)

/-- A live transaction. -/
def txnOf (s : State) (id : Nat) : Option Txn := s.txn.live.find? fun t => t.id == id

/-- A live transaction or one of the last 64 closed. -/
def txnAny (s : State) (id : Nat) : Option Txn := (txnOf s id).or (s.txn.closed.find? fun t => t.id == id)

/-- Check 5 of 18 R408 for a transaction named by a requester: unknown, not OPEN, of the other origin. -/
def txnCheck (s : State) (id origin : Nat) : Nat :=
  match txnAny s id with
  | none => stBAD_PARAM
  | some t => if t.state != .opened then stSTATE else if t.origin != origin then stDENIED else stOK

/-- Change a live transaction. -/
def modLive (id : Nat) (f : Txn → Txn) : Prog := modTxn fun x => { x with live := x.live.map fun t => if t.id = id then f t else t }

/-- A transaction leaves OPEN or COMMITTED: its locks are released, and its state is kept among the last 64 (R65). -/
def closeTxn (id : Nat) (f : Txn → Txn) : Prog := .ask fun s =>
  match txnOf s id with
  | none => .skip
  | some t => modTxn fun x => { x with live := x.live.filter fun q => q.id != id, closed := (f t :: x.closed).take 64 }

/-- A new transaction of an origin, with the next identifier; 0 is never issued (R70). -/
def openTxn (origin label : Nat) (items : List Item) : Prog := .ask fun s => let at_ := upNs s; modTxn fun x => { x with
  live := x.live ++ [{ id := x.next, state := .opened, origin := origin, label := label, items := items, boundary := 0xFF
                       refCarrier := 0, applyNs := 0, failStatus := 0, failIndex := 0xFFFF, busErr := [], loaded := false, lead := 0
                       lost := 0, named := at_ }]
  next := if x.next + 1 = 2 ^ 32 then 1 else x.next + 1 }

/-! ### Validation (R68) -/

/-- An item's own command; a register write has none. -/
def itemDef (i : Item) : Option CmdDef := if i.op = 0 then none else itemCmd i.op

/-- Status and index of the lowest-numbered item that fails a check. -/
def firstFail (l : List Item) (f : Item → Nat) : Option (Nat × Nat) :=
  (l.zipIdx.find? fun p => f p.1 != stOK).map fun p => (f p.1, p.2)

/-- Check 2: the item's area is the origin's, and was not transferred since (R72). -/
def ownFail (s : State) (t : Txn) (i : Item) : Nat :=
  if t.lost.testBit (itemArea i) ∨ areaOwner s (itemArea i) ≠ t.origin then stDENIED else stOK

/-- Check 3: units fitted and in service. -/
def unitsFail (s : State) (us : List Nat) : Nat :=
  if us.any fun u => !unitFit s u then stABSENT else if us.any fun u => !inService s u then stUNAVAILABLE else stOK

/-- Units that every command of a class names: the engine of 17 R391 that serves the class, or the survey's (01 R30). -/
def classUnits (op : Nat) : List Nat :=
  match op / 256 with
  | 4 => [uFH]
  | 5 => [uGRAT]
  | 6 => [uMASH]
  | 10 => [uSURVEY]
  | _ => []

/-- Units that a command names (00 R6). -/
def CmdDef.named (d : CmdDef) (r : Rec) : List Nat := classUnits d.op ++ d.units r

/-- Check 3 of an item. -/
def serviceFail (s : State) (i : Item) : Nat :=
  match itemDef i with
  | some d => unitsFail s (d.named i.req)
  | none => if !domFit s (addrDom i.addr) then stABSENT else unitsFail s (addrUnit i.addr).toList

/-- Domains an item needs. -/
def itemDoms (i : Item) : List Nat :=
  match itemDef i with
  | some d => d.doms i.req
  | none => [addrDom i.addr]

/-- Check 4: the domains ON (18 R412) and the radio state. -/
def stateFail (s : State) (i : Item) : Nat :=
  if (itemDoms i).any fun d => !domOn s d then stSTATE
  else match itemDef i with
    | some d => d.legal i.req s
    | none => stOK

/-- Opcodes whose settings the carriers, flows and contexts agree over. -/
def sharedOps : List Nat := [0x0701, 0x0801, 0x0403, 0x0501, 0x0B05, 0x0601, 0x0602]

/-- An item of these fails check 5 by itself; what they fail together belongs to no one item. -/
def aloneFail (s : State) (i : Item) : Bool :=
  let r := i.req
  if i.op = 0x0701 then carValid r && !txCarOk s r
  else if i.op = 0x0801 then carValid r && !rxCarOk s r
  else if i.op = 0x0403 then flowValid r && !flowOk s r
  else if i.op = 0x0602 then ctxValid r && !ctxOk s r
  else if i.op = 0x0601 then !(cars s).contains (fld r 3 1)
  else false

/-- Check 5 of an item on the state with every item stored. -/
def agreeFail (s : State) (i : Item) : Nat :=
  match itemDef i with
  | some d => d.agree i.req s
  | none => stOK

/-- A later item of the list sets the same keys by the same command: the later value stands (R67). -/
def replaced (i : Item) (later : List Item) : Bool := i.op != 0 && later.any fun j => j.op == i.op && itemKeys j == itemKeys i

/-- Items with the numbers they were staged under, without those a later one replaces. -/
def effective : List (Item × Nat) → List (Item × Nat)
  | [] => []
  | p :: ps => if replaced p.1 (ps.map (·.1)) then effective ps else p :: effective ps

/-- What an item stores. -/
def storeItem (i : Item) : Prog :=
  match itemDef i with
  | some d => whenP d.stores (each (d.keys i.req) fun k => setSetting d.keyOp k i.req)
  | none => regPoke i.addr i.value i.mask

/-- The state with every item stored. -/
def withItems (s : State) (l : List Item) : State := runP (each l storeItem) s

/-- Check 5: status and FAIL_INDEX. -/
def agreementFail (s1 : State) (l : List Item) : Option (Nat × Nat) :=
  let live := effective l.zipIdx
  let own := live.filter fun p => if sharedOps.contains p.1.op then aloneFail s1 p.1 else agreeFail s1 p.1 != stOK
  let shared := live.any fun p => sharedOps.contains p.1.op && agreeFail s1 p.1 != stOK
  let all := (live.any fun p => sharedOps.contains p.1.op) && (carriersAgree s1 != stOK || !ctxsAgree s1)
  match own with
  | p :: _ => some (stBAD_PARAM, p.2)
  | [] => if shared || all then some (stBAD_PARAM, 0xFFFF) else none

/-- Checks 2 to 6. -/
def validate (s : State) (t : Txn) : Option (Nat × Nat) :=
  let s1 := withItems s t.items
  (firstFail t.items (ownFail s t)).or <| (firstFail t.items (serviceFail s)).or <| (firstFail t.items (stateFail s)).or <|
    (agreementFail s1 t.items).or <| if admitted s s1 then none else some (stBUDGET, 0xFFFF)

/-- A boundary satisfies the lead of R64. -/
def inLead (s : State) (b lead : Nat) : Bool := decide (50000 ≤ int32Diff (add32 b (-(lead : Int))) (now s))

/-- Earliest boundary of a kind of a carrier that satisfies R64. -/
def firstFit (s : State) (kind mu lead : Nat) : Nat :=
  counterAt s (nextBoundary s kind mu (extNow s + (lead + 50000 : Nat))).2.2

/-- Check 7: the boundary B, whether it applies at once, or a status (R63, R64). DESIGN CHOICE (assumption log
73): with no carrier committed, and also while DATUM is not ON, a commit of kind 0 applies at once and every other answers STATE. -/
def boundaryOf (s : State) (kind ref target lead : Nat) (auto latePolicy : Bool) : Nat × Nat × Bool :=
  if cars s = [] ∨ domOn s dDATUM = false then (if kind = 0 then (stOK, now s, true) else (stSTATE, 0, false))
  else if (cars s).contains ref = false then (stBAD_PARAM, 0, false)
  else
    let mu := carMu (refCar s ref)
    let k := if kind = 0 then 1 else kind
    let early := (stOK, firstFit s k mu lead, false)
    if auto ∨ kind = 0 then early
    else if 2000000000 < int32Diff target (now s) then (stBAD_PARAM, 0, false)
    else if isBoundary s k mu (extTotal s.datum.ref target) = false then (stBAD_PARAM, 0, false)
    else if inLead s target lead then (stOK, target, false)
    else if latePolicy then early
    else (stLATE, 0, false)

/-- L_TXMAX of a commit: the larger of before and after (08 R177). -/
def commitLead (s : State) (t : Txn) : Nat := max (ltxMax s) (ltxMax (withItems s t.items))

/-- A commit of an OPEN transaction: status, FAIL_INDEX, B, and whether it applies at once (R68). -/
def judgeCommit (s : State) (t : Txn) (kind ref target : Nat) (auto latePolicy : Bool) : Nat × Nat × Nat × Bool :=
  if 16 ≤ (txnsIn s .committed).length then (stBUSY, 0xFFFF, 0, false)
  else match validate s t with
    | some f => (f.1, f.2, 0, false)
    | none =>
      let b := boundaryOf s kind ref target (commitLead s t) auto latePolicy
      (b.1, 0xFFFF, b.2)

/-- An accepted commit: the transaction is COMMITTED, after those accepted before it (R24, R65). -/
def acceptCommit (t : Txn) (kind ref b : Nat) : Prog := .ask fun s =>
  let q := { t with
    state := .committed, boundary := kind, refCarrier := ref, applyNs := b, lead := commitLead s t, failStatus := 0, failIndex := 0xFFFF }
  modTxn fun x => { x with live := (x.live.filter fun y => y.id != t.id) ++ [q] }

/-! ### Shadow banks (R69) -/

/-- A shadow-load access to a block whose domain is not ON is a bus error. -/
def busError (s : State) (i : Item) : Bool := (itemDoms i).any fun d => !domOn s d

/-- The staged values of a COMMITTED transaction go to the shadow banks. -/
def shadowLoad (id : Nat) : Prog := .ask fun s =>
  match txnOf s id with
  | none => .skip
  | some t =>
    let bad := t.items.zipIdx.filter fun p => busError s p.1
    seqs
      [ modLive id fun x => { x with loaded := true, busErr := bad.map (·.2) },
        each ((effective t.items.zipIdx).filter fun p => !busError s p.1) fun p =>
          match itemDef p.1 with
          | some d => d.load t.applyNs p.1.req
          | none => .skip ]

/-- What the shadow load of a transaction that does not apply had set going: timers of LO_SET, triggers of TUNER_SET. -/
def undoLoad (t : Txn) : Prog := .ask fun s =>
  let b := t.applyNs
  whenP t.loaded (.seq
    (whenP (t.items.any fun i => i.op == 0x0B05) (each (sheets s) fun n =>
      match tfind (sh s n).timers 7 with
      | some x => whenP (x.tE == b) (disarmTimer n 7)
      | none => .skip))
    (each ((t.items.filter fun i => i.op == 0x0C20).map fun i => fld i.req 2 1) fun m =>
      let gone := ((masterOf s m).crit.filter fun r => r.origin == 3 && r.trigger && r.due == triggerStart s m b).map (·.group)
      modMaster m fun x => { x with crit := x.crit.filter fun r => !(r.origin == 3 && gone.contains r.group) }))

/-! ### What a commit sets going (R61; 06 R131, R142; 08 R178; 10 R219, R225) -/

/-- Flow binding of a record (04 R89): VALID, DIR, KIND and DYNAMIC, EAXC, CARRIER, LAYER, QUEUE and COMP. -/
def binding (r : Rec) : Nat × Rec := (fld r 1 1, (r.drop 2).take 6)

/-- Numerology, bandwidth and centre frequency of a carrier record changed. -/
def recarried (a b : Rec) : Bool := carValid a && carValid b && (carMu a != carMu b || fld a 2 1 != fld b 2 1 || carNco a != carNco b)

/-- Sections of a changed carrier or flow from the boundary on are cleared (R61). DESIGN CHOICE (assumption log 48): a carrier
changes in one direction, that of the changed record, and its sections of the other direction stay. -/
def clearChanged (s0 s1 : State) (b : Nat) : Prog :=
  let fl := fun f => binding (flowRec s0 f) != binding (flowRec s1 f)
  let car := fun dir c => recarried (dirCar s0 dir c) (dirCar s1 dir c)
  whenP ((List.range 256).any fl || (List.range 8).any fun c => car 0 c || car 1 c)
    (clearFrom b fun e => fl e.flow || car (flowDir (flowRec s0 e.flow)) e.carrier)

/-- A change of a direction's group geometry (06 R131): the weight sets solved for the old geometry are not written or
applied. -/
def regroup (s0 s1 : State) (dir : Nat) : Prog :=
  let shape := fun s => (dirCars s dir).map fun c => (c, carPrb (dirCar s dir c), carMu (dirCar s dir c), groupSize s dir c)
  let moved := fun c => slotBase s0 dir c != slotBase s1 dir c || !(shape s0).contains
    (c, carPrb (dirCar s1 dir c), carMu (dirCar s1 dir c), groupSize s1 dir c)
  whenP (shape s0 != shape s1) (seqs
    [ regeometry dir (slotLayout s0 dir) (slotLayout s1 dir),
      whenP (layerSrc s1 dir == 1) (clearPending dir),
      modMash fun m => { m with refresh := m.refresh.map fun q => { q with set := q.set.filter fun x => x.dir != dir } },
      discardEst fun k => moved (ctxCar (ctxRec s1 (k / 4096))), retouchCtxs moved ])

/-- Symbols of a carrier whose air time lies in [b, b + n). -/
def symbolsIn (s : State) (mu b n : Nat) : List (Int × Nat) :=
  let t := extTotal s.datum.ref b
  let h := halfOf s t
  ([h, h + 1].flatMap fun (x : Int) => (List.range (symPerHalf mu)).map fun j => (x, j)).filter fun x =>
    decide (t ≤ symNs s mu x.1 x.2) && decide (symNs s mu x.1 x.2 < t + n)

/-- Downlink carriers added, removed or changed in L_TX (08 R178). -/
def retimeDl (s0 s1 : State) (b : Nat) : Prog := each (List.range 8) fun c =>
  let was := carValid (txCar s0 c)
  let is_ := carValid (txCar s1 c)
  let drop := modDatum fun d => { d with cmpDl := tdel d.cmpDl c }
  if is_ && (!was || ltx s0 c != ltx s1 c || carMu (txCar s0 c) != carMu (txCar s1 c)) then .seq drop (.ask fun s =>
    let mu := carMu (txCar s c)
    let next := symFrom s mu (extTotal s.datum.ref b + (ltx s c : Nat))
    .seq (each (symbolsIn s mu b (ltx s c)) fun x => muteSymbol c x.1 x.2 4) (armFrom 0 c 64 next.1 next.2))
  else if was && !is_ then .seq drop (modTx fun t => { t with
    symOut := tdel t.symOut c, grid := t.grid.filter fun g => g.1 % 8 != c, air := t.air.filter fun a => a.carrier != c || int32Diff a.air b < 0 })
  else .skip

/-- Uplink carriers added, removed or changed (10 R225). -/
def retimeUl (s0 s1 : State) (b : Nat) : Prog := each (List.range 8) fun c =>
  let x := rxCar s0 c
  let y := rxCar s1 c
  let drop := modDatum fun d => { d with cmpUl := tdel d.cmpUl c }
  let same := carValid x && carNco x == carNco y && fld x 2 1 == fld y 2 1 && carMu x == carMu y && carPrb x == carPrb y &&
    skewStep s0 == skewStep s1
  seqs
    [ whenP (carValid y && !same) (modRx fun t => { t with retime := tset t.retime c (b, add32 b 4000) }),
      whenP (carValid x && (!carValid y || carMu x != carMu y)) drop,
      whenP (carValid x && !carValid y) (modRx fun t => { t with retime := tdel t.retime c }) ]

/-- GRAT.SKEW follows the receive carriers (06 R142, 10 R219), and the skew is current again (01 R41). -/
def writeSkew (s0 s1 : State) : Prog :=
  whenP (rxRecs s0 != rxRecs s1 && rxRecs s1 != []) (.seq
    (each (List.range 16) fun i => .upd (.setReg (0x40201100 + 4 * i) (ofSigned 12 (32 * skewStep s1 * i : Nat))))
    (modMash fun m => { m with skewCur := 15 }))

/-- Sheets whose temperature coefficients an applied transaction changed are latched anew at their latched temperature
(13_array_survey, notes on SURVEY_TEMP_SET). -/
def relatch (b id : Nat) : Prog := .ask fun s =>
  let l := ((s.txn.closed.find? fun t => t.id == id && t.state == .applied).map (·.items)).getD []
  each (distinct ((l.filter fun i => i.op == 0x0A08).map fun i => fld i.req 0 1 / 16)) fun n =>
    latchTerms n (tget 0 s.survey.latched n) b 0

/-- The VALID flows with their loads (04 R80); a commit that changes them recomputes the shedding (04 R79). -/
def flowLoads (s : State) : List (Nat × Rec × Nat) := (flows s).map fun p => (p.1, p.2, flowLoad s p.2)

/-- What follows from the settings that a commit changed. -/
def commitDiff (s0 : State) (b : Nat) : Prog := .ask fun s1 => seqs
  [ clearChanged s0 s1 b, regroup s0 s1 0, regroup s0 s1 1, retimeDl s0 s1 b, retimeUl s0 s1 b, writeSkew s0 s1,
    whenP (s0.cfg != s1.cfg) writeF0,
    whenP (flowLoads s0 != flowLoads s1) (modFh fun f => { f with shedDl := shedNow s1 0, shedUl := shedNow s1 1 }),
    biasFollow ]

/-! ### Application (R69) -/

/-- An item's effect at its boundary. -/
def applyItem (b : Nat) (i : Item) : Prog :=
  match itemDef i with
  | some d => .seq (d.apply b i.req) (storeItem i)
  | none => regStore i.addr i.value i.mask

/-- Why a COMMITTED transaction fails at its boundary: status and index. -/
def applyFail (s : State) (t : Txn) : Option (Nat × Nat) :=
  (firstFail t.items (ownFail s t)).or <|
    ((t.items.zipIdx.find? fun p => t.busErr.contains p.2 || busError s p.1).map fun p => (stHW_FAULT, p.2)).or <|
      (firstFail t.items (serviceFail s)).map fun p => (stUNAVAILABLE, p.2)

/-- The waiting one-item command of a transaction is answered (18 R411). -/
def answerWaiting (id st : Nat) : Prog := .ask fun s =>
  match s.mbx.waiting with
  | some (c, q) => whenP (q == id) (.seq (modMbx fun m => { m with waiting := none }) (answer c st []))
  | none => .skip

/-- A COMMITTED transaction applies at its boundary, or fails. -/
def applyTxn (id : Nat) : Prog := .seq
  (.ask fun s => whenP ((txnOf s id).any fun t => !t.loaded) (shadowLoad id))
  (.ask fun s => match txnOf s id with
    | none => .skip
    | some t =>
      let b := t.applyNs
      match applyFail s t with
      | some f => seqs
        [ undoLoad t, modTxn fun x => { x with failed := true },
          raise (evCode 0 7) noUnit [(f.1 : Nat), (f.2 : Nat)],
          closeTxn id fun q => { q with state := .failed, failStatus := f.1, failIndex := f.2 },
          answerWaiting id f.1 ]
      | none => seqs
        [ holdUl b, each (effective t.items.zipIdx) fun p => applyItem b p.1,
          whenP (t.items.any fun i => i.op == 0x0503) flipBeams, commitDiff s b,
          logCommit b 1 t.boundary noUnit t.origin id (t.items.flatMap itemBytes) t.items.length,
          modTxn fun x => { x with lastApply := b },
          closeTxn id fun q => { q with state := .applied },
          answerWaiting id stOK ])

/-- A commit with no boundary to wait for applies at the time of acceptance; a regenerated predistortion set with it. -/
def applyNow (id : Nat) : Prog := .ask fun t => seqs
  [ applyTxn id, .ask fun s => whenP (s.dpd.regen != 0) (dpdCommit (now t) 0), relatch (now t) id ]

/-! ### Commands of class 0x0F (R70 to R72) -/

/-- Reference carrier of a one-item commit: the lowest-numbered downlink carrier, else uplink (18 R411). -/
def singleRef (s : State) : Nat := ((txCars s).head?.or (rxCars s).head?).getD 0

/-- A kind T command with TXN_ID 0 (18 R411): a transaction of one item, committed at once; its response waits for the
boundary. -/
def runSingle (c : Cmd) (i : Item) : Prog := .ask fun s =>
  let o := originOf c.src
  let id := s.txn.next
  if 8 ≤ (txnsIn s .opened).length ∨ 16 ≤ (txnsIn s .committed).length ∨
      192 * 1024 < sumN ((i :: s.txn.live.flatMap (·.items)).map fun x => (itemBytes x).length) then answer c stBUSY []
  else .seq (openTxn o 0 [i]) (.ask fun s => match txnOf s id with
    | none => .skip
    | some t =>
      let j := judgeCommit s t 0 (singleRef s) 0 true false
      if j.1 != stOK then seqs
        [ modTxn fun x => { x with failed := true },
          closeTxn id fun q => { q with state := .failed, failStatus := j.1, failIndex := j.2.1 }, answer c j.1 [] ]
      else seqs
        [ modMbx fun m => { m with waiting := some (c, id) }, acceptCommit t 0 (singleRef s) j.2.2.1,
          whenP j.2.2.2 (applyNow id) ])

/-- A command is staged as one item of a transaction (R66). -/
def stageItems (id : Nat) (l : List Item) : Prog := modLive id fun t => { t with items := t.items ++ l }

/-- TXN_BEGIN (0x0F01). -/
def runBegin (c : Cmd) : Prog := .ask fun s =>
  if 8 ≤ (txnsIn s .opened).length then answer c stBUSY []
  else .seq (openTxn (originOf c.src) (fld c.req 0 4) []) (answer c stOK (leBytes 4 s.txn.next))

/-- Items of a TXN_STAGE_REG record. -/
def regItems (r : Rec) : List Item := (List.range (fld r 4 1)).map fun i =>
  { op := 0, req := [], addr := fld r (8 + 12 * i) 4, value := fld r (12 + 12 * i) 4, mask := fld r (16 + 12 * i) 4 }

/-- TXN_STAGE_REG (0x0F02). -/
def runStageReg (c : Cmd) : Prog := .ask fun s =>
  let id := fld c.req 0 4
  let l := regItems c.req
  let st := txnCheck s id (originOf c.src)
  match txnOf s id with
  | some t =>
    if st != stOK then answer c st []
    else if l.any fun i => ownFail s t i != stOK then answer c stDENIED []
    else if keysHeld s id (l.map (·.addr)) then answer c stTXN_CONFLICT []
    else if !itemsFit s t l then answer c stBUSY []
    else .seq (stageItems id l) (answer c stOK (leBytes 2 (t.items.length + l.length)))
  | none => answer c st []

/-- Response record of TXN_COMMIT. DESIGN CHOICE (assumption log 81): APPLY_NS of a commit that is not accepted reads 0. -/
def commitRec (b index st : Nat) : Rec := leBytes 4 b ++ leBytes 2 index ++ leBytes 1 st ++ [0]

/-- TXN_COMMIT (0x0F03). -/
def runCommit (c : Cmd) : Prog := .ask fun s =>
  let r := c.req
  let id := fld r 0 4
  let st := txnCheck s id (originOf c.src)
  match txnOf s id with
  | some t =>
    if st != stOK then answer c st (commitRec 0 0xFFFF st)
    else
      let j := judgeCommit s t (fld r 8 1) (fld r 9 1) (fld r 4 4) (fbit r 10 1 0) (fbit r 10 1 1)
      if j.1 != stOK then .seq (modLive id fun q => { q with failStatus := j.1, failIndex := j.2.1 })
        (answer c j.1 (commitRec 0 j.2.1 j.1))
      else seqs
        [ acceptCommit t (fld r 8 1) (fld r 9 1) j.2.2.1, answer c stOK (commitRec j.2.2.1 0xFFFF 0), whenP j.2.2.2 (applyNow id) ]
  | none => answer c st (commitRec 0 0xFFFF st)

/-- TXN_ABORT (0x0F04): an OPEN transaction, or a COMMITTED one while its boundary is far enough (R70). -/
def runAbort (c : Cmd) : Prog := .ask fun s =>
  let id := fld c.req 0 4
  match txnOf s id with
  | none => answer c (if (txnAny s id).isSome then stSTATE else stBAD_PARAM) []
  | some t =>
    if t.origin != originOf c.src then answer c stDENIED []
    else if t.state == .committed && !inLead s t.applyNs t.lead then answer c stSTATE []
    else seqs [undoLoad t, closeTxn id fun q => { q with state := .aborted }, answerWaiting id stSTATE, answer c stOK []]

/-- Code of a transaction's state (R65). -/
def txnCode : TxnState → Nat
  | .opened => 1
  | .committed => 2
  | .applied => 3
  | .aborted => 4
  | .failed => 5
  | .expired => 6

/-- TXN_STATUS (0x0F05). -/
def runTxnStatus (c : Cmd) : Prog := .ask fun s =>
  match txnAny s (fld c.req 0 4) with
  | none => answer c stBAD_PARAM []
  | some t => answer c stOK (leBytes 1 (txnCode t.state) ++ leBytes 1 t.origin ++ leBytes 2 t.items.length ++ leBytes 4 t.label ++
      leBytes 1 t.boundary ++ leBytes 1 t.failStatus ++ leBytes 2 t.failIndex ++ leBytes 4 t.applyNs)

/-- Areas that have an owner. -/
def areaBits : Nat := 0x7FFC

/-- OWNER_SET (0x0F06): live transactions of a former owner that hold an item in a transferred area can commit no more (R72). -/
def runOwnerSet (c : Cmd) : Prog := .ask fun s =>
  let set := fld c.req 0 4
  let new := andNot s.txn.owner set ||| (fld c.req 4 4 &&& set)
  let moved := (setBits 15 set).filter fun a => new.testBit a != s.txn.owner.testBit a
  .seq
    (modTxn fun x => { x with
      owner := new
      live := x.live.map fun t => { t with
        lost := t.lost ||| maskOf (moved.filter fun a => areaOwner s a == t.origin && t.items.any fun i => itemArea i == a) } })
    (answer c stOK (leBytes 4 new))

/-- Fields of a class 0x0F command. -/
def txnFields (op : Nat) (r : Rec) : List Fld :=
  if op = 0x0F02 then
    [⟨4, 1, .uns 1 20⟩] ++ rsv 5 3 ++ (List.range (fld r 4 1)).flatMap fun i =>
      [⟨8 + 12 * i, 4, .cond (addrArea (fld r (8 + 12 * i) 4) != 0 && regListed (fld r (8 + 12 * i) 4))⟩,
       ⟨16 + 12 * i, 4, .uns 1 0xFFFFFFFF⟩]
  else if op = 0x0F03 then [⟨8, 1, .uns 0 3⟩, ⟨9, 1, .uns 0 7⟩, ⟨10, 1, .bits 3⟩, ⟨11, 1, .zero⟩]
  else if op = 0x0F06 then [⟨0, 4, .bits areaBits⟩, ⟨4, 4, .bits areaBits⟩]
  else []

/-- Length of a class 0x0F record. -/
def txnLen (op : Nat) (r : Rec) : Nat :=
  if op = 0x0F02 then 8 + 12 * fld r 4 1 else if op = 0x0F03 then 12 else if op = 0x0F06 then 8 else 4

/-- TXN_EXPIRE (R65): 10 s pass in OPEN without a command naming the transaction. -/
def execTxnExpire (id : Nat) (s : State) : Host.Outcome State Fault Refusal :=
  done (whenP ((txnOf s id).any fun t => t.state == .opened && decide (t.named + 10000000000 ≤ upNs s)) (closeTxn id fun q => { q with state := .expired })) s

/-- TXN_SHADOW_LOAD (R69). -/
def execTxnShadowLoad (id : Nat) (s : State) : Host.Outcome State Fault Refusal :=
  done (whenP ((txnOf s id).any fun t => t.state == .committed && !t.loaded) (shadowLoad id)) s

end Sys2Proof.Machine
end

