-- ==== Sys2Proof/Machine/Commit.lean ====
section
/-! DEFINITION. Commit boundaries: what applies at one, in the fixed order of 01 R24, and the settings that a symbol ahead of
the boundaries still to come is processed with (03_control_path_transactions R63). -/

namespace Sys2Proof.Machine

open Sys2Proof

/-- A due isolation or restoration of a queue entry (01 R42); a sheet that falls out of service goes to SLEEP. -/
def isoCommit (b : Nat) (q : Nat × Nat × Nat) : Prog :=
  .seq (applyIso b 2 q.1 q.2.1 q.2.2) (whenP (q.1 == 2 && q.2.1 == 8) (forceSleep (q.2.2 % 256)))

/-- A datum time is a slot boundary of the lowest-numbered committed carrier. -/
def isSlot (s : State) (b : Nat) : Bool :=
  match lowCar s with
  | some c => isBoundary s 2 (carMu (refCar s c)) (extTotal s.datum.ref b)
  | none => true

/-- COMMITTED transactions due at a datum time, in the order their commits were accepted. -/
def dueTxns (s : State) (b : Nat) : List Txn :=
  s.txn.live.filter fun t => t.state == .committed && decide (0 ≤ int32Diff b t.applyNs)

/-- Strongest boundary kind that a datum time is for the lowest-numbered committed carrier: 3 frame, 2 slot, 1 symbol. -/
def kindAt (s : State) (b : Nat) : Nat :=
  match lowCar s with
  | some c =>
    let is_ := fun k => isBoundary s k (carMu (refCar s c)) (extTotal s.datum.ref b)
    if is_ 3 then 3 else if is_ 2 then 2 else if is_ 1 then 1 else 0
  | none => 0

/-- Everything that applies at a boundary, in the order of R24; the alignment trims of order 8 apply at their DASYNC. -/
def boundaryProg (b : Nat) : Prog := .ask fun s =>
  let txns := dueTxns s b
  seqs
    [ whenP (isSlot s b) (.seq
        (modClk fun k => { k with isoPend := k.isoPend.filter fun q => !isoDue b q })
        (each (s.clk.isoPend.filter (isoDue b)) (isoCommit b))),
      each txns fun t => applyTxn t.id,
      kilnApply b 2,
      .ask fun t => each (dueCamps t b) campCommit,
      .ask fun t => each (t.survey.steep.filter fun q => decide (0 ≤ int32Diff b q.next)) (steepStep b 2),
      mashApply b,
      .ask fun t => dpdCommit b (fld (dpdRec t) 0 1),
      .ask fun t => each (t.survey.latchPend.filter fun p => decide (0 ≤ int32Diff b p.2.2)) fun p =>
        if (sh t p.1).state = .sleep then modSurvey fun v => { v with latchPend := tdel v.latchPend p.1 }
        else latchSheet p.1 p.2.1 b (if tfind t.survey.lastCommit p.1 == some b then 0 else 2),
      each txns fun t => relatch b t.id,
      .ask fun t => whenP (ulNow t != ulNow s) (keepUl (ulNow s) b) ]

/-! ### What a symbol ahead is processed with (R63) -/

/-- A datum value among others, the earliest first, each once. -/
def insertTime (b : Nat) : List Nat → List Nat
  | [] => [b]
  | x :: l => if x = b then x :: l else if int32Diff b x < 0 then b :: x :: l else x :: insertTime b l

/-- The next four boundaries of the kind at which a weight set of the Mash engine applies. -/
def mashBoundaries (s : State) (q : Refresh) : Nat → Int → List Nat
  | 0, _ => []
  | n + 1, t =>
    let b := (nextBoundary s q.kind (carMu (refCar s q.car)) t).2.2
    counterAt s b :: mashBoundaries s q n (b + 1)

/-- The next four boundaries of the kind at which coefficient sets come into force, while one waits (09 R206). -/
def dpdBoundaries (s : State) : List Nat :=
  let c := dpdRec s
  if (s.dpd.path.any fun p => p.2.staged.isSome) && carValid (txCar s (fld c 1 1)) then
    (List.range 4).foldl (fun (x : List Nat × Int) _ =>
      let b := (nextBoundary s (fld c 0 1) (carMu (txCar s (fld c 1 1))) x.2).2.2
      (x.1 ++ [counterAt s b], b + 1)) ([], extNow s + 1) |>.1
  else []

/-- Boundaries after now and not after a datum time, at which something waits to apply, earliest first. -/
def pendingBoundaries (s : State) (t : Nat) : List Nat :=
  let slot := if s.clk.isoPend = [] then [] else (nextSlotNs s (extNow s + 1)).toList
  let mash := (s.mash.refresh.filter fun q => q.stage != 0).flatMap fun q => mashBoundaries s q 4 (extNow s + 1)
  let all := (s.txn.live.filter fun x => x.state == .committed).map (·.applyNs) ++ s.kiln.declared.map (·.boundary) ++
    s.survey.steep.map (·.next) ++ (s.survey.camps.filter (·.solved)).map (·.boundary) ++ dpdBoundaries s ++ s.survey.latchPend.map (·.2.2) ++ mash ++ slot
  (all.filter fun b => decide (0 < int32Diff b (now s)) && decide (int32Diff b t ≤ 0)).foldl (fun l b => insertTime b l) []

/-- The state whose settings and weights a downlink symbol of an air time is processed with: that after every commit whose
boundary is not after the air time. -/
def dlView (s : State) (air : Nat) : State := (pendingBoundaries s air).foldl (fun x b => runP (boundaryProg b) x) s

end Sys2Proof.Machine
end

