-- ==== Sys2Proof/Machine/Up.lean ====
section
/-! DEFINITION. The transmit path from the stage-3 samples of its symbols to the DAC words: interpolation, shift and sum of the
carriers, trim, tone, crest-factor reduction, predistortion, correction and delay (08_transmit_path R166 to R175;
09_predistortion_observation R185 to R189). Sample indices count periods of a stage's rate by their air time, from the GPS
epoch's frame; stages run as far as their inputs reach, and each sample takes the settings in force at its air time
(assumption log 45). -/

namespace Sys2Proof.Machine

open Sys2Proof

/-! ### Settings over a span of samples -/

/-- Index at 983.04 MS/s of the first sample at or after a datum time. -/
def txIndex (s : State) (t : Nat) : Int := -((frameBase s - 384 * extTotal s.datum.ref t) * 8 / 3125)

/-- The span [a, b) at `k` samples per period of 983.04 MS/s, cut where the settings change: `vs` gives each change's index and
the state that holds the settings from it on. -/
def cutSpan (k : Int) : State → List (Int × State) → Int → Int → List (State × Int × Int)
  | s, [], a, b => if a < b then [(s, a, b)] else []
  | s, (n, v) :: vs, a, b =>
    if n * k ≤ a then cutSpan k v vs a b
    else if n * k < b then (s, a, n * k) :: cutSpan k v vs (n * k) b
    else cutSpan k s vs a b

/-- The whole numbers of [a, b). -/
def spanOf (a b : Int) : List Int := (List.range (b - a).toNat).map fun (i : Nat) => a + (i : Int)

/-- End of a stream. -/
def endOf (x : Stream) : Int := x.base + x.v.length

/-- A stream with samples appended, and those before an index let go. -/
def extend (x : Stream) (v : List (Int × Int)) (keep : Int) : Stream :=
  let n := (keep - x.base).toNat
  { base := x.base + (min n (x.v.length + v.length) : Nat), v := (x.v ++ v).drop n }

/-! ### Stages 4 and 5 (R167 to R170) -/

/-- Stage-3 samples of a carrier over [a, b). -/
def waveSpan (l : List Wave) (rate : Nat) (a b : Int) : Stream :=
  streamOf a (b - a).toNat fun i =>
    match l.find? fun w => w.rate == rate && decide (w.out.base ≤ i) && decide (i < endOf w.out) with
    | some w => smp w.out i
    | none => (0, 0)

/-- Interpolation by 2 with a half-band filter, over [a, b) of its output (R167). -/
def interp (f : HalfBand) (x : Stream) (a b : Int) : List (Int × Int) :=
  let taps := hbTaps f
  (spanOf a b).map fun m => csat (cdiv (csum (taps.map fun t =>
    if (m - t.1) % 2 = 0 then
      let z := smp x ((m - t.1) / 2)
      (t.2 * z.1, t.2 * z.2)
    else (0, 0))) 131072)

/-- A chain of interpolators, the last first, over [a, b) of its output. -/
def upChain (src : Int → Int → Stream) : List HalfBand → Int → Int → Stream
  | [], a, b => src a b
  | f :: fs, a, b =>
    let h : Int := (hbLen f / 2 : Nat)
    { base := a, v := interp f (upChain src fs ((a - h) / 2) ((b + h) / 2 + 1)) a b }

/-- The chain of stage 4 for a rate class, the last filter first. -/
def upFilters (rate : Nat) : List HalfBand := List.replicate (3 - rate) .c ++ [.b, .a]

/-- E(P) for a frequency word in 100 Hz and a phase in bu at sample `n` (R168, R170). -/
def turnAt (freq : Int) (ph : Nat) (n : Int) : Int × Int := ePhase ((freq * (n % 9830400) + 19200 * (ph : Int)) % 9830400)

/-- A tone of a frequency in 100 Hz, a phase in bu and a level in wide qdB at sample `n` (R170). -/
def toneSample (freq : Int) (ph : Nat) (level n : Int) : Int × Int :=
  let e := turnAt freq ph n
  let a : Int := expRound 32767 level
  cdiv (a * e.1, a * e.2) 32767

/-- The tone of a sheet at sample `n` (R170). -/
def toneAt (r : Rec) (n : Int) : Int × Int := toneSample (sfld r 4 4) (cbPh (fld r 10 2)) (sfld r 8 2) n

/-- Campaign whose transmit lease the path emits its stimulus in (13 R278, R286). -/
def stimOf (s : State) (p : Nat) : Option Camp :=
  match campOf s (p / 16) with
  | some c => if tget 0 s.survey.arr (p / 16) = 1 ∧ elSurv s 0 p = true then some c else none
  | none => none

/-- The survey's stimulus of a path at sample `n`: the tones of its local index at TX_LEVEL each (13 R278). -/
def stimAt (s : State) (c : Camp) (p : Nat) (n : Int) : Int × Int :=
  let v := campView s c
  let lo : Int := fld (loRec v) 0 4
  csum ((emitted 0 p (campTones v c).1).zipIdx.map fun (f : Nat × Nat) =>
    toneSample (10 * ((f.1 : Int) - lo)) (Config.tonePhase p f.2) (sfld (surveyRec v) 12 2) n)

/-- The sum of the carriers of a path over a span, before its clamp (R168). -/
def carrierSum (v : State) (wave : Tab (List Wave)) (p : Nat) (a b : Int) : List (Int × Int) :=
  let cs := (txCars v).map fun c =>
    let r := txCar v c
    (r, upChain (waveSpan (tget [] wave (8 * p + c)) (carRate r)) (upFilters (carRate r)) a b)
  (spanOf a b).map fun n => csum (cs.map fun c =>
    cdiv (cmul (smp c.2 n) (turnAt (carNco c.1) (cbPh (fld c.1 6 2)) n)) 32768)

/-- Stage 5 of a path over a span: each sample, and whether the sum or the trim clamped it (R168, R170; 13 R278). -/
def stage5 (wave : Tab (List Wave)) (p : Nat) (q : State × Int × Int) : List ((Int × Int) × Bool) :=
  let v := q.1
  let trim := cbCart (fld (txPathRec v p) 2 2)
  let sum := match stimOf v p with
    | some c => (spanOf q.2.1 q.2.2).map (stimAt v c p)
    | none => if toneOn v p then (spanOf q.2.1 q.2.2).map (toneAt (toneRec v (p / 16))) else carrierSum v wave p q.2.1 q.2.2
  sum.map fun m =>
    let x := cdiv (cmul (csat m) trim) 4096
    (csat x, csat m != m || csat x != x)

/-! ### Stage 6 (R171) -/

/-- TH_C and SPACING of a pass of a path, none where the pass leaves the samples as they are. -/
def cfrOn (v : State) (p k : Nat) : Option (Int × Int) :=
  let r := cfrRec v
  if toneOn v p ∨ (stimOf v p).isSome ∨ fld r 0 1 < k then none else some ((expRound 32767 (sfld r 2 2) : Int), (fld r 1 1 : Int))

/-- m[n]. -/
def magAt (x : Stream) (n : Int) : Int :=
  let z := smp x n
  (Nat.sqrt (z.1 ^ 2 + z.2 ^ 2).toNat : Nat)

/-- One sample of a pass: a peak is cancelled, and counted. -/
def cfrStep (th space : Int) (pulse : List (Int × Int)) (x : CfrPass × Nat) (n : Int) : CfrPass × Nat :=
  let r := x.1
  let m := magAt r.buf n
  let far := match r.last with | some l => decide (space ≤ n - l) | none => true
  if th < m ∧ magAt r.buf (n - 1) ≤ m ∧ magAt r.buf (n + 1) < m ∧ far = true then
    let a := cdiv ((smp r.buf n).1 * divRna ((m - th) * 65536) m.toNat, (smp r.buf n).2 * divRna ((m - th) * 65536) m.toNat) 65536
    let cut := fun (i : Int) (z : Int × Int) =>
      if n - 127 ≤ i ∧ i ≤ n + 127 then
        let d := cdiv (cmul a (pulse.getD (i - n + 127).toNat (0, 0))) 131072
        csat (z.1 - d.1, z.2 - d.2)
      else z
    ({ buf := { r.buf with v := r.buf.v.zipIdx.map fun (y : (Int × Int) × Nat) => cut (r.buf.base + (y.2 : Int)) y.1 }
       next := n + 1, last := some n }, x.2 + 1)
  else ({ r with next := n + 1 }, x.2)

/-- Pass `k` of a path over a span of samples to judge. -/
def cfrSpan (p k : Nat) (x : CfrPass × Nat) (q : State × Int × Int) : CfrPass × Nat :=
  match cfrOn q.1 p k with
  | some t =>
    let pulse := (spanOf (-127) 128).map (pulseTap q.1)
    (spanOf q.2.1 q.2.2).foldl (cfrStep t.1 t.2 pulse) x
  | none => ({ x.1 with next := q.2.2 }, x.2)

/-- A pass takes new samples: the pass after it, the samples it is done with, and the peaks it cancelled. -/
def cfrRun (s : State) (vs : List (Int × State)) (p k : Nat) (r : CfrPass) (v : List (Int × Int)) (from_ : Int) :
    CfrPass × List (Int × Int) × Nat :=
  let r := { r with buf := extend r.buf v (min (r.next - 128) from_) }
  let y := (cutSpan 1 s vs r.next (endOf r.buf - 127)).foldl (cfrSpan p k) (r, 0)
  (y.1, (spanOf from_ (y.1.next - 127)).map (smp y.1.buf), y.2)

/-! ### Stage 8 (09 R185 to R189) -/

/-- a[n], and whether the root exceeds 32,767. -/
def ampAt (x : Stream) (n : Int) : Int × Bool := (min (magAt x n) 32767, decide (32767 < magAt x n))

/-- The value of a table at an amplitude (R186). -/
def tableAt (t : List (Int × Int)) (a : Int) : Int × Int :=
  let i := (a / 512).toNat
  let f := a % 512
  let u := t.getD i (0, 0)
  let w := t.getD (min (i + 1) 63) (0, 0)
  let d := cdiv ((w.1 - u.1) * f, (w.2 - u.2) * f) 512
  (u.1 + d.1, u.2 + d.2)

/-- The entries of a table of a bank. -/
def tableRead (s : State) (p bank t : Nat) : List (Int × Int) :=
  let r := readBytes s .coef 6 (coefOff p bank t) 256
  (List.range 64).map fun i => (sfld r (4 * i) 2, sfld r (4 * i + 2) 2)

/-- One term of S. -/
def dpdTerm (x : Stream) (nbr : Nat → Stream) (n : Int) (t : Nat × List (Int × Int)) : Int × Int :=
  if t.1 < 24 then
    let m : Int := (t.1 / 3 : Nat)
    cmul (smp x (n - m)) (tableAt t.2 (ampAt x (n - m - ((t.1 % 3 : Nat) - 1 : Int))).1)
  else
    let m : Int := ((t.1 - 24) % 2 : Nat)
    cmul (smp (nbr ((t.1 - 24) / 2)) (n - m)) (tableAt t.2 (ampAt x (n - m)).1)

/-- Stage 8 of a path over a span: each sample, whether it was clamped and whether its amplitude was. `all` gives the stage-7
samples of every path. -/
def stage8 (all : Tab TxPipe) (p : Nat) (x : Stream) (q : State × Int × Int) : List ((Int × Int) × Bool × Bool) :=
  let r := dpdPathRec q.1 p
  if dpdMode r = 0 ∨ (dpdOf q.1 p).bypass = true ∨ tablesBad q.1 p = true then (spanOf q.2.1 q.2.2).map fun n => (smp x n, false, false)
  else
    let tabs := (dpdTables r).map fun t => (t.1, tableRead q.1 p (dpdOf q.1 p).bank t.1)
    let nbr := fun (k : Nat) =>
      let n := (nbrsOf r).getD k 255
      match if pathQuiet q.1 n then none else tfind all n with
      | some y => y.d
      | none => { base := 0, v := [] }
    (spanOf q.2.1 q.2.2).map fun n =>
      let y := cdiv (csum (tabs.map (dpdTerm x nbr n))) 8192
      (csat y, csat y != y, (ampAt x n).2)

/-! ### Stages 10 and 11 (R174, R175) -/

/-- Stage 10 of a path. -/
def stage10 (v : State) (p : Nat) (z : Int × Int) : Int × Int :=
  let r := txPathRec v p
  csat (divRna (sfld r 8 2 * z.1 + sfld r 10 2 * z.2) 16384 + sfld r 16 2,
    divRna (sfld r 12 2 * z.1 + sfld r 14 2 * z.2) 16384 + sfld r 18 2)

/-- d of a sheet in dtap. -/
def txDelayTaps (s v : State) (n : Nat) : Int := 10240 - (s.clk.trim : Int) - (fld (txSheetRec v n) 2 2 : Int)

/-- SAT14. -/
def sat14 (x : Int) : Int := clampI (-8192) 8191 x

/-- Stage 11 over a span: each DAC word, and the number of its clamped components. -/
def stage11 (s : State) (p : Nat) (x : Stream) (q : State × Int × Int) : List ((Int × Int) × Nat) :=
  let d := txDelayTaps s q.1 (p / 16)
  let taps := ([-3, -2, -1, 0, 1, 2, 3, 4] : List Int).map fun k => (k, lagrange (d % 16) k)
  (spanOf q.2.1 q.2.2).map fun n =>
    let w := cdiv (cdiv (csum (taps.map fun t =>
      let z := smp x (n + 640 - d / 16 - t.1)
      (t.2 * z.1, t.2 * z.2))) 32768) 4
    ((sat14 w.1, sat14 w.2), bit (sat14 w.1 != w.1) + bit (sat14 w.2 != w.2))

/-! ### A path's pipeline -/

/-- A pipeline that starts at a sample of 983.04 MS/s. -/
def pipe0 (n : Int) : TxPipe :=
  let p : CfrPass := { buf := { base := n, v := [] }, next := n, last := none }
  { pass1 := p, pass2 := p, c := { base := n, v := [] }, d := { base := 2 * n, v := [] }, e := { base := 2 * n, v := [] }
    f := { base := 4 * n, v := [] }, next := 4 * n, dac := (0, 0) }

/-- Time in ns from a lease start to its capture: COUPLER_SETTLE, or the 5 µs of a survey lease. -/
def captureDelay (s : State) (o : Orx) : Nat := if o.owner = 1 then settleDelay s else 5000

/-- First stage-8 input sample of a sheet that a capture of adaptation or of tracking still needs (09 R196, 13 R297). -/
def captureFloor (s : State) (n : Nat) : Option Int :=
  ((s.dpd.orx.filter fun o => o.1 / 2 == n && (o.2.owner == 1 || o.2.owner == 2) && o.2.capture != 2).map fun o =>
    dpIndex s (add32 o.2.leaseStart (captureDelay s o.2))).min?

/-- Stages 5 to 7 of a path over new samples: its pipeline, and what SUM_SAT and CFR_PEAKS count. -/
def pipeFront (s : State) (vs : List (Int × State)) (wave : Tab (List Wave)) (p : Nat) (a b : Int) (t : TxPipe) :
    TxPipe × Nat × Nat :=
  let x := (cutSpan 1 s vs a b).flatMap (stage5 wave p)
  let y := cfrRun s vs p 1 t.pass1 (x.map (·.1)) (endOf t.pass2.buf)
  let z := cfrRun s vs p 2 t.pass2 y.2.1 (endOf t.c)
  let c := extend t.c z.2.1 (endOf t.d / 2 - 16)
  let d := extend t.d (interp .d c (endOf t.d) (2 * endOf c - 27)) (min (endOf t.e - 16) ((captureFloor s (p / 16)).getD (endOf t.e)))
  ({ t with pass1 := y.1, pass2 := z.1, c := c, d := d }, (x.filter (·.2)).length, y.2.2 + z.2.2)

/-- Stages 8 to 11 of a path, up to DAC word `b`: its pipeline, and what OUT_SAT, AMP_CLAMP and DAC_CLIP count. -/
def pipeBack (s : State) (vs : List (Int × State)) (all : Tab TxPipe) (p : Nat) (b : Int) (t : TxPipe) :
    TxPipe × Nat × Nat × Nat :=
  let y := (cutSpan 2 s vs (endOf t.e) (endOf t.d - 1)).flatMap (stage8 all p t.d)
  let e := extend t.e (y.map (·.1)) (endOf t.f / 2 - 16)
  let v := (cutSpan 4 s vs (endOf t.f) (2 * endOf e - 27)).flatMap fun q =>
    (interp .d e q.2.1 q.2.2).map (stage10 q.1 p)
  let f := extend t.f v (t.next - 8)
  let w := (cutSpan 4 s vs t.next (min b (endOf f - 643 + txDelayTaps s s (p / 16) / 16))).flatMap (stage11 s p f)
  ({ t with e := e, f := f, next := t.next + w.length, dac := (w.getLast?.map (·.1)).getD t.dac },
    (y.filter (·.2.1)).length, (y.filter (·.2.2)).length, sumN (w.map (·.2)))

/-- Samples before an index at 983.04 MS/s are no longer needed of a symbol. -/
def waveDone (n : Int) (w : Wave) : Bool := decide (endOf w.out * 2 ^ (5 - w.rate) + 4096 < n)

/-- A carrier is committed, or a tone or the survey's stimulus is on. -/
def txRuns (s : State) : Bool := txCars s != [] || (paths s).any fun p => toneOn s p || (stimOf s p).isSome

/-- Samples made ahead of the DAC, at 983.04 MS/s, so that every stage reaches the present. -/
def txAhead : Int := 1024

/-- The transmit path runs up to the present: settings change at the indices of `vs`. After a step of datum time, or with nothing
to send, the stages start again from 0. -/
def txRunWith (vs : List (Int × State)) : Prog := .ask fun s =>
  let b := txIndex s (now s)
  if !(txRuns s || vs.any fun v => txRuns v.2) then
    whenP (s.tx.pos.isSome || s.tx.wave != [] || s.tx.pipe != []) (modTx fun t => { t with wave := [], pos := none, pipe := [] })
  else
    let go := match s.tx.pos with | some p => decide (p ≤ b + txAhead) && decide (b < p + 1000000) | none => false
    let a := if go then s.tx.pos.getD b else b
    let wave := audible s
    let ps := (paths s).filter fun p => domOn s (dTXD (p / 16))
    let front := ps.map fun p => (p, pipeFront s vs wave p a (b + txAhead) (if go then tget (pipe0 a) s.tx.pipe p else pipe0 a))
    let all : Tab TxPipe := front.map fun q => (q.1, q.2.1)
    let back := front.map fun q => (q.1, pipeBack s vs all q.1 (4 * b) q.2.1)
    let sheetSum := fun (n : Nat) (l : List (Nat × Nat)) => sumN ((l.filter fun q => q.1 / 16 == n).map (·.2))
    seqs
      [ modTx fun t => { t with
          wave := (t.wave.map fun w => (w.1, w.2.filter fun y => !waveDone a y)).filter fun w => w.2 != []
          pos := some (b + txAhead), pipe := back.map fun q => (q.1, q.2.1) },
        each (sheets s) fun n => seqs
          [ countN blkTxd n 3 (sheetSum n (front.map fun q => (q.1, q.2.2.2))),
            countN blkTxd n 4 (sheetSum n (front.map fun q => (q.1, q.2.2.1))),
            countN blkTxd n 6 (sheetSum n (back.map fun q => (q.1, q.2.2.2.2))),
            countN blkDpd n 4 (sheetSum n (back.map fun q => (q.1, q.2.2.1))),
            countN blkDpd n 5 (sheetSum n (back.map fun q => (q.1, q.2.2.2.1))) ] ]

/-- Settings from the boundaries that wait to apply within the samples made ahead (03 R63), with those of a boundary `due` now. -/
def txViews (s : State) (due : Option Nat) : List (Int × State) :=
  let t := match due with
    | some b => runP (boundaryProg b) s
    | none => s
  (due.toList.map fun b => (txIndex s b, t)) ++
    (pendingBoundaries t (add32 (now s) 1100)).map fun b => (txIndex s b, dlView t b)

/-- The transmit path runs up to the present. -/
def txRun (due : Option Nat) : Prog := .ask fun s =>
  whenP (s.tx.pos.isSome || txRuns s || s.tx.pipe != []) (txRunWith (txViews s due))

/-- The word at the DAC input of a path (R179, R180): its mute code under a hold, else what the link brings from stage 11. The hold of
a sheet passes the survey's stimulus, but for TXMUTE_N (13 R286). -/
def dacWord (s : State) (p : Nat) : Int × Int :=
  let r := txPathRec s p
  let n := p / 16
  if pathHeld s p || (sheetHeld s n && !((stimOf s p).isSome && !(holds s n).testBit holdPin)) then (sfld r 4 2, sfld r 6 2)
  else (tfind s.tx.pipe p).elim (0, 0) (·.dac)

/-- A released symbol's stage-3 samples join those of its path and carrier. -/
def addWave (w : Tab (List Wave)) (p c : Nat) (x : Wave) : Tab (List Wave) := tmod [] w (8 * p + c) fun l => l ++ [x]

end Sys2Proof.Machine
end

