-- ==== Sys2Proof/Machine/Observe.lean ====
section
/-! DEFINITION. Captures taken in the leases of the observation receivers: what the converters' codes become, the transmit
streams captured with them, and what a capture leads to (09_predistortion_observation R193, R195, R196, R201, R202, R204;
14_front_end_control R322 to R324). -/

namespace Sys2Proof.Machine

open Sys2Proof

/-! ### The observation (R193, R195) -/

/-- A sample lies at or beyond ±2,016 of the 12-bit range. -/
def overloaded (x : Int) : Bool := decide (2016 ≤ x.natAbs)

/-- Converter codes in normal mode: scaled by 2^4 and corrected (R193). -/
def observeNormal (s : State) (k : Nat) (codes : List (Int × Int)) : List (Int × Int) :=
  let c := orxCorr s k
  codes.map fun z => csat (divRna (c.getD 0 0 * (16 * z.1) + c.getD 1 0 * (16 * z.2)) 16384 + c.getD 4 0,
    divRna (c.getD 2 0 * (16 * z.1) + c.getD 3 0 * (16 * z.2)) 16384 + c.getD 5 0)

/-- Converter codes in wide mode from sample `n` at 3932.16 MS/s: I at the even instants, Q at the odd ones, shifted to zero,
conjugated in zone 2, and decimated by 2 (R195, 11 R247). -/
def observeWide (s : State) (n : Int) (codes : List (Int × Int)) : List (Int × Int) :=
  let lo : Int := 10 * (fld (loRec s) 0 4 : Int)
  let zone2 := decide (20060800 ≤ lo)
  let f := if zone2 then 39321600 - lo else lo
  let real := codes.flatMap fun z => [z.1, z.2]
  let x := streamOf n real.length fun i =>
    let e := ePhase (-(f * (i % 39321600)) % 9830400)
    let r := 16 * real.getD (i - n).toNat 0
    let m := cdiv (r * e.1, r * e.2) 32768
    (m.1, if zone2 then -m.2 else m.2)
  let taps := hbTaps .d
  (List.range codes.length).map fun (i : Nat) => csat (cdiv (tapSum x taps (n + 2 * (i : Int))) 262144)

/-! ### The streams of a capture (R196) -/

/-- Samples of a path's stage-8 input over a window. -/
def pathWindow (s : State) (p : Nat) (n : Int) (len : Nat) : List (Int × Int) :=
  match tfind s.tx.pipe p with
  | some t => (List.range len).map fun (i : Nat) => smp t.d (n + (i : Int))
  | none => List.replicate len (0, 0)

/-- The observation over a window that starts at a datum time: `len` samples from the codes of the receiver's converters. -/
def observed (s : State) (k : Nat) (wide : Bool) (t len : Nat) (codes : List (Int × Int)) : List (Int × Int) :=
  let c := (List.range len).map fun i => codes.getD i (0, 0)
  if wide then observeWide s (2 * dpIndex s t) c else observeNormal s k c

/-- Paths that a lease observes: its path and, for adaptation, the neighbours; the benchmark sheet's for survey tracking. -/
def leasePaths (s : State) (k : Nat) (o : Orx) : List Nat := match o.path with
  | some p => if o.mismatch then [p] else p :: nbrsOf (dpdPathRec s p)
  | none => if o.owner = 2 then (elsOf (k / 2)).filter (elActive s 0) else []

/-- A lease whose measurement is under way: within a capture of adaptation, from the lease start for the others. -/
def leaseWatches (o : Orx) : Bool := if o.owner = 1 ∧ o.mismatch = false then o.capture == 1 else o.owner != 0 && o.capture != 2

/-- Leases that a hold or carrier mute touches at this moment keep it. -/
def touchLeases : Prog := .ask fun s => whenP (s.dpd.orx.any fun o => leaseWatches o.2) (modDpd fun d => { d with
  orx := d.orx.map fun o => (o.1, { o.2 with touched := o.2.touched || (leaseWatches o.2 && (leasePaths s o.1 o.2).any (pathTouched s)) }) })

/-- DPD_CAPTURE_START (R201 event 2). -/
def execDpdCaptureStart (orx : Nat) (s : State) : Host.Outcome State Fault Refusal :=
  let o := orxOf s orx
  let t := add32 o.leaseStart (settleDelay s)
  done (match o.path with
    | some p => whenP (o.owner == 1 && o.capture == 0 && due s t) (seqs
      [ modOrx orx fun x => { x with capture := 1 },
        whenP (!o.mismatch) (modPath p fun q => { q with
          captureNs := t, orx := orx, flags := bit o.wide + 2 * bit (wideAsked s p && !o.wide) }),
        touchLeases ])
    | none => .skip) s

/-- A stream as stored: 16-bit I and Q. -/
def streamBytes (x : List (Int × Int)) : Rec := x.flatMap fun z => leSigned 2 z.1 ++ leSigned 2 z.2

/-- CAPTURE_LEN. -/
def captureLen (s : State) : Nat := fld (dpdRec s) 4 2

/-- DPD_CAPTURE_COMPLETE (R201 event 3): a receiver's capture of a path, from its first datum time on, with so many codes of the
receiver's I and Q converters: the streams stand in the receiver's region of the tun; a valid capture sets the target gain in ACQUIRE and goes on to be solved unless LINEARITY is held. -/
def execDpdCaptureComplete (orx path start samples : Nat) (i q : List Int) (s : State) : Host.Outcome State Fault Refusal :=
  done (.seq (txRun none) (.seq touchLeases (.seq dpdRefresh (.ask fun s =>
    let o := orxOf s orx
    match o.path with
    | some p =>
      let d := dpdOf s p
      let len := captureLen s
      let iq := i.zip q
      whenP (p == path && start == d.captureNs && samples == len && o.owner == 1 && !o.mismatch && o.capture == 1 &&
          due s (add32 start (len * 3125 / 6144))) (
        let n := dpIndex s start
        let z := observed s orx o.wide start len iq
        let x := pathWindow s p n len
        let nbrs := (nbrsOf (dpdPathRec s p)).map fun k => pathWindow s k n len
        let za := alignTo z x
        let code := if o.touched then 1 else if belowRms x (sfld (dpdRec s) 10 2) then 2
          else if iq.any fun c => overloaded c.1 || overloaded c.2 then 3 else if aligned95 za x then 0 else 4
        let g := corrSum za x
        seqs
          [ store .tun 4 (0x1000000 + orx * 0x100000) (streamBytes z ++ streamBytes x ++ nbrs.flatMap streamBytes),
            modOrx orx fun y => { y with capture := 2 },
            whenP (d.state == 3 || d.state == 4) (seqs
              [ modOrx orx fun y => { y with recent := (p, code) :: y.recent.drop 1 },
                if code != 0 then dpdReject p code
                else seqs
                  [ modPath p fun y => { y with
                      alignStreak := 0, state := 4
                      gT := if y.state = 3 then some (g.1, g.2, (energy x).toNat) else y.gT },
                    if granted s 2 then .seq (modPath p fun y => { y with solving := true })
                      (modDpd fun d => { d with
                        capture := (d.capture.filter fun c => c.path != p) ++ [{ path := p, z := za, x := x, nbr := nbrs }] })
                    else held ] ]) ])
    | none => .skip)))) s

/-! ### Tracking of the array survey (13 R297) -/

/-- TRACK_CAPTURE: a capture of a tracking lease, with the blocks of the receive paths (RX_TRACK) or the I and Q
codes of the receiver (TX). A transmit capture that a hold or a carrier mute touched is discarded. -/
def execTrackCapture (orx : Nat) (blocks : List (Nat × List (Int × Int))) (i q : List Int) (s : State) :
    Host.Outcome State Fault Refusal :=
  done (.seq (txRun none) (.seq touchLeases (.ask fun s =>
    let n := orx / 2
    let x := orxOf s orx
    let rx := tget 0 s.survey.arr n == 3
    let t := if rx then x.gap else add32 x.leaseStart 5000
    let ok := x.owner == 2 && x.capture != 2 && orx == bench s n && (campOf s n).isNone && fSurv s 0 != 0 &&
      due s (add32 t (if rx then 16667 else 4167))
    whenP ok (.seq (modOrx orx fun o => { o with capture := 2 })
      (if rx then trackRx n (dpIndex s t) blocks
        else whenP (tget 0 s.survey.arr n == 1 && !x.touched) (trackTx n (trackBins s
          ((elsOf n).map fun p => pathWindow s p (dpIndex s t) trackLen) (observed s orx false t trackLen (i.zip q))))))))) s

/-! ### Mismatch (14 R322 to R324) -/

/-- A block of a mismatch measurement: 4,096 samples of the observation, aligned, and of x_p from a datum time on. -/
def mismatchBlock (s : State) (k p t : Nat) (codes : List (Int × Int)) : List (Int × Int) × List (Int × Int) :=
  let x := pathWindow s p (dpIndex s t) 4096
  (alignTo (observed s k false t 4096 codes) x, x)

/-- MISMATCH_RESULT (R323, R324) of a path by a receiver, with the converters' codes of the forward and the reverse block. -/
def execMismatchResult (path orx : Nat) (forward reverse : List (Int × Int)) (s : State) : Host.Outcome State Fault Refusal :=
  done (.seq (txRun none) (.seq touchLeases (.ask fun s =>
    let o := orxOf s orx
    let t0 := add32 o.leaseStart (settleDelay s)
    whenP (decide (orx < 8) && o.owner == 1 && o.mismatch && o.path == some path && o.capture == 1 && due s (add32 t0 22083)) (
        let t := tunerRec s path
        let least := sfld (dpdRec s) 10 2
        let f := mismatchBlock s orx path t0 forward
        let r := mismatchBlock s orx path (add32 t0 20000) reverse
        let good := !o.touched && !belowRms f.2 least && !belowRms r.2 least && aligned95 f.1 f.2 && aligned95 r.1 r.2
        let w := gammaWord (corrSum f.1 f.2) (corrSum r.1 r.2) (fld t 16 2)
        let bad := good && !cbNull w.1 && decide (sfld t 15 1 < cbMag w.1)
        let streak := if bad then tget 0 s.rffe.exceed path + 1 else 0
        seqs
          [ modOrx orx fun o => { o with capture := 2 },
            modRffe fun r => { r with
              gamma := tset r.gamma path (if good then w.1 else 0x8000), lastNs := tset r.lastNs path o.leaseStart
              exceed := tset r.exceed path (min 2 streak) },
            count blkTuner path 0, whenP bad (count blkTuner path 1), whenP (!good) (count blkTuner path 2),
            whenP (good && w.2) (count blkTuner path 3),
            whenP (decide (2 ≤ streak)) (.seq (raise (evCode 12 7) path [(w.1 : Nat)])
              (whenP (fbit t 1 1 2) (isolate 2 1 (path + 256 + 512)))) ])))) s

end Sys2Proof.Machine
end

