-- ==== Sys2Proof/Machine/Air.lean ====
section
/-! DEFINITION. The release of downlink symbols: what each comparator finds complete, and the grids and counts of a symbol, all
under the settings in force at its air time (04 R91; 05 R113; 03 R63; 08 R178). -/

namespace Sys2Proof.Machine

open Sys2Proof

/-- AIR_SYMBOL_DL (R91, R113): the comparator fires and releases the symbol. A commit that removes the carrier, or changes its
L_TX or numerology, at or before the symbol's air time leaves it to 08 R178, which mutes it or arms its comparator anew; only a
removed or renumbered carrier's data is let go. -/
def execAirSymbolDl (carrier : Nat) (s : State) : Host.Outcome State Fault Refusal :=
  done (.seq armMissing (.ask fun s => match tfind s.datum.cmpDl carrier with
    | none => .skip
    | some x => whenP (domOn s dDATUM && x.armed && reached s x.target && carValid (txCar s carrier)) (
        let mu := carMu (txCar s carrier)
        let h := halfNear s x.half
        let a := symAir s mu h x.sym
        let v := dlView s a.1
        let gone := !carValid (txCar v carrier) || carMu (txCar v carrier) != mu || ltx v carrier != ltx s carrier
        let secs := (covering s 0 carrier h x.sym).filter fun y => y.type != 0
        let held := s.fh.held.filter fun y => y.carrier == carrier && y.air == a.1
        let whole := secs.all fun y => (List.range y.numPrb).all fun i => held.any fun z =>
          z.flow == y.flow && z.sect == y.id && z.prb == y.startPrb + i
        let unused := (covering s 0 carrier h x.sym).filter fun y => y.type == 0
        let l := (h % 20).toNat * symPerHalf mu + x.sym
        let used := if whole then secs else []
        let grids := (paths v).map fun p => (p, gridOf v carrier l unused used held p)
        let syms := grids.map fun g => (g.1, symbolOut (txCar v carrier) (fld (loRec v) 0 4) (h % 2).toNat x.sym g.2.1)
        let outs := syms.map fun y => (y.1, y.2.2)
        let from_ := (symWindow (txCar v carrier) h x.sym).1
        let next := symAfter mu h x.sym
        let drop := modFh fun f => { f with held := f.held.filter fun y => !(y.carrier == carrier && y.air == a.1) }
        .seq (txRun none) (if gone then .seq
            (whenP (!carValid (txCar v carrier) || carMu (txCar v carrier) != mu) drop) (armFrom 0 carrier 64 next.1 next.2)
        else seqs
          [ coveringEcc 0 carrier h x.sym,
            whenP (!whole) (count blkFh 0 (13 + carrier)),
            whenP (secs != [] && whole) (countWeights v 0 a.1 (activeSects v 0 secs)),
            countN blkGrat 0 1 (sumN (grids.map fun g => g.2.2)),
            each (sheets s) fun n => countN blkTxd n 5 (sumN ((outs.filter fun o => o.1 / 16 == n).map (·.2))),
            modTx fun t => { t with
              wave := if whole then syms.foldl (fun w y => addWave w y.1 carrier
                  { rate := carRate (txCar v carrier), air := a.1, len := a.2, mute := none, out := { base := from_, v := y.2.1 } }) t.wave else t.wave
              grid := grids.foldl (fun g q => tset g (8 * q.1 + carrier) q.2.1) t.grid
              symOut := tset t.symOut carrier (a.1, if !whole then 2 else if secs = [] then 0 else 1) },
            drop,
            putAir carrier a.1 a.2 (secs != []) false,
            armFrom 0 carrier 64 next.1 next.2 ])))) s

end Sys2Proof.Machine
end

