-- ==== Sys2Proof/Machine/Frames.lean ====
section
/-! DEFINITION. The classifier: which received frames are dropped, routed, placed or held (04_fronthaul_link R81 to R90),
and in-band management frames on their way in (18_mailbox_commands R413, R414). The bit layout of O-RAN and eCPRI fields
inside a frame is presumed (assumption log 24). -/

namespace Sys2Proof.Machine

open Sys2Proof

/-! ### Steps 1 to 8 of R81 -/

/-- Counters of FH_STATS. -/
def fhCount (i : Nat) : Prog := count blkFh 0 i

/-- The frame's EtherType field is a tag's protocol identifier. -/
def isTpid (n : Nat) : Bool := n == 0x8100 || n == 0x88A8

/-- The tags of a frame obey step 4. -/
def vlanOk (s : State) (f : Rec) : Bool :=
  let t := bfld f 12 2
  if vlanId s = 0 then !isTpid t || (!isTpid t && etherType f == 0x88F7)
  else (t == 0x8100 && bfld f 14 2 % 4096 == vlanId s && !isTpid (bfld f 16 2)) || (!isTpid t && etherType f == 0x88F7)

/-- Destination of step 3. -/
def addrOk (s : State) (f : Rec) : Bool :=
  f.take 6 == localMac s ||
    (etherType f == 0x88F7 && (f.take 6 == [0x01, 0x1B, 0x19, 0, 0, 0] || f.take 6 == [0x01, 0x80, 0xC2, 0, 0, 0x0E]))

/-- A PAUSE or priority flow control frame: dropped into ETYPE_DROP (R74). Its EtherType and its destination are those of IEEE
802.3 (assumption log 24). -/
def isPause (f : Rec) : Bool := etherType f == 0x8808 && f.take 6 == [0x01, 0x80, 0xC2, 0, 0, 0x01]

/-- The eCPRI common header and SEQ_ID are accepted (R82). -/
def ecpriOk (p : Rec) : Bool :=
  let a := bfld p 0 1
  let t := bfld p 1 1
  decide (a / 16 = 1) && decide (a % 2 = 0) && (t == 0 || t == 2 || t == 5) && bfld p 2 2 == p.length - 4 &&
    (t == 5 || bfld p 7 1 == 0x80)

/-- A frame reaches the PTP ring with its receive timestamp (R103). -/
def toPtpRing (f : Rec) (capture deskew fecPos : Nat) : Prog := .ask fun s =>
  modFh fun x => { x with ptpRing := x.ptpRing ++ [(rxStamp s capture deskew fecPos, f)] }

/-- A management frame that passed step 6: kept in queue 31, or dropped (18 R414). -/
def inbandArrive (p : Rec) : Prog := .ask fun s =>
  if fld p 0 1 = 1 ∧ fld p 1 1 = 1 ∧ s.mbx.inband = true ∧ s.mbx.queue31.length < 32 then
    modMbx fun m => { m with queue31 := m.queue31 ++ [(fld p 4 4, p.drop 8)] }
  else count blkMbx 0 1

/-! ### Application header (R83) -/

/-- Fields of the radio application header, from the byte after SEQ_ID. -/
structure App where
  dir : Nat
  version : Nat
  filter : Nat
  frame : Nat
  subframe : Nat
  slot : Nat
  sym : Nat
  deriving DecidableEq, Repr

/-- The header of a payload; dataDirection 1 is the downlink. -/
def appOf (q : Rec) : App :=
  let a := bfld q 0 1
  let b := bfld q 2 2
  { dir := 1 - a / 128, version := a / 16 % 8, filter := a % 16, frame := bfld q 1 1, subframe := b / 4096
    slot := b / 64 % 64, sym := b % 64 }

/-- The header is accepted for a flow. -/
def appOk (s : State) (r : Rec) (a : App) : Bool :=
  let car := dirCar s a.dir (flowCar r)
  a.version == 1 && (a.filter == 0 || (flowKind r == 1 && decide (a.filter ≤ 4))) && carValid car &&
    decide (a.subframe < 10) && decide (a.slot < 2 ^ carMu car) && decide (a.sym < 14)

/-! ### C-plane (R84 to R86, 03 R56 to R58) -/

/-- Bytes of the common header by section type. -/
def cHead (t : Nat) : Nat := if t = 0 ∨ t = 3 then 12 else 8

/-- The sections of a message with the start symbol each begins at; symInc steps it (assumption log 24). -/
def withSyms : Nat → List PSec → List (Nat × PSec)
  | _, [] => []
  | k, p :: ps => let j := k + p.symInc
    (j, p) :: withSyms j ps

/-- A C-plane message of a flow. -/
def cPlane (flow seq : Nat) (a : App) (q : Rec) : Prog := .ask fun s =>
  let t := bfld q 5 1
  let m : CMsg :=
    { flow := flow, dir := a.dir, type := t, k := (a.frame * 10 + a.subframe) % 2560, slot := a.slot, startSym := a.sym
      comp := if t = 3 then bfld q 11 1 else bfld q 6 1, seq := seq, filter := a.filter
      timeOffset := bfld q 6 2, frameStr := bfld q 8 1, cpLength := bfld q 9 2 }
  each (withSyms a.sym (parseSecs (nPaths s) t (bfld q 4 1) (q.drop (cHead t)))) fun p =>
    acceptSect { m with startSym := p.1 } p.2

/-! ### Downlink U-plane (R59, R87, R90) -/

/-- A U-plane section: SECTION_ID, symInc, first PRB, PRBs, udCompHdr where it carries one, and its PRB bytes. -/
structure USec where
  id : Nat
  symInc : Nat
  start : Nat
  num : Nat
  comp : Nat
  data : Rec
  deriving DecidableEq, Repr

/-- Sections of a U-plane payload: `own` tells that each carries udCompHdr and a reserved byte, `comp` the flow's format,
`prbs` the carrier's PRBs, `pad` that the frame has the least length, so that zeros after a section that hold no further one
are its padding. None when a section is cut short or bytes are left. -/
def parseU (own dyn : Bool) (comp prbs : Nat) (pad first : Bool) : Nat → Rec → Option (List USec)
  | 0, _ => none
  | f + 1, r =>
    if r.length < 4 then (if r = [] || (pad && r.all (· == 0)) then some [] else none)
    else
      let a := bfld r 0 4
      let head := if own then 6 else 4
      let c := if dyn then bfld r 4 1 else comp
      let start := slice a 17 8
      let num := if a % 256 = 0 then prbs - start else a % 256
      let size := num * prbBytes c
      if (compWidth c).isNone = true then
        some [{ id := slice a 31 20, symInc := slice a 18 18, start := start, num := num, comp := c, data := [] }]
      else if r.length < head + size then (if pad && !first && r.all (· == 0) then some [] else none)
      else match parseU own dyn comp prbs pad false f (r.drop (head + size)) with
        | some l => some ({ id := slice a 31 20, symInc := slice a 18 18, start := start, num := num, comp := c
                            data := (r.drop head).take size } :: l)
        | none => none

/-- Sections with the symbol each names. -/
def withUSyms : Nat → List USec → List (Nat × USec)
  | _, [] => []
  | k, p :: ps => let j := k + p.symInc
    (j, p) :: withUSyms j ps

/-- One PRB's twelve pairs and whether its exponent saturated it (R87). -/
def unpackPrb (comp : Nat) (b : Rec) : List (Int × Int) × Bool :=
  let w := (compWidth comp).getD 16
  if comp % 16 = 1 then
    let e := bfld b 0 1 % 16
    (pairsOf ((bitValues (b.drop 1) w 24).map fun v => sat16 (v * 2 ^ e)), decide (16 - w < e))
  else (pairsOf (bitValues b 16 24), false)

/-- Held PRBs of a section's symbol. -/
def heldIs (flow sect air prb : Nat) (h : Held) : Bool := h.flow == flow && h.sect == sect && h.air == air && h.prb == prb

/-- Bytes held in an ingress queue. -/
def queueHeld (s : State) (q : Nat) : Nat := sumN ((s.fh.held.filter fun h => h.queue == q).map (·.bytes))

/-- One downlink U-plane section of a flow, for symbol `sym` of a slot: window, match, compression header, space. DESIGN
CHOICE (assumption log 89): one stepped past symbol 13 counts in ECPRI_BAD. -/
def uSection (flow k : Nat) (a : App) (sym : Nat) (u : USec) : Prog := .ask fun s =>
  let r := flowRec s flow
  let c := flowCar r
  let mu := carMu (txCar s c)
  let h := symAt s mu k a.slot sym (extNow s)
  let air := counterAt s (symNs s mu h.1 h.2)
  let d := int32Diff (now s) air + ltx s c
  let page := pageOf 0 k
  let fc := fun i => count blkFlow flow i
  if 14 ≤ sym then fhCount 5
  else if d < -((flowWin r * 1000 : Nat) : Int) then fc 0
  else if -1000 ≤ d then fc 1
  else .seq (sectEcc page u.id flow a.slot) (
    let hit := if pageSub s page = k then
        (sectFind s page u.id flow a.slot fun e => decide (e.startSym ≤ sym) && decide (sym < e.startSym + e.numSym)).head?
      else none
    match hit with
    | none => count blkSect 0 6
    | some (idx, e) =>
      if e.type = 0 then count blkSect 0 6
      else
        let e' : Section := { e with state := 2, upMatched := min 0xFFFFFFFF (e.upMatched + 1) }
        .seq (modSect fun t => { t with entries := tset t.entries (sectKey page idx) e' })
        (if u.num = 0 ∨ u.start < e.startPrb ∨ e.startPrb + e.numPrb < u.start + u.num then count blkSect 0 6
        else if (flowDyn r && u.comp != e.comp) || (compWidth u.comp).isNone then fhCount 5
        else
          let size := prbBytes u.comp
          let fresh := s.fh.held.filter fun x =>
            !(x.flow == flow && x.sect == u.id && x.air == air && decide (u.start ≤ x.prb) && decide (x.prb < u.start + u.num))
          let used := sumN ((fresh.filter fun x => x.queue == flowQueue r).map (·.bytes))
          if queueSize s (flowQueue r) < used + u.num * size then fc 3
          else
            let prbs := (List.range u.num).map fun i => unpackPrb u.comp ((u.data.drop (i * size)).take size)
            let kept : List Held := prbs.zipIdx.map fun p =>
              { carrier := c, flow := flow, sect := u.id, air := air, prb := u.start + p.2, queue := flowQueue r
                bytes := size, iq := p.1.1 }
            .seq (countN blkFlow flow 4 (prbs.filter (·.2)).length) (modFh fun f => { f with held := fresh ++ kept })))

/-- A downlink U-plane message. A STATIC flow's sections are read without udCompHdr, or with an ignored one where only that
fills the message (R87). -/
def uPlane (flow : Nat) (a : App) (q : Rec) : Prog := .ask fun s =>
  let r := flowRec s flow
  let n := carPrb (txCar s (flowCar r))
  let pad := decide (q.length + (if vlanId s = 0 then 22 else 26) ≤ 60)
  let read := fun own dyn => parseU own dyn (flowComp r) n pad true (q.length + 1) (q.drop 4)
  let parsed := if flowDyn r then read true true else (read false false).or (read true false)
  match parsed with
  | none => fhCount 5
  | some l => each (withUSyms a.sym l) fun u => uSection flow ((a.frame * 10 + a.subframe) % 2560) a u.1 u.2

/-! ### Steps 9 to 13 -/

/-- An eCPRI message of type 0 or 2: flow lookup, SEQ_GAP, application header, shedding, then its plane. DESIGN CHOICE
(assumption log 89): a C-plane message refused for its header counts in CP_BAD once, with no sections in it as well. -/
def ecpriMessage (p : Rec) : Prog := .ask fun s =>
  let t := bfld p 1 1
  let q := p.drop 8
  let a := appOf q
  match (flows s).find? fun x => flowEaxc x.2 == bfld p 4 2 && flowDir x.2 == a.dir with
  | none => fhCount 6
  | some (flow, r) =>
    let seq := bfld p 6 1
    let gap := match tfind s.fh.seqRx (flow * 4 + t) with
      | some l => seq != (l + 1) % 256
      | none => false
    seqs
      [ whenP gap (count blkFlow flow 2),
        modFh fun f => { f with seqRx := tset f.seqRx (flow * 4 + t) seq },
        whenP (t == 0 && a.dir == 0) (total blkFlow flow 0 1),
        if appOk s r a = false then (if t = 0 then fhCount 5 else countN blkSect 0 5 (max 1 (bfld q 4 1)))
        else if flowKind r = 0 ∧ layerActive s a.dir (flowLayer r) = false then count blkFlow flow 5
        else if t = 2 then cPlane flow seq a q
        else whenP (a.dir == 0) (uPlane flow a q) ]

/-- FRAME_RECEIVED (R81): a frame without its FCS, whether that was correct, and the receive capture of R103. -/
def execFrameReceived (fcsOk : Bool) (frame : Rec) (capture deskew fecPos : Nat) (s : State) :
    Host.Outcome State Fault Refusal :=
  let len := frame.length + 4
  let e := etherType frame
  let p := payload frame
  done (whenP (domOn s dFH && s.fh.link == 3) (seqs
    [ total blkFh 0 0 1, total blkFh 0 1 len,
      if fcsOk = false then fhCount 0
      else if len < 64 ∨ mtu s + 22 < len then fhCount 1
      else if isPause frame = true then fhCount 3
      else if addrOk s frame = false then fhCount 2
      else if vlanOk s frame = false then fhCount 4
      else if e = 0x88F7 then toPtpRing frame capture deskew fecPos
      else if e ≠ 0xAEFE ∧ e ≠ 0x88B5 then fhCount 3
      else if peerMac s = zeros 6 ∨ (frame.drop 6).take 6 ≠ peerMac s then fhCount 2
      else if e = 0x88B5 then inbandArrive p
      else if ecpriOk p = false then fhCount 5
      else if bfld p 1 1 = 5 then toPtpRing frame capture deskew fecPos
      else ecpriMessage p ])) s

end Sys2Proof.Machine
end

