-- ==== Sys2Proof/Machine/Mailbox.lean ====
section
/-! DEFINITION. The mailbox: rings, the order in which firmware takes commands, their checks and execution by kind, parked
commands and the in-band stream (18_mailbox_commands R399 to R415). -/

namespace Sys2Proof.Machine

open Sys2Proof

/-! ### Commands of the mailbox itself (R400, R415) -/

/-- Some command of the in-band stream is taken and not answered. -/
def inbandOpen (s : State) : Bool :=
  let own := fun c : Cmd => originOf c.src == 2
  (s.mbx.parked.any fun p => own p.cmd) || (s.mbx.waiting.any fun w => own w.1)

/-- INBAND follows ENABLE; once it is clear, when the last command taken is answered (R414). -/
def inbandSettle : Prog := .ask fun s =>
  whenP (!fbit (inbandRec s) 0 1 0) (modMbx fun m => { m with inband := m.inband && inbandOpen s })

/-- MBX_INBAND_SET (0x0110): clearing ENABLE discards the frames that wait. -/
def cmdMbxInbandSet : CmdDef :=
  { op := 0x0110, kind := .n, len := fixed 8, fields := fun _ _ => [⟨0, 1, .bits 1⟩] ++ rsv 1 3 ++ [⟨4, 4, .bits 0x3FFF⟩]
    effect := fun _ r => .seq (setSetting 0x0110 0 r)
      (if fbit r 0 1 0 then modMbx fun m => { m with inband := true }
       else .ask fun s => seqs
        [ countN blkMbx 0 1 s.mbx.queue31.length, modMbx fun m => { m with queue31 := [] }, inbandSettle ]) }

/-- MBX_STATUS (0x0111). -/
def cmdMbxStatus : CmdDef :=
  { op := 0x0111, kind := .r, len := fixed 1, fields := fun _ _ => [⟨0, 1, .bits 1⟩]
    answer := fun _ _ s => (stOK, leBytes 4 (mbxReg s 0x0C) ++ cntBytes s blkMbx 0 3 ++ leBytes 4 (satBits s blkMbx 0 3) ++
      ((List.range 8).flatMap fun c => leBytes 1 (tget (0, 0) s.mbx.last c).1) ++
      leBytes 1 (bitsOf ((List.range 8).map fun c => (tfind s.mbx.last c).isSome)) ++ zeros 3)
    effect := fun _ r => whenP (fbit r 0 1 0) (clearCnts blkMbx 0 3) }

/-- The transaction commands; the runs of Txn give their effects. -/
def txnDef (op : Nat) : CmdDef :=
  { op := op, kind := if op = 0x0F05 then .r else .n, hostOnly := op == 0x0F06, len := txnLen op, fields := fun _ r => txnFields op r }

/-- An opcode is one of the transaction commands. -/
def isTxnOp (op : Nat) : Bool := decide (0x0F01 ≤ op) && decide (op ≤ 0x0F06)

/-- The index of R422. -/
def cmdOf (op : Nat) : Option CmdDef :=
  if isTxnOp op then some (txnDef op)
  else if op = 0x0110 then some cmdMbxInbandSet
  else if op = 0x0111 then some cmdMbxStatus
  else itemCmd op

/-! ### Checks (R408) -/

/-- Opcodes that the ROM safe mode accepts (17 R396). -/
def romSafeOps : List Nat := [0x0101, 0x0102, 0x0103, 0x0104, 0x0105, 0x0F10, 0x0F12, 0x0107, 0x0202, 0x0D02]

/-- Check 3: the origin may use the command (03 R71, R72; 17 R398). -/
def denied (s : State) (d : CmdDef) (o : Nat) : Bool :=
  let cls := d.op / 256
  let shared := isTxnOp d.op && d.op != 0x0F06
  d.kind != .r && !shared &&
    (if cls = 1 ∨ cls = 0x0F ∨ cls = 0x10 ∨ d.hostOnly = true then o == 2 else areaOwner s cls != o)

/-- Check 5: TXN_ID by kind (R411). -/
def txnIdFail (s : State) (d : CmdDef) (c : Cmd) : Nat :=
  match d.kind with
  | .t => if c.txn = 0 then stOK else txnCheck s c.txn (originOf c.src)
  | .s => if c.txn = 0 then stBAD_PARAM else txnCheck s c.txn (originOf c.src)
  | _ => if c.txn = 0 then stOK else stBAD_PARAM

/-- Units that R406 keeps for a parked command, among those a record names. -/
def keptUnits (fs : List Fld) (r : Rec) : List (UKind × Nat) :=
  let kept := fun k : UKind => k == .sheet || k == .orx || k == .converter || k == .master
  fs.flatMap fun f => match f.k with
    | .unit k => if kept k then [(k, fld r f.off f.w)] else []
    | .units k => if kept k then (setBits (ukCount k) (fld r f.off f.w)).map fun n => (k, n) else []
    | _ => []

/-- A parked command acts on something that the command names (R406). -/
def parkedOn (s : State) (d : CmdDef) (r : Rec) : Bool := s.mbx.parked.any fun p =>
  match cmdOf p.cmd.op with
  | some q => q.clashes p.cmd.req d.op r ||
      (keptUnits (q.fields s p.cmd.req) p.cmd.req).any fun u => (keptUnits (d.fields s r) r).contains u
  | none => false

/-- Check 10: the rules of the command's own definition. -/
def ownRules (s : State) (d : CmdDef) (c : Cmd) : Nat := if d.kind = .t then stOK else d.own (originOf c.src) c.req s

/-- Check 7: every unit the command names is in service. A Mash command that stages is not turned away for the loss of the engine
PLL (07 R162). -/
def namedFail (s : State) (d : CmdDef) (c : Cmd) : Nat :=
  let staged := c.txn != 0 && d.kind == .t
  unitsFail s ((d.named c.req).filter fun u => !(staged && u == uMASH && unitFit s u && unitReason s u == 4))

/-- The checks from the length on. -/
def checkCmd (s : State) (d : CmdDef) (c : Cmd) : Option (Nat × Nat) :=
  let r := c.req
  let plain := fun st : Nat => if st = stOK then none else some (st, 0xFFFF)
  let applying := s.boot.profPhase != 0 && d.kind != .r && d.op != 0x0102 && c.src != .firmware
  if r.length ≠ d.len r then some (stBAD_PARAM, d.len r)
  else if denied s d (originOf c.src) then some (stDENIED, 0xFFFF)
  else if applying then some (stBUSY, 0xFFFF)
  else (plain (txnIdFail s d c)).or <| (checkFields s r (d.fields s r)).or <| (plain (namedFail s d c)).or <|
    (if (d.kind = .n ∨ d.kind = .r) ∧ (d.doms r).any (fun x => !domOn s x) = true then some (stSTATE, 0xFFFF) else none).or <|
    (if parkedOn s d r then some (stBUSY, 0xFFFF) else none).or <|
    (if keysHeld s c.txn ((d.keys r).map (cfgKey d.keyOp)) then some (stTXN_CONFLICT, 0xFFFF) else none).or <|
    plain (ownRules s d c)

/-- Checks 1 to 10: status and DETAIL of the first that fails. -/
def checkAll (s : State) (c : Cmd) : Option (Nat × Nat) :=
  match cmdOf c.op with
  | none => some (stBAD_OPCODE, 0xFFFF)
  | some d => if romSafeRuns s && !romSafeOps.contains c.op then some (stSTATE, 0xFFFF) else checkCmd s d c

/-- The record of a failure whose record R410 returns: TXN_COMMIT's, or STATE and REASON of the slot or copy as they stand. -/
def failRec (s : State) (c : Cmd) (st : Nat) : Rec :=
  let k := fld c.req 0 1
  if c.op = 0x0F03 then commitRec 0 0xFFFF st
  else if c.op = 0x0104 then leBytes 1 (slotState (tmrWord s 2) k) ++ leBytes 1 (slotReasonOf s k) ++ [0, 0]
  else if c.op = 0x0F10 then
    (let w := profReasonOf s (2 * k + profTarget s k)
     leBytes 1 (if w = 0 then 3 else if w = 1 then 0 else 4) ++ leBytes 1 w ++ [0, 0])
  else []

/-! ### Execution by kind (R411) -/

/-- A command of kind T or S as an item. -/
def itemOf (c : Cmd) : Item := { op := c.op, req := c.req, addr := 0, value := 0, mask := 0 }

/-- A transaction command runs. -/
def runTxnOp (c : Cmd) : Prog :=
  match c.op with
  | 0x0F01 => runBegin c
  | 0x0F02 => runStageReg c
  | 0x0F03 => runCommit c
  | 0x0F04 => runAbort c
  | 0x0F05 => runTxnStatus c
  | _ => runOwnerSet c

/-- A command that passed its checks. -/
def runKind (d : CmdDef) (c : Cmd) : Prog := .ask fun s =>
  let o := originOf c.src
  match d.kind with
  | .n | .r =>
    if isTxnOp c.op then runTxnOp c
    else if d.parked then .seq (d.effect o c.req) (modMbx fun m => { m with parked := m.parked ++ [{ cmd := c }] })
    else
      let a := d.answer o c.req s
      .seq (d.effect o c.req) (answer c a.1 a.2)
  | .t | .s =>
    if c.txn = 0 then runSingle c (itemOf c)
    else if (txnOf s c.txn).any fun t => itemsFit s t [itemOf c] then .seq (stageItems c.txn [itemOf c]) (answer c stOK [])
    else answer c stBUSY []

/-- Transaction a command names, in its header or its record; 0 if none. -/
def namedTxn (c : Cmd) : Nat := if 0x0F02 ≤ c.op ∧ c.op ≤ 0x0F05 then fld c.req 0 4 else c.txn

/-- The transaction that a command names stays OPEN for 10 s more (03 R65). -/
def nameTxn (c : Cmd) : Prog := .ask fun s => whenP ((txnOf s (namedTxn c)).isSome)
  (modLive (namedTxn c) fun t => { t with named := upNs s })

/-- Firmware runs a command under R408 to R411. -/
def runCmd (c : Cmd) : Prog := .seq (nameTxn c) (.ask fun s =>
  match checkAll s c with
  | some f => seqs
    [ whenP (f.1 == stBUDGET) held,
      respond c f.1 f.2 (if fullRecord c f.1 && f.1 != stECC_UNCORR then failRec s c f.1 else []) ]
  | none => match cmdOf c.op with
    | some d => runKind d c
    | none => .skip)

/-! ### Taking commands (R403 to R406) -/

/-- The command in a command area. -/
def areaCmd (s : State) (src : Requester) : Cmd :=
  let a := peek s .mailbox (cmdArea (srcChannel src)) 0x100
  { src := src, op := fld a 0 2, seq := fld a 2 1, txn := fld a 4 4, req := padTo (fld a 3 1) (a.drop 8) }

/-- A command is taken: an unreadable area (16 R367), a repetition (R405), or a command to run. -/
def takeCmd (c : Cmd) : Prog := .ask fun s =>
  let at_ := cmdArea (srcChannel c.src)
  if c.src != .firmware && badRange s 1 at_ (8 + c.req.length) then
    .seq (noteRead 1 at_ (8 + c.req.length)) (respond c stECC_UNCORR 0xFFFF [])
  else if c.src != .firmware && tfind s.mbx.last (srcChannel c.src) == some (c.seq, c.op) then replay c.src
  else runCmd c

/-- Commands wait in the order they were rung, and are taken while no one-item transaction waits for its boundary. -/
def drain : Nat → Prog
  | 0 => .skip
  | n + 1 => .ask fun s => match s.mbx.fifo with
    | c :: l => whenP (s.mbx.waiting.isNone) (seqs [modMbx fun m => { m with fifo := l }, takeCmd c, drain n])
    | [] => .skip

/-- Every command that can be taken is. -/
def drainAll : Prog := .ask fun s => drain s.mbx.fifo.length

/-- A host write of DOORBELL (R403, R404): channels ascending; a channel that rings already is left. -/
def ringMask (mask : Nat) : Prog := .ask fun s => whenP s.mbx.ready (seqs
  [ whenP (s.mbx.inband && mask.testBit 7) (modMbx fun m => { m with blocked := m.blocked ||| 0x80 }),
    each ((setBits 8 mask).filter fun c => !s.mbx.ring.testBit c && !(c == 7 && s.mbx.inband)) fun c =>
      .ask fun t => modMbx fun m => { m with
        ring := m.ring ||| 2 ^ c, done := andNot m.done (2 ^ c), fifo := m.fifo ++ [areaCmd t (.host c)] },
    drainAll ])

/-- A host write in a command area (R404): ignored, and BLOCKED set, while the channel rings. -/
def areaWrite (ch : Nat) (v : Rec) : Prog := .ask fun s =>
  if s.mbx.ring.testBit ch then modMbx fun m => { m with blocked := m.blocked ||| 2 ^ ch }
  else store .mailbox 1 (cmdArea ch) v

/-- The frame at the head of queue 31 is taken: copied into the command area of channel 7 and run (R414). -/
def takeFrame : Prog := .ask fun s => match s.mbx.queue31 with
  | [] => .skip
  | f :: l => whenP (s.mbx.ready && s.mbx.waiting.isNone) (seqs
    [ modMbx fun m => { m with queue31 := l }, count blkMbx 0 0, putArea (cmdArea 7) f.2,
      .ask fun t => takeCmd (areaCmd t (.baseband f.1)) ])

/-- Frames of queue 31 are taken in arrival order. -/
def takeFrames : Nat → Prog
  | 0 => .skip
  | n + 1 => .seq takeFrame (takeFrames n)

/-- A header and record as R400 lays them out. -/
def cmdBytes (op : Nat) (c : Call) : Rec :=
  leBytes 2 op ++ leBytes 1 c.seq ++ leBytes 1 (min 248 c.req.length) ++ leBytes 4 c.txn ++ c.req.take 248

/-- The host's write and ring of a command on a channel; a mailbox whose domain is not ON fails the access (19 R425). -/
def hostSend (ch : Nat) (v : Rec) : Prog := .ask fun s =>
  match accessError s (0x20000000 + cmdArea ch) with
  | some e => hostFail e (0x20000000 + cmdArea ch)
  | none => .seq (areaWrite ch v) (ringMask (2 ^ ch))

/-- A mailbox command from its sender: on a host channel, in a management frame of the baseband, or run by firmware. -/
def submit (op : Nat) (c : Call) : Prog :=
  match c.src with
  | .host ch => whenP (decide (ch < 8)) (hostSend ch (cmdBytes op c))
  | .baseband tag => .ask fun s => whenP (domOn s dFH && s.fh.link == 3) (.seq
      (inbandArrive ([1, 1, 0, 0] ++ leBytes 4 tag ++ cmdBytes op c))
      (.ask fun t => takeFrames t.mbx.queue31.length))
  | .firmware => .ask fun s => whenP (fwRuns s && s.mbx.waiting.isNone)
      (takeCmd { src := .firmware, op := op, seq := c.seq % 256, txn := c.txn % 2 ^ 32, req := c.req.take 248 })

/-! ### Events of the mailbox -/

/-- DOORBELL_RING: a host write of MBX.DOORBELL. -/
def execDoorbellRing (mask : Nat) (s : State) : Host.Outcome State Fault Refusal :=
  done (match accessError s 0x40030000 with
    | some e => hostFail e 0x40030000
    | none => ringMask (mask % 256)) s

/-- INBAND_COMMAND: the next frame of queue 31 is taken (R414). -/
def execInbandCommand (s : State) : Host.Outcome State Fault Refusal := done takeFrame s

/-- A unit that a parked command names has gone out of service meanwhile (00 R7). -/
def goneUnit (s : State) (d : CmdDef) (r : Rec) : Bool := unitsFail s (d.named r) == stUNAVAILABLE

/-- P_COMMAND_COMPLETE: a parked command completes in the background (R406); `ok` is the hardware's success, `data` what it
returns. With its unit out of service it completes with UNAVAILABLE, and its effect on the unit is open (00 R7): a free value says
whether it takes place. -/
def execPCommandComplete (index : Nat) (ok : Bool) (data : Rec) (s : State) : Host.Outcome State Fault Refusal :=
  done (match s.mbx.parked[index]? with
    | none => .skip
    | some p => match cmdOf p.cmd.op with
      | none => .skip
      | some d =>
        let gone := goneUnit s d p.cmd.req
        whenP (s.mbx.ready && (gone || d.ready p.cmd.req s)) (
          let f := d.finish (originOf p.cmd.src) p.cmd.req ok data s
          seqs
            [ modMbx fun m => { m with parked := m.parked.eraseIdx index },
              if gone then .seq (whenP (freeNow s % 2 == 1) f.2.2) drawFree else f.2.2,
              if gone then answer p.cmd stUNAVAILABLE [] else answer p.cmd f.1 f.2.1,
              inbandSettle ])) s

/-- A boundary of datum time is reached: what is due at it applies in the order of 01 R24, the command that waited for it is
answered, and those behind it are taken. -/
def boundaryReached (b : Nat) : Prog := seqs [txRun (some b), boundaryProg b, inbandSettle, drainAll]

/-- COMMIT_BOUNDARY (01 R24, 03 R63). -/
def execCommitBoundary (b : Nat) (s : State) : Host.Outcome State Fault Refusal :=
  done (whenP (domOn s dDATUM && due s b) (boundaryReached b)) s

/-- The boundary of a solved campaign is reached: its results apply at order 4 and its latches at order 7. -/
def campBoundary (campaign : Nat) (full : Bool) (s : State) : Prog :=
  match s.survey.camps.find? fun c => c.number == campaign && c.solved && c.full == full with
  | none => .skip
  | some c => whenP (due s c.boundary) (boundaryReached c.boundary)

/-- QUICK_SURVEY_DONE (13 R287): B_q of a solved quick survey. -/
def execQuickSurveyDone (campaign : Nat) (s : State) : Host.Outcome State Fault Refusal := done (campBoundary campaign false s) s

/-- FULL_CAMPAIGN_COMMIT (13 R289): the boundary of a solved full campaign. -/
def execFullCampaignCommit (campaign : Nat) (s : State) : Host.Outcome State Fault Refusal := done (campBoundary campaign true s) s

end Sys2Proof.Machine
end

