-- ==== Sys2Proof/Machine/Writes.lean ====
section
/-! DEFINITION. Writes through the host window and by the control processor: the areas of mailbox SRAM, the registers and the
capture of direct writes (01_architecture R31, R37; 18_mailbox_commands R399, R403, R404; 19_host_registers_faults R423 to R425). -/

namespace Sys2Proof.Machine

open Sys2Proof

/-- A word written to mailbox SRAM: command areas take it unless their channel rings, response areas and firmware's part ignore
the host (R399, R404). -/
def mailboxWrite (cpu : Bool) (off v : Nat) : Prog :=
  if cpu then store .mailbox 1 off (leBytes 4 v)
  else whenP (decide (off < 0x1000) && decide (off % 0x200 < 0x100)) (.ask fun s =>
    if s.mbx.ring.testBit (off / 0x200) then modMbx fun m => { m with blocked := m.blocked ||| 2 ^ (off / 0x200) }
    else store .mailbox 1 off (leBytes 4 v))

/-- Registers of DATUM that the control processor writes (05_datum_time). -/
def datumWrite (a v : Nat) : Prog :=
  match a % 256 with
  | 0x04 => modDatum fun d => { d with incrLo := v }
  | 0x08 => incrWrite v
  | 0x0C => modDatum fun d => { d with stepNs := v }
  | 0x10 => .seq (modDatum fun d => { d with timeValid := v.testBit 8, ppsOut := d.ppsOut && v.testBit 8 }) (whenP (v.testBit 0) ctrlStep)
  | 0x18 => modDatum fun d => { d with todHold := (v, d.todHold.2) }
  | 0x1C => modDatum fun d => { d with todHold := (d.todHold.1, v, d.todHold.2.2) }
  | 0x20 => modDatum fun d => { d with todHold := (d.todHold.1, d.todHold.2.1, v % 65536) }
  | 0x24 => todWrite v
  | 0x28 => modDatum fun d => { d with ppsNext := v }
  | _ => .skip

/-- Registers that the control processor alone writes. -/
def cpuReg (a : Nat) : Bool := [4, 8, 12, 16, 24, 28, 32, 36, 40].any fun o => a == 0x40110000 + o

/-- A write of a block register by the host or the control processor. -/
def blockWrite (cpu : Bool) (a v : Nat) : Prog :=
  if a = 0x40030000 then ringMask (v % 256)
  else if a = 0x40030004 then modMbx fun m => { m with done := andNot m.done (v % 256) }
  else if a = 0x4003000C then modMbx fun m => { m with blocked := andNot m.blocked (v / 256 % 256) }
  else if a = 0x40020104 then whenP (v.testBit 0) armAlign
  else if a = 0x40020108 then modClk fun k => { k with
    refused := k.refused && !v.testBit 2, slip := andNot k.slip (v / 256 % 16), slipDatum := k.slipDatum && !v.testBit 12 }
  else if a = 0x40040000 then whenP (v.testBit 1) (modTxn fun t => { t with failed := false })
  else if cpuReg a then whenP cpu (datumWrite a v)
  else regStore a v 0xFFFFFFFF

/-- A direct host write of a logged block enters the 16-entry capture, or counts in OVERWRITTEN (01 R37). -/
def captureWrite (a v : Nat) : Prog := .ask fun s =>
  if s.log.capture.length < 16 then .upd (.capture (s.log.capture ++ [(a, now s, v)])) else count blkLog 0 0

/-- One 32-bit write that reaches its location. The capture tun and the weight store take 64-bit words only: a narrower write of
the control processor changes nothing and counts in PARTIAL_WR (16 R366), one of the host is ignored (19 R424). -/
def writeWord (cpu : Bool) (a v : Nat) : Prog :=
  match windowMem a with
  | some 1 => mailboxWrite cpu (a - 0x20000000) v
  | some _ => whenP cpu (count blkMemAll 0 1)
  | none => seqs [whenP (addrLogged a) (txRun none), blockWrite cpu a v, whenP (!cpu && addrLogged a) (captureWrite a v)]

/-- REGISTER_WRITE (01 R37; 19 R423 to R425): a word written by the host port or the control processor. `cut` is a word in which
HOST_CS_N rose: it is discarded and ALIGN is set. -/
def execRegisterWrite (cpu : Bool) (addr value : Nat) (cut : Bool) (s : State) : Host.Outcome State Fault Refusal :=
  let a := addr % 2 ^ 32
  done (whenP s.pwr.aoUp (
    if cut && !cpu then hostFail 3 a
    else match accessError s a with
      | some e => whenP (!cpu) (hostFail e a)
      | none => writeWord cpu a (value % 2 ^ 32))) s

end Sys2Proof.Machine
end

