-- ==== Sys2Proof/Machine/Profile.lean ====
section
/-! DEFINITION. Profiles at start: their entries run by firmware as host, the transactions of consecutive transactional entries,
and failure (17_boot_firmware_profiles R392 to R395). -/

namespace Sys2Proof.Machine

open Sys2Proof

/-- Application of the profile fails at an entry with a status (R395). -/
def profFail (index st : Nat) : Prog := .ask fun s => seqs
  [ closeTxn s.boot.profTxn fun q => { q with state := .aborted },
    each (sheets s) fun n => .seq (patternOff n) (if (sh s n).state = .sleep then dropTimers n else forceState n .sleep),
    whenP (s.fh.link == 0) (seqs
      [ setSetting 0x0401 0 safeLinkRec, beginWake dFH,
        whenP (domOn s dFH) (.seq (modFh fun f => { f with laneFailed := 0, falling := false, rung := 0 }) (.seq (linkTo 1) linkSettle)) ]),
    modBoot fun b => { b with
      profFailed := true, mode := 1, stage := 4, failEntry := index, failStatus := st, profPhase := 0, profTxn := 0, profGroup := []
      profRest := [], fwStatus := none },
    raise (evCode 0 5) noUnit [(index : Nat), (st : Nat)] ]

/-- PROFILE_APPLY (R392, R394): the accepted copy of the selected profile; DATUM is woken and alignment armed. -/
def execProfileApply (s : State) : Host.Outcome State Fault Refusal :=
  done (whenP (fwRuns s && s.boot.stage == 2 && s.boot.profPhase == 0) (.seq
    (modBoot fun b => { b with
      stage := 3, profFailed := false, profIdx := 0, profTxn := 0, profGroup := [], skipped := 0, failEntry := 0xFFFF, failStatus := 0
      fwStatus := none })
    (match profCurrent s s.boot.profile with
      | none => profFail 0xFFFF 0
      | some c => seqs
        [ modBoot fun b => { b with profPhase := 1, profRest := imgPayload (tget [] b.profImg (2 * b.profile + c)) },
          stamp tkProfile, whenP (!domOn s dDATUM) (beginWake dDATUM), firmwareArm ]))) s

/-- The entry at the head of the payload is done with. -/
def profNext (n : Nat) : Prog := modBoot fun b => { b with
  profIdx := b.profIdx + 1, profRest := b.profRest.drop ((4 + n + 3) / 4 * 4), profPhase := 2, fwStatus := none }

/-- What firmware makes of the status an entry returned. -/
def profStatus (st n : Nat) : Prog := .ask fun s =>
  if st = stOK then profNext n
  else if st = stABSENT then .seq (modBoot fun b => { b with skipped := satAdd b.skipped 1 }) (profNext n)
  else profFail s.boot.profIdx st

/-- The open transaction of the profile is committed with the immediate boundary and AUTO set (R394). -/
def profCommit : Prog := .ask fun s => match txnOf s s.boot.profTxn with
  | none => profFail s.boot.profIdx stBAD_PARAM
  | some t =>
    let j := judgeCommit s t 0 (singleRef s) 0 true false
    if j.1 != stOK then profFail (if j.2.1 = 0xFFFF then s.boot.profIdx else s.boot.profGroup.getD j.2.1 0xFFFF) j.1
    else seqs
      [ acceptCommit t 0 (singleRef s) j.2.2.1, modBoot fun b => { b with profPhase := 4 }, whenP j.2.2.2 (applyNow t.id) ]

/-- A transactional entry is staged in the profile's open transaction, which it begins where there is none. -/
def profStage (op : Nat) (r : Rec) : Prog := .ask fun s =>
  let fresh := s.boot.profTxn == 0
  let id := if fresh then s.txn.next else s.boot.profTxn
  let begin_ := whenP fresh (openTxn 1 0 [])
  let c : Cmd := { src := .firmware, op := op, seq := 0, txn := id, req := r }
  if fresh && decide (8 ≤ (txnsIn s .opened).length) then profFail s.boot.profIdx stBUSY
  else match checkAll (runP begin_ s) c with
    | some f => profStatus f.1 r.length
    | none => seqs
      [ begin_, runCmd c,
        .ask fun t => .seq (modBoot fun b => { b with profTxn := id, profGroup := b.profGroup ++ [b.profIdx] })
          (profStatus (t.boot.fwStatus.getD stBUSY) r.length) ]

/-- The entry runs. -/
def profRun : Prog := .ask fun s =>
  let op := fld s.boot.profRest 0 2
  let len := fld s.boot.profRest 2 2
  let r := (s.boot.profRest.drop 4).take len
  let d := cmdOf op
  let staged := d.any fun x => x.kind == .t || x.kind == .s
  if staged then profStage op r
  else if s.boot.profTxn != 0 then profCommit
  else if op = 0xFFFF then .seq
    (modBoot fun b => { b with stage := 4, profPhase := 0, profRest := [] }) (raise (evCode 0 4) noUnit [])
  else if op = 0 then seqs [profNext len, modBoot fun b => { b with profPhase := 3, profWait := fld r 0 4 }, stamp tkProfile]
  else .seq (runCmd { src := .firmware, op := op, seq := 0, txn := 0, req := r })
    (.ask fun t => match t.boot.fwStatus with
      | some st => profStatus st len
      | none => modBoot fun b => { b with profPhase := 5 })

/-- The profile's commit has been applied, or has failed. -/
def profSettled : Prog := .ask fun s =>
  match s.txn.closed.find? fun t => t.id == s.boot.profTxn with
  | none => .skip
  | some t =>
    if t.state = .applied then modBoot fun b => { b with profPhase := 2, profTxn := 0, profGroup := [] }
    else profFail (s.boot.profGroup.getD t.failIndex s.boot.profIdx) t.failStatus

/-- PROFILE_ENTRY (R394): firmware goes on with the profile as far as one entry. -/
def execProfileEntry (s : State) : Host.Outcome State Fault Refusal :=
  let len := fld s.boot.profRest 2 2
  done (whenP (fwRuns s) (match s.boot.profPhase with
    | 1 =>
      if s.clk.aligned && domOn s dDATUM then .seq (modBoot fun b => { b with profPhase := 2 }) profRun
      else whenP (!s.clk.armed && s.clk.stage == 0) firmwareArm
    | 2 => profRun
    | 4 => .seq profSettled (.ask fun t => whenP (t.boot.profPhase == 2) profRun)
    | 5 => match s.boot.fwStatus with
      | some st => profStatus st len
      | none => .skip
    | _ => .skip)) s

/-- PROFILE_WAIT_EXPIRY (R394): the time of a WAIT entry has passed. -/
def execProfileWaitExpiry (s : State) : Host.Outcome State Fault Refusal :=
  done (whenP (fwRuns s && s.boot.profPhase == 3 && elapsed s tkProfile (1000 * s.boot.profWait)) (modBoot fun b => { b with profPhase := 2 })) s

/-- PROFILE_REF_TIMEOUT (R394): REF has been absent for 2 s while alignment was waited for. -/
def execProfileRefTimeout (s : State) : Host.Outcome State Fault Refusal :=
  done (whenP (fwRuns s && s.boot.profPhase == 1 && s.clk.lost.testBit 0 && elapsed s tkRef 2000000000 &&
      elapsed s tkProfile 2000000000) (profFail 0xFFFF stSTATE)) s

end Sys2Proof.Machine
end

