-- ==== Sys2Proof/Machine/Tap.lean ====
section
/-! DEFINITION. The IEEE 1149.1 test access port: controller, instruction register, IDCODE, BYPASS and the boundary register
(20_pins_electrical_package R460 to R462). -/

namespace Sys2Proof.Machine

open Sys2Proof

/-- The controller state after a rising edge of TCK with TMS. -/
def tapStep (tms : Bool) : Tap → Tap
  | .testLogicReset => if tms then .testLogicReset else .runTestIdle
  | .runTestIdle => if tms then .selectDr else .runTestIdle
  | .selectDr => if tms then .selectIr else .captureDr
  | .captureDr => if tms then .exit1Dr else .shiftDr
  | .shiftDr => if tms then .exit1Dr else .shiftDr
  | .exit1Dr => if tms then .updateDr else .pauseDr
  | .pauseDr => if tms then .exit2Dr else .pauseDr
  | .exit2Dr => if tms then .updateDr else .shiftDr
  | .updateDr => if tms then .selectDr else .runTestIdle
  | .selectIr => if tms then .testLogicReset else .captureIr
  | .captureIr => if tms then .exit1Ir else .shiftIr
  | .shiftIr => if tms then .exit1Ir else .shiftIr
  | .exit1Ir => if tms then .updateIr else .pauseIr
  | .pauseIr => if tms then .exit2Ir else .pauseIr
  | .exit2Ir => if tms then .updateIr else .shiftIr
  | .updateIr => if tms then .selectDr else .runTestIdle

/-- IDCODE (R461). -/
def idcode (s : State) : Nat := sysId s / 256 % 16 * 2 ^ 28 + sysId s / 65536 * 2 ^ 12 + 0x2D6 * 2 + 1

/-- Balls that the boundary register covers (R462). -/
def tapBalls (s : State) : Nat := if s.fuse.variant = 1 then 41 else 57

/-- The boundary register is between TDI and TDO. -/
def tapBoundary (ir : Nat) : Bool := ir == 0 || ir == 2

/-- What Capture-DR loads: IDCODE, a zero for BYPASS, or each ball's level with what the core drives on it, which the manual does
not give here (free values, assumption log 3). -/
def tapCapture (s : State) (inputs : Nat) : List Bool :=
  if tapBoundary s.tap.ir then (List.range (tapBalls s)).flatMap fun b =>
    [inputs.testBit b, (freeAt s (2 * b)).testBit 0, (freeAt s (2 * b + 1)).testBit 0]
  else if s.tap.ir = 1 then (List.range 32).map (idcode s).testBit
  else [false]

/-- TAP_TCK_EDGE (R460): a rising edge of TCK, with TMS, TDI and TRST_N, and the levels of the covered balls; the update registers
and TDO take their values at the falling edge that follows. -/
def execTapTckEdge (tms tdi trstN : Bool) (inputs : Nat) (s : State) : Host.Outcome State Fault Refusal :=
  let t := s.tap
  let next := tapStep tms t.st
  let shift := match t.st with
    | .captureDr => tapCapture s inputs
    | .shiftDr => t.shift.drop 1 ++ [tdi]
    | _ => t.shift
  let irShift := match t.st with
    | .captureIr => 1
    | .shiftIr => t.irShift / 2 + 8 * bit tdi
    | _ => t.irShift
  let ir := match next with
    | .testLogicReset => 1
    | .updateIr => irShift
    | _ => t.ir
  let bsr := if next = .updateDr ∧ tapBoundary t.ir = true then shift else t.bsr
  let tdo := match next with
    | .shiftDr => shift.headD false
    | .shiftIr => irShift.testBit 0
    | _ => t.tdo
  done (whenP s.boot.testEn (
    if !trstN then modTap fun x => { x with st := .testLogicReset, ir := 1 }
    else .seq
      (modTap fun _ => { st := next, ir := ir, irShift := irShift, shift := shift, bsr := bsr, tdo := tdo })
      (whenP (t.st == .captureDr && tapBoundary t.ir) (seqs (List.replicate (2 * tapBalls s) drawFree))))) s

/-- Input-only balls (R440, R462): HOST_CS_N, HOST_CLK, RESET_N, TXMUTE_N, BIASCLR_N, PROF0, PROF1 and PPS_IN. -/
def ballInput (s : State) (b : Nat) : Bool := [0, 1, 8, 9, 10, 11, 12, tapBalls s - 3].contains b

/-- Open-drain balls: IRQ_N and FAULT_N. -/
def ballOpenDrain (b : Nat) : Bool := b == 6 || b == 7

/-- What an output of a covered ball drives while the TAP drives it: none where it is released (R462). -/
def ballDrive (s : State) (b : Nat) : Option Bool :=
  let data := s.tap.bsr.getD (3 * b + 1) false
  if (s.tap.ir = 0 ∨ s.tap.ir = 4) ∧ s.tap.bsr.getD (3 * b + 2) false = true ∧ !ballInput s b ∧ !(ballOpenDrain b && data) then some data
  else none

end Sys2Proof.Machine
end

