-- ==== Sys2Proof/Machine/Idle.lean ====
section
/-! DEFINITION. What passes when no command waits: one cycle of the DATUM clock and what the hardware does at it (assumption log
2; 05_datum_time R95; 01_architecture R31; 14_front_end_control R327). -/

namespace Sys2Proof.Machine

open Sys2Proof

/-- One cycle of the DATUM clock: the counter advances, an armed alignment meets its target, symbols in flight meet the states of
their sheets, comparators are armed, the transmit paths run up to the present, a grant that was deferred is given, and adaptation follows its conditions. -/
def idleCycle : Prog := seqs [noteStates, datumCycle, alignCross, settleSymbols, armMissing, txRun none, coexWait, dpdRefresh, touchLeases, touchSlots, ditherCycle]

end Sys2Proof.Machine
end

