-- ==== Sys2Proof/Machine/Commands.lean ====
section
/-! DEFINITION. The mailbox commands of 18_mailbox_commands R422, each sent by its requester: on a host channel, in a management
frame of the in-band stream, or by firmware. Checks, staging, effect and response follow from the command's definition in the file
of its unit. -/

namespace Sys2Proof.Machine

open Sys2Proof

/-! ### System (class 0x01) -/

/-- SYS_CAP_READ (0x0101; R416). -/
def execSysCapRead (c : Call) (s : State) : Host.Outcome State Fault Refusal := done (submit 0x0101 c) s

/-- SYS_RESET (0x0102; R398). -/
def execSysReset (c : Call) (s : State) : Host.Outcome State Fault Refusal := done (submit 0x0102 c) s

/-- SYS_BOOT_STATUS (0x0103; R398). -/
def execSysBootStatus (c : Call) (s : State) : Host.Outcome State Fault Refusal := done (submit 0x0103 c) s

/-- FW_WRITE (0x0104; R390). -/
def execFwWrite (c : Call) (s : State) : Host.Outcome State Fault Refusal := done (submit 0x0104 c) s

/-- FW_ACTIVATE (0x0105; R390). -/
def execFwActivate (c : Call) (s : State) : Host.Outcome State Fault Refusal := done (submit 0x0105 c) s

/-- FW_CONFIRM (0x0106; R390). -/
def execFwConfirm (c : Call) (s : State) : Host.Outcome State Fault Refusal := done (submit 0x0106 c) s

/-- SYS_FUSE_PROGRAM (0x0107; R384). -/
def execSysFuseProgram (c : Call) (s : State) : Host.Outcome State Fault Refusal := done (submit 0x0107 c) s

/-- EVENT_READ (0x0108; R433). -/
def execEventRead (c : Call) (s : State) : Host.Outcome State Fault Refusal := done (submit 0x0108 c) s

/-- EVENT_MASK_SET (0x0109; R433). -/
def execEventMaskSet (c : Call) (s : State) : Host.Outcome State Fault Refusal := done (submit 0x0109 c) s

/-- MBX_INBAND_SET (0x0110; R414). -/
def execMbxInbandSet (c : Call) (s : State) : Host.Outcome State Fault Refusal := done (submit 0x0110 c) s

/-- MBX_STATUS (0x0111; R405). -/
def execMbxStatus (c : Call) (s : State) : Host.Outcome State Fault Refusal := done (submit 0x0111 c) s

/-- COMMIT_LOG_READ (0x0120; R40). -/
def execCommitLogRead (c : Call) (s : State) : Host.Outcome State Fault Refusal := done (submit 0x0120 c) s

/-! ### Power (class 0x02) -/

/-- PWR_DOMAIN_SET (0x0201; R361). -/
def execPwrDomainSet (c : Call) (s : State) : Host.Outcome State Fault Refusal := done (submit 0x0201 c) s

/-- PWR_STATUS (0x0202; R361). -/
def execPwrStatus (c : Call) (s : State) : Host.Outcome State Fault Refusal := done (submit 0x0202 c) s

/-- PWR_CASK_CLEAR (0x0203; R337). -/
def execPwrCaskClear (c : Call) (s : State) : Host.Outcome State Fault Refusal := done (submit 0x0203 c) s

/-- PWR_SAVELIST_SET (0x0204; R339). -/
def execPwrSavelistSet (c : Call) (s : State) : Host.Outcome State Fault Refusal := done (submit 0x0204 c) s

/-- PWR_SAVELIST_GET (0x0205; R339). -/
def execPwrSavelistGet (c : Call) (s : State) : Host.Outcome State Fault Refusal := done (submit 0x0205 c) s

/-- KILN_CONFIG (0x0210; R356). -/
def execKilnConfig (c : Call) (s : State) : Host.Outcome State Fault Refusal := done (submit 0x0210 c) s

/-- KILN_BUDGET_SET (0x0211; R348). -/
def execKilnBudgetSet (c : Call) (s : State) : Host.Outcome State Fault Refusal := done (submit 0x0211 c) s

/-- KILN_MODEL_SET (0x0212; R347). -/
def execKilnModelSet (c : Call) (s : State) : Host.Outcome State Fault Refusal := done (submit 0x0212 c) s

/-- KILN_STATUS (0x0213; R361). -/
def execKilnStatus (c : Call) (s : State) : Host.Outcome State Fault Refusal := done (submit 0x0213 c) s

/-! ### Datum (class 0x03) -/

/-- DATUM_STATUS (0x0301; R107). -/
def execDatumStatus (c : Call) (s : State) : Host.Outcome State Fault Refusal := done (submit 0x0301 c) s

/-- DATUM_CONFIG (0x0302; R111). -/
def execDatumConfig (c : Call) (s : State) : Host.Outcome State Fault Refusal := done (submit 0x0302 c) s

/-- DATUM_TIME_SET (0x0303; R111). -/
def execDatumTimeSet (c : Call) (s : State) : Host.Outcome State Fault Refusal := done (submit 0x0303 c) s

/-- DATUM_STEP (0x0304; R109). -/
def execDatumStep (c : Call) (s : State) : Host.Outcome State Fault Refusal := done (submit 0x0304 c) s

/-- DATUM_FREQ_SET (0x0305; R107). -/
def execDatumFreqSet (c : Call) (s : State) : Host.Outcome State Fault Refusal := done (submit 0x0305 c) s

/-- ECPRI_OWD (0x0306; R120). -/
def execEcpriOwd (c : Call) (s : State) : Host.Outcome State Fault Refusal := done (submit 0x0306 c) s

/-! ### Fronthaul (class 0x04) -/

/-- FH_LINK_SET (0x0401; R77). -/
def execFhLinkSet (c : Call) (s : State) : Host.Outcome State Fault Refusal := done (submit 0x0401 c) s

/-- FH_LINK_STATUS (0x0402; R75). -/
def execFhLinkStatus (c : Call) (s : State) : Host.Outcome State Fault Refusal := done (submit 0x0402 c) s

/-- FH_FLOW_SET (0x0403; R89). -/
def execFhFlowSet (c : Call) (s : State) : Host.Outcome State Fault Refusal := done (submit 0x0403 c) s

/-- FH_FLOW_GET (0x0404; R89). -/
def execFhFlowGet (c : Call) (s : State) : Host.Outcome State Fault Refusal := done (submit 0x0404 c) s

/-- FH_QUEUE_SET (0x0405; R89). -/
def execFhQueueSet (c : Call) (s : State) : Host.Outcome State Fault Refusal := done (submit 0x0405 c) s

/-- FH_STATS (0x0406; R94). -/
def execFhStats (c : Call) (s : State) : Host.Outcome State Fault Refusal := done (submit 0x0406 c) s

/-- FH_FLOW_STATS (0x0407; R94). -/
def execFhFlowStats (c : Call) (s : State) : Host.Outcome State Fault Refusal := done (submit 0x0407 c) s

/-! ### Graticule (class 0x05) -/

/-- GRAT_CONFIG (0x0501; R140). -/
def execGratConfig (c : Call) (s : State) : Host.Outcome State Fault Refusal := done (submit 0x0501 c) s

/-- GRAT_BEAM_WRITE (0x0503; R134). -/
def execGratBeamWrite (c : Call) (s : State) : Host.Outcome State Fault Refusal := done (submit 0x0503 c) s

/-- GRAT_BEAM_READ (0x0504; R134). -/
def execGratBeamRead (c : Call) (s : State) : Host.Outcome State Fault Refusal := done (submit 0x0504 c) s

/-- GRAT_WEIGHT_WRITE (0x0505; R137). -/
def execGratWeightWrite (c : Call) (s : State) : Host.Outcome State Fault Refusal := done (submit 0x0505 c) s

/-- GRAT_WEIGHT_READ (0x0506; R137). -/
def execGratWeightRead (c : Call) (s : State) : Host.Outcome State Fault Refusal := done (submit 0x0506 c) s

/-- GRAT_WEIGHT_SWAP (0x0507; R138). -/
def execGratWeightSwap (c : Call) (s : State) : Host.Outcome State Fault Refusal := done (submit 0x0507 c) s

/-- GRAT_STATUS (0x0508; R143). -/
def execGratStatus (c : Call) (s : State) : Host.Outcome State Fault Refusal := done (submit 0x0508 c) s

/-! ### Mash (class 0x06) -/

/-- MASH_CONFIG (0x0601; R157). -/
def execMashConfig (c : Call) (s : State) : Host.Outcome State Fault Refusal := done (submit 0x0601 c) s

/-- MASH_CTX_SET (0x0602; R146). -/
def execMashCtxSet (c : Call) (s : State) : Host.Outcome State Fault Refusal := done (submit 0x0602 c) s

/-- MASH_CTX_GET (0x0603; R146). -/
def execMashCtxGet (c : Call) (s : State) : Host.Outcome State Fault Refusal := done (submit 0x0603 c) s

/-- MASH_STATUS (0x0604; R150). -/
def execMashStatus (c : Call) (s : State) : Host.Outcome State Fault Refusal := done (submit 0x0604 c) s

/-- MASH_PORT_STATUS (0x0605; R154). -/
def execMashPortStatus (c : Call) (s : State) : Host.Outcome State Fault Refusal := done (submit 0x0605 c) s

/-- MASH_EST_READ (0x0606; R155). -/
def execMashEstRead (c : Call) (s : State) : Host.Outcome State Fault Refusal := done (submit 0x0606 c) s

/-! ### Transmit (class 0x07) -/

/-- TX_CARRIER_SET (0x0701; R164). -/
def execTxCarrierSet (c : Call) (s : State) : Host.Outcome State Fault Refusal := done (submit 0x0701 c) s

/-- TX_CARRIER_GET (0x0702; R164). -/
def execTxCarrierGet (c : Call) (s : State) : Host.Outcome State Fault Refusal := done (submit 0x0702 c) s

/-- TX_PATH_SET (0x0703; R174). -/
def execTxPathSet (c : Call) (s : State) : Host.Outcome State Fault Refusal := done (submit 0x0703 c) s

/-- TX_PATH_GET (0x0704; R174). -/
def execTxPathGet (c : Call) (s : State) : Host.Outcome State Fault Refusal := done (submit 0x0704 c) s

/-- TX_CFR_SET (0x0705; R171). -/
def execTxCfrSet (c : Call) (s : State) : Host.Outcome State Fault Refusal := done (submit 0x0705 c) s

/-- TX_TONE_SET (0x0706; R170). -/
def execTxToneSet (c : Call) (s : State) : Host.Outcome State Fault Refusal := done (submit 0x0706 c) s

/-- TX_SHEET_SET (0x0707; R175). -/
def execTxSheetSet (c : Call) (s : State) : Host.Outcome State Fault Refusal := done (submit 0x0707 c) s

/-- TX_STATUS (0x0708; R184). -/
def execTxStatus (c : Call) (s : State) : Host.Outcome State Fault Refusal := done (submit 0x0708 c) s

/-- TX_CFR_GET (0x0709; R172). -/
def execTxCfrGet (c : Call) (s : State) : Host.Outcome State Fault Refusal := done (submit 0x0709 c) s

/-! ### Receive (class 0x08) -/

/-- RX_CARRIER_SET (0x0801; R211). -/
def execRxCarrierSet (c : Call) (s : State) : Host.Outcome State Fault Refusal := done (submit 0x0801 c) s

/-- RX_CARRIER_GET (0x0802; R211). -/
def execRxCarrierGet (c : Call) (s : State) : Host.Outcome State Fault Refusal := done (submit 0x0802 c) s

/-- RX_PATH_SET (0x0803; R222). -/
def execRxPathSet (c : Call) (s : State) : Host.Outcome State Fault Refusal := done (submit 0x0803 c) s

/-- RX_PATH_GET (0x0804; R222). -/
def execRxPathGet (c : Call) (s : State) : Host.Outcome State Fault Refusal := done (submit 0x0804 c) s

/-- RX_IMAGE_SET (0x0805; R216). -/
def execRxImageSet (c : Call) (s : State) : Host.Outcome State Fault Refusal := done (submit 0x0805 c) s

/-- RX_IMAGE_GET (0x0806; R216). -/
def execRxImageGet (c : Call) (s : State) : Host.Outcome State Fault Refusal := done (submit 0x0806 c) s

/-- RX_STATUS (0x0807; R234). -/
def execRxStatus (c : Call) (s : State) : Host.Outcome State Fault Refusal := done (submit 0x0807 c) s

/-- RX_LEVEL (0x0808; R223). -/
def execRxLevel (c : Call) (s : State) : Host.Outcome State Fault Refusal := done (submit 0x0808 c) s

/-- RX_FO (0x0809; R233). -/
def execRxFo (c : Call) (s : State) : Host.Outcome State Fault Refusal := done (submit 0x0809 c) s

/-! ### Predistortion (class 0x09) -/

/-- DPD_CONFIG (0x0901; R210). -/
def execDpdConfig (c : Call) (s : State) : Host.Outcome State Fault Refusal := done (submit 0x0901 c) s

/-- DPD_PATH_SET (0x0902; R187). -/
def execDpdPathSet (c : Call) (s : State) : Host.Outcome State Fault Refusal := done (submit 0x0902 c) s

/-- DPD_PATH_GET (0x0903; R187). -/
def execDpdPathGet (c : Call) (s : State) : Host.Outcome State Fault Refusal := done (submit 0x0903 c) s

/-- DPD_COEF_WRITE (0x0904; R190). -/
def execDpdCoefWrite (c : Call) (s : State) : Host.Outcome State Fault Refusal := done (submit 0x0904 c) s

/-- DPD_COEF_READ (0x0905; R190). -/
def execDpdCoefRead (c : Call) (s : State) : Host.Outcome State Fault Refusal := done (submit 0x0905 c) s

/-- DPD_COEF_SWAP (0x0906; R210). -/
def execDpdCoefSwap (c : Call) (s : State) : Host.Outcome State Fault Refusal := done (submit 0x0906 c) s

/-- DPD_STATUS (0x0907; R210). -/
def execDpdStatus (c : Call) (s : State) : Host.Outcome State Fault Refusal := done (submit 0x0907 c) s

/-- DPD_PATH_STATUS (0x0908; R199). -/
def execDpdPathStatus (c : Call) (s : State) : Host.Outcome State Fault Refusal := done (submit 0x0908 c) s

/-- ORX_COUPLER_SET (0x0909; R194). -/
def execOrxCouplerSet (c : Call) (s : State) : Host.Outcome State Fault Refusal := done (submit 0x0909 c) s

/-- ORX_COUPLER_GET (0x090A; R194). -/
def execOrxCouplerGet (c : Call) (s : State) : Host.Outcome State Fault Refusal := done (submit 0x090A c) s

/-- ORX_STATUS (0x090B; R197). -/
def execOrxStatus (c : Call) (s : State) : Host.Outcome State Fault Refusal := done (submit 0x090B c) s

/-- ORX_SERVICE (0x090C; R209). -/
def execOrxService (c : Call) (s : State) : Host.Outcome State Fault Refusal := done (submit 0x090C c) s

/-! ### Survey (class 0x0A) -/

/-- SURVEY_CONFIG (0x0A01; R300). -/
def execSurveyConfig (c : Call) (s : State) : Host.Outcome State Fault Refusal := done (submit 0x0A01 c) s

/-- SURVEY_RUN (0x0A02; R285). -/
def execSurveyRun (c : Call) (s : State) : Host.Outcome State Fault Refusal := done (submit 0x0A02 c) s

/-- SURVEY_STATUS (0x0A03; R300). -/
def execSurveyStatus (c : Call) (s : State) : Host.Outcome State Fault Refusal := done (submit 0x0A03 c) s

/-- SURVEY_NET_SET (0x0A04; R277). -/
def execSurveyNetSet (c : Call) (s : State) : Host.Outcome State Fault Refusal := done (submit 0x0A04 c) s

/-- SURVEY_NET_GET (0x0A05; R277). -/
def execSurveyNetGet (c : Call) (s : State) : Host.Outcome State Fault Refusal := done (submit 0x0A05 c) s

/-- SURVEY_CORR_SET (0x0A06; R293). -/
def execSurveyCorrSet (c : Call) (s : State) : Host.Outcome State Fault Refusal := done (submit 0x0A06 c) s

/-- SURVEY_CORR_GET (0x0A07; R293). -/
def execSurveyCorrGet (c : Call) (s : State) : Host.Outcome State Fault Refusal := done (submit 0x0A07 c) s

/-- SURVEY_TEMP_SET (0x0A08; R296). -/
def execSurveyTempSet (c : Call) (s : State) : Host.Outcome State Fault Refusal := done (submit 0x0A08 c) s

/-- SURVEY_TEMP_GET (0x0A09; R296). -/
def execSurveyTempGet (c : Call) (s : State) : Host.Outcome State Fault Refusal := done (submit 0x0A09 c) s

/-! ### Radio states (class 0x0B) -/

/-- RS_TIMER_SET (0x0B01; R268). -/
def execRsTimerSet (c : Call) (s : State) : Host.Outcome State Fault Refusal := done (submit 0x0B01 c) s

/-- RS_PATTERN_SET (0x0B02; R271). -/
def execRsPatternSet (c : Call) (s : State) : Host.Outcome State Fault Refusal := done (submit 0x0B02 c) s

/-- RS_PATTERN_GET (0x0B03; R271). -/
def execRsPatternGet (c : Call) (s : State) : Host.Outcome State Fault Refusal := done (submit 0x0B03 c) s

/-- RS_STATUS (0x0B04; R275). -/
def execRsStatus (c : Call) (s : State) : Host.Outcome State Fault Refusal := done (submit 0x0B04 c) s

/-- LO_SET (0x0B05; R263). -/
def execLoSet (c : Call) (s : State) : Host.Outcome State Fault Refusal := done (submit 0x0B05 c) s

/-- LO_STATUS (0x0B06; R275). -/
def execLoStatus (c : Call) (s : State) : Host.Outcome State Fault Refusal := done (submit 0x0B06 c) s

/-- TDD_STROBE_SET (0x0B07; R272). -/
def execTddStrobeSet (c : Call) (s : State) : Host.Outcome State Fault Refusal := done (submit 0x0B07 c) s

/-- TDD_STROBE_GET (0x0B08; R272). -/
def execTddStrobeGet (c : Call) (s : State) : Host.Outcome State Fault Refusal := done (submit 0x0B08 c) s

/-- SHEET_SERVICE (0x0B09; R274). -/
def execSheetService (c : Call) (s : State) : Host.Outcome State Fault Refusal := done (submit 0x0B09 c) s

/-- CONV_CAL_SET (0x0B40; R246). -/
def execConvCalSet (c : Call) (s : State) : Host.Outcome State Fault Refusal := done (submit 0x0B40 c) s

/-- CONV_STATUS (0x0B41; R257). -/
def execConvStatus (c : Call) (s : State) : Host.Outcome State Fault Refusal := done (submit 0x0B41 c) s

/-- CONV_SLICE_READ (0x0B42; R257). -/
def execConvSliceRead (c : Call) (s : State) : Host.Outcome State Fault Refusal := done (submit 0x0B42 c) s

/-- CONV_SLICE_SERVICE (0x0B43; R257). -/
def execConvSliceService (c : Call) (s : State) : Host.Outcome State Fault Refusal := done (submit 0x0B43 c) s

/-! ### Front end (class 0x0C) -/

/-- BIAS_SET (0x0C01; R303). -/
def execBiasSet (c : Call) (s : State) : Host.Outcome State Fault Refusal := done (submit 0x0C01 c) s

/-- BIAS_GET (0x0C02; R303). -/
def execBiasGet (c : Call) (s : State) : Host.Outcome State Fault Refusal := done (submit 0x0C02 c) s

/-- BIAS_GAIN_SET (0x0C03; R307). -/
def execBiasGainSet (c : Call) (s : State) : Host.Outcome State Fault Refusal := done (submit 0x0C03 c) s

/-- BIAS_STATUS (0x0C04; R329). -/
def execBiasStatus (c : Call) (s : State) : Host.Outcome State Fault Refusal := done (submit 0x0C04 c) s

/-- BIAS_RESTORE (0x0C05; R311). -/
def execBiasRestore (c : Call) (s : State) : Host.Outcome State Fault Refusal := done (submit 0x0C05 c) s

/-- RFFE_MASTER_SET (0x0C10; R313). -/
def execRffeMasterSet (c : Call) (s : State) : Host.Outcome State Fault Refusal := done (submit 0x0C10 c) s

/-- RFFE_XFER (0x0C11; R316). -/
def execRffeXfer (c : Call) (s : State) : Host.Outcome State Fault Refusal := done (submit 0x0C11 c) s

/-- RFFE_SCHED (0x0C12; R317). -/
def execRffeSched (c : Call) (s : State) : Host.Outcome State Fault Refusal := done (submit 0x0C12 c) s

/-- RFFE_BIND_SET (0x0C13; R319). -/
def execRffeBindSet (c : Call) (s : State) : Host.Outcome State Fault Refusal := done (submit 0x0C13 c) s

/-- RFFE_STATUS (0x0C14; R329). -/
def execRffeStatus (c : Call) (s : State) : Host.Outcome State Fault Refusal := done (submit 0x0C14 c) s

/-- TUNER_SET (0x0C20; R320). -/
def execTunerSet (c : Call) (s : State) : Host.Outcome State Fault Refusal := done (submit 0x0C20 c) s

/-- TUNER_GET (0x0C21; R320). -/
def execTunerGet (c : Call) (s : State) : Host.Outcome State Fault Refusal := done (submit 0x0C21 c) s

/-- TUNER_STATUS (0x0C22; R323). -/
def execTunerStatus (c : Call) (s : State) : Host.Outcome State Fault Refusal := done (submit 0x0C22 c) s

/-- COEX_SET (0x0C30; R325). -/
def execCoexSet (c : Call) (s : State) : Host.Outcome State Fault Refusal := done (submit 0x0C30 c) s

/-- COEX_STATUS (0x0C31; R328). -/
def execCoexStatus (c : Call) (s : State) : Host.Outcome State Fault Refusal := done (submit 0x0C31 c) s

/-! ### Housekeeping (class 0x0D) -/

/-- HK_SEQ_SET (0x0D01; R251). -/
def execHkSeqSet (c : Call) (s : State) : Host.Outcome State Fault Refusal := done (submit 0x0D01 c) s

/-- HK_READ (0x0D02; R252). -/
def execHkRead (c : Call) (s : State) : Host.Outcome State Fault Refusal := done (submit 0x0D02 c) s

/-- HK_LIMIT_SET (0x0D03; R253). -/
def execHkLimitSet (c : Call) (s : State) : Host.Outcome State Fault Refusal := done (submit 0x0D03 c) s

/-! ### Memory (class 0x0E) -/

/-- MEM_CONFIG (0x0E01; R373). -/
def execMemConfig (c : Call) (s : State) : Host.Outcome State Fault Refusal := done (submit 0x0E01 c) s

/-- MEM_STATUS (0x0E02; R377). -/
def execMemStatus (c : Call) (s : State) : Host.Outcome State Fault Refusal := done (submit 0x0E02 c) s

/-- MEM_REMAP_READ (0x0E03; R374). -/
def execMemRemapRead (c : Call) (s : State) : Host.Outcome State Fault Refusal := done (submit 0x0E03 c) s

/-- MEM_INJECT (0x0E04; R377). -/
def execMemInject (c : Call) (s : State) : Host.Outcome State Fault Refusal := done (submit 0x0E04 c) s

/-- MEM_TMR_READ (0x0E05; R376). -/
def execMemTmrRead (c : Call) (s : State) : Host.Outcome State Fault Refusal := done (submit 0x0E05 c) s

/-- MEM_TMR_WRITE (0x0E06; R376). -/
def execMemTmrWrite (c : Call) (s : State) : Host.Outcome State Fault Refusal := done (submit 0x0E06 c) s

/-! ### Transactions and profiles (class 0x0F) -/

/-- TXN_BEGIN (0x0F01; R65). -/
def execTxnBegin (c : Call) (s : State) : Host.Outcome State Fault Refusal := done (submit 0x0F01 c) s

/-- TXN_STAGE_REG (0x0F02; R66). -/
def execTxnStageReg (c : Call) (s : State) : Host.Outcome State Fault Refusal := done (submit 0x0F02 c) s

/-- TXN_COMMIT (0x0F03; R68). -/
def execTxnCommit (c : Call) (s : State) : Host.Outcome State Fault Refusal := done (submit 0x0F03 c) s

/-- TXN_ABORT (0x0F04; R70). -/
def execTxnAbort (c : Call) (s : State) : Host.Outcome State Fault Refusal := done (submit 0x0F04 c) s

/-- TXN_STATUS (0x0F05; R65). -/
def execTxnStatus (c : Call) (s : State) : Host.Outcome State Fault Refusal := done (submit 0x0F05 c) s

/-- OWNER_SET (0x0F06; R72). -/
def execOwnerSet (c : Call) (s : State) : Host.Outcome State Fault Refusal := done (submit 0x0F06 c) s

/-- SECTION_READ (0x0F07; R55). -/
def execSectionRead (c : Call) (s : State) : Host.Outcome State Fault Refusal := done (submit 0x0F07 c) s

/-- SECTION_STATS (0x0F08; R57). -/
def execSectionStats (c : Call) (s : State) : Host.Outcome State Fault Refusal := done (submit 0x0F08 c) s

/-- PROFILE_WRITE (0x0F10; R392). -/
def execProfileWrite (c : Call) (s : State) : Host.Outcome State Fault Refusal := done (submit 0x0F10 c) s

/-- PROFILE_SELECT (0x0F11; R392). -/
def execProfileSelect (c : Call) (s : State) : Host.Outcome State Fault Refusal := done (submit 0x0F11 c) s

/-- PROFILE_STATUS (0x0F12; R392). -/
def execProfileStatus (c : Call) (s : State) : Host.Outcome State Fault Refusal := done (submit 0x0F12 c) s

/-! ### Capture and test (class 0x10) -/

/-- CAPTURE_SET (0x1001; R417). -/
def execCaptureSet (c : Call) (s : State) : Host.Outcome State Fault Refusal := done (submit 0x1001 c) s

/-- CAPTURE_STATUS (0x1002; R418). -/
def execCaptureStatus (c : Call) (s : State) : Host.Outcome State Fault Refusal := done (submit 0x1002 c) s

/-- CAPTURE_READ (0x1003; R419). -/
def execCaptureRead (c : Call) (s : State) : Host.Outcome State Fault Refusal := done (submit 0x1003 c) s

/-- CAPTURE_RELEASE (0x1004; R419). -/
def execCaptureRelease (c : Call) (s : State) : Host.Outcome State Fault Refusal := done (submit 0x1004 c) s

/-- TESTGEN_SET (0x1010; R420). -/
def execTestgenSet (c : Call) (s : State) : Host.Outcome State Fault Refusal := done (submit 0x1010 c) s

/-- TESTGEN_GET (0x1011; R420). -/
def execTestgenGet (c : Call) (s : State) : Host.Outcome State Fault Refusal := done (submit 0x1011 c) s

/-- ANALYSE (0x1012; R421). -/
def execAnalyse (c : Call) (s : State) : Host.Outcome State Fault Refusal := done (submit 0x1012 c) s

end Sys2Proof.Machine
end

