-- ==== Sys2Proof/Machine/Dispatch.lean ====
section
/-! DEFINITION. The command's effect by constructor: one arm per row of spec/opcode_table.json, each a direct call of
its own meaning. -/

namespace Sys2Proof.Machine

open Sys2Proof

def exec (i : Instr) (s : State) : Host.Outcome State Fault Refusal :=
  match i with
  | .powerUp => Sys2Proof.Machine.execPowerUp s
  | .aoUndervoltageLockout => Sys2Proof.Machine.execAoUndervoltageLockout s
  | .aoLogicRelease => Sys2Proof.Machine.execAoLogicRelease s
  | .powerGoodHeld rail => Sys2Proof.Machine.execPowerGoodHeld rail s
  | .railFault rail => Sys2Proof.Machine.execRailFault rail s
  | .railRestartTimeout => Sys2Proof.Machine.execRailRestartTimeout s
  | .pwrCtrlRestart => Sys2Proof.Machine.execPwrCtrlRestart s
  | .pwrCtrlWake => Sys2Proof.Machine.execPwrCtrlWake s
  | .reset cause => Sys2Proof.Machine.execReset cause s
  | .resetNAssert lowNs => Sys2Proof.Machine.execResetNAssert lowNs s
  | .resetNRelease prof => Sys2Proof.Machine.execResetNRelease prof s
  | .watchdogExpiry => Sys2Proof.Machine.execWatchdogExpiry s
  | .lockstepMismatch => Sys2Proof.Machine.execLockstepMismatch s
  | .commandResetTimeout => Sys2Proof.Machine.execCommandResetTimeout s
  | .testEnChange high => Sys2Proof.Machine.execTestEnChange high s
  | .bootRomStart => Sys2Proof.Machine.execBootRomStart s
  | .imageHeaderCheck flashOk => Sys2Proof.Machine.execImageHeaderCheck flashOk s
  | .imagePayloadLoaded => Sys2Proof.Machine.execImagePayloadLoaded s
  | .signatureVerified => Sys2Proof.Machine.execSignatureVerified s
  | .firmwareStart => Sys2Proof.Machine.execFirmwareStart s
  | .romSafeProfile => Sys2Proof.Machine.execRomSafeProfile s
  | .trialTimeout => Sys2Proof.Machine.execTrialTimeout s
  | .crashCountClear => Sys2Proof.Machine.execCrashCountClear s
  | .profileApply => Sys2Proof.Machine.execProfileApply s
  | .profileEntry => Sys2Proof.Machine.execProfileEntry s
  | .profileWaitExpiry => Sys2Proof.Machine.execProfileWaitExpiry s
  | .profileRefTimeout => Sys2Proof.Machine.execProfileRefTimeout s
  | .hostPortRead addr words => Sys2Proof.Machine.execHostPortRead addr words s
  | .portStatus => Sys2Proof.Machine.execPortStatus s
  | .shadowLoRead cpu addr => Sys2Proof.Machine.execShadowLoRead cpu addr s
  | .shadowHiRead cpu addr => Sys2Proof.Machine.execShadowHiRead cpu addr s
  | .registerWrite cpu addr value cut => Sys2Proof.Machine.execRegisterWrite cpu addr value cut s
  | .directWriteCaptureDrain => Sys2Proof.Machine.execDirectWriteCaptureDrain s
  | .doorbellRing mask => Sys2Proof.Machine.execDoorbellRing mask s
  | .doneAcknowledge mask => Sys2Proof.Machine.execDoneAcknowledge mask s
  | .faultStatusClear mask => Sys2Proof.Machine.execFaultStatusClear mask s
  | .faultBitSet source => Sys2Proof.Machine.execFaultBitSet source s
  | .pCommandComplete index ok data => Sys2Proof.Machine.execPCommandComplete index ok data s
  | .inbandCommand => Sys2Proof.Machine.execInbandCommand s
  | .eventRaise code unit data => Sys2Proof.Machine.execEventRaise code unit data s
  | .sysCapRead c => Sys2Proof.Machine.execSysCapRead c s
  | .sysReset c => Sys2Proof.Machine.execSysReset c s
  | .sysBootStatus c => Sys2Proof.Machine.execSysBootStatus c s
  | .fwWrite c => Sys2Proof.Machine.execFwWrite c s
  | .fwActivate c => Sys2Proof.Machine.execFwActivate c s
  | .fwConfirm c => Sys2Proof.Machine.execFwConfirm c s
  | .sysFuseProgram c => Sys2Proof.Machine.execSysFuseProgram c s
  | .eventRead c => Sys2Proof.Machine.execEventRead c s
  | .eventMaskSet c => Sys2Proof.Machine.execEventMaskSet c s
  | .mbxInbandSet c => Sys2Proof.Machine.execMbxInbandSet c s
  | .mbxStatus c => Sys2Proof.Machine.execMbxStatus c s
  | .commitLogRead c => Sys2Proof.Machine.execCommitLogRead c s
  | .pwrDomainSet c => Sys2Proof.Machine.execPwrDomainSet c s
  | .pwrStatus c => Sys2Proof.Machine.execPwrStatus c s
  | .pwrCaskClear c => Sys2Proof.Machine.execPwrCaskClear c s
  | .pwrSavelistSet c => Sys2Proof.Machine.execPwrSavelistSet c s
  | .pwrSavelistGet c => Sys2Proof.Machine.execPwrSavelistGet c s
  | .kilnConfig c => Sys2Proof.Machine.execKilnConfig c s
  | .kilnBudgetSet c => Sys2Proof.Machine.execKilnBudgetSet c s
  | .kilnModelSet c => Sys2Proof.Machine.execKilnModelSet c s
  | .kilnStatus c => Sys2Proof.Machine.execKilnStatus c s
  | .drainComplete dom => Sys2Proof.Machine.execDrainComplete dom s
  | .drainTimeoutExpiry dom left => Sys2Proof.Machine.execDrainTimeoutExpiry dom left s
  | .powerSwitchClose dom => Sys2Proof.Machine.execPowerSwitchClose dom s
  | .memoryInitDone dom => Sys2Proof.Machine.execMemoryInitDone dom s
  | .wakeScrubDone dom bad => Sys2Proof.Machine.execWakeScrubDone dom bad s
  | .savelistRestore dom bad => Sys2Proof.Machine.execSavelistRestore dom bad s
  | .domainOn dom => Sys2Proof.Machine.execDomainOn dom s
  | .domainOff dom => Sys2Proof.Machine.execDomainOff dom s
  | .wakeAfterExpiry => Sys2Proof.Machine.execWakeAfterExpiry s
  | .fioStart => Sys2Proof.Machine.execFioStart s
  | .kilnEvaluate => Sys2Proof.Machine.execKilnEvaluate s
  | .datumStatus c => Sys2Proof.Machine.execDatumStatus c s
  | .datumConfig c => Sys2Proof.Machine.execDatumConfig c s
  | .datumTimeSet c => Sys2Proof.Machine.execDatumTimeSet c s
  | .datumStep c => Sys2Proof.Machine.execDatumStep c s
  | .datumFreqSet c => Sys2Proof.Machine.execDatumFreqSet c s
  | .ecpriOwd c => Sys2Proof.Machine.execEcpriOwd c s
  | .datumCtrlStep => Sys2Proof.Machine.execDatumCtrlStep s
  | .incrementWrite value => Sys2Proof.Machine.execIncrementWrite value s
  | .todReferenceWrite value => Sys2Proof.Machine.execTodReferenceWrite value s
  | .todRefresh => Sys2Proof.Machine.execTodRefresh s
  | .ptpMessage => Sys2Proof.Machine.execPtpMessage s
  | .delayReqSend => Sys2Proof.Machine.execDelayReqSend s
  | .announceTimeout => Sys2Proof.Machine.execAnnounceTimeout s
  | .datumHoldoverExpired => Sys2Proof.Machine.execDatumHoldoverExpired s
  | .ptpTransmit capture fecPos => Sys2Proof.Machine.execPtpTransmit capture fecPos s
  | .ppsOutEdge => Sys2Proof.Machine.execPpsOutEdge s
  | .ppsOutFall => Sys2Proof.Machine.execPpsOutFall s
  | .ppsInEdge falling => Sys2Proof.Machine.execPpsInEdge falling s
  | .ppsInTimeout => Sys2Proof.Machine.execPpsInTimeout s
  | .ecpriOwdResponse => Sys2Proof.Machine.execEcpriOwdResponse s
  | .clockWindow good => Sys2Proof.Machine.execClockWindow good s
  | .cpuClockSwitch => Sys2Proof.Machine.execCpuClockSwitch s
  | .armAlignment => Sys2Proof.Machine.execArmAlignment s
  | .dasync dist => Sys2Proof.Machine.execDasync dist s
  | .elasticBufferReset => Sys2Proof.Machine.execElasticBufferReset s
  | .d2dCrcFail link group => Sys2Proof.Machine.execD2dCrcFail link group s
  | .d2dLaneTestDone link lane => Sys2Proof.Machine.execD2dLaneTestDone link lane s
  | .commitBoundary b => Sys2Proof.Machine.execCommitBoundary b s
  | .txnShadowLoad id => Sys2Proof.Machine.execTxnShadowLoad id s
  | .txnExpire id => Sys2Proof.Machine.execTxnExpire id s
  | .txnBegin c => Sys2Proof.Machine.execTxnBegin c s
  | .txnStageReg c => Sys2Proof.Machine.execTxnStageReg c s
  | .txnCommit c => Sys2Proof.Machine.execTxnCommit c s
  | .txnAbort c => Sys2Proof.Machine.execTxnAbort c s
  | .txnStatus c => Sys2Proof.Machine.execTxnStatus c s
  | .ownerSet c => Sys2Proof.Machine.execOwnerSet c s
  | .sectionRead c => Sys2Proof.Machine.execSectionRead c s
  | .sectionStats c => Sys2Proof.Machine.execSectionStats c s
  | .profileWrite c => Sys2Proof.Machine.execProfileWrite c s
  | .profileSelect c => Sys2Proof.Machine.execProfileSelect c s
  | .profileStatus c => Sys2Proof.Machine.execProfileStatus c s
  | .laneSignalChange signal cdr am => Sys2Proof.Machine.execLaneSignalChange signal cdr am s
  | .linkUp => Sys2Proof.Machine.execLinkUp s
  | .linkDown => Sys2Proof.Machine.execLinkDown s
  | .laneFailed lane => Sys2Proof.Machine.execLaneFailed lane s
  | .fecWindowEnd lane corrected received uncorr => Sys2Proof.Machine.execFecWindowEnd lane corrected received uncorr s
  | .fallbackTimeout => Sys2Proof.Machine.execFallbackTimeout s
  | .fhLinkSet c => Sys2Proof.Machine.execFhLinkSet c s
  | .fhLinkStatus c => Sys2Proof.Machine.execFhLinkStatus c s
  | .fhFlowSet c => Sys2Proof.Machine.execFhFlowSet c s
  | .fhFlowGet c => Sys2Proof.Machine.execFhFlowGet c s
  | .fhQueueSet c => Sys2Proof.Machine.execFhQueueSet c s
  | .fhStats c => Sys2Proof.Machine.execFhStats c s
  | .fhFlowStats c => Sys2Proof.Machine.execFhFlowStats c s
  | .frameReceived fcsOk frame capture deskew fecPos => Sys2Proof.Machine.execFrameReceived fcsOk frame capture deskew fecPos s
  | .pageClear => Sys2Proof.Machine.execPageClear s
  | .pageClearComplete page => Sys2Proof.Machine.execPageClearComplete page s
  | .airSymbolDl carrier => Sys2Proof.Machine.execAirSymbolDl carrier s
  | .airSymbolUl carrier => Sys2Proof.Machine.execAirSymbolUl carrier s
  | .uplaneMessageBuild carrier codes => Sys2Proof.Machine.execUplaneMessageBuild carrier codes s
  | .egressLaunch queue => Sys2Proof.Machine.execEgressLaunch queue s
  | .macFrameStart => Sys2Proof.Machine.execMacFrameStart s
  | .gratConfig c => Sys2Proof.Machine.execGratConfig c s
  | .gratBeamWrite c => Sys2Proof.Machine.execGratBeamWrite c s
  | .gratBeamRead c => Sys2Proof.Machine.execGratBeamRead c s
  | .gratWeightWrite c => Sys2Proof.Machine.execGratWeightWrite c s
  | .gratWeightRead c => Sys2Proof.Machine.execGratWeightRead c s
  | .gratWeightSwap c => Sys2Proof.Machine.execGratWeightSwap c s
  | .gratStatus c => Sys2Proof.Machine.execGratStatus c s
  | .ulBankRelease => Sys2Proof.Machine.execUlBankRelease s
  | .mashConfig c => Sys2Proof.Machine.execMashConfig c s
  | .mashCtxSet c => Sys2Proof.Machine.execMashCtxSet c s
  | .mashCtxGet c => Sys2Proof.Machine.execMashCtxGet c s
  | .mashStatus c => Sys2Proof.Machine.execMashStatus c s
  | .mashPortStatus c => Sys2Proof.Machine.execMashPortStatus c s
  | .mashEstRead c => Sys2Proof.Machine.execMashEstRead c s
  | .srsOccasionEnd => Sys2Proof.Machine.execSrsOccasionEnd s
  | .mashCut => Sys2Proof.Machine.execMashCut s
  | .mashPrereq => Sys2Proof.Machine.execMashPrereq s
  | .mashSetReady => Sys2Proof.Machine.execMashSetReady s
  | .txCarrierSet c => Sys2Proof.Machine.execTxCarrierSet c s
  | .txCarrierGet c => Sys2Proof.Machine.execTxCarrierGet c s
  | .txPathSet c => Sys2Proof.Machine.execTxPathSet c s
  | .txPathGet c => Sys2Proof.Machine.execTxPathGet c s
  | .txCfrSet c => Sys2Proof.Machine.execTxCfrSet c s
  | .txToneSet c => Sys2Proof.Machine.execTxToneSet c s
  | .txSheetSet c => Sys2Proof.Machine.execTxSheetSet c s
  | .txStatus c => Sys2Proof.Machine.execTxStatus c s
  | .txCfrGet c => Sys2Proof.Machine.execTxCfrGet c s
  | .txmuteNFall => Sys2Proof.Machine.execTxmuteNFall s
  | .txmuteNRise => Sys2Proof.Machine.execTxmuteNRise s
  | .txmuteRelease => Sys2Proof.Machine.execTxmuteRelease s
  | .holdEnd sheet => Sys2Proof.Machine.execHoldEnd sheet s
  | .sheetReady sheet => Sys2Proof.Machine.execSheetReady sheet s
  | .dpdConfig c => Sys2Proof.Machine.execDpdConfig c s
  | .dpdPathSet c => Sys2Proof.Machine.execDpdPathSet c s
  | .dpdPathGet c => Sys2Proof.Machine.execDpdPathGet c s
  | .dpdCoefWrite c => Sys2Proof.Machine.execDpdCoefWrite c s
  | .dpdCoefRead c => Sys2Proof.Machine.execDpdCoefRead c s
  | .dpdCoefSwap c => Sys2Proof.Machine.execDpdCoefSwap c s
  | .dpdStatus c => Sys2Proof.Machine.execDpdStatus c s
  | .dpdPathStatus c => Sys2Proof.Machine.execDpdPathStatus c s
  | .orxCouplerSet c => Sys2Proof.Machine.execOrxCouplerSet c s
  | .orxCouplerGet c => Sys2Proof.Machine.execOrxCouplerGet c s
  | .orxStatus c => Sys2Proof.Machine.execOrxStatus c s
  | .orxService c => Sys2Proof.Machine.execOrxService c s
  | .leaseStart orx => Sys2Proof.Machine.execLeaseStart orx s
  | .dpdCaptureStart orx => Sys2Proof.Machine.execDpdCaptureStart orx s
  | .dpdCaptureComplete orx path start samples ci cq => Sys2Proof.Machine.execDpdCaptureComplete orx path start samples ci cq s
  | .leaseEnd orx => Sys2Proof.Machine.execLeaseEnd orx s
  | .dpdSolveDone path => Sys2Proof.Machine.execDpdSolveDone path s
  | .dpdStarved path => Sys2Proof.Machine.execDpdStarved path s
  | .orxFailed orx => Sys2Proof.Machine.execOrxFailed orx s
  | .dpdCoefEcc path => Sys2Proof.Machine.execDpdCoefEcc path s
  | .rxCarrierSet c => Sys2Proof.Machine.execRxCarrierSet c s
  | .rxCarrierGet c => Sys2Proof.Machine.execRxCarrierGet c s
  | .rxPathSet c => Sys2Proof.Machine.execRxPathSet c s
  | .rxPathGet c => Sys2Proof.Machine.execRxPathGet c s
  | .rxImageSet c => Sys2Proof.Machine.execRxImageSet c s
  | .rxImageGet c => Sys2Proof.Machine.execRxImageGet c s
  | .rxStatus c => Sys2Proof.Machine.execRxStatus c s
  | .rxLevel c => Sys2Proof.Machine.execRxLevel c s
  | .rxFo c => Sys2Proof.Machine.execRxFo c s
  | .halfSubframeLevel codes => Sys2Proof.Machine.execHalfSubframeLevel codes s
  | .foSlotEnd carrier => Sys2Proof.Machine.execFoSlotEnd carrier s
  | .prachOccasionDone flow id k slot startSym rep codes => Sys2Proof.Machine.execPrachOccasionDone flow id k slot startSym rep codes s
  | .convCalSet c => Sys2Proof.Machine.execConvCalSet c s
  | .convStatus c => Sys2Proof.Machine.execConvStatus c s
  | .convSliceRead c => Sys2Proof.Machine.execConvSliceRead c s
  | .convSliceService c => Sys2Proof.Machine.execConvSliceService c s
  | .converterInitDone conv a b => Sys2Proof.Machine.execConverterInitDone conv a b s
  | .spareVisitStart conv => Sys2Proof.Machine.execSpareVisitStart conv s
  | .agreementTest conv aOffset bOffset aGain bGain => Sys2Proof.Machine.execAgreementTest conv aOffset bOffset aGain bGain s
  | .handover conv mean meanSquare => Sys2Proof.Machine.execHandover conv mean meanSquare s
  | .cellVisit conv a b => Sys2Proof.Machine.execCellVisit conv a b s
  | .estimationWindowEnd conv pos samples => Sys2Proof.Machine.execEstimationWindowEnd conv pos samples s
  | .hkSeqSet c => Sys2Proof.Machine.execHkSeqSet c s
  | .hkRead c => Sys2Proof.Machine.execHkRead c s
  | .hkLimitSet c => Sys2Proof.Machine.execHkLimitSet c s
  | .hkConversion conversions => Sys2Proof.Machine.execHkConversion conversions s
  | .sheetTempUpdate sheet t0 t1 => Sys2Proof.Machine.execSheetTempUpdate sheet t0 t1 s
  | .rsTimerSet c => Sys2Proof.Machine.execRsTimerSet c s
  | .rsPatternSet c => Sys2Proof.Machine.execRsPatternSet c s
  | .rsPatternGet c => Sys2Proof.Machine.execRsPatternGet c s
  | .rsStatus c => Sys2Proof.Machine.execRsStatus c s
  | .loSet c => Sys2Proof.Machine.execLoSet c s
  | .loStatus c => Sys2Proof.Machine.execLoStatus c s
  | .tddStrobeSet c => Sys2Proof.Machine.execTddStrobeSet c s
  | .tddStrobeGet c => Sys2Proof.Machine.execTddStrobeGet c s
  | .sheetService c => Sys2Proof.Machine.execSheetService c s
  | .patternArm sheet => Sys2Proof.Machine.execPatternArm sheet s
  | .rsTimerFire sheet timer => Sys2Proof.Machine.execRsTimerFire sheet timer s
  | .rsTransitionEnd sheet => Sys2Proof.Machine.execRsTransitionEnd sheet s
  | .strobeEdge sheet strobe => Sys2Proof.Machine.execStrobeEdge sheet strobe s
  | .synthCalStart sheet => Sys2Proof.Machine.execSynthCalStart sheet s
  | .synthLock sheet txBand rxBand => Sys2Proof.Machine.execSynthLock sheet txBand rxBand s
  | .synthCalTimeout sheet => Sys2Proof.Machine.execSynthCalTimeout sheet s
  | .loUnlock sheet which => Sys2Proof.Machine.execLoUnlock sheet which s
  | .recalAfterUnlock sheet => Sys2Proof.Machine.execRecalAfterUnlock sheet s
  | .surveyConfig c => Sys2Proof.Machine.execSurveyConfig c s
  | .surveyRun c => Sys2Proof.Machine.execSurveyRun c s
  | .surveyStatus c => Sys2Proof.Machine.execSurveyStatus c s
  | .surveyNetSet c => Sys2Proof.Machine.execSurveyNetSet c s
  | .surveyNetGet c => Sys2Proof.Machine.execSurveyNetGet c s
  | .surveyCorrSet c => Sys2Proof.Machine.execSurveyCorrSet c s
  | .surveyCorrGet c => Sys2Proof.Machine.execSurveyCorrGet c s
  | .surveyTempSet c => Sys2Proof.Machine.execSurveyTempSet c s
  | .surveyTempGet c => Sys2Proof.Machine.execSurveyTempGet c s
  | .quickSurveyStart sheets => Sys2Proof.Machine.execQuickSurveyStart sheets s
  | .surveySolveDone campaign bench paths orx => Sys2Proof.Machine.execSurveySolveDone campaign bench paths orx s
  | .quickSurveyDone campaign => Sys2Proof.Machine.execQuickSurveyDone campaign s
  | .qsRetry sheet => Sys2Proof.Machine.execQsRetry sheet s
  | .fullCampaignCommit campaign => Sys2Proof.Machine.execFullCampaignCommit campaign s
  | .trackCapture orx blocks ci cq => Sys2Proof.Machine.execTrackCapture orx blocks ci cq s
  | .trackEvaluate sheet dir => Sys2Proof.Machine.execTrackEvaluate sheet dir s
  | .tempCompare => Sys2Proof.Machine.execTempCompare s
  | .biasSet c => Sys2Proof.Machine.execBiasSet c s
  | .biasGet c => Sys2Proof.Machine.execBiasGet c s
  | .biasGainSet c => Sys2Proof.Machine.execBiasGainSet c s
  | .biasStatus c => Sys2Proof.Machine.execBiasStatus c s
  | .biasRestore c => Sys2Proof.Machine.execBiasRestore c s
  | .biasclrNAccept lowNs => Sys2Proof.Machine.execBiasclrNAccept lowNs s
  | .biasClearPhaseEnd dac => Sys2Proof.Machine.execBiasClearPhaseEnd dac s
  | .biasSettled dac => Sys2Proof.Machine.execBiasSettled dac s
  | .spanSwitch dac => Sys2Proof.Machine.execSpanSwitch dac s
  | .biasSuperviseSample dac excess far => Sys2Proof.Machine.execBiasSuperviseSample dac excess far s
  | .rffeMasterSet c => Sys2Proof.Machine.execRffeMasterSet c s
  | .rffeXfer c => Sys2Proof.Machine.execRffeXfer c s
  | .rffeSched c => Sys2Proof.Machine.execRffeSched c s
  | .rffeBindSet c => Sys2Proof.Machine.execRffeBindSet c s
  | .rffeStatus c => Sys2Proof.Machine.execRffeStatus c s
  | .rffeMessageStart master => Sys2Proof.Machine.execRffeMessageStart master s
  | .rffeMessageDone master parityGood data => Sys2Proof.Machine.execRffeMessageDone master parityGood data s
  | .tunerSet c => Sys2Proof.Machine.execTunerSet c s
  | .tunerGet c => Sys2Proof.Machine.execTunerGet c s
  | .tunerStatus c => Sys2Proof.Machine.execTunerStatus c s
  | .mismatchInterval path => Sys2Proof.Machine.execMismatchInterval path s
  | .mismatchResult path orx forward reverse => Sys2Proof.Machine.execMismatchResult path orx forward reverse s
  | .coexSet c => Sys2Proof.Machine.execCoexSet c s
  | .coexStatus c => Sys2Proof.Machine.execCoexStatus c s
  | .coexRoleTakeEffect => Sys2Proof.Machine.execCoexRoleTakeEffect s
  | .coexReqRaise => Sys2Proof.Machine.execCoexReqRaise s
  | .coexReqDrop => Sys2Proof.Machine.execCoexReqDrop s
  | .coexGntSample => Sys2Proof.Machine.execCoexGntSample s
  | .coexGntChange level => Sys2Proof.Machine.execCoexGntChange level s
  | .coexReqChange req pri => Sys2Proof.Machine.execCoexReqChange req pri s
  | .memConfig c => Sys2Proof.Machine.execMemConfig c s
  | .memStatus c => Sys2Proof.Machine.execMemStatus c s
  | .memRemapRead c => Sys2Proof.Machine.execMemRemapRead c s
  | .memInject c => Sys2Proof.Machine.execMemInject c s
  | .memTmrRead c => Sys2Proof.Machine.execMemTmrRead c s
  | .memTmrWrite c => Sys2Proof.Machine.execMemTmrWrite c s
  | .spargeVisit code => Sys2Proof.Machine.execSpargeVisit code s
  | .prioritySpargeVisit code => Sys2Proof.Machine.execPrioritySpargeVisit code s
  | .spargePassEnd code => Sys2Proof.Machine.execSpargePassEnd code s
  | .remapCopyDone code spare => Sys2Proof.Machine.execRemapCopyDone code spare s
  | .memUncorr code off requester => Sys2Proof.Machine.execMemUncorr code off requester s
  | .captureSet c => Sys2Proof.Machine.execCaptureSet c s
  | .captureStatus c => Sys2Proof.Machine.execCaptureStatus c s
  | .captureRead c => Sys2Proof.Machine.execCaptureRead c s
  | .captureRelease c => Sys2Proof.Machine.execCaptureRelease c s
  | .testgenSet c => Sys2Proof.Machine.execTestgenSet c s
  | .testgenGet c => Sys2Proof.Machine.execTestgenGet c s
  | .analyse c => Sys2Proof.Machine.execAnalyse c s
  | .captureStart slot firstNs => Sys2Proof.Machine.execCaptureStart slot firstNs s
  | .captureDone slot samples data => Sys2Proof.Machine.execCaptureDone slot samples data s
  | .captureAbort slot => Sys2Proof.Machine.execCaptureAbort slot s
  | .captureLeaseTimeout slot => Sys2Proof.Machine.execCaptureLeaseTimeout slot s
  | .dcAcqEnd path => Sys2Proof.Machine.execDcAcqEnd path s
  | .tapTckEdge tms tdi trstN inputs => Sys2Proof.Machine.execTapTckEdge tms tdi trstN inputs s

end Sys2Proof.Machine
end

