-- ==== Sys2Proof/Safety.lean ====
section
/-! DEFINITION. What a safe run of the block is, and the words claims about it use: the groups of the state, what a command leaves
unchanged, and that a command answers. -/

namespace Sys2Proof

open Sys2Proof.Machine

/-- The block never stops: a step from the state answers a next state. -/
def safeStep (s : State) : Bool :=
  match step s with
  | .next _ => true
  | _ => false

/-- The groups of the state, the queue apart. -/
inductive Grp where
  | cfg | regs | cnts | tots | free | tick | mem | ecc | host | mbx | log | evt | txn | clk | datum | pwr
  | kiln | boot | fuse | cap | sect | fh | grat | mash | tx | dpd | rx | conv | hk | radio | survey | bias
  | rffe | coex | tap
  deriving DecidableEq, Repr

/-- Two states agree on a group. -/
def Same (g : Grp) (a b : State) : Prop := match g with
  | .cfg => a.cfg = b.cfg
  | .regs => a.regs = b.regs
  | .cnts => a.cnts = b.cnts
  | .tots => a.tots = b.tots
  | .free => a.free = b.free
  | .tick => a.tick = b.tick
  | .mem => a.mem = b.mem
  | .ecc => a.ecc = b.ecc
  | .host => a.host = b.host
  | .mbx => a.mbx = b.mbx
  | .log => a.log = b.log
  | .evt => a.evt = b.evt
  | .txn => a.txn = b.txn
  | .clk => a.clk = b.clk
  | .datum => a.datum = b.datum
  | .pwr => a.pwr = b.pwr
  | .kiln => a.kiln = b.kiln
  | .boot => a.boot = b.boot
  | .fuse => a.fuse = b.fuse
  | .cap => a.cap = b.cap
  | .sect => a.sect = b.sect
  | .fh => a.fh = b.fh
  | .grat => a.grat = b.grat
  | .mash => a.mash = b.mash
  | .tx => a.tx = b.tx
  | .dpd => a.dpd = b.dpd
  | .rx => a.rx = b.rx
  | .conv => a.conv = b.conv
  | .hk => a.hk = b.hk
  | .radio => a.radio = b.radio
  | .survey => a.survey = b.survey
  | .bias => a.bias = b.bias
  | .rffe => a.rffe = b.rffe
  | .coex => a.coex = b.coex
  | .tap => a.tap = b.tap

/-- From `s` to `t` nothing changed but the groups of the list: every other group, and the queue, is as it was. -/
def KeepsBut (l : List Grp) (s t : State) : Prop := t.pending = s.pending ∧ ∀ g, g ∉ l → Same g t s

/-- The command answers a next state, and that state satisfies `P`. -/
def Answers (i : Instr) (s : State) (P : State → Prop) : Prop := ∃ t, exec i s = .next t ∧ P t

/-- The records of a ring log are numbered without a gap, the last one before `next`. -/
def Numbered {α : Type} (seq : α → Nat) (next : Nat) (l : List α) : Prop :=
  ∀ i r, l[i]? = some r → (seq r + l.length) % 2 ^ 32 = (next + i) % 2 ^ 32

/-- What holds in every state that a run reaches: byte memories in canonical form, counters of 32 bits, totals of 64, and the commit
and event logs within their rings, numbered without a gap. -/
def Inv (s : State) : Prop :=
  Memory.wf s.mem = true ∧ (∀ p ∈ s.cnts, p.2 ≤ 0xFFFFFFFF) ∧ (∀ p ∈ s.tots, p.2 < 2 ^ 64) ∧
    s.log.recs.length ≤ 4096 ∧ s.log.next < 2 ^ 32 ∧ Numbered LogRec.seq s.log.next s.log.recs ∧
    s.evt.recs.length ≤ 2048 ∧ s.evt.next < 2 ^ 32 ∧ Numbered EvtRec.seq s.evt.next s.evt.recs

/-- Every group of the state. -/
def allGrps : List Grp := [.cfg, .regs, .cnts, .tots, .free, .tick, .mem, .ecc, .host, .mbx, .log, .evt, .txn, .clk, .datum, .pwr, .kiln, .boot, .fuse, .cap, .sect, .fh, .grat, .mash, .tx, .dpd, .rx, .conv, .hk, .radio, .survey, .bias, .rffe, .coex, .tap]

/-- The groups of the state that a command can reach: the blocks that the manual lets it act on, directly or through what its effect
sets going. A mailbox command can reach any of them, since its answer may let the commands behind it run. -/
def reach : Instr → List Grp
  | .incrementWrite _ => [.free, .datum]
  | .todReferenceWrite _ => [.datum]
  | .todRefresh => [.datum]
  | .datumCtrlStep => [.cnts, .mbx, .evt, .clk, .datum, .sect, .fh, .tx, .radio, .rffe]
  | .ptpMessage => [.cnts, .mbx, .evt, .clk, .datum, .sect, .fh, .tx, .radio, .rffe]
  | .ecpriOwdResponse => [.datum, .fh]
  | .delayReqSend => [.clk, .datum, .fh]
  | .ptpTransmit _ _ => [.tots, .datum, .fh]
  | .announceTimeout => [.cnts, .mbx, .evt, .clk, .datum]
  | .datumHoldoverExpired => [.cnts, .mbx, .evt, .datum]
  | .ppsOutEdge => [.datum]
  | .ppsOutFall => [.datum]
  | .ppsInEdge _ => [.cnts, .mbx, .evt, .clk, .datum, .sect, .fh, .tx, .radio, .rffe]
  | .ppsInTimeout => [.cnts, .mbx, .evt, .clk, .datum]
  | .drainComplete _ => [.clk, .pwr]
  | .drainTimeoutExpiry _ _ => [.cnts, .host, .mbx, .evt, .clk, .pwr, .mash, .dpd]
  | .domainOff _ => [.cfg, .regs, .cnts, .tots, .mem, .host, .mbx, .clk, .datum, .pwr, .sect, .fh, .grat, .mash, .tx, .dpd, .rx, .conv, .hk, .radio, .survey, .bias, .rffe]
  | .powerSwitchClose _ => [.clk, .pwr]
  | .memoryInitDone _ => [.mem, .ecc, .pwr, .sect]
  | .wakeScrubDone _ _ => [.cnts, .tots, .mem, .ecc, .host, .mbx, .log, .evt, .txn, .clk, .datum, .pwr, .kiln, .boot, .cap, .sect, .fh, .mash, .tx, .dpd, .rx, .conv, .radio, .survey, .bias, .rffe]
  | .savelistRestore _ _ => [.cfg, .regs, .cnts, .host, .mbx, .evt, .clk, .datum, .pwr, .survey]
  | .domainOn _ => [.cnts, .mem, .ecc, .mbx, .evt, .clk, .datum, .pwr, .kiln, .sect, .fh, .dpd, .conv, .hk, .bias]
  | .wakeAfterExpiry => [.pwr]
  | .fioStart => [.pwr]
  | .powerUp => [.clk, .pwr]
  | .aoLogicRelease => [.cnts, .ecc, .clk, .pwr]
  | .powerGoodHeld _ => [.cnts, .tots, .ecc, .host, .mbx, .log, .evt, .txn, .clk, .datum, .pwr, .kiln, .boot, .cap, .fh, .mash, .tx, .dpd, .rx, .conv, .radio, .survey, .bias, .rffe]
  | .railFault _ => [.cfg, .regs, .cnts, .tots, .free, .mem, .ecc, .host, .mbx, .evt, .datum, .pwr, .sect, .fh, .grat, .mash, .tx, .dpd, .rx, .conv, .hk, .radio, .survey, .bias, .rffe]
  | .railRestartTimeout => [.clk, .pwr]
  | .pwrCtrlRestart => [.clk, .pwr]
  | .pwrCtrlWake => [.cnts, .tots, .ecc, .host, .mbx, .log, .evt, .txn, .clk, .datum, .pwr, .kiln, .boot, .cap, .fh, .mash, .tx, .dpd, .rx, .conv, .radio, .survey, .bias, .rffe]
  | .reset _ => [.cnts, .tots, .ecc, .host, .mbx, .log, .evt, .txn, .clk, .datum, .pwr, .kiln, .boot, .cap, .fh, .mash, .tx, .dpd, .rx, .conv, .radio, .survey, .bias, .rffe]
  | .resetNAssert _ => [.cnts, .tots, .free, .ecc, .host, .mbx, .log, .evt, .txn, .clk, .datum, .pwr, .kiln, .boot, .cap, .fh, .mash, .tx, .dpd, .rx, .conv, .radio, .survey, .bias, .rffe]
  | .resetNRelease _ => [.clk, .boot]
  | .watchdogExpiry => [.cnts, .tots, .ecc, .host, .mbx, .log, .evt, .txn, .clk, .datum, .pwr, .kiln, .boot, .cap, .fh, .mash, .tx, .dpd, .rx, .conv, .radio, .survey, .bias, .rffe]
  | .lockstepMismatch => [.cnts, .tots, .ecc, .host, .mbx, .log, .evt, .txn, .clk, .datum, .pwr, .kiln, .boot, .cap, .fh, .mash, .tx, .dpd, .rx, .conv, .radio, .survey, .bias, .rffe]
  | .commandResetTimeout => [.cnts, .tots, .ecc, .host, .mbx, .log, .evt, .txn, .clk, .datum, .pwr, .kiln, .boot, .cap, .fh, .mash, .tx, .dpd, .rx, .conv, .radio, .survey, .bias, .rffe]
  | .testEnChange _ => [.cnts, .tots, .ecc, .host, .mbx, .log, .evt, .txn, .clk, .datum, .pwr, .kiln, .boot, .cap, .fh, .mash, .tx, .dpd, .rx, .conv, .radio, .survey, .bias, .rffe, .tap]
  | .bootRomStart => [.cnts, .mem, .ecc, .clk, .pwr, .boot, .sect]
  | .imageHeaderCheck _ => [.ecc, .clk, .boot]
  | .imagePayloadLoaded => [.boot]
  | .signatureVerified => [.ecc, .boot]
  | .firmwareStart => [.cfg, .cnts, .ecc, .host, .mbx, .log, .evt, .clk, .datum, .kiln, .boot, .dpd, .hk]
  | .romSafeProfile => [.cfg, .host, .mbx, .clk, .pwr, .boot, .fh]
  | .trialTimeout => [.cnts, .tots, .ecc, .host, .mbx, .log, .evt, .txn, .clk, .datum, .pwr, .kiln, .boot, .cap, .fh, .mash, .tx, .dpd, .rx, .conv, .radio, .survey, .bias, .rffe]
  | .crashCountClear => [.ecc]
  | .spargeVisit _ => [.cnts, .mem, .ecc, .mbx, .evt, .clk]
  | .prioritySpargeVisit _ => [.cnts, .mem, .ecc, .mbx, .evt]
  | .spargePassEnd _ => [.cnts, .ecc]
  | .remapCopyDone _ _ => [.cnts, .mem, .ecc, .mbx, .log, .evt, .clk, .fh, .mash, .dpd, .rx, .conv, .radio, .survey, .bias]
  | .memUncorr _ _ _ => [.cnts, .ecc, .host, .mbx, .evt, .grat]
  | .pageClear => [.cnts, .sect]
  | .pageClearComplete _ => [.cnts, .mem, .ecc, .mbx, .evt, .sect]
  | .laneSignalChange _ _ _ => [.cnts, .mbx, .evt, .clk, .fh]
  | .linkUp => [.cnts, .mbx, .evt, .clk, .fh]
  | .linkDown => [.cnts, .mbx, .evt, .clk, .fh]
  | .laneFailed _ => [.cnts, .mem, .ecc, .mbx, .log, .evt, .clk, .fh, .mash, .dpd, .rx, .conv, .radio, .survey, .bias]
  | .fecWindowEnd _ _ _ _ => [.cnts, .mem, .ecc, .mbx, .log, .evt, .clk, .fh, .mash, .dpd, .rx, .conv, .radio, .survey, .bias]
  | .fallbackTimeout => [.cnts, .mem, .ecc, .mbx, .log, .evt, .clk, .fh, .mash, .dpd, .rx, .conv, .radio, .survey, .bias]
  | .ulBankRelease => [.grat]
  | .frameReceived _ _ _ _ _ => [.cnts, .tots, .mem, .ecc, .mbx, .evt, .sect, .fh]
  | .sheetReady _ => [.tx, .radio]
  | .holdEnd _ => [.cnts, .mbx, .evt, .fh, .tx, .rx, .coex]
  | .srsOccasionEnd => [.cnts, .free, .mash]
  | .mashPrereq => [.cnts, .mbx, .evt, .mash]
  | .mashCut => [.cnts, .ecc, .mbx, .evt, .mash]
  | .mashSetReady => [.cnts, .mem, .ecc, .mbx, .evt, .grat, .mash]
  | .converterInitDone _ _ _ => [.cnts, .mem, .ecc, .mbx, .log, .evt, .clk, .fh, .mash, .tx, .dpd, .rx, .conv, .radio, .survey, .bias]
  | .spareVisitStart _ => [.clk, .conv]
  | .agreementTest _ _ _ _ _ => [.cnts, .mem, .ecc, .mbx, .log, .evt, .clk, .fh, .mash, .tx, .dpd, .rx, .conv, .radio, .survey, .bias]
  | .handover _ _ _ => [.cnts, .mem, .ecc, .mbx, .log, .evt, .clk, .fh, .mash, .tx, .dpd, .rx, .conv, .radio, .survey, .bias]
  | .cellVisit _ _ _ => [.cnts, .mem, .ecc, .mbx, .log, .evt, .clk, .fh, .mash, .tx, .dpd, .rx, .conv, .radio, .survey, .bias]
  | .estimationWindowEnd _ _ _ => [.cnts, .mem, .ecc, .mbx, .log, .evt, .clk, .fh, .mash, .tx, .dpd, .rx, .conv, .radio, .survey, .bias]
  | .rffeMessageStart _ => [.cnts, .mbx, .evt, .rffe]
  | .rffeMessageDone _ _ _ => [.cnts, .rffe]
  | .quickSurveyStart _ => [.radio, .survey]
  | .qsRetry _ => [.radio, .survey]
  | .surveySolveDone _ _ _ _ => [.cnts, .mem, .ecc, .host, .mbx, .log, .evt, .clk, .pwr, .fh, .mash, .dpd, .rx, .conv, .radio, .survey, .bias]
  | .tempCompare => [.cnts, .mbx, .log, .evt, .fh, .survey, .bias]
  | .trackEvaluate _ _ => [.cnts, .mbx, .evt, .survey]
  | .biasClearPhaseEnd _ => [.bias]
  | .spanSwitch _ => [.bias]
  | .biasSettled _ => [.bias]
  | .biasclrNAccept _ => [.cnts, .mbx, .evt, .tx, .radio, .survey, .bias]
  | .biasSuperviseSample _ _ _ => [.cnts, .mem, .ecc, .mbx, .log, .evt, .clk, .fh, .mash, .dpd, .rx, .conv, .radio, .survey, .bias]
  | .coexRoleTakeEffect => [.coex]
  | .coexReqRaise => [.cnts, .coex]
  | .coexReqDrop => [.coex]
  | .coexGntSample => [.cnts, .tx, .coex]
  | .coexGntChange _ => [.tx, .coex]
  | .coexReqChange _ _ => [.cnts, .tx, .coex]
  | .dpdSolveDone _ => [.cnts, .free, .mem, .ecc, .mbx, .log, .evt, .clk, .fh, .mash, .dpd, .rx, .conv, .radio, .survey, .bias]
  | .dpdStarved _ => [.cnts, .mbx, .evt, .dpd]
  | .dpdCoefEcc _ => [.cnts, .mbx, .evt, .dpd]
  | .airSymbolUl _ => [.cnts, .ecc, .mbx, .evt, .datum, .fh, .tx]
  | .uplaneMessageBuild _ _ => [.cnts, .ecc, .mbx, .evt, .fh, .grat, .mash, .tx, .rx, .coex]
  | .egressLaunch _ => [.cnts, .fh]
  | .macFrameStart => [.cnts, .tots, .mbx, .fh]
  | .synthCalStart _ => [.cnts, .mbx, .evt, .mash, .tx, .dpd, .rx, .radio, .survey]
  | .synthLock _ _ _ => [.radio]
  | .rsTransitionEnd _ => [.cnts, .mbx, .evt, .conv, .radio, .survey, .coex]
  | .rsTimerFire _ _ => [.cnts, .mbx, .evt, .tx, .rx, .conv, .radio, .survey]
  | .patternArm _ => [.cnts, .mbx, .evt, .tx, .rx, .conv, .radio, .survey, .rffe]
  | .strobeEdge _ _ => [.radio]
  | .synthCalTimeout _ => [.cfg, .cnts, .mem, .ecc, .mbx, .log, .evt, .clk, .fh, .mash, .tx, .dpd, .rx, .conv, .radio, .survey, .bias, .rffe, .coex]
  | .loUnlock _ _ => [.cfg, .cnts, .mem, .ecc, .mbx, .log, .evt, .clk, .fh, .mash, .tx, .dpd, .rx, .conv, .radio, .survey, .bias, .rffe, .coex]
  | .recalAfterUnlock _ => [.cnts, .mbx, .evt, .mash, .tx, .dpd, .rx, .radio, .survey]
  | .leaseStart _ => [.cnts, .free, .dpd, .radio, .survey, .rffe]
  | .leaseEnd _ => [.dpd, .radio, .survey, .rffe]
  | .orxFailed _ => [.cnts, .mem, .ecc, .mbx, .log, .evt, .clk, .fh, .mash, .dpd, .rx, .conv, .radio, .survey, .bias]
  | .mismatchInterval _ => [.rffe]
  | .captureStart _ _ => [.cap, .dpd]
  | .captureDone _ _ _ => [.mem, .ecc, .cap, .dpd]
  | .captureAbort _ => [.cap]
  | .captureLeaseTimeout _ => [.cap]
  | .txmuteNFall => [.cnts, .mbx, .evt, .tx, .radio]
  | .txmuteNRise => [.tx]
  | .txmuteRelease => [.tx]
  | .halfSubframeLevel _ => [.cnts, .free, .rx]
  | .dcAcqEnd _ => [.rx]
  | .foSlotEnd _ => [.free, .rx]
  | .prachOccasionDone _ _ _ _ _ _ _ => [.cnts, .ecc, .mbx, .evt, .fh, .grat, .rx]
  | .kilnEvaluate => [.cfg, .cnts, .host, .mbx, .log, .evt, .clk, .pwr, .kiln, .conv, .radio, .survey, .bias, .rffe, .coex]
  | .hkConversion _ => [.cfg, .cnts, .host, .mbx, .evt, .clk, .pwr, .kiln, .tx, .conv, .hk, .radio, .survey, .bias, .rffe, .coex]
  | .sheetTempUpdate _ _ _ => [.cfg, .cnts, .host, .mbx, .evt, .clk, .pwr, .kiln, .conv, .hk, .radio, .survey, .rffe, .coex]
  | .clockWindow _ => [.cfg, .cnts, .host, .mbx, .evt, .clk, .pwr, .fh, .mash, .tx, .dpd, .conv, .radio, .survey, .rffe, .coex]
  | .cpuClockSwitch => [.clk]
  | .armAlignment => [.clk]
  | .dasync _ => [.cnts, .mem, .ecc, .host, .mbx, .log, .evt, .clk, .pwr, .fh, .mash, .dpd, .rx, .conv, .radio, .survey, .bias]
  | .elasticBufferReset => [.clk]
  | .d2dCrcFail _ _ => [.cnts, .clk]
  | .d2dLaneTestDone _ _ => [.cfg, .cnts, .mem, .ecc, .mbx, .log, .evt, .clk, .fh, .mash, .dpd, .rx, .conv, .radio, .survey, .bias, .rffe, .coex]
  | .portStatus => [.host]
  | .hostPortRead _ _ => [.cnts, .ecc, .host, .mbx, .evt]
  | .shadowLoRead _ _ => [.cnts, .ecc, .host, .mbx, .evt]
  | .shadowHiRead _ _ => [.cnts, .ecc, .host, .mbx, .evt]
  | .faultStatusClear _ => [.host]
  | .faultBitSet _ => [.host, .pwr]
  | .eventRaise _ _ _ => [.cnts, .mbx, .evt]
  | .doneAcknowledge _ => [.mbx]
  | .directWriteCaptureDrain => [.cnts, .mbx, .log, .evt]
  | .txnExpire _ => [.txn]
  | .dpdCaptureStart _ => [.dpd]
  | .dpdCaptureComplete _ _ _ _ _ _ => [.cnts, .mem, .ecc, .mbx, .log, .evt, .clk, .fh, .mash, .tx, .dpd, .rx, .conv, .radio, .survey, .bias]
  | .trackCapture _ _ _ _ => [.cnts, .tx, .dpd, .survey]
  | .mismatchResult _ _ _ _ => [.cnts, .mem, .ecc, .mbx, .log, .evt, .clk, .fh, .mash, .tx, .dpd, .rx, .conv, .radio, .survey, .bias, .rffe]
  | .airSymbolDl _ => [.cnts, .ecc, .mbx, .evt, .datum, .fh, .grat, .tx]
  | .profileApply => [.cfg, .cnts, .mbx, .evt, .txn, .clk, .pwr, .boot, .fh, .conv, .radio, .survey, .rffe, .coex]
  | .profileWaitExpiry => [.boot]
  | .profileRefTimeout => [.cfg, .cnts, .mbx, .evt, .txn, .clk, .pwr, .boot, .fh, .conv, .radio, .survey, .rffe, .coex]
  | .tapTckEdge _ _ _ _ => [.free, .tap]
  | _ => allGrps

end Sys2Proof
end

