-- ==== Sys2Proof/WellFormed.lean ====
section
/-! DEFINITION. Which commands are well formed: every operand within the range the specification gives the thing it numbers
(00_scope R3, R9; 18_mailbox_commands R400). The machine runs ill-formed commands too: an operand that names nothing acts on
nothing. -/

namespace Sys2Proof

/-- A requester: a channel from 0 to 7, or a 32-bit TAG (18 R399, R413). -/
def requesterOk : Requester → Bool
  | .host ch => decide (ch < 8)
  | .baseband tag => decide (tag < 2 ^ 32)
  | .firmware => true

/-- A mailbox command: SEQ of one byte, TXN_ID of four, a record of at most 248 bytes (18 R400). -/
def callOk (c : Call) : Bool :=
  requesterOk c.src && decide (c.seq < 256) && decide (c.txn < 2 ^ 32) && decide (c.req.length ≤ 248)

/-- Codes of a pair of 12-bit converters (09 R193, 10 R213). -/
def iqOk (l : List (Int × Int)) : Bool :=
  l.all fun x => decide (-2048 ≤ x.1) && decide (x.1 ≤ 2047) && decide (-2048 ≤ x.2) && decide (x.2 ≤ 2047)

/-- ADC codes by path (10 R213). -/
def codesOk (l : List (Nat × List (Int × Int))) : Bool := l.all fun p => decide (p.1 < 64) && iqOk p.2

/-- A frame as the MAC receives it (04 R81). -/
def frameOk (f : Rec) : Bool := decide (f.length ≤ 16384)

/-- The command is well formed. -/
def Instr.wf : Instr → Bool
  | .powerUp => true
  | .aoUndervoltageLockout => true
  | .aoLogicRelease => true
  | .powerGoodHeld rail => decide (rail < 7)
  | .railFault rail => decide (rail < 7)
  | .railRestartTimeout => true
  | .pwrCtrlRestart => true
  | .pwrCtrlWake => true
  | .reset cause => decide (cause < 256)
  | .resetNAssert _ => true
  | .resetNRelease prof => decide (prof < 4)
  | .watchdogExpiry => true
  | .lockstepMismatch => true
  | .commandResetTimeout => true
  | .testEnChange _ => true
  | .bootRomStart => true
  | .imageHeaderCheck _ => true
  | .imagePayloadLoaded => true
  | .signatureVerified => true
  | .firmwareStart => true
  | .romSafeProfile => true
  | .trialTimeout => true
  | .crashCountClear => true
  | .profileApply => true
  | .profileEntry => true
  | .profileWaitExpiry => true
  | .profileRefTimeout => true
  | .hostPortRead addr _ => decide (addr < 2 ^ 32)
  | .portStatus => true
  | .shadowLoRead _ addr => decide (addr < 2 ^ 32)
  | .shadowHiRead _ addr => decide (addr < 2 ^ 32)
  | .registerWrite _ addr value _ => decide (addr < 2 ^ 32) && decide (value < 2 ^ 32)
  | .directWriteCaptureDrain => true
  | .doorbellRing mask => decide (mask < 256)
  | .doneAcknowledge mask => decide (mask < 256)
  | .faultStatusClear mask => decide (mask < 2 ^ 32)
  | .faultBitSet source => decide (source < 9)
  | .pCommandComplete _ _ _ => true
  | .inbandCommand => true
  | .eventRaise code unit data => decide (code < 2 ^ 16) && decide (unit < 2 ^ 16) && data.all fun x => decide (x < 2 ^ 32)
  | .sysCapRead c => callOk c
  | .sysReset c => callOk c
  | .sysBootStatus c => callOk c
  | .fwWrite c => callOk c
  | .fwActivate c => callOk c
  | .fwConfirm c => callOk c
  | .sysFuseProgram c => callOk c
  | .eventRead c => callOk c
  | .eventMaskSet c => callOk c
  | .mbxInbandSet c => callOk c
  | .mbxStatus c => callOk c
  | .commitLogRead c => callOk c
  | .pwrDomainSet c => callOk c
  | .pwrStatus c => callOk c
  | .pwrCaskClear c => callOk c
  | .pwrSavelistSet c => callOk c
  | .pwrSavelistGet c => callOk c
  | .kilnConfig c => callOk c
  | .kilnBudgetSet c => callOk c
  | .kilnModelSet c => callOk c
  | .kilnStatus c => callOk c
  | .drainComplete dom => decide (dom < 21)
  | .drainTimeoutExpiry dom _ => decide (dom < 21)
  | .powerSwitchClose dom => decide (dom < 21)
  | .memoryInitDone dom => decide (dom < 21)
  | .wakeScrubDone dom _ => decide (dom < 21)
  | .savelistRestore dom _ => decide (dom < 21)
  | .domainOn dom => decide (dom < 21)
  | .domainOff dom => decide (dom < 21)
  | .wakeAfterExpiry => true
  | .fioStart => true
  | .kilnEvaluate => true
  | .datumStatus c => callOk c
  | .datumConfig c => callOk c
  | .datumTimeSet c => callOk c
  | .datumStep c => callOk c
  | .datumFreqSet c => callOk c
  | .ecpriOwd c => callOk c
  | .datumCtrlStep => true
  | .incrementWrite value => decide (value < 2 ^ 32)
  | .todReferenceWrite value => decide (value < 2 ^ 32)
  | .todRefresh => true
  | .ptpMessage => true
  | .delayReqSend => true
  | .announceTimeout => true
  | .datumHoldoverExpired => true
  | .ptpTransmit _ _ => true
  | .ppsOutEdge => true
  | .ppsOutFall => true
  | .ppsInEdge _ => true
  | .ppsInTimeout => true
  | .ecpriOwdResponse => true
  | .clockWindow good => decide (good < 16)
  | .cpuClockSwitch => true
  | .armAlignment => true
  | .dasync dist => dist.all fun x => decide (x < 8)
  | .elasticBufferReset => true
  | .d2dCrcFail link group => decide (link < 8) && decide (group < 32)
  | .d2dLaneTestDone link lane => decide (link < 8) && decide (lane < 448)
  | .commitBoundary b => decide (b < 2 ^ 32)
  | .txnShadowLoad id => decide (id < 2 ^ 32)
  | .txnExpire id => decide (id < 2 ^ 32)
  | .txnBegin c => callOk c
  | .txnStageReg c => callOk c
  | .txnCommit c => callOk c
  | .txnAbort c => callOk c
  | .txnStatus c => callOk c
  | .ownerSet c => callOk c
  | .sectionRead c => callOk c
  | .sectionStats c => callOk c
  | .profileWrite c => callOk c
  | .profileSelect c => callOk c
  | .profileStatus c => callOk c
  | .laneSignalChange signal cdr am => decide (signal < 16) && decide (cdr < 16) && decide (am < 16)
  | .linkUp => true
  | .linkDown => true
  | .laneFailed lane => decide (lane < 4)
  | .fecWindowEnd lane _ _ _ => decide (lane < 4)
  | .fallbackTimeout => true
  | .fhLinkSet c => callOk c
  | .fhLinkStatus c => callOk c
  | .fhFlowSet c => callOk c
  | .fhFlowGet c => callOk c
  | .fhQueueSet c => callOk c
  | .fhStats c => callOk c
  | .fhFlowStats c => callOk c
  | .frameReceived _ frame _ _ _ => frameOk frame
  | .pageClear => true
  | .pageClearComplete page => decide (page < 32)
  | .airSymbolDl carrier => decide (carrier < 8)
  | .airSymbolUl carrier => decide (carrier < 8)
  | .uplaneMessageBuild carrier codes => decide (carrier < 8) && codesOk codes
  | .egressLaunch queue => decide (queue < 64)
  | .macFrameStart => true
  | .gratConfig c => callOk c
  | .gratBeamWrite c => callOk c
  | .gratBeamRead c => callOk c
  | .gratWeightWrite c => callOk c
  | .gratWeightRead c => callOk c
  | .gratWeightSwap c => callOk c
  | .gratStatus c => callOk c
  | .ulBankRelease => true
  | .mashConfig c => callOk c
  | .mashCtxSet c => callOk c
  | .mashCtxGet c => callOk c
  | .mashStatus c => callOk c
  | .mashPortStatus c => callOk c
  | .mashEstRead c => callOk c
  | .srsOccasionEnd => true
  | .mashCut => true
  | .mashPrereq => true
  | .mashSetReady => true
  | .txCarrierSet c => callOk c
  | .txCarrierGet c => callOk c
  | .txPathSet c => callOk c
  | .txPathGet c => callOk c
  | .txCfrSet c => callOk c
  | .txToneSet c => callOk c
  | .txSheetSet c => callOk c
  | .txStatus c => callOk c
  | .txCfrGet c => callOk c
  | .txmuteNFall => true
  | .txmuteNRise => true
  | .txmuteRelease => true
  | .holdEnd sheet => decide (sheet < 4)
  | .sheetReady sheet => decide (sheet < 4)
  | .dpdConfig c => callOk c
  | .dpdPathSet c => callOk c
  | .dpdPathGet c => callOk c
  | .dpdCoefWrite c => callOk c
  | .dpdCoefRead c => callOk c
  | .dpdCoefSwap c => callOk c
  | .dpdStatus c => callOk c
  | .dpdPathStatus c => callOk c
  | .orxCouplerSet c => callOk c
  | .orxCouplerGet c => callOk c
  | .orxStatus c => callOk c
  | .orxService c => callOk c
  | .leaseStart orx => decide (orx < 8)
  | .dpdCaptureStart orx => decide (orx < 8)
  | .dpdCaptureComplete orx path _ _ i q => decide (orx < 8) && decide (path < 64) && i.length == q.length && iqOk (i.zip q)
  | .leaseEnd orx => decide (orx < 8)
  | .dpdSolveDone path => decide (path < 64)
  | .dpdStarved path => decide (path < 64)
  | .orxFailed orx => decide (orx < 8)
  | .dpdCoefEcc path => decide (path < 64)
  | .rxCarrierSet c => callOk c
  | .rxCarrierGet c => callOk c
  | .rxPathSet c => callOk c
  | .rxPathGet c => callOk c
  | .rxImageSet c => callOk c
  | .rxImageGet c => callOk c
  | .rxStatus c => callOk c
  | .rxLevel c => callOk c
  | .rxFo c => callOk c
  | .halfSubframeLevel codes => codesOk codes
  | .foSlotEnd carrier => decide (carrier < 8)
  | .prachOccasionDone flow id _ slot startSym _ codes => decide (flow < 256) && decide (id < 2 ^ 32) && decide (slot < 4) && decide (startSym < 14) && codesOk codes
  | .convCalSet c => callOk c
  | .convStatus c => callOk c
  | .convSliceRead c => callOk c
  | .convSliceService c => callOk c
  | .converterInitDone conv _ _ => decide (conv < 384)
  | .spareVisitStart conv => decide (conv < 384)
  | .agreementTest conv _ _ _ _ => decide (conv < 384)
  | .handover conv _ _ => decide (conv < 384)
  | .cellVisit conv _ _ => decide (conv < 384)
  | .estimationWindowEnd conv pos _ => decide (conv < 384) && decide (pos < 32)
  | .hkSeqSet c => callOk c
  | .hkRead c => callOk c
  | .hkLimitSet c => callOk c
  | .hkConversion conversions => conversions.all fun x => decide (x < 4096)
  | .sheetTempUpdate sheet _ _ => decide (sheet < 4)
  | .rsTimerSet c => callOk c
  | .rsPatternSet c => callOk c
  | .rsPatternGet c => callOk c
  | .rsStatus c => callOk c
  | .loSet c => callOk c
  | .loStatus c => callOk c
  | .tddStrobeSet c => callOk c
  | .tddStrobeGet c => callOk c
  | .sheetService c => callOk c
  | .patternArm sheet => decide (sheet < 4)
  | .rsTimerFire sheet timer => decide (sheet < 4) && decide (timer < 8)
  | .rsTransitionEnd sheet => decide (sheet < 4)
  | .strobeEdge sheet strobe => decide (sheet < 4) && decide (strobe < 4)
  | .synthCalStart sheet => decide (sheet < 4)
  | .synthLock sheet txBand rxBand => decide (sheet < 4) && decide (txBand < 256) && decide (rxBand < 256)
  | .synthCalTimeout sheet => decide (sheet < 4)
  | .loUnlock sheet which => decide (sheet < 4) && decide (which < 2)
  | .recalAfterUnlock sheet => decide (sheet < 4)
  | .surveyConfig c => callOk c
  | .surveyRun c => callOk c
  | .surveyStatus c => callOk c
  | .surveyNetSet c => callOk c
  | .surveyNetGet c => callOk c
  | .surveyCorrSet c => callOk c
  | .surveyCorrGet c => callOk c
  | .surveyTempSet c => callOk c
  | .surveyTempGet c => callOk c
  | .quickSurveyStart sheets => decide (sheets < 16)
  | .surveySolveDone _ _ _ _ => true
  | .quickSurveyDone _ => true
  | .qsRetry sheet => decide (sheet < 4)
  | .fullCampaignCommit _ => true
  | .trackCapture orx _ i q => decide (orx < 8) && i.length == q.length && iqOk (i.zip q)
  | .trackEvaluate sheet dir => decide (sheet < 4) && decide (dir < 2)
  | .tempCompare => true
  | .biasSet c => callOk c
  | .biasGet c => callOk c
  | .biasGainSet c => callOk c
  | .biasStatus c => callOk c
  | .biasRestore c => callOk c
  | .biasclrNAccept _ => true
  | .biasClearPhaseEnd dac => decide (dac < 144)
  | .biasSettled dac => decide (dac < 144)
  | .spanSwitch dac => decide (dac < 144)
  | .biasSuperviseSample dac _ _ => decide (dac < 144)
  | .rffeMasterSet c => callOk c
  | .rffeXfer c => callOk c
  | .rffeSched c => callOk c
  | .rffeBindSet c => callOk c
  | .rffeStatus c => callOk c
  | .rffeMessageStart master => decide (master < 8)
  | .rffeMessageDone master _ _ => decide (master < 8)
  | .tunerSet c => callOk c
  | .tunerGet c => callOk c
  | .tunerStatus c => callOk c
  | .mismatchInterval path => decide (path < 64)
  | .mismatchResult path orx forward reverse => decide (path < 64) && decide (orx < 8) && iqOk forward && iqOk reverse
  | .coexSet c => callOk c
  | .coexStatus c => callOk c
  | .coexRoleTakeEffect => true
  | .coexReqRaise => true
  | .coexReqDrop => true
  | .coexGntSample => true
  | .coexGntChange _ => true
  | .coexReqChange _ _ => true
  | .memConfig c => callOk c
  | .memStatus c => callOk c
  | .memRemapRead c => callOk c
  | .memInject c => callOk c
  | .memTmrRead c => callOk c
  | .memTmrWrite c => callOk c
  | .spargeVisit code => decide (code < 8)
  | .prioritySpargeVisit code => decide (code < 8)
  | .spargePassEnd code => decide (code < 8)
  | .remapCopyDone code _ => decide (code < 9)
  | .memUncorr code _ requester => decide (code < 9) && decide (requester < 9)
  | .captureSet c => callOk c
  | .captureStatus c => callOk c
  | .captureRead c => callOk c
  | .captureRelease c => callOk c
  | .testgenSet c => callOk c
  | .testgenGet c => callOk c
  | .analyse c => callOk c
  | .captureStart slot _ => decide (slot < 4)
  | .captureDone slot _ _ => decide (slot < 4)
  | .captureAbort slot => decide (slot < 4)
  | .captureLeaseTimeout slot => decide (slot < 4)
  | .dcAcqEnd path => decide (path < 64)
  | .tapTckEdge _ _ _ _ => true

end Sys2Proof
end

