-- ==== Sys2Proof/Certificates/Slice0/Obligations.lean ====
section
/-! DEFINITION. The statements of this slice for the provers, each a `def Obligations.<Name> : Prop`, with the words they share. -/

section

open Sys2Proof Sys2Proof.Machine

/-- A counter after `n` more events. -/
def Sys2Proof.counted (s : State) (b u i n : Nat) : Nat := if n = 0 then cntVal s b u i else satAdd (cntVal s b u i) n

/-- A reset of a cause started from `s`: the processor is held, the mailbox is not ready and empty, transactions and both logs are
gone, every sheet is in SLEEP with no timer and its converters are OFF, time is not valid, no campaign runs and no master is
enabled; settings, registers, memories and fuses keep what they held. -/
def Sys2Proof.ResetStarted (cause : Nat) (s t : State) : Prop :=
  t.boot.cause = cause ∧ t.boot.held = true ∧ t.boot.step = 0 ∧ t.mbx.ready = false ∧ t.mbx.fifo = [] ∧ t.mbx.last = [] ∧
    t.mbx.parked = [] ∧ t.txn = {} ∧ t.log.recs = [] ∧ t.log.next = 0 ∧ t.evt = {} ∧ t.radio.sheet = [] ∧
    t.datum.timeValid = false ∧ t.rffe.master = [] ∧ t.survey = {} ∧
    (∀ n k, convSheet n = some k → k < 4 → (convOf t n).state = 0) ∧
    KeepsBut [.cnts, .tots, .ecc, .host, .mbx, .log, .evt, .txn, .clk, .datum, .pwr, .kiln, .boot, .cap, .fh, .mash, .tx, .dpd, .rx,
      .conv, .radio, .survey, .bias, .rffe] s t

/-- Slot word 2 of a refused slot `k`, from which the boot ROM chooses the next one: the slot to try, word 2, slots exhausted. -/
def Sys2Proof.afterRefusal (s : State) (k : Nat) : Option Nat × Nat × List Nat :=
  let w := setSlotState (tmrWord s 2) k 4 % 2 ^ 32
  chooseSlot w (s.boot.tried ||| 2 ^ k) [wPreferred w, 1 - wPreferred w]

/-- The slot being tried was refused with a reason: it is BAD in word 2 with that reason, and the next slot is being tried, or
none is left. -/
def Sys2Proof.SlotRefused (r : Nat) (s t : State) : Prop :=
  let k := s.boot.trying
  let c := afterRefusal s k
  t.boot.tried = s.boot.tried ||| 2 ^ k ∧ tget 1 t.boot.slotReason k = r ∧ tmrWord t 2 = c.2.1 % 2 ^ 32 ∧
    t.boot.trying = c.1.getD 0 ∧ t.boot.step = (if c.1.isSome then 1 else 7)

/-- The newest record of the event log is of that code and unit, with that first word. -/
def Sys2Proof.LastEvent (code unit d0 : Nat) (t : State) : Prop :=
  ∃ r, t.evt.recs.getLast? = some r ∧ r.code = code ∧ r.unit = unit ∧ r.d0 = d0

/-- The command run at `s` raised that event last: with firmware running it is the newest record of the log. -/
def Sys2Proof.Raised (s : State) (code unit d0 : Nat) (t : State) : Prop := fwRuns s = true → LastEvent code unit d0 t

/-- What a step of the counter does to its consumers: alignment is lost and the armed one dropped, the section table and the egress
queues are emptied and counted, no timer, pattern, comparator or scheduled RFFE message is left, and the next pulse is set anew. -/
def Sys2Proof.SteppedFrom (s t : State) : Prop :=
  t.clk.aligned = false ∧ t.sect.entries = [] ∧ t.sect.waiting = [] ∧ t.sect.occ = [] ∧ t.fh.egress = [] ∧
    (∀ p ∈ t.radio.sheet, p.2.timers = [] ∧ p.2.pat = none) ∧ t.datum.cmpDl = [] ∧ t.datum.cmpUl = [] ∧
    (∀ m ∈ t.rffe.master, m.2.sched = []) ∧
    cntVal t blkSect 0 7 = counted s blkSect 0 7 (liveSections s) ∧
    cntVal t blkFh 0 8 = counted s blkFh 0 8 (sumN (s.fh.egress.map fun q => q.2.length) + s.mbx.queue63.length) ∧
    t.datum.ppsNext = nextPps t

/-- Signal of the lanes as the link sees it: none while the Ethernet reference is lost. -/
def Sys2Proof.signalSeen (s : State) (signal : Nat) : Nat := if ethLost s then 0 else signal

/-- Every lane of the rung has held signal with lock, and marker lock, for 1 ms, and so has the link ALIGNING. -/
def Sys2Proof.LinkComesUp (s : State) : Prop :=
  domOn s dFH = true ∧ s.fh.link = 2 ∧ ethLost s = false ∧ elapsed s tkAlign 1000000 = true ∧
    ∀ l ∈ rungSet s, s.fh.signal.testBit l = true ∧ s.fh.cdr.testBit l = true ∧ s.fh.am.testBit l = true ∧
      elapsed s (tkLock l) 1000000 = true ∧ elapsed s (tkAm l) 1000000 = true

/-- A lane at risk has had no signal with lock for 100 us while another lane has held signal so long, or no marker lock for 1 ms
while the others have held theirs so long. -/
def Sys2Proof.LaneFails (s : State) (lane : Nat) : Prop :=
  laneAtRisk s lane = true ∧
    (((s.fh.signal.testBit lane && s.fh.cdr.testBit lane) = false ∧ elapsed s (tkLock lane) 100000 = true ∧
        ∃ l ∈ rungSet s, l ≠ lane ∧ s.fh.signal.testBit l = true ∧ elapsed s (tkSignal l) 100000 = true) ∨
      (s.fh.am.testBit lane = false ∧ elapsed s (tkAm lane) 1000000 = true ∧
        ∀ l ∈ rungSet s, l ≠ lane → s.fh.am.testBit l = true ∧ elapsed s (tkAm l) 1000000 = true))

/-- The link on rung `r`, entered now: ALIGNING with signal on all of its lanes, else DOWN. -/
def Sys2Proof.OnRung (r : Nat) (s t : State) : Prop :=
  t.fh.rung = r ∧ t.fh.lastChange = now s ∧
    t.fh.link = if (setBits 4 (rungLanes s r)).all (fun l => (signalSeen s s.fh.signal).testBit l) then 2 else 1

/-- What may change where a lane fails or the link moves along its ladder. -/
def Sys2Proof.LadderFrame (s t : State) : Prop :=
  KeepsBut [.cnts, .mem, .ecc, .mbx, .log, .evt, .clk, .fh, .mash, .dpd, .rx, .conv, .radio, .survey, .bias] s t

/-- One counter took `n` more events, and no other counter changed. -/
def Sys2Proof.OnlyCount (b u i n : Nat) (s t : State) : Prop :=
  cntVal t b u i = counted s b u i n ∧ ∀ k, k ≠ cntKey b u i → tget 0 t.cnts k = tget 0 s.cnts k

/-- The frame and its bytes are in the receive totals, and no other total changed. -/
def Sys2Proof.FrameSeen (frame : Rec) (s t : State) : Prop :=
  totVal t blkFh 0 0 = (totVal s blkFh 0 0 + 1) % 2 ^ 64 ∧ totVal t blkFh 0 1 = (totVal s blkFh 0 1 + (frame.length + 4)) % 2 ^ 64 ∧
    ∀ k, k ≠ cntKey blkFh 0 0 → k ≠ cntKey blkFh 0 1 → tget 0 t.tots k = tget 0 s.tots k

/-- The frame was dropped under a counter of FH_STATS, with no other effect. -/
def Sys2Proof.FrameDropped (i : Nat) (frame : Rec) (s t : State) : Prop :=
  FrameSeen frame s t ∧ OnlyCount blkFh 0 i 1 s t ∧ KeepsBut [.cnts, .tots] s t

/-- The link takes frames. -/
def Sys2Proof.LinkTakes (s : State) : Prop := domOn s dFH = true ∧ s.fh.link = 3

/-- The frame has a length that the link accepts. -/
def Sys2Proof.LengthOk (s : State) (frame : Rec) : Prop := 64 ≤ frame.length + 4 ∧ frame.length + 4 ≤ mtu s + 22

/-- The frame passes the tests of length, PAUSE, destination and tag. -/
def Sys2Proof.FrameAddressed (s : State) (frame : Rec) : Prop :=
  LinkTakes s ∧ LengthOk s frame ∧ isPause frame = false ∧ addrOk s frame = true ∧ vlanOk s frame = true

/-- The frame comes from the peer that is set. -/
def Sys2Proof.fromPeer (s : State) (frame : Rec) : Bool := peerMac s != zeros 6 && (frame.drop 6).take 6 == peerMac s

/-- An eCPRI message of the peer that carries C-plane or U-plane. -/
def Sys2Proof.RadioMessage (s : State) (frame : Rec) : Prop :=
  FrameAddressed s frame ∧ etherType frame = 0xAEFE ∧ fromPeer s frame = true ∧ ecpriOk (payload frame) = true ∧
    bfld (payload frame) 1 1 ≠ 5

/-- The flow a message names by its eAxC and direction. -/
def Sys2Proof.flowNamed (s : State) (p : Rec) : Option (Nat × Rec) :=
  (flows s).find? fun x => flowEaxc x.2 == bfld p 4 2 && flowDir x.2 == (appOf (p.drop 8)).dir

/-- The comparator `x` of a carrier, of those in the table, fires: armed, reached, and of a committed carrier. -/
def Sys2Proof.CmpFires (r : State) (car : Rec) (tab : Tab Cmp) (carrier : Nat) (x : Cmp) : Prop :=
  tfind tab carrier = some x ∧ domOn r dDATUM = true ∧ x.armed = true ∧ reached r x.target = true ∧ carValid car = true

/-- The comparator of a carrier stands at symbol `j` of half-subframe `h`, late by `d` ns at the time of `r`. -/
def Sys2Proof.armedAt (r : State) (dir carrier : Nat) (h : Int) (j : Nat) : Cmp :=
  { target := symTarget r dir carrier h j, armed := true, late := decide (0 ≤ int32Diff (now r) (symTarget r dir carrier h j))
    half := (h % 20480).toNat, sym := j }

/-- The sections with data that cover a downlink symbol, and whether every PRB of them is held. -/
def Sys2Proof.symSects (r : State) (carrier : Nat) (h : Int) (j : Nat) : List Section :=
  (covering r 0 carrier h j).filter fun y => y.type != 0

def Sys2Proof.symWhole (r : State) (carrier air : Nat) (l : List Section) : Bool :=
  l.all fun y => (List.range y.numPrb).all fun i => (r.fh.held.filter fun z => z.carrier == carrier && z.air == air).any fun z =>
    z.flow == y.flow && z.sect == y.id && z.prb == y.startPrb + i

/-- Messages that carry a section's PRBs. -/
def Sys2Proof.messageCount (s : State) (x : Section) (all : Nat) : Nat :=
  let comp := if flowDyn (flowRec s x.flow) then x.comp else flowComp (flowRec s x.flow)
  let most := max 1 (if x.numPrb = all then prbMax s comp else min 255 (prbMax s comp))
  ceilDiv x.numPrb (if most < x.numPrb then min 255 most else most)

/-- Every byte of every memory outside a set of addresses reads as before. -/
def Sys2Proof.MemoryKept (s t : State) (but : MemId → Nat → Prop) : Prop :=
  ∀ i a, ¬but i a → memGet i (t.mem.get i) a = memGet i (s.mem.get i) a

/-- A refresh with the boundary and target slot that its cut fixes. -/
def Sys2Proof.cutOf (s : State) (q : Refresh) : Refresh :=
  { q with
    boundary := (refreshTimes s q.tEnd).1, target := (refreshTimes s q.tEnd).2, kind := fld (mashRec s) 2 1, car := fld (mashRec s) 3 1 }

/-- Where the pending bank of a slot set lies. -/
def Sys2Proof.setBase (s : State) (x : SlotSet) : Nat := layerOff x.dir (1 - bankOf s x.dir x.slot) x.slot 0 0

/-- The capture of a predistortion lease has run to its end: receiver `k`, path `p`, from datum time `start` on, `n` samples. -/
def Sys2Proof.CaptureOver (r : State) (k p start n : Nat) : Prop :=
  (orxOf r k).path = some p ∧ start = (dpdOf r p).captureNs ∧ n = captureLen r ∧ (orxOf r k).owner = 1 ∧ (orxOf r k).mismatch = false ∧ (orxOf r k).capture = 1 ∧
    due r (add32 (dpdOf r p).captureNs (captureLen r * 3125 / 6144)) = true

/-- The observation and the path's stream of a capture, and its reason code: 1 touched, 2 too weak, 3 overloaded, 4 not aligned. -/
def Sys2Proof.captureZ (r : State) (k p : Nat) (iq : List (Int × Int)) : List (Int × Int) :=
  observed r k (orxOf r k).wide (dpdOf r p).captureNs (captureLen r) iq

def Sys2Proof.captureX (r : State) (p q : Nat) : List (Int × Int) := pathWindow r q (dpIndex r (dpdOf r p).captureNs) (captureLen r)

def Sys2Proof.captureCode (r : State) (k p : Nat) (iq : List (Int × Int)) : Nat :=
  let x := captureX r p p
  if (orxOf r k).touched then 1 else if belowRms x (sfld (dpdRec r) 10 2) then 2
  else if iq.any fun c => overloaded c.1 || overloaded c.2 then 3
  else if aligned95 (alignTo (captureZ r k p iq) x) x then 0 else 4

/-- ALIGN rejected four paths of a receiver in service, one of which the other receiver accepted. -/
def Sys2Proof.OrxFails (s : State) (k : Nat) : Prop :=
  k < 8 ∧ inService s (uORX k) = true ∧ (orxOf s k).service = 0 ∧ 4 ≤ (alignBad (orxOf s k)).length ∧
    ∃ p ∈ alignBad (orxOf s k), (p, 0) ∈ (orxOf s (twin k)).recent

/-- Slice `k` of the running converter `n` is declared failed: the converter goes on without a spare, or stops when it had too many
failed already; the event is raised and the isolation waits for its boundary. -/
def Sys2Proof.SliceFails (s : State) (n k : Nat) (t : State) : Prop :=
  let dead := decide ((if n = 144 then 2 else 1) ≤ failedSlices (convOf s n))
  ((convOf t n).slices[k]?).map (·.failed) = some true ∧ (convOf t n).visit = 0 ∧ (convOf t n).state = (if dead then 5 else 4) ∧
    (cars s ≠ [] → (dead = false → Raised s 0x0B01 (64 * n + k) 0 t ∧ t.clk.isoPend = s.clk.isoPend ++ [(2, 2, 64 * n + k)]) ∧
      (dead = true → Raised s 0x0B02 n 0 t ∧ (n < 128 → t.clk.isoPend = s.clk.isoPend ++ [(2, 1, n / 2 + 512)]) ∧
        (256 ≤ n → t.clk.isoPend = s.clk.isoPend ++ [(2, 1, (n - 256) / 2 + 256)] ∧
          t.tx.pathHold = s.tx.pathHold ||| 2 ^ ((n - 256) / 2))))

/-- Groups that a converter's step may change. -/
def Sys2Proof.convGrps : List Grp :=
  [.cnts, .mem, .ecc, .mbx, .log, .evt, .clk, .fh, .mash, .tx, .dpd, .rx, .conv, .radio, .survey, .bias]

/-- No converter but `n` changes, and nothing outside those groups. -/
def Sys2Proof.ConvStep (s : State) (n : Nat) (t : State) : Prop :=
  KeepsBut convGrps s t ∧ ∀ m, m ≠ n → convOf t m = convOf s m

/-- The receiver of ADC `n` of 128 to 143 is leased to an observation path. -/
def Sys2Proof.orxLeased (s : State) (n : Nat) : Bool :=
  ((tfind s.dpd.orx ((n - 128) / 2)).map fun o => o.owner != 0 && (o.source == 1 || o.source == 2)).getD false

/-- The converter runs, with a spare or without. -/
def Sys2Proof.convRuns (s : State) (n : Nat) : Bool := decide (convStateNow s n = 2 ∨ convStateNow s n = 4)

/-- ADC `n` is of a receiver that both of its ADCs serve in wide mode. -/
def Sys2Proof.wideRuns (s : State) (n : Nat) : Bool :=
  let k := (n - 128) / 2
  decide (128 ≤ n) && decide (n < 144) && convRuns s n && convRuns s (128 + 2 * k) && convRuns s (129 + 2 * k) && orxLeased s n &&
    ((tfind s.dpd.orx k).map (·.wide)).getD false

/-- A window of a position of ADC `n` can close: it runs, its samples are those of a ready path, and 2^20 of them have passed. -/
def Sys2Proof.windowOver (s : State) (n pos : Nat) : Bool :=
  decide (n < 144) && convRuns s n && decide (pos < 16) && (if n < 128 then rxReadyNow s (n / 32) else orxLeased s n) &&
    elapsed s (tkEst n pos) 533333

/-- What a timer's action does when it fires with effective time `te`: a channel change calibrates a sheet beyond STANDBY, or one on
its way there, at `te`; a state waits behind a transition in progress, or starts one to be over at `te`, with what its first step
begins. -/
def Sys2Proof.Fired (s : State) (n action te : Nat) (t : State) : Prop :=
  let x := sh s n
  let y := sh t n
  let entering := x.state == .standby && ((x.trans.map fun q => q.1 != .standby && q.1 != .sleep).getD false) && x.calDue.isNone
  let goes := x.state != radioOf action && (s.clk.cpuPll || !beyondStandby (radioOf action))
  let b := nextHop x.state (radioOf action)
  y.state = x.state ∧ y.hopTe = x.hopTe ∧ y.lastTe = x.lastTe ∧ y.strobes = x.strobes ∧
    (action = 5 → y.trans = x.trans ∧ y.deferred = x.deferred ∧
      if beyondStandby x.state || entering then y.calDue = some te ∧ y.txReady = false ∧ y.rxReady = false ∧ y.done = false ∧
        y.changing = true
      else y.calDue = x.calDue ∧ y.txReady = x.txReady ∧ y.rxReady = x.rxReady ∧ y.done = x.done ∧ y.changing = x.changing) ∧
    (action ≠ 5 → x.trans.isSome = true → y.trans = x.trans ∧ y.deferred = x.deferred ++ [(action, te, now s)] ∧ y.calDue = x.calDue ∧
      cntVal t blkRs n 1 = satAdd (cntVal s blkRs n 1) 1) ∧
    (action ≠ 5 → x.trans = none → y.deferred = x.deferred ∧ y.trans = (if goes then some (radioOf action, te) else none) ∧
      (goes = false → y.calDue = x.calDue ∧ t.conv = s.conv) ∧
      (goes = true → x.state = .standby → b = .synth →
        y.calDue = some (add32 (add32 te (-(deltaOf x.state (radioOf action) : Int))) 30000) ∧ y.changing = true ∧ y.done = false) ∧
      (goes = true → x.state = .synth → b = .standby → y.calDue = none ∧ y.txCal = false ∧ y.rxCal = false ∧ y.txLock = false ∧
        y.rxLock = false ∧ y.txReady = false ∧ y.rxReady = false) ∧
      (goes = true → x.state = .sleep → n < 4 → ∀ i, i < 68 → (convOf t (convNumber n i)).state = 1))

/-- A synthesizer calibration of sheet `n` has begun at datum time `t0`: both synthesizers search, readiness and locks are gone, the DC
blockers of its paths clear and acquire from then on, adaptation cycles of its paths are over, uplink estimates, the alignment and
the campaigns of the sheet are gone. -/
def Sys2Proof.CalBegun (s : State) (n t0 attempt : Nat) (t : State) : Prop :=
  let y := sh t n
  y.state = (sh s n).state ∧ y.trans = (sh s n).trans ∧ y.timers = (sh s n).timers ∧ y.txCal = true ∧ y.rxCal = true ∧
    y.txLock = false ∧ y.rxLock = false ∧ y.txReady = false ∧ y.rxReady = false ∧ y.done = false ∧ y.changing = true ∧
    y.calStart = t0 ∧ y.calTemp = sheetTemp s n ∧ y.calDue = none ∧ y.calTry = attempt ∧ y.qsFail = false ∧ y.qsAttempts = 0 ∧
    t.mash.est = [] ∧ t.survey.align.testBit n = false ∧ t.survey.recip.testBit n = false ∧ tfind t.survey.qsReject n = none ∧
    (∀ c ∈ t.survey.camps, c.sheets.testBit n = false) ∧ tfind t.tx.muted n = none ∧ tfind t.rx.zeroed n = none ∧
    (∀ p, p / 16 = n → t.rx.dcAcq.testBit p = true ∧ tget [] t.rx.marks p = tget [] s.rx.marks p ++
      [{ time := t0, k := fld (rxPathRec s p) 5 1, freeze := fbit (rxPathRec s p) 1 1 0, clear := true }]) ∧
    (∀ p q, p / 16 = n → tfind s.dpd.path p = some q → tfind t.dpd.path p = some { dpdHalt s.dpd p q with gT := none }) ∧
    KeepsBut [.cnts, .mbx, .evt, .mash, .tx, .dpd, .rx, .radio, .survey] s t

/-- Sheet `n` is on its way out of service: its isolation waits for its boundary, or is in force. -/
def Sys2Proof.GoesOut (n : Nat) (t : State) : Prop := (isoWaits t n || t.clk.isoSheet.testBit n) = true

/-- A campaign has started at datum time `tk` on the sheets of `mask`: it is the last, under the next number, and frame-setting when it
is full or takes every sheet in service. -/
def Sys2Proof.CampStarted (s : State) (mask tk : Nat) (t : State) : Prop :=
  KeepsBut [.radio, .survey] s t ∧ ∃ c, t.survey = { s.survey with
      campaign := (s.survey.campaign + 1) % 2 ^ 32, camps := s.survey.camps ++ [c] } ∧
    c.number = (s.survey.campaign + 1) % 2 ^ 32 ∧ c.full = false ∧ c.skipOrx = false ∧ c.sheets = mask ∧ c.start = tk ∧
    c.setting = (mask == liveMask s) ∧ c.partner = (if mask = liveMask s then none else partnerOf s mask none) ∧ c.parent = none ∧
    c.solved = false ∧ c.leases = [] ∧ c.starts = [] ∧ c.cfg = campCfg s

/-- A sheet may start a quick survey: surveyed, locked, changing channel, in no campaign, with nothing due before. -/
def Sys2Proof.surveyReady (s : State) (n : Nat) : Bool :=
  surveyed s n && (sh s n).txLock && (sh s n).rxLock && (sh s n).changing && !(sh s n).done && (sh s n).calDue.isNone &&
    (campOf s n).isNone

/-- Codes that a campaign's sheets are rejected with, 0 of those accepted. -/
def Sys2Proof.campCodes (s : State) (c : Camp) (l : List Reading) : List (Nat × Nat) :=
  (setBits 4 c.sheets).map fun n => (n, rejectCode (campView s c) c l n)

/-- Sheets that a campaign accepts: of a full one all or none. -/
def Sys2Proof.campSet (s : State) (c : Camp) (l : List Reading) : List Nat :=
  let good := ((campCodes s c l).filter fun p => p.2 == 0).map (·.1)
  if c.full && good.length != (setBits 4 c.sheets).length then [] else good

/-- Images solved on the paths of the sheets accepted: path, taps, rejection. -/
def Sys2Proof.campImages (s : State) (c : Camp) (l : List Reading) : List (Nat × Rec × Int) :=
  ((List.range 64).filter fun p => (campSet s c l).contains (p / 16)).filterMap (imageOf (campView s c) c l)

/-- The capture of a tracking lease is over: receive tracking's 16.667 us after the gap, transmit tracking's 4.167 us after 5 us. -/
def Sys2Proof.trackOver (s : State) (k : Nat) : Bool :=
  let x := orxOf s k
  let rx := tget 0 s.survey.arr (k / 2) == 3
  x.owner == 2 && x.capture != 2 && k == bench s (k / 2) && (campOf s (k / 2)).isNone && fSurv s 0 != 0 &&
    due s (add32 (if rx then x.gap else add32 x.leaseStart 5000) (if rx then 16667 else 4167))

/-- Only bias output `n` changes, to `b`. -/
def Sys2Proof.BiasBecomes (s : State) (n : Nat) (b : Bias) (t : State) : Prop :=
  KeepsBut [.bias] s t ∧ biasDac t n = b ∧ (∀ m, m ≠ n → biasDac t m = biasDac s m) ∧ t.bias = { s.bias with dac := t.bias.dac }

/-- The element of a bias output waits to be isolated in both directions, a carrier being committed. -/
def Sys2Proof.BiasIsolates (s : State) (n : Nat) (t : State) : Prop :=
  ∀ e, biasElement s n = some e → cars s ≠ [] → t.clk.isoPend = s.clk.isoPend ++ [(2, 1, e + 768)]

/-- Every fitted sheet carries the hold `b`, with no end set. -/
def Sys2Proof.AllHeld (s : State) (b : Nat) (t : State) : Prop :=
  ∀ n ∈ sheets s, (holds t n).testBit b = true ∧ tfind t.tx.release (8 * n + b) = none

/-- The coexistence holds in force end at datum time `e`. -/
def Sys2Proof.CoexEnds (s : State) (e : Nat) (t : State) : Prop :=
  t.tx = { s.tx with release := t.tx.release } ∧ ∀ n ∈ sheets s, ∀ b ∈ [holdCoex, holdCoexWhole],
    tfind t.tx.release (8 * n + b) = if (holds s n).testBit b then some e else tfind s.tx.release (8 * n + b)

/-- Only capture slot `k` changes, to `c`. -/
def Sys2Proof.SlotBecomes (s : State) (k : Nat) (c : CapSlot) (t : State) : Prop :=
  capOf t k = c ∧ ∀ j, j ≠ k → capOf t j = capOf s j

/-- A mismatch measurement of path `p` runs on receiver `k`, and its two blocks have been captured. -/
def Sys2Proof.mismatchOver (s : State) (p k : Nat) : Bool :=
  decide (k < 8) && (orxOf s k).owner == 1 && (orxOf s k).mismatch && (orxOf s k).path == some p && (orxOf s k).capture == 1 &&
    due s (add32 (add32 (orxOf s k).leaseStart (settleDelay s)) 22083)

/-- Opcodes of kind R that firmware answers at once: every _READ, _GET and _STATUS command but ANALYSE and TXN_STATUS. -/
def Sys2Proof.readOps : List Nat :=
  [0x0101, 0x0103, 0x0108, 0x0111, 0x0120, 0x0202, 0x0205, 0x0213, 0x0301, 0x0402, 0x0404, 0x0406, 0x0407, 0x0504, 0x0506, 0x0508,
   0x0603, 0x0604, 0x0605, 0x0606, 0x0702, 0x0704, 0x0708, 0x0709, 0x0802, 0x0804, 0x0806, 0x0807, 0x0808, 0x0809, 0x0903, 0x0905,
   0x0907, 0x0908, 0x090A, 0x090B, 0x0A03, 0x0A05, 0x0A07, 0x0A09, 0x0B03, 0x0B04, 0x0B06, 0x0B08, 0x0B41, 0x0B42, 0x0C02, 0x0C04,
   0x0C14, 0x0C21, 0x0C22, 0x0C31, 0x0D02, 0x0E02, 0x0E03, 0x0E05, 0x0F07, 0x0F08, 0x0F12, 0x1002, 0x1003, 0x1011]

/-- Opcodes of kind N that are not parked: SYS_RESET, FW_ACTIVATE, FW_CONFIRM, EVENT_MASK_SET, MBX_INBAND_SET, PWR_CASK_CLEAR,
PWR_SAVELIST_SET, KILN_CONFIG, KILN_BUDGET_SET, KILN_MODEL_SET, DATUM_CONFIG, DATUM_TIME_SET, DATUM_STEP, DATUM_FREQ_SET, ECPRI_OWD,
FH_LINK_SET, FH_QUEUE_SET, GRAT_WEIGHT_WRITE, DPD_COEF_WRITE, SURVEY_RUN, RS_TIMER_SET, CONV_CAL_SET, BIAS_RESTORE, RFFE_SCHED,
HK_SEQ_SET, HK_LIMIT_SET, MEM_CONFIG, MEM_INJECT, MEM_TMR_WRITE, PROFILE_SELECT, CAPTURE_SET, CAPTURE_RELEASE. -/
def Sys2Proof.setOps : List Nat :=
  [0x0102, 0x0105, 0x0106, 0x0109, 0x0110, 0x0203, 0x0204, 0x0210, 0x0211, 0x0212, 0x0302, 0x0303, 0x0304, 0x0305, 0x0306, 0x0401,
   0x0405, 0x0505, 0x0904, 0x0A02, 0x0B01, 0x0B40, 0x0C05, 0x0C12, 0x0D01, 0x0D03, 0x0E01, 0x0E04, 0x0E06, 0x0F11, 0x1001, 0x1004]

/-- Opcodes marked P: FW_WRITE, SYS_FUSE_PROGRAM, PWR_DOMAIN_SET, ORX_SERVICE, SHEET_SERVICE, CONV_SLICE_SERVICE, RFFE_XFER,
PROFILE_WRITE, ANALYSE. -/
def Sys2Proof.parkOps : List Nat := [0x0104, 0x0107, 0x0201, 0x090C, 0x0B09, 0x0B43, 0x0C11, 0x0F10, 0x1012]

/-- Opcodes of kind T, which run alone as a transaction of one item. -/
def Sys2Proof.itemOps : List Nat :=
  [0x0403, 0x0501, 0x0503, 0x0601, 0x0602, 0x0701, 0x0703, 0x0705, 0x0706, 0x0707, 0x0801, 0x0803, 0x0805, 0x0901, 0x0902, 0x0909,
   0x0A01, 0x0A04, 0x0A06, 0x0A08, 0x0B02, 0x0B05, 0x0B07, 0x0C01, 0x0C03, 0x0C10, 0x0C13, 0x0C20, 0x0C30, 0x1010]

/-- Opcodes of kind S: GRAT_WEIGHT_SWAP and DPD_COEF_SWAP. -/
def Sys2Proof.swapOps : List Nat := [0x0507, 0x0906]

/-- A host channel on which a command can be sent and is taken at once: its mailbox answers the port, firmware takes commands, the
channel does not ring, nothing waits before it, and it is not the channel of the in-band stream. -/
def Sys2Proof.ChannelFree (ch : Nat) (s : State) : Prop :=
  ch < 8 ∧ accessError s (0x20000000 + cmdArea ch) = none ∧ accessError s 0x40030000 = none ∧ s.mbx.ready = true ∧
    s.mbx.ring.testBit ch = false ∧ s.mbx.fifo = [] ∧ s.mbx.waiting = none ∧ (ch = 7 → s.mbx.inband = false)

/-- A command of an opcode as firmware takes it from its requester: the record in bytes. -/
def Sys2Proof.taken (op : Nat) (c : Call) : Cmd :=
  { src := c.src, op := op, seq := c.seq, txn := c.txn, req := c.req.map (· % 256) }

/-- The state in which firmware takes a host's command: its area is written, its channel rings, DONE is clear. -/
def Sys2Proof.rung (op : Nat) (c : Call) (ch : Nat) (s : State) : State :=
  let t := runP (store .mailbox 1 (cmdArea ch) (cmdBytes op c)) s
  { t with mbx := { t.mbx with ring := t.mbx.ring ||| 2 ^ ch, done := andNot t.mbx.done (2 ^ ch) } }

/-- The state in which firmware checks it: the transaction it names stays OPEN for 10 s more. -/
def Sys2Proof.entered (op : Nat) (c : Call) (ch : Nat) (s : State) : State := runP (nameTxn (taken op c)) (rung op c ch s)

/-- A host sends the mailbox command `i`, of opcode `op` with call `c`, on the free channel `ch`. -/
def Sys2Proof.Sent (i : Instr) (op : Nat) (c : Call) (ch : Nat) (s : State) : Prop :=
  i.call = some (op, c) ∧ c.src = .host ch ∧ callOk c = true ∧ ChannelFree ch s ∧ Memory.wf s.mem = true

/-- Firmware runs the command: it repeats none, its area can be read, and every check passes. -/
def Sys2Proof.Passes (op : Nat) (c : Call) (ch : Nat) (s : State) : Prop :=
  tfind s.mbx.last ch ≠ some (c.seq, op) ∧ badRange (rung op c ch s) 1 (cmdArea ch) (8 + c.req.length) = false ∧
    checkAll (entered op c ch s) (taken op c) = none

/-- The command of a channel is answered: the response lies in its response area with zeros after it, DONE is set, RING is clear and
the pair SEQ and OPCODE is kept; the other channels ring and are done as before. -/
def Sys2Proof.Answered (k : Cmd) (ch st det : Nat) (r : Rec) (s t : State) : Prop :=
  (∀ j, j < 256 → (peek t .mailbox (respArea ch) 256).getD j 0 = (respBytes k st det r).getD j 0 % 256) ∧
    t.mbx.done.testBit ch = true ∧ t.mbx.ring.testBit ch = false ∧ tfind t.mbx.last ch = some (k.seq, k.op) ∧
    ∀ x, x ≠ ch → t.mbx.done.testBit x = s.mbx.done.testBit x ∧ t.mbx.ring.testBit x = s.mbx.ring.testBit x

/-- The item that a command of kind T or S is staged as. -/
def Sys2Proof.itemFor (op : Nat) (c : Call) : Item := itemOf (taken op c)

/-- A command of kind T alone: its transaction, just opened. -/
def Sys2Proof.opened (op : Nat) (c : Call) (ch : Nat) (s : State) : State := runP (openTxn 1 0 [itemFor op c]) (entered op c ch s)

/-- That transaction accepted for now and its shadow bank loaded. -/
def Sys2Proof.loadedOne (op : Nat) (c : Call) (ch : Nat) (s : State) : State :=
  match txnOf (opened op c ch s) s.txn.next with
  | none => opened op c ch s
  | some x => runP (seqs [modMbx fun m => { m with waiting := some (taken op c, s.txn.next) },
      acceptCommit x 0 (singleRef (opened op c ch s)) (now s), shadowLoad s.txn.next]) (opened op c ch s)

/-- A step of a state with command c at the front of its queue is exec of c on that state with the rest of the queue. -/
def Obligations.QueueStep : Prop :=
  ∀ (s : State) (c : Instr) (rest : List Instr), s.pending = c :: rest → step s = exec c { s with pending := rest }

/-- Model choice (assumption log 2): a step on an empty queue is one cycle of the DATUM clock. It answers a next state
with the queue still empty and the cycle count one higher; with DATUM ON the counter with its fraction advances by the
increment, the one written last if one waits, which is then in force; and no setting, no register, no memory, no
commit record, no transaction, no power state, no fuse, no radio state, no bias output and no RFFE master changes, and
of the converters only the dither registers of the DACs. -/
def Obligations.EmptyQueueStep : Prop :=
  ∀ s : State, s.pending = [] → ∃ t, step s = .next t ∧ t.tick = s.tick + 1 ∧
    (domOn s dDATUM = true →
      let inc := s.datum.incNext.getD (s.datum.incInt, s.datum.incFrac)
      t.datum.cnt.toNat * 2 ^ 44 + t.datum.frac.toNat =
        (s.datum.cnt.toNat * 2 ^ 44 + s.datum.frac.toNat + inc.1 * 2 ^ 44 + inc.2) % 2 ^ 76 ∧
      (t.datum.incInt, t.datum.incFrac) = inc ∧ t.datum.incNext = none) ∧
    t.conv = { s.conv with lfsr := t.conv.lfsr } ∧
    KeepsBut [.cnts, .tick, .mbx, .evt, .clk, .datum, .cap, .fh, .tx, .dpd, .rx, .conv, .coex] s t

/-- Whatever command runs, it answers a next state whose queue is the queue it was given: exec never stops and never adds
or removes a waiting command. -/
def Obligations.ExecKeepsQueue : Prop :=
  ∀ (i : Instr) (s : State), Answers i s fun t => t.pending = s.pending

/-- The invariant of the state (byte memories in canonical form, counters within 32 bits, totals within 64 bits, the two
logs within their rings and numbered without a gap) holds at reset. -/
def Obligations.ResetHoldsInvariant : Prop :=
  Inv State.reset

/-- From every state in which the invariant holds, every step, whatever the command, answers a next state in which it
holds: the byte memories stay in canonical form, every counter stays within 32 bits and every total within 64, the
commit log holds at most 4,096 records and the event log at most 2,048, and the records of each are numbered without a
gap up to the next SEQ. -/
def Obligations.StepKeepsInvariant : Prop :=
  ∀ s : State, Inv s → ∃ t, step s = .next t ∧ Inv t

/-- Over every step the fused security counters never fall, a programmed owner key slot keeps its hash, a revoked owner
slot stays revoked, and the vendor key slots with their revocations and the fused variant never change. -/
def Obligations.FusesOnlyAdvance : Prop :=
  ∀ s t : State, step s = .next t →
    s.fuse.fwCounter ≤ t.fuse.fwCounter ∧ s.fuse.profCounter ≤ t.fuse.profCounter ∧
    (∀ i h, tfind s.fuse.ownerKey i = some h → tfind t.fuse.ownerKey i = some h) ∧
    (∀ i, s.fuse.ownerRev.testBit i = true → t.fuse.ownerRev.testBit i = true) ∧
    t.fuse.vendorKey = s.fuse.vendorKey ∧ t.fuse.vendorRev = s.fuse.vendorRev ∧ t.fuse.variant = s.fuse.variant

/-- RESET, a RESET_N low of 1 us or longer, the watchdog (1 s after firmware starts, 5 s in the boot ROM), a lockstep
mismatch (which also latches fault bit 3), the 1 ms after SYS_RESET, the trial timeout and TEST_EN rising each start a
reset with their own cause: the processor is held, the mailbox not ready, transactions, logs and timers gone, and
settings, registers, memories and fuses unchanged. It says that these complete: reset, resetNAssert, watchdogExpiry,
lockstepMismatch, commandResetTimeout, testEnChange, trialTimeout. -/
def Obligations.ResetCauses : Prop :=
  (∀ (s : State) (cause : Nat), domOn s dCTRL = true ∨ domMoving s dCTRL = true → cause < 256 →
    Answers (.reset cause) s (ResetStarted cause s)) ∧
  (∀ (s : State) (lowNs : Nat), domOn s dCTRL = true → 1000 ≤ lowNs → Answers (.resetNAssert lowNs) s fun t =>
    ResetStarted 0x02 s t ∧ t.boot.resetLow = true) ∧
  (∀ s : State, domOn s dCTRL = true → s.boot.held = false →
    elapsed s tkBoot (if fwRuns s then 1000000000 else 5000000000) = true → Answers .watchdogExpiry s (ResetStarted 0x04 s)) ∧
  (∀ s : State, domOn s dCTRL = true → s.boot.held = false → Answers .lockstepMismatch s fun t =>
    ResetStarted 0x05 s t ∧ t.host.fault.testBit 3 = true) ∧
  (∀ s : State, s.boot.resetPending = true → elapsed s tkCommand 1000000 = true →
    Answers .commandResetTimeout s (ResetStarted 0x03 s)) ∧
  (∀ s : State, fwRuns s = true → slotState (tmrWord s 2) s.boot.slot = 2 →
    elapsed s tkBoot (1000000000 * s.boot.trialTimeout) = true → Answers .trialTimeout s (ResetStarted 0x08 s)) ∧
  (∀ s : State, domOn s dCTRL = true → s.boot.testEn = false → Answers (.testEnChange true) s fun t =>
    ResetStarted 0x02 s t ∧ t.boot.testEn = true)

/-- A RESET_N low shorter than 100 ns changes nothing. One of 100 ns up to 1 us is accepted or ignored by a free value
(assumption log 11): the manual does not say. An accepted low while CTRL is not ON is only held. While RESET_N is low,
its rising edge ends the low, latches PROF0 and PROF1, and starts the time to the boot ROM; nothing else changes.
TEST_EN falling releases the device, latches the pins and leaves the TAP in Test-Logic-Reset with IDCODE. It says that
these complete: resetNAssert, resetNRelease, testEnChange. -/
def Obligations.ResetPinReleased : Prop :=
  (∀ (s : State) (lowNs : Nat), lowNs < 100 → exec (.resetNAssert lowNs) s = .next s) ∧
  (∀ (s : State) (lowNs : Nat), domOn s dCTRL = true → 100 ≤ lowNs → lowNs < 1000 → Answers (.resetNAssert lowNs) s fun t =>
    let u := { s with free := s.free + 1 }
    ((freeNow s).testBit 0 = true → ResetStarted 0x02 u t ∧ t.boot.resetLow = true) ∧ ((freeNow s).testBit 0 = false → t = u)) ∧
  (∀ (s : State) (lowNs : Nat), domOn s dCTRL = false → 1000 ≤ lowNs →
    exec (.resetNAssert lowNs) s = .next { s with boot := { s.boot with resetLow := true } }) ∧
  (∀ (s : State) (prof : Nat), s.boot.resetLow = true → exec (.resetNRelease prof) s =
    .next { s with
      boot := { s.boot with resetLow := false, profPins := prof % 4, profLatched := prof % 4 }
      clk := { s.clk with stamps := tset s.clk.stamps tkBoot (upNs s) } }) ∧
  (∀ s : State, s.boot.testEn = true → Answers (.testEnChange false) s fun t =>
    t.boot.testEn = false ∧ t.boot.profLatched = s.boot.profPins ∧ t.tap.st = .testLogicReset ∧ t.tap.ir = 1 ∧
    KeepsBut [.boot, .clk, .tap] s t)

/-- BOOT_ROM_START, with the processor leaving reset, releases it, writes the cause to word 0, counts the boot in word 1,
and chooses the slot to try from word 2 unless ROM safe mode was asked for. The header of the slot being tried is
checked after 1.2 ms, or at once for a later slot: one that passes leads to the payload, the payload (50 ns a byte) to
the signature. A header that fails, or a signature, marks its slot BAD in word 2 with its reason, and the next slot is
chosen. An image whose signature verifies is the running and preferred slot, with its version. CRASH_COUNT_CLEAR, 10
minutes after firmware started, clears the crash count of word 2. It says that these complete: bootRomStart,
imageHeaderCheck, imagePayloadLoaded, signatureVerified, crashCountClear. -/
def Obligations.BootSteps : Prop :=
  (∀ s : State, domOn s dCTRL = true → leavesReset s = true → Answers .bootRomStart s fun t =>
    let w := (crashStep (tmrWord s 2) s.boot.cause).1 % 2 ^ 32
    let c := chooseSlot w 0 [wPreferred w, 1 - wPreferred w]
    t.boot.held = false ∧ t.boot.mode = 0 ∧ t.boot.stage = 0 ∧ tmrWord t 0 = (s.boot.cause + 256 * (tmrWord s 0 % 256)) % 2 ^ 32 ∧
      tmrWord t 1 = (tmrWord s 1 + 1) % 2 ^ 32 ∧
      (s.boot.romSafe = true → t.boot.step = 1 ∧ t.boot.romSafe = true ∧ tmrWord t 2 = w) ∧
      (s.boot.romSafe = false → t.boot.step = (if c.1.isSome then 1 else 7) ∧ t.boot.trying = c.1.getD 0 ∧
        tmrWord t 2 = c.2.1 % 2 ^ 32) ∧
      KeepsBut [.cnts, .mem, .ecc, .clk, .pwr, .boot, .sect] s t) ∧
  (∀ (s : State) (flashOk : Bool), s.boot.step = 1 → s.boot.held = false → s.boot.romSafe = false →
    s.boot.tried ≠ 0 ∨ elapsed s tkBoot 1200000 = true →
    let r := imgHeaderReason s 1 (tget [] s.boot.slotImg s.boot.trying) flashOk
    Answers (.imageHeaderCheck flashOk) s fun t =>
      t.boot.stage = 1 ∧ (r = 0 → t.boot.step = 2 ∧ t.boot.trying = s.boot.trying ∧ t.ecc = s.ecc) ∧
      (r ≠ 0 → SlotRefused r s t) ∧ KeepsBut [.ecc, .clk, .boot] s t) ∧
  (∀ s : State, s.boot.step = 2 → s.boot.held = false →
    elapsed s tkBoot (50 * (512 + imgLen (tget [] s.boot.slotImg s.boot.trying))) = true →
    exec .imagePayloadLoaded s = .next { s with boot := { s.boot with step := 3 } }) ∧
  (∀ s : State, s.boot.step = 3 → s.boot.held = false →
    let k := s.boot.trying
    let img := tget [] s.boot.slotImg k
    Answers .signatureVerified s fun t =>
      (imgSigned img = true → t.boot.step = 4 ∧ t.boot.slot = k ∧ t.boot.fwVersion = imgVersion img ∧
        tmrWord t 2 = setField (setField (tmrWord s 2) 9 9 k) 8 8 k % 2 ^ 32) ∧
      (imgSigned img = false → SlotRefused 0x07 s t) ∧ KeepsBut [.ecc, .boot] s t) ∧
  (∀ s : State, fwRuns s = true → elapsed s tkBoot 600000000000 = true → Answers .crashCountClear s fun t =>
    tmrWord t 2 = setField (tmrWord s 2) 19 16 0 % 2 ^ 32 ∧ KeepsBut [.ecc] s t)

/-- FIRMWARE_START returns every setting to its Reset value, clears TIME_VALID, starts extended time at the counter,
selects the profile and keeps the selection in word 3, logs the start record and makes the mailbox ready with every
RING and DONE bit clear. ROM_SAFE_PROFILE, entered when no slot is left or ROM safe mode was asked for, enters MODE 2
with the safe link setting as the only setting, starts the wakes of FH and DATUM, begins alignment on a link whose
domain is ON already, and opens the mailbox without the in-band stream. It says that these complete: firmwareStart,
romSafeProfile. -/
def Obligations.FirmwareStarts : Prop :=
  (∀ s : State, s.boot.step = 4 → s.boot.held = false → domOn s dCTRL = true → Answers .firmwareStart s fun t =>
    t.cfg = [] ∧ t.boot.step = 5 ∧ t.boot.stage = 2 ∧ t.boot.mode = 0 ∧
    t.boot.profile = (selectProfile (tmrWord s 3) s.boot.profLatched).1 ∧
    tmrWord t 3 = (selectProfile (tmrWord s 3) s.boot.profLatched).2 % 2 ^ 32 ∧
    t.datum.timeValid = false ∧ t.datum.ref = (if domOn s dDATUM then (now s, 0, 0) else (0, 0, 0)) ∧
    (∃ r, t.log.recs.getLast? = some r ∧ r.kind = 0x0B ∧ r.detail = s.boot.cause % 2 ^ 32) ∧
    t.mbx.ready = true ∧ t.mbx.ring = 0 ∧ t.mbx.done = 0 ∧ t.mbx.inband = true ∧ t.host.aoReady = true ∧ t.hk.idx = 0 ∧
    KeepsBut [.cfg, .cnts, .ecc, .host, .mbx, .log, .evt, .clk, .datum, .kiln, .boot, .dpd, .hk] s t) ∧
  (∀ s : State, domOn s dCTRL = true → s.boot.held = false → s.boot.step = 7 ∨ (s.boot.step = 1 ∧ s.boot.romSafe = true) →
    Answers .romSafeProfile s fun t =>
    t.cfg = [(cfgKey 0x0401 0, safeLinkRec)] ∧ t.boot.step = 6 ∧ t.boot.mode = 2 ∧ t.boot.romSafe = false ∧ t.boot.fwVersion = 0 ∧
    t.mbx.ready = true ∧ t.mbx.inband = false ∧ t.host.aoReady = true ∧
    (∀ d, d = dFH ∨ d = dDATUM → domSt s d = .off ∨ domSt s d = .retention → domSt t d = .waiting) ∧
    (domOn s dFH = true → t.fh.link = 1) ∧
    KeepsBut [.cfg, .host, .mbx, .clk, .pwr, .boot, .fh] s t)

/-- VAO_IN rising starts the always-on regulator. 1 ms later its logic runs, with FIO and the first rail enable. A rail
good for 100 us enables the next rail; the last one starts the wakes of CTRL, MBX and HK and the reset of the rise.
100 ms after a rail fault that did not hold the rails, the restart enables the first rail again. It says that these
complete: powerUp, aoLogicRelease, powerGoodHeld, railRestartTimeout. -/
def Obligations.SupplyRises : Prop :=
  (∀ s : State, s.pwr.aoUp = false → s.pwr.aoRising = false →
    exec .powerUp s = .next { s with
      pwr := { s.pwr with aoRising := true, riseCause := 1 }
      clk := { s.clk with stamps := tset s.clk.stamps tkRise (upNs s) } }) ∧
  (∀ s : State, s.pwr.aoRising = true → s.pwr.aoUp = false → elapsed s tkRise 1000000 = true → Answers .aoLogicRelease s fun t =>
    t.pwr = { s.pwr with aoUp := true, aoRising := false, fio := true, pseqEn := 1 } ∧ KeepsBut [.cnts, .ecc, .clk, .pwr] s t) ∧
  (∀ (s : State) (rail : Nat), rail < 6 → s.pwr.pseqEn.testBit rail = true → s.pwr.pseqPg.testBit rail = false →
    elapsed s tkRail 100000 = true → exec (.powerGoodHeld rail) s = .next { s with
      pwr := { s.pwr with pseqPg := s.pwr.pseqPg ||| 2 ^ rail, pseqEn := s.pwr.pseqEn ||| 2 ^ (rail + 1) }
      clk := { s.clk with stamps := tset s.clk.stamps tkRail (upNs s) } }) ∧
  (∀ s : State, s.pwr.pseqEn.testBit 6 = true → s.pwr.pseqPg.testBit 6 = false → elapsed s tkRail 100000 = true →
    domSt s dCTRL = .off → domSt s dMBX = .off → domSt s dHK = .off → Answers (.powerGoodHeld 6) s fun t =>
      t.pwr.pseqPg = s.pwr.pseqPg ||| 2 ^ 6 ∧ domSt t dCTRL = .waiting ∧ domSt t dMBX = .waiting ∧ domSt t dHK = .waiting ∧
      ResetStarted s.pwr.riseCause s t) ∧
  (∀ s : State, s.pwr.railWait = true → s.pwr.railHeld = false → (∀ f, s.pwr.railTimes.head? = some f → f + 100000000 ≤ upNs s) →
    exec .railRestartTimeout s = .next { s with
      pwr := { s.pwr with railWait := false, fio := true, pseqEn := 1, riseCause := 6 }
      clk := { s.clk with stamps := tset s.clk.stamps tkRail (upNs s) } })

/-- Undervoltage lockout of VAO_IN, also while it still rises, forces every domain OFF and loses the always-on state
(settings, every register, the host port, the clock monitor, the enables, the boot state) but keeps the triplicated
words, fuses, flash images with their reasons, and the levels of pins. A rail fault forces every domain OFF, drops all
enables, latches fault bit 4 with the rail, leaves the bias outputs unconfigured, keeps fuses, the transactions and
every setting but those held in registers of TXD, RXD and SHEET domains, and holds the rails down from the third fault
within 10 minutes on; else the 100 ms wait begins. It says that these complete: aoUndervoltageLockout, railFault. -/
def Obligations.SupplyFalls : Prop :=
  (∀ s : State, s.pwr.aoUp = true ∨ s.pwr.aoRising = true → Answers .aoUndervoltageLockout s fun t =>
    t.pwr = {} ∧ t.cfg = [] ∧ (∀ a, a < 0x100000000 → tfind t.regs a = none) ∧ t.host = {} ∧ t.clk = {} ∧
    t.ecc = { tmr := s.ecc.tmr } ∧ t.bias = { pinLow := s.bias.pinLow } ∧
    t.boot = { profPins := s.boot.profPins, resetLow := s.boot.resetLow, testEn := s.boot.testEn, slotImg := s.boot.slotImg
               profImg := s.boot.profImg, slotReason := s.boot.slotReason, profReason := s.boot.profReason } ∧
    (∀ d, domOn t d = false) ∧ t.txn = {} ∧
    KeepsBut [.cfg, .regs, .cnts, .tots, .mem, .ecc, .host, .mbx, .log, .evt, .txn, .clk, .datum, .pwr, .kiln, .boot, .cap, .sect, .fh,
      .grat, .mash, .tx, .dpd, .rx, .conv, .hk, .radio, .survey, .bias, .rffe] s t) ∧
  (∀ (s : State) (rail : Nat), rail < 7 → s.pwr.pseqEn.testBit rail = true →
    let times := (upNs s :: s.pwr.railTimes).take 3
    let third := times.length == 3 && decide (upNs s - times.getLastD 0 ≤ 600000000000)
    Answers (.railFault rail) s fun t =>
      t.pwr.pseqEn = 0 ∧ t.pwr.pseqPg = 0 ∧ t.pwr.rail = rail ∧ t.pwr.railFault = true ∧ t.pwr.railTimes = times ∧
      t.pwr.railHeld = third ∧ t.pwr.railWait = !third ∧ t.pwr.riseCause = 6 ∧
      t.host.fault = s.host.fault ||| 2 ^ 4 ∧ t.bias.dac = [] ∧ (∀ d, d ≠ 0 → domOn t d = false) ∧
      (∀ op unit r, unit < 65536 → op ∉ [0x0703, 0x0707, 0x0803, 0x0805, 0x0902, 0x0B07] →
        setting t op unit r = setting s op unit r) ∧
      KeepsBut [.cfg, .regs, .cnts, .tots, .free, .mem, .ecc, .host, .mbx, .evt, .datum, .pwr, .sect, .fh, .grat, .mash, .tx, .dpd,
        .rx, .conv, .hk, .radio, .survey, .bias, .rffe] s t)

/-- For every command and every state, the command answers a next state in which the queue and every group of the state
outside the list reach gives for it are unchanged. reach names, for each of the events and port accesses, the blocks
that the manual lets it act on; a mailbox command may reach every group, since its answer lets the commands behind it
run. -/
def Obligations.EventFrames : Prop :=
  ∀ (i : Instr) (s : State), Answers i s (KeepsBut (reach i) s)

/-- INCREMENT_WRITE takes INT (0 as 1, 1 to 3 as written, above 3 a free value from 1 to 3) and FRAC for the next cycle
and changes nothing else. TOD_REFERENCE_WRITE takes the four TOD registers together. With DATUM off both change
nothing. TOD_REFRESH moves the triple of firmware and of the TOD registers to now at the same extended time, and takes
from a slew what has run, which ends with the increment of FREQ_ADJ once nothing is left; without firmware or DATUM it
changes nothing. It says that these complete: incrementWrite, todReferenceWrite, todRefresh. -/
def Obligations.DatumRegisterWrites : Prop :=
  (∀ (s : State) (value : Nat), domOn s dDATUM = true → slice value 15 12 ≤ 3 → exec (.incrementWrite value) s =
    .next { s with datum := { s.datum with
      incNext := some (max 1 (slice value 15 12), slice value 11 0 * 2 ^ 32 + s.datum.incrLo) } }) ∧
  (∀ (s : State) (value : Nat), domOn s dDATUM = true → 3 < slice value 15 12 → Answers (.incrementWrite value) s fun t =>
    (∃ n, 1 ≤ n ∧ n ≤ 3 ∧ t.datum = { s.datum with incNext := some (n, slice value 11 0 * 2 ^ 32 + s.datum.incrLo) }) ∧
    t.free = s.free + 1 ∧ KeepsBut [.free, .datum] s t) ∧
  (∀ (s : State) (value : Nat), domOn s dDATUM = true → exec (.todReferenceWrite value) s =
    .next { s with datum := { s.datum with
      tod := (s.datum.todHold.1, s.datum.todHold.2.1 + s.datum.todHold.2.2 % 65536 * 2 ^ 32, value % 2 ^ 30) } }) ∧
  (∀ (s : State) (value : Nat), domOn s dDATUM = false →
    exec (.incrementWrite value) s = .next s ∧ exec (.todReferenceWrite value) s = .next s) ∧
  (∀ s : State, fwRuns s = true → domOn s dDATUM = true → Answers .todRefresh s fun t =>
    t.datum.ref = (now s, extTime s (now s)) ∧ t.datum.tod = t.datum.ref ∧ t.datum.cnt = s.datum.cnt ∧
    (s.datum.slew = 0 → t.datum.slew = 0 ∧ t.datum.incNext = s.datum.incNext) ∧
    (s.datum.slew ≠ 0 → t.datum.slew = slewLeft s ∧
      (slewLeft s ≠ 0 → t.datum.incNext = s.datum.incNext) ∧
      (slewLeft s = 0 → t.datum.incNext = some (incOf s.datum.freqAdj / 2 ^ 44 % 16, incOf s.datum.freqAdj % 2 ^ 44))) ∧
    KeepsBut [.datum] s t) ∧
  (∀ s : State, fwRuns s = false ∨ domOn s dDATUM = false → exec .todRefresh s = .next s)

/-- With DATUM ON, no sheet in RX or TX and no transaction COMMITTED, setting CTRL.STEP adds STEP_NS to the counter,
firmware moves its triple with it (model choice, assumption log 19), alignment, sections, egress queues, timers,
patterns, comparators and scheduled RFFE messages go, and the timeout of PPS_IN runs anew. Otherwise the step is
refused and changes nothing. It says that these complete: datumCtrlStep. -/
def Obligations.CounterStep : Prop :=
  (∀ s : State, domOn s dDATUM = true → stepBarred s = false → Answers .datumCtrlStep s fun t =>
    t.datum.cnt = s.datum.cnt + BitVec.ofNat 32 s.datum.stepNs ∧ t.datum.ref.1 = t.datum.cnt.toNat ∧
    t.datum.tod = t.datum.ref ∧ SteppedFrom s t ∧
    t.datum.ppsLimit = s.datum.ppsLimit.map (fun _ => add32 (now t) 2000000000) ∧
    KeepsBut [.cnts, .mbx, .evt, .clk, .datum, .sect, .fh, .tx, .radio, .rffe] s t) ∧
  (∀ s : State, domOn s dDATUM = false ∨ stepBarred s = true → exec .datumCtrlStep s = .next s)

/-- PTP_MESSAGE takes the oldest entry of the ring that is no one-way delay response. A one-step Sync of the selected
master sets the pair of times that an answered Delay_Req is judged by, a two-step one sets its second time, and the
Follow_Up of the same sequenceId its first; a message of another domain is dropped. A one-way delay request of action
0 is answered into the transmit ring while time is valid, and dropped otherwise. ECPRI_OWD_RESPONSE takes the oldest
response and puts its delay first of the eight kept. DELAY_REQ_SEND, due by its period, puts one Delay_Req at the end
of the transmit ring. PTP_TRANSMIT sends the ring oldest first and returns the timestamp; an own delay request carries
its timestamp, or is not sent where the TOD reference is too old; no eCPRI message is sent while time is not valid. It
says that these complete: ptpMessage, delayReqSend, ptpTransmit, ecpriOwdResponse. -/
def Obligations.PtpRing : Prop :=
  (∀ (s : State) (ts : Nat) (f : Rec), fwRuns s = true →
    (s.fh.ptpRing.find? fun e => !isOwdResponse e.2) = some (ts, f) → Answers .ptpMessage s fun t =>
      let m := payload f
      t.fh.ptpRing = s.fh.ptpRing.erase (ts, f) ∧
      (etherType f = 0x88F7 → bfld m 4 1 ≠ fld (datumRec s) 1 1 → t.datum = s.datum) ∧
      (etherType f = 0x88F7 → datumSource s = 1 → bfld m 4 1 = fld (datumRec s) 1 1 → bfld m 20 10 = s.datum.gmPort →
        (bfld m 0 1 % 16 = 0 → (bfld m 6 1).testBit 1 = false →
          t.datum = { s.datum with syncSeq := bfld m 30 2, sync := some (ptpStamp m + ptpCorr m, ext256 s ts) }) ∧
        (bfld m 0 1 % 16 = 0 → (bfld m 6 1).testBit 1 = true →
          t.datum = { s.datum with syncSeq := bfld m 30 2, sync := some (-1, ext256 s ts - ptpCorr m) }) ∧
        (∀ t2, bfld m 0 1 % 16 = 8 → bfld m 30 2 = s.datum.syncSeq → s.datum.sync = some (-1, t2) →
          t.datum = { s.datum with sync := some (ptpStamp m + ptpCorr m, t2) })) ∧
      (etherType f ≠ 0x88F7 → bfld m 5 1 = 0 → t.datum = { s.datum with
        ptpTx := s.datum.ptpTx ++ (if s.datum.timeValid then
          [owdFrame s ((f.drop 6).take 6) (bfld m 4 1) 2 (stampBytes (ext256 s ts / 256))] else []) })) ∧
  (∀ (s : State) (ts : Nat) (f : Rec) (q : Nat × Nat × Int), fwRuns s = true →
    (s.fh.ptpRing.find? fun e => isOwdResponse e.2) = some (ts, f) →
    (s.datum.owdSent.find? fun q => q.1 == bfld (payload f) 4 1 && q.2.2 != -1) = some q →
    Answers .ecpriOwdResponse s fun t =>
      t.fh.ptpRing = s.fh.ptpRing.erase (ts, f) ∧ t.datum.owdSent = s.datum.owdSent.erase q ∧
      t.datum.owd = ((q.1, q.2.1, ((bfld (payload f) 6 6 * 1000000000 + bfld (payload f) 12 4 : Nat) : Int) - q.2.2) ::
        s.datum.owd).take 8 ∧ KeepsBut [.datum, .fh] s t) ∧
  (∀ s : State, fwRuns s = true → domOn s dDATUM = true → datumSource s = 1 → s.datum.gmBest ≠ [] →
    elapsed s tkDelayReq (delayReqNs s) = true → Answers .delayReqSend s fun t =>
      (∃ f, t.datum = { s.datum with ptpTx := s.datum.ptpTx ++ [f] } ∧ ((localMac s).length = 6 → etherType f = 0x88F7)) ∧
      tget 0 t.fh.seqTx 0x10000 = (tget 0 s.fh.seqTx 0x10000 + 1) % 65536 ∧ KeepsBut [.clk, .datum, .fh] s t) ∧
  (∀ (s : State) (ago fecPos : Nat) (f : Rec) (rest : List Rec), s.fh.link = 3 → domOn s dDATUM = true →
    s.datum.ptpTx = f :: rest → Answers (.ptpTransmit ago fecPos) s fun t =>
      let ts := txStamp s ago fecPos
      let age := int32Diff (ts / 256) s.datum.tod.1
      (etherType f = 0xAEFE → s.datum.timeValid = false → t = { s with datum := { s.datum with ptpTx := rest } }) ∧
      (isOwdRequest f = false → (etherType f = 0xAEFE → s.datum.timeValid = true) → t.fh.wire = [f] ∧
        t.datum = { s.datum with
          ptpTx := rest, ptpTs := [ts]
          delayReq := if etherType f = 0x88F7 then some (ext256 s ts) else s.datum.delayReq
          delaySeq := if etherType f = 0x88F7 then bfld (payload f) 30 2 else s.datum.delaySeq }) ∧
      (isOwdRequest f = true → s.datum.timeValid = true → age < 0 ∨ 1000000000 ≤ age →
        t = { s with datum := { s.datum with ptpTx := rest, todStale := true } }) ∧
      (isOwdRequest f = true → s.datum.timeValid = true → 0 ≤ age → age < 1000000000 →
        t.fh.wire = [insertStamp f (extTotal s.datum.tod (ts / 256))] ∧ t.datum.ptpTx = rest ∧ t.datum.ptpTs = [ts] ∧
          t.datum.todStale = false) ∧
      KeepsBut [.tots, .datum, .fh] s t)

/-- No Announce for three intervals, or no Sync for 1 s, drops the master and enters HOLDOVER from ACQUIRING or LOCKED
under SOURCE 1. The counter crossing the limit 2 s after the last pulse ends the wait for it, and enters HOLDOVER from
those states under SOURCE 2. DATUM_HOLDOVER_EXPIRED notes, once, that the holdover has lasted HOLDOVER_LIMIT. In every
other state these change nothing. It says that these complete: announceTimeout, datumHoldoverExpired, ppsInTimeout. -/
def Obligations.ServoEvents : Prop :=
  (∀ s : State, fwRuns s = true → datumSource s = 1 → s.datum.servo = 1 ∨ s.datum.servo = 2 →
    elapsed s tkAnnounce s.datum.announceNs = true ∨ elapsed s tkSync 1000000000 = true → Answers .announceTimeout s fun t =>
    t.datum.gmBest = [] ∧ t.datum.servo = 3 ∧ t.datum.cnt = s.datum.cnt ∧ KeepsBut [.cnts, .mbx, .evt, .clk, .datum] s t) ∧
  (∀ s : State, fwRuns s = true → datumSource s = 2 → s.datum.servo = 1 ∨ s.datum.servo = 2 →
    s.datum.ppsLimit.any (crosses s) = true → Answers .ppsInTimeout s fun t =>
    t.datum.ppsLimit = none ∧ t.datum.servo = 3 ∧ t.datum.cnt = s.datum.cnt ∧ KeepsBut [.cnts, .mbx, .evt, .clk, .datum] s t) ∧
  (∀ s : State, fwRuns s = true → s.datum.servo = 3 → s.datum.holdExpired = false →
    elapsed s tkHoldover (1000000000 * fld (datumRec s) 12 4) = true → Answers .datumHoldoverExpired s fun t =>
    t.datum = { s.datum with holdExpired := true } ∧ KeepsBut [.cnts, .mbx, .evt, .datum] s t) ∧
  (∀ s : State, s.datum.ppsLimit.any (crosses s) = true →
    fwRuns s = false ∨ datumSource s ≠ 2 ∨ (s.datum.servo ≠ 1 ∧ s.datum.servo ≠ 2) →
    exec .ppsInTimeout s = .next { s with datum := { s.datum with ppsLimit := none } }) ∧
  (∀ s : State, s.datum.ppsLimit.any (crosses s) = false → exec .ppsInTimeout s = .next s) ∧
  (∀ s : State, fwRuns s = false ∨ datumSource s ≠ 1 ∨ (s.datum.servo ≠ 1 ∧ s.datum.servo ≠ 2) ∨
      (elapsed s tkAnnounce s.datum.announceNs = false ∧ elapsed s tkSync 1000000000 = false) →
    exec .announceTimeout s = .next s) ∧
  (∀ s : State, fwRuns s = false ∨ s.datum.servo ≠ 3 ∨ s.datum.holdExpired = true ∨
      elapsed s tkHoldover (1000000000 * fld (datumRec s) 12 4) = false → exec .datumHoldoverExpired s = .next s)

/-- As the counter crosses PPS_NEXT with time valid and PPS_OUT enabled, PPS_OUT rises at the place its fraction gives,
the 10 MHz output takes its phase where enabled, and firmware writes PPS_NEXT for the next whole second. PPS_OUT_FALL
ends the pulse PPS_WIDTH after its rise. The selected edge of PPS_IN captures the counter into PPS_IN_TS, and starts
the 2 s limit where it lies within 1 ms of its expected time; with AT_PPS armed it sets time to (S, 0), or discards it
where a step is barred; under SOURCE 2 with no servo the first edge within 1 ms enters ACQUIRING; else it does nothing
more. The other edge, or DATUM off, changes nothing. It says that these complete: ppsOutEdge, ppsOutFall, ppsInEdge. -/
def Obligations.PulsePerSecond : Prop :=
  (∀ s : State, domOn s dDATUM = true → s.datum.timeValid = true → fbit (datumRec s) 3 1 0 = true →
    crosses s s.datum.ppsNext = true → exec .ppsOutEdge s = .next { s with datum := { s.datum with
      ppsOut := true, ppsRise := s.datum.ppsNext, ppsTap := edgeTap s s.datum.ppsNext
      clk10m := s.datum.clk10m || fbit (datumRec s) 3 1 1
      ppsNext := if fwRuns s then nextPps s else s.datum.ppsNext } }) ∧
  (∀ s : State, s.datum.ppsOut = true → due s (add32 s.datum.ppsRise (1000000 * fld (datumRec s) 24 2 : Nat)) = true →
    exec .ppsOutFall s = .next { s with datum := { s.datum with ppsOut := false } }) ∧
  (∀ (s : State) (falling : Bool), domOn s dDATUM = true → fbit (datumRec s) 3 1 2 = falling →
    let off := ppsOffset s
    let u := { s.datum with
      ppsInTs := now s, ppsInSeen := true
      ppsLimit := if off.natAbs ≤ 1000000 then some (add32 (now s) 2000000000) else s.datum.ppsLimit }
    (fwRuns s = false ∨ (s.datum.atPps = none ∧ (datumSource s ≠ 2 ∨ 1000000 < off.natAbs)) →
      exec (.ppsInEdge falling) s = .next { s with datum := u }) ∧
    (∀ n, fwRuns s = true → s.datum.atPps = some n → stepBarred s = true →
      exec (.ppsInEdge falling) s = .next { s with datum := { u with atPps := none } }) ∧
    (∀ n, fwRuns s = true → s.datum.atPps = some n → stepBarred s = false → Answers (.ppsInEdge falling) s fun t =>
      t.datum.ppsInTs = now s ∧ t.datum.atPps = none ∧ t.datum.timeValid = true ∧ SteppedFrom s t ∧
      t.datum.ref.2 = (n % 2 ^ 48, 0)) ∧
    (fwRuns s = true → s.datum.atPps = none → datumSource s = 2 → off.natAbs ≤ 1000000 → s.datum.servo = 0 →
      Answers (.ppsInEdge falling) s fun t => t.datum.ppsInTs = now s ∧ t.datum.servo = 1 ∧ t.datum.ppsLimit = u.ppsLimit ∧
        t.datum.acq = if s.datum.timeValid ∨ s.datum.ppsLimit.isSome then [off] else [])) ∧
  (∀ (s : State) (falling : Bool), domOn s dDATUM = false ∨ fbit (datumRec s) 3 1 2 ≠ falling →
    exec (.ppsInEdge falling) s = .next s)

/-- A quiescing domain whose turn it is becomes drained, from when the drain times of the domains still quiescing run;
behind another that must drain first, or not quiescing, nothing changes. At the drain timeout a forced request counts
each transfer left, flags an aborted host transfer and drains the domain; without FORCE the domain is ON again, the
timeout is counted and the request is marked failed, or ended where CTRL or MBX stays ON. Before the timeout, or with
nothing left, nothing changes. DOMAIN_OFF takes a drained domain into RETENTION, with only its power state, the time
CTRL entered it and AO_READY touched, or OFF, with its save-list entries captured; CTRL and MBX go together. It says
that these complete: drainComplete, drainTimeoutExpiry, domainOff. -/
def Obligations.DomainLeaves : Prop :=
  (∀ (s : State) (dom : Nat), domSt s dom = .quiescing → drainBlocked s dom = false → Answers (.drainComplete dom) s fun t =>
    t.pwr = { s.pwr with dom := tset s.pwr.dom dom .drained } ∧ t.clk = { s.clk with stamps := t.clk.stamps } ∧
    (∀ k, k < 21 → k ≠ dom → domSt s k = .quiescing → tfind t.clk.stamps k = some (upNs s)) ∧ KeepsBut [.clk, .pwr] s t) ∧
  (∀ (s : State) (dom : Nat), domSt s dom ≠ .quiescing ∨ drainBlocked s dom = true → exec (.drainComplete dom) s = .next s) ∧
  (∀ (s : State) (dom : Nat) (left : List (Nat × Nat)), domSt s dom = .quiescing → drainBlocked s dom = false →
    elapsed s dom (drainNs s dom) = true → left ≠ [] → Answers (.drainTimeoutExpiry dom left) s fun t =>
      let force := (s.pwr.req.map fun r => r.force && r.mask.testBit dom).getD false
      (force = true → domSt t dom = .drained ∧ cntVal t blkPwr 0 1 = satAdd (cntVal s blkPwr 0 1) left.length ∧
        ((∃ a, (5, a) ∈ left) → t.host.err.testBit 4 = true)) ∧
      (force = false → domSt t dom = .on ∧ cntVal t blkPwr 0 0 = satAdd (cntVal s blkPwr 0 0) 1 ∧
        (dom ≠ dCTRL → dom ≠ dMBX → t.pwr.req = s.pwr.req.map fun r =>
          if r.mask.testBit dom then { r with failed := r.failed ||| 2 ^ dom, failStatus := stDRAIN_TIMEOUT } else r) ∧
        (dom = dCTRL ∨ dom = dMBX → t.pwr.req = none ∧
          ∀ k ∈ [dCTRL, dMBX], domSt t k ≠ .quiescing ∧ domSt t k ≠ .drained)) ∧
      KeepsBut [.cnts, .host, .mbx, .evt, .clk, .pwr, .mash, .dpd] s t) ∧
  (∀ (s : State) (dom : Nat) (left : List (Nat × Nat)), domSt s dom ≠ .quiescing ∨ drainBlocked s dom = true ∨
    elapsed s dom (drainNs s dom) = false ∨ left = [] → exec (.drainTimeoutExpiry dom left) s = .next s) ∧
  (∀ (s : State) (dom : Nat), domSt s dom = .drained →
    (dom = dCTRL ∨ dom = dMBX → ∀ k ∈ [dCTRL, dMBX], domSt s k = .drained ∨ domSt s k = .off ∨ domSt s k = .retention) →
    Answers (.domainOff dom) s fun t =>
      (tget 2 s.pwr.to_ dom = 0 → domSt t dom = .off ∧ (∀ i e, tfind s.pwr.save i = some e → e.addr ≠ 0 → addrDom e.addr = dom →
        tfind t.pwr.save i = some { e with value := plainPeek s e.addr &&& e.mask, captured := true }) ∧
        KeepsBut [.cfg, .regs, .cnts, .tots, .mem, .host, .mbx, .clk, .datum, .pwr, .sect, .fh, .grat, .mash, .tx, .dpd, .rx,
          .conv, .hk, .radio, .survey, .bias, .rffe] s t) ∧
      (tget 2 s.pwr.to_ dom ≠ 0 → domSt t dom = .retention ∧ t.pwr.save = s.pwr.save ∧
        t.clk = (if dom = dCTRL then { s.clk with stamps := tset s.clk.stamps tkRetention (upNs s) } else s.clk) ∧
        t.host = (if dom = dMBX then { s.host with aoReady := false } else s.host) ∧ KeepsBut [.host, .clk, .pwr] s t))

/-- 5 us after the switch before it, a waiting domain whose turn it is closes its switch; MASH and DPDE wait while GRAT
moves, and without it stay as they were. MEMORY_INIT_DONE, once the time of its memories has passed, ends RETFAIL of
the casks it initialized, and leads a domain from RETENTION to the wake scrub and one from OFF to the save list. The
scrub takes 204.8 us for four casks: one that finds nothing changes only the power state; a failing cask sets its
RETFAIL bit, and one of CTRL starts a reset of cause 7. SAVELIST_RESTORE ends in the last step before ON. DOMAIN_ON
turns the domain ON; DATUM enters with time not valid, FH with an empty section table, a sheet and HK with their
converters in INIT. It says that these complete: powerSwitchClose, memoryInitDone, wakeScrubDone, savelistRestore,
domainOn. -/
def Obligations.DomainWakes : Prop :=
  (∀ (s : State) (dom : Nat), domSt s dom = .waiting → s.pwr.fio = true → switchBlocked s dom = false →
    elapsed s tkSwitch 5000 = true → Answers (.powerSwitchClose dom) s fun t =>
      (needsGrat s dom = false → t.pwr = { s.pwr with dom := tset s.pwr.dom dom .switched }) ∧
      (needsGrat s dom = true → domMoving s dGRAT = false → domSt t dom = tget .off s.pwr.from_ dom) ∧
      (needsGrat s dom = true → domMoving s dGRAT = true → t = s) ∧ KeepsBut [.clk, .pwr] s t) ∧
  (∀ (s : State) (dom : Nat), domSt s dom = .switched → elapsed s dom (initNs s dom) = true → Answers (.memoryInitDone dom) s fun t =>
    domSt t dom = (if tget .off s.pwr.from_ dom = .retention then .inited else .scrubbed) ∧
    (∀ k ∈ initCasks s dom, t.pwr.retfail.testBit k = false) ∧ KeepsBut [.mem, .ecc, .pwr, .sect] s t) ∧
  (∀ (s : State) (dom bad : Nat), domSt s dom = .inited → elapsed s dom (((keptCasks s dom).length + 3) / 4 * 204800) = true →
    let failing := (keptCasks s dom).filter fun i => bad.testBit i
    Answers (.wakeScrubDone dom bad) s fun t =>
      (failing = [] → t = { s with pwr := { s.pwr with dom := tset s.pwr.dom dom .restored } }) ∧
      (failing ≠ [] → dom = dCTRL → ResetStarted 0x07 s t ∧ domSt t dCTRL = .scrubbed) ∧
      (dom ≠ dCTRL → domSt t dom = .restored) ∧
      (dom ≠ dFH → ∀ i ∈ failing, t.pwr.retfail.testBit ((casksOf dom).1 + i) = true)) ∧
  (∀ (s : State) (dom : Nat) (bad : List Nat), domSt s dom = .scrubbed → Answers (.savelistRestore dom bad) s fun t =>
    domSt t dom = .restored ∧
    (s.pwr.save = [] → t = { s with pwr := { s.pwr with dom := tset s.pwr.dom dom .restored } })) ∧
  (∀ (s : State) (dom : Nat), domSt s dom = .restored ∨ (domSt s dom = .inited ∧ (casksOf dom).2 = 0) →
    Answers (.domainOn dom) s fun t =>
      domOn t dom = true ∧ (dom = dDATUM → t.datum.timeValid = false ∧ t.datum.cmpDl = [] ∧ t.clk.aligned = false) ∧
      (dom = dFH → t.sect = {}) ∧ (∀ n, n < 4 → dom = dSHEET n → ∀ i, i < 68 → (convOf t (convNumber n i)).state = 1) ∧
      (dom = dHK → (convOf t 144).state = 1 ∧ t.hk.idx = 0) ∧
      KeepsBut [.cnts, .mem, .ecc, .mbx, .evt, .clk, .datum, .pwr, .kiln, .sect, .fh, .dpd, .conv, .hk, .bias] s t)

/-- FIO starts for a waiting domain and stops once every other domain is down; between the two it runs on as it was. The
wake timer, counted from when CTRL entered RETENTION (DEDUCED, assumption log 87), and a host WAKE start the wakes of
CTRL and MBX from RETENTION; from OFF, with the rails up, WAKE is a reset of cause WAKE_FROM_OFF; else it does
nothing. RESTART after the third rail fault enables the first rail again and does nothing otherwise. It says that
these complete: pwrCtrlRestart, pwrCtrlWake, wakeAfterExpiry, fioStart. -/
def Obligations.PowerControl : Prop :=
  (∀ (s : State) (k : Nat), k < 21 → domSt s k = .waiting → exec .fioStart s = .next { s with pwr := { s.pwr with fio := true } }) ∧
  (∀ s : State, s.pwr.aoUp = true → (∀ k, k < 20 → domSt s (k + 1) = .off ∨ domSt s (k + 1) = .retention) →
    exec .fioStart s = .next { s with pwr := { s.pwr with fio := false } }) ∧
  (∀ (s : State) (d : Nat), (∀ k, k < 21 → domSt s k ≠ .waiting) → d < 20 → domSt s (d + 1) ≠ .off → domSt s (d + 1) ≠ .retention →
    exec .fioStart s = .next s) ∧
  (∀ (s : State) (ms : Nat), s.pwr.wakeAfter = some ms → elapsed s tkRetention (1000000 * ms) = true → domSt s dCTRL = .retention →
    Answers .wakeAfterExpiry s fun t =>
      t.pwr.wakeAfter = none ∧ domSt t dCTRL = .waiting ∧ tget .off t.pwr.from_ dCTRL = .retention ∧
      (domSt s dMBX = .retention → domSt t dMBX = .waiting) ∧ KeepsBut [.pwr] s t) ∧
  (∀ s : State, domSt s dCTRL = .retention → Answers .pwrCtrlWake s fun t =>
    domSt t dCTRL = .waiting ∧ (domSt s dMBX = .retention → domSt t dMBX = .waiting) ∧ KeepsBut [.pwr] s t) ∧
  (∀ s : State, domSt s dCTRL = .off → railsUp s = true → Answers .pwrCtrlWake s fun t =>
    ResetStarted 0x09 s t ∧ domSt t dCTRL = .waiting) ∧
  (∀ s : State, domSt s dCTRL ≠ .retention → domSt s dCTRL ≠ .off ∨ railsUp s = false → exec .pwrCtrlWake s = .next s) ∧
  (∀ s : State, s.pwr.railHeld = true → exec .pwrCtrlRestart s = .next { s with
    pwr := { s.pwr with railHeld := false, railTimes := [], fio := true, pseqEn := 1, riseCause := 6 }
    clk := { s.clk with stamps := tset s.clk.stamps tkRail (upNs s) } }) ∧
  (∀ s : State, s.pwr.railHeld = false → exec .pwrCtrlRestart s = .next s)

/-- Every KILN_EVALUATE with CTRL ON, 1 ms after the last, takes HK_ASSUMED, T_hot and P_dev of that moment, trips at 118
C with fault bit 5, and ends the trip below 105 C; with CTRL off it does nothing. A housekeeping conversion gives the
channel of the current entry the mean of its conversions as code, its value and its time and moves to the next entry;
an idle converter, or an entry whose conversions are not complete, changes no channel. A sheet sends both its
temperatures every 100 us, none in SLEEP. It says that these complete: kilnEvaluate, hkConversion, sheetTempUpdate. -/
def Obligations.KilnAndTemperatures : Prop :=
  (∀ s : State, domOn s dCTRL = true → elapsed s tkKiln 1000000 = true → Answers .kilnEvaluate s fun t =>
    t.kiln.assumed = hkAssumed s ∧ t.kiln.tHot = tHotNow s ∧ t.kiln.pDev = pDevNow s ∧
    (944 ≤ tHotNow s → t.kiln.tripped = true ∧ (s.kiln.tripped = false → t.host.fault.testBit 5 = true)) ∧
    (tHotNow s < 840 → t.kiln.tripped = false) ∧
    KeepsBut [.cfg, .cnts, .host, .mbx, .log, .evt, .clk, .pwr, .kiln, .conv, .radio, .survey, .bias, .rffe, .coex] s t) ∧
  (∀ s : State, domOn s dCTRL = false ∨ elapsed s tkKiln 1000000 = false → exec .kilnEvaluate s = .next s) ∧
  (∀ (s : State) (conversions : List Nat), hkReady s conversions = true → Answers (.hkConversion conversions) s fun t =>
    let c := tget chan0 t.hk.chan (hkChannel s)
    c.code = hkMean conversions ∧ c.value = hkValue (hkChannel s) (hkMean conversions) ∧ c.timeNs = now s ∧
    t.hk.idx = (if fld (seqRec s) 0 1 ≤ s.hk.idx + 1 then 0 else s.hk.idx + 1) ∧
    KeepsBut [.cfg, .cnts, .host, .mbx, .evt, .clk, .pwr, .kiln, .tx, .conv, .hk, .radio, .survey, .bias, .rffe, .coex] s t) ∧
  (∀ (s : State) (conversions : List Nat), hkReady s conversions = false → Answers (.hkConversion conversions) s fun t => t.hk = s.hk) ∧
  (∀ (s : State) (n : Nat) (t0 t1 : Int), n < nSheets s → domOn s (dSHEET n) = true → (sh s n).state ≠ .sleep →
    elapsed s (tkTemp n) 100000 = true → Answers (.sheetTempUpdate n t0 t1) s fun t =>
      (tget chan0 t.hk.chan (32 + 2 * n)).value = t0 ∧ (tget chan0 t.hk.chan (33 + 2 * n)).value = t1 ∧
      KeepsBut [.cfg, .cnts, .host, .mbx, .evt, .clk, .pwr, .kiln, .conv, .hk, .radio, .survey, .rffe, .coex] s t) ∧
  (∀ (s : State) (n : Nat) (t0 t1 : Int), (sh s n).state = .sleep ∨ elapsed s (tkTemp n) 100000 = false →
    Answers (.sheetTempUpdate n t0 t1) s fun t => t.hk = s.hk)

/-- PROFILE_APPLY with an accepted copy takes its entries and waits for alignment, waking DATUM; with none the profile
fails (entry 0xFFFF; the status 0 is the model's, assumption log 46). With REF aligned and DATUM ON the end entry ends
the profile at STAGE 4, also as the first; a WAIT entry waits until its time has passed. REF absent for 2 s while
alignment is waited for fails the profile with STATE. A profile that fails ends at STAGE 4 in MODE 1. It says that
these complete: profileApply, profileEntry, profileWaitExpiry, profileRefTimeout. -/
def Obligations.ProfileRuns : Prop :=
  (∀ s : State, fwRuns s = true → s.boot.stage = 2 → s.boot.profPhase = 0 → Answers .profileApply s fun t =>
    (profCurrent s s.boot.profile = none → t.boot.profFailed = true ∧ t.boot.mode = 1 ∧ t.boot.stage = 4 ∧
      t.boot.failEntry = 0xFFFF ∧ t.boot.failStatus = 0 ∧ t.boot.profPhase = 0) ∧
    (∀ c, profCurrent s s.boot.profile = some c → t.boot.profPhase = 1 ∧ t.boot.stage = 3 ∧
      t.boot.profRest = imgPayload (tget [] s.boot.profImg (2 * s.boot.profile + c)) ∧
      (domSt s dDATUM = .off ∨ domSt s dDATUM = .retention → domSt t dDATUM = .waiting) ∧ KeepsBut [.clk, .pwr, .boot] s t) ∧
    KeepsBut [.cfg, .cnts, .mbx, .evt, .txn, .clk, .pwr, .boot, .fh, .conv, .radio, .survey, .rffe, .coex] s t) ∧
  (∀ s : State, fwRuns s = true →
    s.boot.profPhase = 2 ∨ (s.boot.profPhase = 1 ∧ s.clk.aligned = true ∧ domOn s dDATUM = true) →
    s.boot.profTxn = 0 → fld s.boot.profRest 0 2 = 0xFFFF →
    Answers .profileEntry s fun t => t.boot = { s.boot with stage := 4, profPhase := 0, profRest := [] } ∧
      KeepsBut [.cnts, .mbx, .evt, .boot] s t) ∧
  (∀ s : State, fwRuns s = true → s.boot.profPhase = 2 → s.boot.profTxn = 0 → fld s.boot.profRest 0 2 = 0 →
    Answers .profileEntry s fun t => t.boot.profPhase = 3 ∧ t.boot.profIdx = s.boot.profIdx + 1 ∧
      t.boot.profWait = fld ((s.boot.profRest.drop 4).take (fld s.boot.profRest 2 2)) 0 4 ∧
      t.boot.profRest = s.boot.profRest.drop ((4 + ((s.boot.profRest.drop 4).take (fld s.boot.profRest 2 2)).length + 3) / 4 * 4) ∧
      KeepsBut [.clk, .boot] s t) ∧
  (∀ s : State, fwRuns s = true → s.boot.profPhase = 3 → elapsed s tkProfile (1000 * s.boot.profWait) = true →
    exec .profileWaitExpiry s = .next { s with boot := { s.boot with profPhase := 2 } }) ∧
  (∀ s : State, fwRuns s = true → s.boot.profPhase = 1 → s.clk.lost.testBit 0 = true → elapsed s tkRef 2000000000 = true →
    elapsed s tkProfile 2000000000 = true → Answers .profileRefTimeout s fun t =>
      t.boot.profFailed = true ∧ t.boot.mode = 1 ∧ t.boot.stage = 4 ∧ t.boot.failEntry = 0xFFFF ∧ t.boot.failStatus = stSTATE ∧
      t.boot.profPhase = 0 ∧
      KeepsBut [.cfg, .cnts, .mbx, .evt, .txn, .clk, .pwr, .boot, .fh, .conv, .radio, .survey, .rffe, .coex] s t)

/-- In a 1 us window of FIO a clock that was bad in the window before and is bad again is declared lost, a lost one that
is good twice running is declared present, and every other clock keeps its state. Loss of REF puts the processor on
FIO, clears ALIGNED, cancels an armed alignment and latches fault bit 0. Without FIO, or before the window ends,
nothing changes. Firmware moves the CPU to the control PLL while REF and it are present, and not otherwise. It says
that these complete: clockWindow, cpuClockSwitch. -/
def Obligations.ClockMonitor : Prop :=
  (∀ (s : State) (good : Nat), s.pwr.fio = true → elapsed s tkWindow 1000 = true → Answers (.clockWindow good) s fun t =>
    (∀ c, c < 4 → t.clk.lost.testBit c =
      (if good.testBit c = s.clk.lost.testBit c ∧ 1 ≤ tget 0 (if s.clk.lost.testBit c then s.clk.good else s.clk.bad) c
        then !s.clk.lost.testBit c else s.clk.lost.testBit c)) ∧
    (good.testBit 0 = false → s.clk.lost.testBit 0 = false → 1 ≤ tget 0 s.clk.bad 0 →
      t.clk.cpuPll = false ∧ t.clk.aligned = false ∧ t.clk.armed = false ∧ t.host.fault.testBit 0 = true) ∧
    KeepsBut [.cfg, .cnts, .host, .mbx, .evt, .clk, .pwr, .fh, .mash, .tx, .dpd, .conv, .radio, .survey, .rffe, .coex] s t) ∧
  (∀ (s : State) (good : Nat), s.pwr.fio = false ∨ elapsed s tkWindow 1000 = false → exec (.clockWindow good) s = .next s) ∧
  (∀ s : State, fwRuns s = true → s.clk.lost.testBit 0 = false → s.clk.lost.testBit 2 = false → exec .cpuClockSwitch s =
    .next { s with clk := { s.clk with cpuPll := true } }) ∧
  (∀ s : State, fwRuns s = false ∨ s.clk.lost.testBit 0 = true ∨ s.clk.lost.testBit 2 = true → exec .cpuClockSwitch s = .next s)

/-- ARM_ALIGNMENT arms, or is refused while a sheet is in RX or TX. The REF edge after the crossing captures RESID; the
buffers reset; the next edge trims by it and sets ALIGNED exactly if every crossing stands at 4. Later, at every edge,
RESID follows, a waiting trim comes into force and firmware has a changed RESID wait for the edge after; a crossing
off 4 clears ALIGNED, notes the slip and latches fault bit 2. Each of these edges replaces the lanes found failing.
With no REF or no DATUM, and in any other stage, nothing changes. It says that these complete: armAlignment, dasync,
elasticBufferReset. -/
def Obligations.Alignment : Prop :=
  (∀ s : State, domOn s dCTRL = true → anyRxTx s = true → exec .armAlignment s =
    .next { s with clk := { s.clk with refused := true } }) ∧
  (∀ s : State, domOn s dCTRL = true → anyRxTx s = false → exec .armAlignment s =
    .next { s with clk := { s.clk with armed := true, aligned := false, stage := 0 } }) ∧
  (∀ s : State, domOn s dCTRL = false → exec .armAlignment s = .next s) ∧
  (∀ s : State, s.clk.stage = 1 → exec .elasticBufferReset s = .next { s with clk := { s.clk with stage := 2 } }) ∧
  (∀ s : State, s.clk.stage ≠ 1 → exec .elasticBufferReset s = .next s) ∧
  (∀ (s : State) (dist : List Nat), domOn s dDATUM = true → s.clk.lost.testBit 0 = false →
    let all4 := ∀ i, i < 5 → (i = 4 ∨ i < nSheets s) → dist.getD i 4 = 4
    (s.clk.stage = 4 → s.clk.armed = true → Answers (.dasync dist) s fun t =>
      t.clk = { s.clk with resid := residNow s, armed := false, stage := 1, laneSwap := [] } ∧
      (s.clk.laneSwap = [] → KeepsBut [.clk] s t)) ∧
    (s.clk.stage = 2 → Answers (.dasync dist) s fun t =>
      (t.clk.aligned = true ↔ all4) ∧ t.clk.trim = s.clk.resid ∧ t.clk.trimNext = none ∧ t.clk.laneSwap = [] ∧
      t.clk.stage = (if t.clk.aligned then 3 else 0) ∧ (s.clk.laneSwap = [] → KeepsBut [.clk] s t)) ∧
    (s.clk.stage = 3 → Answers (.dasync dist) s fun t =>
      t.clk.resid = residNow s ∧ t.clk.laneSwap = [] ∧ t.clk.trim = s.clk.trimNext.getD s.clk.trim ∧
      t.clk.trimNext = (if fwRuns s ∧ residNow s ≠ s.clk.resid then some (residNow s) else none) ∧
      (all4 → t.clk.aligned = s.clk.aligned ∧ t.clk.slip = s.clk.slip ∧ t.clk.slipDatum = s.clk.slipDatum) ∧
      (¬all4 → t.clk.aligned = false ∧ t.host.fault.testBit 2 = true) ∧
      (dist.getD 4 4 ≠ 4 → t.clk.slipDatum = true) ∧
      (∀ i, i < nSheets s → dist.getD i 4 ≠ 4 → t.clk.slip.testBit i = true) ∧
      (s.clk.laneSwap = [] → KeepsBut [.cnts, .host, .mbx, .log, .evt, .clk, .pwr] s t))) ∧
  (∀ (s : State) (dist : List Nat), domOn s dDATUM = false ∨ s.clk.lost.testBit 0 = true ∨ s.clk.stage = 0 ∨ s.clk.stage = 1 →
    exec (.dasync dist) s = .next s)

/-- A CRC failure of a fitted, powered link is counted; the sixteenth within 1 ms starts the lane test of its group, an
earlier one does not; a link not powered or a group it has not changes nothing. The failing lane of a test takes one
of the eight spares of its link and waits for the next alignment pulse; with none left its sheet is queued to be
isolated out of service; the test ends. It says that these complete: d2dCrcFail, d2dLaneTestDone. -/
def Obligations.DieLinks : Prop :=
  (∀ (s : State) (link group : Nat), sheetFit s (link / 2) = true → group < linkGroups link → domOn s (dSHEET (link / 2)) = true →
    let key := link * 32 + group
    let n := ((tget [] s.clk.crcTimes key).filter fun t => decide (upNs s < t + 1000000)).length
    Answers (.d2dCrcFail link group) s fun t =>
      cntVal t blkD2d (link / 2) 0 = satAdd (cntVal s blkD2d (link / 2) 0) 1 ∧
      (15 ≤ n → s.clk.laneTest.contains key = false → t.clk.laneTest = s.clk.laneTest ++ [key] ∧ tget [] t.clk.crcTimes key = []) ∧
      (n < 15 → t.clk.laneTest = s.clk.laneTest) ∧ KeepsBut [.cnts, .clk] s t) ∧
  (∀ (s : State) (link group : Nat), sheetFit s (link / 2) = false ∨ linkGroups link ≤ group ∨ domOn s (dSHEET (link / 2)) = false →
    exec (.d2dCrcFail link group) s = .next s) ∧
  (∀ (s : State) (link lane : Nat), s.clk.laneTest.contains (link * 32 + lane / 16) = true → lane < linkLanes link →
    tget 0 s.clk.spareUsed link < 8 → exec (.d2dLaneTestDone link lane) s = .next { s with clk := { s.clk with
      laneTest := s.clk.laneTest.erase (link * 32 + lane / 16), spareUsed := tmod 0 s.clk.spareUsed link (· + 1)
      laneSwap := s.clk.laneSwap ++ [(link, lane)] } }) ∧
  (∀ (s : State) (link lane : Nat), s.clk.laneTest.contains (link * 32 + lane / 16) = true → lane < linkLanes link →
    8 ≤ tget 0 s.clk.spareUsed link → cars s ≠ [] → isoWaits s (link / 2) = false → s.clk.isoSheet.testBit (link / 2) = false →
    Answers (.d2dLaneTestDone link lane) s fun t =>
      t.clk = { s.clk with
        laneTest := s.clk.laneTest.erase (link * 32 + lane / 16), isoPend := s.clk.isoPend ++ [(2, 8, link / 2 + 512)] })

/-- A visit at the rate of its channel (1 us at full rate, else 64 us) moves the position of its memory to the next unit;
a unit with an error that no correction mends has none left, and a clean or poisoned one is only passed. An absent
quarter is skipped; a visit that is not due, or in a domain that is not ON, changes nothing. A priority visit takes
the oldest queued unit. The end of a pass is counted, noted with its time and starts again at 0. A row copy leaves no
error in the row and marks the copy done. It says that these complete: spargeVisit, prioritySpargeVisit,
spargePassEnd, remapCopyDone. -/
def Obligations.MemoryScrubbing : Prop :=
  (∀ (s : State) (code : Nat), mayVisit s code (tget 0 s.ecc.pos code) = true →
    (code = 6 → sheetFit s (tget 0 s.ecc.pos code * 8 / 0x40000) = true) →
    let u := tget 0 s.ecc.pos code
    let found := (unitWords code (u * 8)).map (wordFound s code)
    (elapsed s (tkSparge code) (if fullRate s code then 1000 else 64000) = true → Answers (.spargeVisit code) s fun t =>
      tget 0 t.ecc.pos code = u + 1 ∧
      ((∀ f ∈ found, f = .clean ∨ f = .poison) → t = { s with
        ecc := { s.ecc with pos := tset s.ecc.pos code (u + 1) }
        clk := { s.clk with stamps := tset s.clk.stamps (tkSparge code) (upNs s) } }) ∧
      (.uncorr ∈ found → tget 0 t.ecc.err (code * 2 ^ 32 + u * 8) = 0) ∧ KeepsBut [.cnts, .mem, .ecc, .mbx, .evt, .clk] s t) ∧
    (elapsed s (tkSparge code) (if fullRate s code then 1000 else 64000) = false → exec (.spargeVisit code) s = .next s)) ∧
  (∀ s : State, sheetFit s (tget 0 s.ecc.pos 6 * 8 / 0x40000) = false → tget 0 s.ecc.pos 6 < memUnits 6 →
    exec (.spargeVisit 6) s =
      .next { s with ecc := { s.ecc with pos := tset s.ecc.pos 6 ((tget 0 s.ecc.pos 6 * 8 / 0x40000 + 1) * 0x8000) } }) ∧
  (∀ (s : State) (code : Nat), mayVisit s code (tget 0 s.ecc.pos code) = false →
    (code = 6 → sheetFit s (tget 0 s.ecc.pos code * 8 / 0x40000) = true) → exec (.spargeVisit code) s = .next s) ∧
  (∀ (s : State) (code u : Nat) (rest : List Nat), tget [] s.ecc.prio code = u :: rest → mayVisit s code u = true →
    Answers (.prioritySpargeVisit code) s fun t => tget [] t.ecc.prio code = rest ∧ t.ecc.pos = s.ecc.pos ∧
      (.uncorr ∈ (unitWords code (u * 8)).map (wordFound s code) → tget 0 t.ecc.err (code * 2 ^ 32 + u * 8) = 0) ∧
      KeepsBut [.cnts, .mem, .ecc, .mbx, .evt] s t) ∧
  (∀ (s : State) (code : Nat), code < 8 → memUnits code ≤ tget 0 s.ecc.pos code → Answers (.spargePassEnd code) s fun t =>
    tget 0 t.ecc.pos code = 0 ∧ tget 0 t.ecc.passNs code = now s ∧ tget [] t.ecc.ueSeen code = [] ∧
    cntVal t blkMem code 5 = satAdd (cntVal s blkMem code 5) 1 ∧ KeepsBut [.cnts, .ecc] s t) ∧
  (∀ (s : State) (code : Nat) (r : Remap), (tget [] s.ecc.remaps code).find? (fun x => x.spare == r.spare && !x.copied) = some r →
    Answers (.remapCopyDone code r.spare) s fun t =>
      (∀ i, i < 128 → tget 0 t.ecc.err (code * 2 ^ 32 + (r.row * 1024 + 8 * i)) = 0) ∧
      ∀ x ∈ tget [] t.ecc.remaps code, x.spare = r.spare → x.copied = true)

/-- MEM_UNCORR of a word that cannot be delivered counts UE of its memory and notes the unit once per pass; a read by the
graticule is counted in its block, one of the section table in its own, the payloads in theirs, and the host port sets
bit 2 of its error and keeps the first address. A word that can be delivered, or of no memory, changes nothing. It
says that these complete: memUncorr. -/
def Obligations.UncorrectableReads : Prop :=
  (∀ (s : State) (code off requester : Nat), code < 9 → badByte s code off = true → Answers (.memUncorr code off requester) s fun t =>
    cntVal t blkMem code 2 = satAdd (cntVal s blkMem code 2) 1 ∧ (tget [] t.ecc.ueSeen code).contains (off / 8) = true ∧
    ((tget [] s.ecc.ueSeen code).contains (off / 8) = true → t.ecc = s.ecc) ∧
    (requester = 2 → cntVal t blkGrat 0 3 = satAdd (cntVal s blkGrat 0 3) 1) ∧
    (requester = 3 → cntVal t blkSect 0 8 = satAdd (cntVal s blkSect 0 8) 1) ∧
    (requester = 4 ∨ requester = 5 → cntVal t blkMemAll 0 2 = satAdd (cntVal s blkMemAll 0 2) 1) ∧
    (requester = 8 → t.host.err = s.host.err ||| 4 ∧ (s.host.err = 0 → t.host.errAddr = memBase code + off)) ∧
    (requester ≠ 8 → t.host = s.host) ∧ KeepsBut [.cnts, .ecc, .host, .mbx, .evt, .grat] s t) ∧
  (∀ (s : State) (code off requester : Nat), 9 ≤ code ∨ badByte s code off = false → exec (.memUncorr code off requester) s = .next s)

/-- With FH ON the lanes keep the levels reported. From DOWN the link goes to ALIGNING with signal on every lane of an
eligible rung; from ALIGNING to DOWN when a lane has none; from UP to DOWN (and on to ALIGNING where the first rule
holds) when no lane has signal with lock; a DISABLED link stays so. LINK_UP, with every lock of the rung held for 1
ms, enters UP, notes the time and raises its event; else nothing changes. LINK_DOWN leaves UP, raises its event, and
no eligible frame stays queued; off UP nothing changes. A lane at risk that has lost signal or lock for 100 us while
another keeps its signal, or marker lock for 1 ms while the others keep theirs, is marked failed and the link is
falling; so is one whose third FEC window running had more than one corrected symbol in 10,000. With FALLBACK_EN the
link then enters the next eligible rung, with none it is DOWN and raises FALLBACK_FAILED; without FALLBACK_EN it is
DOWN on rung 0. FEC_WINDOW_END, 10 ms after the last, counts corrected symbols and uncorrectable codewords of a lane
of the rung. FALLBACK_TIMEOUT, with the link falling and not UP, takes the next eligible rung, wrapping to the first,
or with none is DOWN and raises FALLBACK_FAILED. Elsewhere nothing changes. It says that these complete:
laneSignalChange, linkUp, linkDown, laneFailed, fecWindowEnd, fallbackTimeout. -/
def Obligations.LinkStates : Prop :=
  (∀ (s : State) (signal cdr am : Nat), domOn s dFH = true → Answers (.laneSignalChange signal cdr am) s fun t =>
    let sig := signalSeen s (signal % 16)
    let again := if allLanes s sig && eligibleRung s s.fh.rung then 2 else 1
    t.fh.signal = signal % 16 ∧ t.fh.cdr = cdr % 16 ∧ t.fh.am = am % 16 ∧ t.fh.rung = s.fh.rung ∧
    (s.fh.link = 1 → t.fh.link = again) ∧ (s.fh.link = 2 → t.fh.link = if allLanes s sig then 2 else 1) ∧
    (s.fh.link = 3 → t.fh.link =
      if (rungSet s).all (fun l => !(sig.testBit l && (cdr % 16).testBit l)) then again else 3) ∧
    (s.fh.link ∉ [1, 2, 3] → t.fh.link = s.fh.link) ∧
    KeepsBut [.cnts, .mbx, .evt, .clk, .fh] s t) ∧
  (∀ (s : State) (signal cdr am : Nat), domOn s dFH = false → exec (.laneSignalChange signal cdr am) s = .next s) ∧
  (∀ s : State, LinkComesUp s → Answers .linkUp s fun t =>
    t.fh = { s.fh with link := 3, upSince := now s, mode := rungMode s s.fh.rung } ∧ Raised s 0x0501 0xFFFF 0 t ∧
      KeepsBut [.cnts, .mbx, .evt, .fh] s t) ∧
  (∀ s : State, ¬LinkComesUp s → exec .linkUp s = .next s) ∧
  (∀ s : State, domOn s dFH = true → s.fh.link = 3 → Answers .linkDown s fun t =>
    t.fh.link = (if allLanes s (signalSeen s s.fh.signal) && eligibleRung s s.fh.rung then 2 else 1) ∧
      (∀ q ∈ t.fh.egress, ∀ d ∈ q.2, d.eligible = false) ∧ Raised s 0x0502 0xFFFF 0 t ∧
      KeepsBut [.cnts, .mbx, .evt, .clk, .fh] s t) ∧
  (∀ s : State, domOn s dFH = false ∨ s.fh.link ≠ 3 → exec .linkDown s = .next s) ∧
  (∀ (s : State) (lane : Nat), LaneFails s lane → Answers (.laneFailed lane) s fun t =>
    t.fh.laneFailed = s.fh.laneFailed ||| 2 ^ lane ∧ t.fh.falling = true ∧
    (let u := { s with fh := { s.fh with laneFailed := s.fh.laneFailed ||| 2 ^ lane } }
     let later := ((List.range 4).filter fun i => decide (s.fh.rung < i) && eligibleRung u i).head?
     (fallbackEn s = false → t.fh.rung = 0 ∧ t.fh.link = 1) ∧
     (∀ r, fallbackEn s = true → later = some r → OnRung r s t) ∧
     (fallbackEn s = true → later = none → t.fh.rung = s.fh.rung ∧ t.fh.link = 1 ∧ Raised s 0x0505 0xFFFF 0 t)) ∧ LadderFrame s t) ∧
  (∀ (s : State) (lane : Nat), ¬LaneFails s lane → exec (.laneFailed lane) s = .next s) ∧
  (∀ (s : State) (lane corrected received uncorr : Nat), domOn s dFH = true → s.fh.link = 2 ∨ s.fh.link = 3 → lane ∈ rungSet s →
    elapsed s (tkFec lane) 10000000 = true →
    let n := if received < corrected * 10000 then tget 0 s.fh.fecBad lane + 1 else 0
    Answers (.fecWindowEnd lane corrected received uncorr) s fun t =>
      cntVal t blkFh 0 7 = counted s blkFh 0 7 uncorr ∧
      cntVal t blkFh 0 (9 + lane % 4) = counted s blkFh 0 (9 + lane % 4) corrected ∧
      (3 ≤ n ∧ laneAtRisk s lane = true → t.fh.laneFailed = s.fh.laneFailed ||| 2 ^ lane ∧ t.fh.falling = true) ∧
      (¬(3 ≤ n ∧ laneAtRisk s lane = true) → t.fh = { s.fh with fecBad := tset s.fh.fecBad lane n }) ∧ LadderFrame s t) ∧
  (∀ (s : State) (lane corrected received uncorr : Nat),
    ¬(domOn s dFH = true ∧ (s.fh.link = 2 ∨ s.fh.link = 3) ∧ lane ∈ rungSet s ∧ elapsed s (tkFec lane) 10000000 = true) →
    exec (.fecWindowEnd lane corrected received uncorr) s = .next s) ∧
  (∀ s : State,
    let el := (List.range 4).filter (eligibleRung s)
    let due := domOn s dFH = true ∧ s.fh.falling = true ∧ fallbackEn s = true ∧ (s.fh.link = 1 ∨ s.fh.link = 2) ∧
      elapsed s tkFall (1000000 * fld (linkRec s) 6 2) = true
    (due → Answers .fallbackTimeout s fun t =>
      (∀ r, (el.find? fun i => decide (s.fh.rung < i)).or el.head? = some r → r ≠ s.fh.rung → OnRung r s t) ∧
      ((el.find? fun i => decide (s.fh.rung < i)).or el.head? = some s.fh.rung → t.fh = s.fh) ∧
      (el = [] → t.fh.rung = s.fh.rung ∧ t.fh.link = 1 ∧ Raised s 0x0505 0xFFFF 0 t) ∧ LadderFrame s t) ∧
    (¬due → exec .fallbackTimeout s = .next s))

/-- On an established link every frame is counted with its bytes; off the link nothing happens. A wrong FCS, a wrong
length, a PAUSE frame, a wrong destination, a wrong tag, an unknown type, another source than the peer and a wrong
eCPRI header each drop it under one counter and change nothing else, in this order. A PTP frame, and a one-way-delay
message of the peer, joins the PTP ring with its receive timestamp; a management frame joins queue 31 or is counted. A
radio message runs the steps of a message: with no flow it is counted only; with a flow its sequence number is kept,
and an unacceptable header or an inactive layer is counted and changes nothing else. PAGE_CLEAR, as the counter passes
the start of a subframe, empties both pages of the subframe three before, and their clearing ends with
PAGE_CLEAR_COMPLETE, which places the sections that waited. It says that these complete: frameReceived, pageClear,
pageClearComplete. -/
def Obligations.ReceivedFrames : Prop :=
  (∀ (s : State) (fcsOk : Bool) (frame : Rec) (a b c : Nat), ¬LinkTakes s → exec (.frameReceived fcsOk frame a b c) s = .next s) ∧
  (∀ (s : State) (frame : Rec) (a b c : Nat), LinkTakes s →
    Answers (.frameReceived false frame a b c) s (FrameDropped 0 frame s)) ∧
  (∀ (s : State) (frame : Rec) (a b c : Nat), LinkTakes s → ¬LengthOk s frame →
    Answers (.frameReceived true frame a b c) s (FrameDropped 1 frame s)) ∧
  (∀ (s : State) (frame : Rec) (a b c : Nat), LinkTakes s → LengthOk s frame → Answers (.frameReceived true frame a b c) s fun t =>
    (isPause frame = true → FrameDropped 3 frame s t) ∧
    (isPause frame = false → addrOk s frame = false → FrameDropped 2 frame s t) ∧
    (isPause frame = false → addrOk s frame = true → vlanOk s frame = false → FrameDropped 4 frame s t)) ∧
  (∀ (s : State) (frame : Rec) (ago deskew fecPos : Nat), FrameAddressed s frame →
    Answers (.frameReceived true frame ago deskew fecPos) s fun t =>
      let p := payload frame
      let ring := { s.fh with ptpRing := s.fh.ptpRing ++ [(rxStamp s ago deskew fecPos, frame)] }
      (etherType frame = 0x88F7 → t.fh = ring ∧ FrameSeen frame s t ∧ KeepsBut [.tots, .fh] s t) ∧
      (etherType frame ∉ [0x88F7, 0xAEFE, 0x88B5] → FrameDropped 3 frame s t) ∧
      (etherType frame ∈ [0xAEFE, 0x88B5] → fromPeer s frame = false → FrameDropped 2 frame s t) ∧
      (etherType frame = 0x88B5 → fromPeer s frame = true →
        let taken := fld p 0 1 = 1 ∧ fld p 1 1 = 1 ∧ s.mbx.inband = true ∧ s.mbx.queue31.length < 32
        FrameSeen frame s t ∧
        (taken → t.mbx = { s.mbx with queue31 := s.mbx.queue31 ++ [(fld p 4 4, p.drop 8)] } ∧ KeepsBut [.tots, .mbx] s t) ∧
        (¬taken → OnlyCount blkMbx 0 1 1 s t ∧ KeepsBut [.cnts, .tots] s t)) ∧
      (etherType frame = 0xAEFE → fromPeer s frame = true → ecpriOk p = false → FrameDropped 5 frame s t) ∧
      (etherType frame = 0xAEFE → fromPeer s frame = true → ecpriOk p = true → bfld p 1 1 = 5 →
        t.fh = ring ∧ FrameSeen frame s t ∧ KeepsBut [.tots, .fh] s t)) ∧
  (∀ (s : State) (frame : Rec) (a b c : Nat), RadioMessage s frame →
    exec (.frameReceived true frame a b c) s =
      .next (runP (ecpriMessage (payload frame)) (runP (.seq (total blkFh 0 0 1) (total blkFh 0 1 (frame.length + 4))) s))) ∧
  (∀ (s : State) (frame : Rec) (a b c : Nat), RadioMessage s frame → flowNamed s (payload frame) = none →
    Answers (.frameReceived true frame a b c) s (FrameDropped 6 frame s)) ∧
  (∀ (s : State) (frame : Rec) (a b c flow : Nat) (r : Rec), RadioMessage s frame → flowNamed s (payload frame) = some (flow, r) →
    let p := payload frame
    let h := appOf (p.drop 8)
    let noted := { s.fh with seqRx := tset s.fh.seqRx (flow * 4 + bfld p 1 1) (bfld p 6 1) }
    Answers (.frameReceived true frame a b c) s fun t =>
      t.fh.seqRx = noted.seqRx ∧
      (appOk s r h = false → bfld p 1 1 = 0 → t.fh = noted ∧ cntVal t blkFh 0 5 = satAdd (cntVal s blkFh 0 5) 1 ∧
        KeepsBut [.cnts, .tots, .fh] s t) ∧
      (appOk s r h = false → bfld p 1 1 = 2 → t.fh = noted ∧
        cntVal t blkSect 0 5 = satAdd (cntVal s blkSect 0 5) (max 1 (bfld (p.drop 8) 4 1)) ∧ KeepsBut [.cnts, .tots, .fh] s t) ∧
      (appOk s r h = true → flowKind r = 0 → layerActive s h.dir (flowLayer r) = false → t.fh = noted ∧
        cntVal t blkFlow flow 5 = satAdd (cntVal s blkFlow flow 5) 1 ∧ KeepsBut [.cnts, .tots, .fh] s t) ∧
      KeepsBut [.cnts, .tots, .mem, .ecc, .mbx, .evt, .sect, .fh] s t) ∧
  (∀ s : State, domOn s dFH = true → domOn s dDATUM = true → subframeStarts s = true →
    let k := (subframeNow s + 2560 - 3) % 2560
    let hit := fun page => page ∈ [pageOf 0 k, pageOf 1 k] ∧ pageSub s page = k
    Answers .pageClear s fun t => KeepsBut [.sect] s t ∧ t.sect.waiting = s.sect.waiting ∧
      (∀ page, hit page → (∀ e ∈ t.sect.entries, inPage page e.1 = false) ∧ (∀ o ∈ t.sect.occ, o.page ≠ page) ∧
        pageSub t page = 0xFFFF ∧ (tfind t.sect.clearing page).isSome = true) ∧
      (∀ page, ¬hit page → pageSub t page = pageSub s page ∧ tfind t.sect.clearing page = tfind s.sect.clearing page ∧
        ∀ i, i < 2048 → sectAt t page i = sectAt s page i)) ∧
  (∀ s : State, domOn s dFH = false ∨ domOn s dDATUM = false ∨ subframeStarts s = false → exec .pageClear s = .next s) ∧
  (∀ (s : State) (page : Nat), (tfind s.sect.clearing page).isSome = true → (∀ w ∈ s.sect.waiting, w.page ≠ page) →
    exec (.pageClearComplete page) s = .next { s with sect := { s.sect with clearing := tdel s.sect.clearing page } }) ∧
  (∀ (s : State) (page : Nat) (w : Arrival), (tfind s.sect.clearing page).isSome = true →
    (s.sect.waiting.find? fun w => w.page == page) = some w →
    exec (.pageClearComplete page) s = .next (runP (each (s.sect.waiting.filter fun w => w.page == page) placeSect)
      { s with
        sect := { s.sect with
          clearing := tdel s.sect.clearing page, waiting := s.sect.waiting.filter fun w => w.page != page
          pageSub := tset s.sect.pageSub page w.sub } })) ∧
  (∀ (s : State) (page : Nat), tfind s.sect.clearing page = none → exec (.pageClearComplete page) s = .next s)

/-- When the downlink comparator of a carrier fires, the symbol is released under the settings of its air time: its held
data goes, it is on the air, a complete one adds its samples to every path, an incomplete one is counted, and the
comparator stands at the next symbol. Where a commit before its air time takes the carrier or its numerology the data
goes; where one changes its L_TX only, the data stays. When the uplink comparator fires, the sections that cover the
symbol are fixed with it. An ended symbol is built into messages once and is gone: one section takes its count of
sequence numbers; without a section of type 1 nothing is sent. The tested head of an egress queue becomes eligible at
its launch time, and a head not yet tested is kept, sent late or dropped. The MAC sends the first eligible frame
behind an empty PTP ring, and with no peer it discards the eligible ones. Otherwise nothing changes. It says that
these complete: airSymbolDl, airSymbolUl, uplaneMessageBuild, egressLaunch, macFrameStart. -/
def Obligations.SymbolsAndEgress : Prop :=
  (∀ (s : State) (carrier : Nat) (x : Cmp), carrier < 8 →
    let r := runP armMissing s
    CmpFires r (txCar r carrier) r.datum.cmpDl carrier x →
    let mu := carMu (txCar r carrier)
    let h := halfNear r x.half
    let air := (symAir r mu h x.sym).1
    let v := dlView r air
    let stays := carValid (txCar v carrier) = true ∧ carMu (txCar v carrier) = mu
    let released := stays ∧ ltx v carrier = ltx r carrier
    let l := symSects r carrier h x.sym
    let whole := symWhole r carrier air l
    let next := symAfter mu h x.sym
    let ahead := int32Diff (now r) (symTarget r 0 carrier next.1 next.2) ≤ (r.datum.airWindow : Nat)
    Answers (.airSymbolDl carrier) s fun t =>
      (released ∨ ¬stays → ∀ y ∈ t.fh.held, ¬(y.carrier = carrier ∧ y.air = air)) ∧
      (stays → ¬released → ahead → t.fh.held = r.fh.held) ∧
      (released → (∃ z ∈ t.tx.air, z.carrier = carrier ∧ z.air = air ∧ z.retime = false ∧ z.covered = (l != [])) ∧
        (whole = true → ∀ p ∈ paths v, ∃ w ∈ tget [] t.tx.wave (8 * p + carrier), w.air = air ∧ w.mute = none) ∧
        cntVal t blkFh 0 (13 + carrier) = counted r blkFh 0 (13 + carrier) (if whole then 0 else 1) ∧
        (ahead → tfind t.tx.symOut carrier = some (air, if !whole then 2 else if l = [] then 0 else 1))) ∧
      (ahead → tfind t.datum.cmpDl carrier = some (armedAt r 0 carrier next.1 next.2)) ∧
      KeepsBut [.cnts, .ecc, .mbx, .evt, .datum, .fh, .grat, .tx] s t) ∧
  (∀ (s : State) (carrier : Nat), let r := runP armMissing s
    (∀ x, ¬CmpFires r (txCar r carrier) r.datum.cmpDl carrier x) → exec (.airSymbolDl carrier) s = .next r) ∧
  (∀ (s : State) (carrier : Nat) (x : Cmp),
    let r := runP armMissing s
    CmpFires r (rxCar r carrier) r.datum.cmpUl carrier x →
    let mu := carMu (rxCar r carrier)
    let h := halfNear r x.half
    let a := symAir r mu h x.sym
    let next := symAfter mu h x.sym
    Answers (.airSymbolUl carrier) s fun t =>
      t.fh = { r.fh with
        ulSyms := r.fh.ulSyms ++ [{ carrier := carrier, half := x.half, sym := x.sym, air := a.1, len := a.2
                                    sects := covering r 1 carrier h x.sym, late := x.late, stateMask := 0, readyMask := 0
                                    view := none }] } ∧
      (int32Diff (now r) (symTarget r 1 carrier next.1 next.2) ≤ (r.datum.airWindow : Nat) →
        tfind t.datum.cmpUl carrier = some (armedAt r 1 carrier next.1 next.2)) ∧
      KeepsBut [.cnts, .ecc, .mbx, .evt, .datum, .fh, .tx] s t) ∧
  (∀ (s : State) (carrier : Nat), let r := runP armMissing s
    (∀ x, ¬CmpFires r (rxCar r carrier) r.datum.cmpUl carrier x) → exec (.airSymbolUl carrier) s = .next r) ∧
  (∀ (s : State) (carrier : Nat) (codes : List (Nat × List (Int × Int))) (u : UlSym),
    let r := runP (.seq noteStates settleSymbols) s
    (r.fh.ulSyms.find? fun y => y.carrier == carrier) = some u → due r (add32 u.air u.len) = true →
    let v := ulView r u
    Answers (.uplaneMessageBuild carrier codes) s fun t =>
      t.fh.ulSyms = (r.fh.ulSyms.filter fun y => y != u) ∧
      ((∀ y ∈ u.sects, y.type ≠ 1) → t.fh = { r.fh with ulSyms := r.fh.ulSyms.filter fun y => y != u }) ∧
      (∀ y, u.sects = [y] → y.type = 1 → flowValid (flowRec v y.flow) = true →
        (flowKind (flowRec v y.flow) ≠ 0 ∨ layerActive v 1 (flowLayer (flowRec v y.flow)) = true) → 0 < y.numPrb →
        (compWidth (if flowDyn (flowRec s y.flow) then y.comp else flowComp (flowRec s y.flow))).isSome = true →
        tget 0 t.fh.seqTx (y.flow * 4) = (tget 0 s.fh.seqTx (y.flow * 4) + messageCount s y (carPrb (rxCar v carrier))) % 256) ∧
      KeepsBut [.cnts, .ecc, .mbx, .evt, .fh, .grat, .mash, .tx, .rx, .coex] s t) ∧
  (∀ (s : State) (carrier : Nat) (codes : List (Nat × List (Int × Int))),
    let r := runP (.seq noteStates settleSymbols) s
    (∀ u, (r.fh.ulSyms.find? fun y => y.carrier == carrier) = some u → due r (add32 u.air u.len) = false) →
    exec (.uplaneMessageBuild carrier codes) s = .next r) ∧
  (∀ (s : State) (queue : Nat), (∀ d ∈ queueOf s queue, d.eligible = true) → exec (.egressLaunch queue) s = .next s) ∧
  (∀ (s : State) (queue : Nat) (front rest : List EgDesc) (h : EgDesc), queueOf s queue = front ++ h :: rest →
    (∀ d ∈ front, d.eligible = true) → h.eligible = false →
    let d := int32Diff (now s) h.launch
    let most := (tget 0 s.regs 0x4010000C : Nat)
    Answers (.egressLaunch queue) s fun t => KeepsBut [.cnts, .fh] s t ∧
      (h.tested = true → reached s h.launch = false → t = s) ∧
      (h.tested = true → reached s h.launch = true → (queueOf t queue)[front.length]? = some { h with eligible := true }) ∧
      (h.tested = false → d < 0 → queueOf t queue = front ++ { h with tested := true } :: rest) ∧
      (h.tested = false → 0 ≤ d → d ≤ most → (queueOf t queue)[front.length]? = some { h with eligible := true, late := true }) ∧
      (h.tested = false → 0 ≤ d → most < d → rest = [] → queueOf t queue = front ∧
        cntVal t blkFlow h.flow 7 = satAdd (cntVal s blkFlow h.flow 7) 1) ∧
      (h.tested = false → 0 ≤ d → d ≤ most → rest = [] →
        cntVal t blkFlow h.flow 6 = satAdd (cntVal s blkFlow h.flow 6) 1)) ∧
  (∀ s : State, LinkTakes s → s.datum.ptpTx = [] → Answers .macFrameStart s fun t =>
    KeepsBut [.cnts, .tots, .mbx, .fh] s t ∧
    (peerMac s = zeros 6 → t.fh.wire = s.fh.wire ∧ t.mbx.queue63 = [] ∧ (∀ q ∈ t.fh.egress, ∀ d ∈ q.2, d.eligible = false) ∧
      cntVal t blkFh 0 8 = counted s blkFh 0 8
        (sumN (s.fh.egress.map fun q => (q.2.filter (·.eligible)).length) + s.mbx.queue63.length)) ∧
    (peerMac s ≠ zeros 6 → starts s = [] → t = s) ∧
    (∀ a l, peerMac s ≠ zeros 6 → starts s = a :: l →
      let x := l.foldl (fun m y => if startsBefore y m then y else m) a
      t.fh.wire = [x.frame] ∧ totVal t blkFh 0 2 = (totVal s blkFh 0 2 + 1) % 2 ^ 64 ∧
      totVal t blkFh 0 3 = (totVal s blkFh 0 3 + max 64 (x.frame.length + 4)) % 2 ^ 64 ∧
      (x.queue = 63 → t.mbx.queue63 = s.mbx.queue63.drop 1 ∧ t.fh.egress = s.fh.egress) ∧
      (x.queue ≠ 63 → t.mbx = s.mbx ∧ totVal t blkFlow x.flow 0 = (totVal s blkFlow x.flow 0 + 1) % 2 ^ 64 ∧
        queueOf t x.queue = (queueOf s x.queue).eraseIdx (((queueOf s x.queue).findIdx? fun d => d.eligible &&
          d.launch == x.launch && d.flow == x.flow && d.prb == x.prb && d.sect == x.sect).getD 0) ∧
        ∀ q, q ≠ x.queue → queueOf t q = queueOf s q))) ∧
  (∀ s : State, ¬LinkTakes s ∨ s.datum.ptpTx ≠ [] → exec .macFrameStart s = .next s)

/-- UL_BANK_RELEASE makes the old banks of every uplink swap writable whose 250 us are over. At the end of the last SRS
symbol of a slot its symbols leave the staged ones; a refresh starts where an occasion is complete, and each complete
occasion that no sheet cut notes its end. MASH_PREREQ notes every condition that does not hold on a fitted sheet, with
one event for each newly lapsed. At T_end + 40 us a third refresh is dropped and counted, one with a lapsed condition
is dropped, held and counted, one with nothing to write is dropped with its failures counted, and one with a set goes
into solving. A complete set whose old banks are released is written into the pending banks of the directions the
engine serves, no other byte of memory changes, and the refresh is ready at the time noted. Otherwise nothing changes.
It says that these complete: ulBankRelease, srsOccasionEnd, mashCut, mashPrereq, mashSetReady. -/
def Obligations.GraticuleAndMash : Prop :=
  (∀ s : State, domOn s dGRAT = true → exec .ulBankRelease s =
    .next { s with grat := { s.grat with
      ulBusy := s.grat.ulBusy && !due s s.grat.ulRelease, ulOld := s.grat.ulOld.filter fun p => !due s p.2 } }) ∧
  (∀ s : State, domOn s dGRAT = false → exec .ulBankRelease s = .next s) ∧
  (∀ (s : State) (y : SrsSym) (rest : List SrsSym), s.mash.staged = y :: rest →
    let l := s.mash.staged.filter fun z => z.slot == y.slot
    let tEnd := l.foldl (fun t z => if 0 ≤ int32Diff z.tEnd t then z.tEnd else t) y.tEnd
    let complete := (distinct (l.flatMap (·.ctxs))).filter fun p =>
      decide ((l.filter fun z => z.ctxs.contains p).length = ctxNsym p.2)
    let lost := fun p => occasionZero (l.filter fun z => z.ctxs.contains p)
    let ends := domOn s dMASH = true ∧ engineLost s = false ∧ due s tEnd = true
    (ends → Answers .srsOccasionEnd s fun t => KeepsBut [.cnts, .free, .mash] s t ∧
      t.mash.staged = (s.mash.staged.filter fun z => z.slot != y.slot) ∧
      (complete = [] → t.mash.refresh = s.mash.refresh) ∧
      (complete ≠ [] → t.mash.refresh.map (·.tEnd) = s.mash.refresh.map (·.tEnd) ++ [tEnd]) ∧
      (∀ p ∈ complete, lost p = 0 → tfind t.mash.lastEnd p.1 = some tEnd) ∧
      (∀ p n, complete = [p] → n < 4 → cntVal t blkRxd n 6 = counted s blkRxd n 6 (if (lost p).testBit n then 1 else 0))) ∧
    (¬ends → exec .srsOccasionEnd s = .next s)) ∧
  (∀ s : State, s.mash.staged = [] → exec .srsOccasionEnd s = .next s) ∧
  (∀ s : State, domOn s dMASH = true → Answers .mashPrereq s fun t => KeepsBut [.cnts, .mbx, .evt, .mash] s t ∧
    t.mash = { s.mash with lapsed := t.mash.lapsed } ∧
    ∀ i, i < 12 → t.mash.lapsed.testBit i = (sheetFit s (i % 4) && !prereq s (i / 4) (i % 4)) ∧
      (fwRuns s = true → t.mash.lapsed.testBit i = true → s.mash.lapsed.testBit i = false →
        ∃ r ∈ t.evt.recs, r.code = 0x0602 ∧ r.unit = i % 4 ∧ r.d0 = i / 4)) ∧
  (∀ s : State, domOn s dMASH = false → exec .mashPrereq s = .next s) ∧
  (∀ (s : State) (q0 : Refresh), (s.mash.refresh.find? fun q => q.stage == 0) = some q0 →
    let q := cutOf s q0
    let waiting := (s.mash.refresh.filter fun p => p.stage != 0).length
    let current := (List.range 3).all fun k => (liveSheets s).all (prereq s k)
    let parts := (touched s q).map fun g => groupSets s q g.1 g.2
    let set := parts.flatMap (·.1)
    let six := (sixPorts s q).map fun p => estKey p.2.1 p.2.2.1 p.2.2.2
    let left := s.mash.refresh.filter fun p => p.tEnd != q.tEnd
    let cut := domOn s dMASH = true ∧ engineLost s = false ∧ due s (add32 q.tEnd 40000) = true
    (cut → Answers .mashCut s fun t => KeepsBut [.cnts, .ecc, .mbx, .evt, .mash] s t ∧
      (2 ≤ waiting → t.mash = { s.mash with refresh := left } ∧ OnlyCount blkMash 0 2 1 s t) ∧
      (waiting < 2 → current = false → t.mash = { s.mash with refresh := left, held := true } ∧ OnlyCount blkMash 0 3 1 s t) ∧
      (waiting < 2 → current = true → set = [] → t.mash = { s.mash with refresh := left, held := false, six := six } ∧
        cntVal t blkMash 0 4 = counted s blkMash 0 4 (sumN (parts.map fun p => p.2.2.2))) ∧
      (waiting < 2 → current = true → set ≠ [] → cntVal t blkMash 0 4 = cntVal s blkMash 0 4 ∧
        t.mash = { s.mash with
          held := false, six := six
          refresh := s.mash.refresh.map fun p => if p.tEnd = q.tEnd then { q with
            stage := 1, set := set, solves := sumN (parts.map fun x => x.2.1), sat := sumN (parts.map fun x => x.2.2.1)
            fail := sumN (parts.map fun x => x.2.2.2) } else p })) ∧
    (¬cut → exec .mashCut s = .next s)) ∧
  (∀ s : State, (∀ q ∈ s.mash.refresh, q.stage ≠ 0) → exec .mashCut s = .next s) ∧
  (∀ (s : State) (q : Refresh), (s.mash.refresh.find? fun q => q.stage == 1) = some q →
    let set := q.set.filter fun x => layerSrc s x.dir == 1
    let ready := domOn s dMASH = true ∧ domOn s dGRAT = true ∧ engineLost s = false ∧ (∀ x ∈ set, slotHeld s x.dir x.slot = false)
    (ready → Answers .mashSetReady s fun t => KeepsBut [.cnts, .mem, .ecc, .mbx, .evt, .grat, .mash] s t ∧
      t.mash = { s.mash with
        lastReady := now s, lastSolves := q.solves
        refresh := s.mash.refresh.map fun p => if p.tEnd = q.tEnd then { p with stage := 2, ready := now s } else p } ∧
      cntVal t blkMash 0 0 = counted s blkMash 0 0 q.sat ∧ cntVal t blkMash 0 4 = counted s blkMash 0 4 q.fail ∧
      (∀ x ∈ set, slotPending t x.dir x.slot = true) ∧
      (Memory.wf s.mem = true →
        MemoryKept s t (fun i a => i = .weight ∧ ∃ x ∈ set, setBase s x ≤ a ∧ a < setBase s x + 0x800) ∧
        ∀ x l, set = [x] → l < nLayers s → 64 * l + nPaths s ≤ x.words.length →
          peek t .weight (setBase s x + 128 * l) (2 * nPaths s) = ((x.words.drop (64 * l)).take (nPaths s)).flatMap (leBytes 2))) ∧
    (¬ready → exec .mashSetReady s = .next s)) ∧
  (∀ s : State, (∀ q ∈ s.mash.refresh, q.stage ≠ 1) → exec .mashSetReady s = .next s)

/-- A word of a register comes back as the register reads, and a LO word takes the HI word with it into the shadow of its
requester; the HI word then comes from that shadow alone. A word of a memory comes back as stored; one that cannot be
delivered fails. A failed read returns 0, sets its error bit, keeps its address if no bit was set, and clears the
shadow if it was a LO word; a hidden word returns 0. A burst reads its words one after the other at rising addresses.
A read by the processor never changes the shadow, the error bits or the data lines of the host. PORT_STATUS returns
the status byte. Nothing answers while the supplies of AO are down. It says that these complete: hostPortRead,
portStatus, shadowLoRead, shadowHiRead. -/
def Obligations.HostReads : Prop :=
  (∀ (s : State) (a e : Nat), s.pwr.aoUp = true → a < 2 ^ 32 → accessError s a = some e →
    exec (.hostPortRead a 1) s = .next { s with host := { s.host with
      err := s.host.err ||| 2 ^ e, errAddr := if s.host.err = 0 then a else s.host.errAddr
      hiHost := if isLo a = true then 0 else s.host.hiHost, lastRead := [0] } }) ∧
  (∀ (s : State) (a : Nat), s.pwr.aoUp = true → a < 2 ^ 32 → accessError s a = none → windowMem a = none → isHi a = false →
    let r : State := { s with host := { s.host with lastRead := [] } }
    exec (.hostPortRead a 1) s = .next { s with host := { s.host with
      hiHost := if isLo a = true then regWord r (a + 4) else s.host.hiHost, lastRead := [regWord r a] } }) ∧
  (∀ (s : State) (a : Nat), s.pwr.aoUp = true → a < 2 ^ 32 → accessError s a = none → hiddenWord s a = true →
    exec (.hostPortRead a 1) s = .next { s with host := { s.host with
      hiHost := if isLo a = true then 0 else s.host.hiHost, lastRead := [0] } }) ∧
  (∀ (s : State) (a : Nat), s.pwr.aoUp = true → a < 2 ^ 32 → accessError s a = none → hiddenWord s a = false → isHi a = true →
    exec (.hostPortRead a 1) s = .next { s with host := { s.host with lastRead := [s.host.hiHost] } }) ∧
  (∀ (s : State) (a c : Nat) (i : MemId), s.pwr.aoUp = true → a < 2 ^ 32 → accessError s a = none → hiddenWord s a = false →
    windowMem a = some c → codeMem c = some i → isHi a = false →
    let n := if isLo a then 8 else 4
    let r := readBytes s i c (a - memBase c) n
    let bad := badRange s c (a - memBase c) n
    Answers (.hostPortRead a 1) s fun t => KeepsBut [.cnts, .ecc, .host, .mbx, .evt] s t ∧
      (bad = false → t.host = { s.host with
        hiHost := if isLo a = true then fld r 4 4 else s.host.hiHost, lastRead := [fld r 0 4] }) ∧
      (bad = true → t.host.lastRead = [0] ∧ t.host.err = s.host.err ||| 4 ∧
        t.host.errAddr = (if s.host.err = 0 then a else s.host.errAddr) ∧ t.host.hiHost = if isLo a = true then 0 else s.host.hiHost) ∧
      (s.ecc.err = [] → s.ecc.poison = [] → r = peek s i (a - memBase c) n ∧ KeepsBut [.host] s t)) ∧
  (∀ (s t : State) (a n : Nat), s.pwr.aoUp = true → exec (.hostPortRead a n) s = .next t →
    exec (.hostPortRead a (n + 1)) s = .next (runP (readWord false ((a + 4 * n) % 2 ^ 32)) t)) ∧
  (∀ (s : State) (a : Nat), s.pwr.aoUp = true →
    (isLo a = true → exec (.shadowLoRead false a) s = exec (.hostPortRead a 1) s) ∧
    (isHi a = true → exec (.shadowHiRead false a) s = exec (.hostPortRead a 1) s)) ∧
  (∀ (s : State) (a : Nat), s.pwr.aoUp = true → isLo a = true →
    (accessError s a ≠ none ∨ hiddenWord s a = true →
      exec (.shadowLoRead true a) s = .next { s with host := { s.host with hiCpu := 0 } }) ∧
    (accessError s a = none → windowMem a = none →
      exec (.shadowLoRead true a) s = .next { s with host := { s.host with hiCpu := regWord s (a + 4) } }) ∧
    (∀ c i, accessError s a = none → hiddenWord s a = false → windowMem a = some c → codeMem c = some i →
      Answers (.shadowLoRead true a) s fun t => KeepsBut [.cnts, .ecc, .host, .mbx, .evt] s t ∧
        t.host.hiHost = s.host.hiHost ∧ t.host.err = s.host.err ∧ t.host.errAddr = s.host.errAddr ∧ t.host.lastRead = s.host.lastRead ∧
        t.host.hiCpu = if badRange s c (a - memBase c) 8 = true then 0 else fld (readBytes s i c (a - memBase c) 8) 4 4)) ∧
  (∀ (s : State) (a : Nat), exec (.shadowHiRead true a) s = .next s ∧
    (isLo a = false → ∀ cpu, exec (.shadowLoRead cpu a) s = .next s) ∧ (isHi a = false → exec (.shadowHiRead false a) s = .next s)) ∧
  (∀ s : State, s.pwr.aoUp = true → exec .portStatus s = .next { s with host := { s.host with
    lastPort := bit (s.host.err != 0) + 2 * bit (irqLow s) + 4 * bit (faultLow s) + 8 * bit s.host.aoReady } }) ∧
  (∀ (s : State) (cpu : Bool) (a n : Nat), s.pwr.aoUp = false → ∀ i ∈ [Instr.hostPortRead a n, .shadowLoRead cpu a,
    .shadowHiRead cpu a, .portStatus], exec i s = .next s)

/-- A host write to INCR_LO, INCR_HI, STEP_NS, CTRL, TOD_L, TOD_S_LO, TOD_S_HI, TOD_N or PPS_NEXT is ignored without
error; the same write of the control processor is accepted. No host write but a ring of the doorbell changes the
counter, its increment, the reference triple, the TOD registers or any other part of datum time; only the two windows
of DATUM and the mark of PPS_IN are the host's to write, and a write of PWR.CTRL, which can wake CTRL with a reset,
keeps all of these but the validity of time. It says that these complete: registerWrite, datumCtrlStep,
incrementWrite, todReferenceWrite. -/
def Obligations.HostWritesToDatum : Prop :=
  (∀ (s : State) (a v : Nat), accessError s a = none →
    a ∈ [0x40110004, 0x40110008, 0x4011000C, 0x40110010, 0x40110018, 0x4011001C, 0x40110020, 0x40110024, 0x40110028] →
    exec (.registerWrite false a v false) s = .next s) ∧
  (∀ (s : State) (v : Nat), s.pwr.aoUp = true → domOn s dDATUM = true → v < 2 ^ 32 →
    exec (.registerWrite true 0x40110004 v false) s = .next { s with datum := { s.datum with incrLo := v } } ∧
    exec (.registerWrite true 0x40110008 v false) s = exec (.incrementWrite v) s ∧
    exec (.registerWrite true 0x4011000C v false) s = .next { s with datum := { s.datum with stepNs := v } } ∧
    (let u := { s with datum := { s.datum with timeValid := v.testBit 8, ppsOut := s.datum.ppsOut && v.testBit 8 } }
     exec (.registerWrite true 0x40110010 v false) s = if v.testBit 0 then exec .datumCtrlStep u else .next u) ∧
    exec (.registerWrite true 0x40110018 v false) s =
      .next { s with datum := { s.datum with todHold := (v, s.datum.todHold.2) } } ∧
    exec (.registerWrite true 0x4011001C v false) s =
      .next { s with datum := { s.datum with todHold := (s.datum.todHold.1, v, s.datum.todHold.2.2) } } ∧
    exec (.registerWrite true 0x40110020 v false) s =
      .next { s with datum := { s.datum with todHold := (s.datum.todHold.1, s.datum.todHold.2.1, v % 65536) } } ∧
    exec (.registerWrite true 0x40110024 v false) s = exec (.todReferenceWrite v) s ∧
    exec (.registerWrite true 0x40110028 v false) s = .next { s with datum := { s.datum with ppsNext := v } }) ∧
  (∀ (s : State) (a v : Nat) (cut : Bool), a < 2 ^ 32 → a ≠ 0x40030000 → Answers (.registerWrite false a v cut) s fun t =>
    (a ≠ 0x4001000C → t.datum = { s.datum with
      airWindow := t.datum.airWindow, rsWindow := t.datum.rsWindow, ppsInSeen := t.datum.ppsInSeen }) ∧
    t.datum.cnt = s.datum.cnt ∧ t.datum.frac = s.datum.frac ∧ t.datum.incInt = s.datum.incInt ∧
    t.datum.incFrac = s.datum.incFrac ∧ t.datum.incNext = s.datum.incNext ∧ t.datum.ref = s.datum.ref ∧ t.datum.tod = s.datum.tod)

/-- A host write to a register of GRAT, TXD, DPD, SHEETn or SURVEY that reaches it enters the capture with its address and
datum time while the capture holds fewer than 16, and counts in OVERWRITTEN otherwise. The registers of a transmit
path, the taper of an element, its corrections and delays and the advance of a sheet take the fields written at once;
those of units that are absent do not. A word of a command area whose channel does not ring holds what was written;
while it rings the word is ignored and marked BLOCKED. The host writes no other word of a memory; the processor writes
the mailbox SRAM, and its narrow write of the tun or the weight memory only counts. DONE, the BLOCKED bits and the
failed mark of transactions are cleared by ones. A cut word is discarded and sets ALIGN; a word to a location that
does not answer sets its error bit. DIRECT_WRITE_CAPTURE_DRAIN moves the captured writes into the commit log in order
and empties the capture. It says that these complete: registerWrite, directWriteCaptureDrain. -/
def Obligations.DirectWrites : Prop :=
  (∀ (s : State) (a v : Nat), a < 2 ^ 32 → v < 2 ^ 32 → s.pwr.aoUp = true → accessError s a = none → addrLogged a = true →
    Answers (.registerWrite false a v false) s fun t =>
      (s.log.capture.length < 16 → t.log = { s.log with capture := s.log.capture ++ [(a, now s, v)] } ∧
        cntVal t blkLog 0 0 = cntVal s blkLog 0 0) ∧
      (16 ≤ s.log.capture.length → t.log = s.log ∧ cntVal t blkLog 0 0 = satAdd (cntVal s blkLog 0 0) 1)) ∧
  (∀ (s : State) (cpu : Bool) (a v : Nat), a < 2 ^ 32 → v < 2 ^ 32 → s.pwr.aoUp = true → accessError s a = none →
    regHeld s a = false → Answers (.registerWrite cpu a v false) s fun t =>
      (∀ p i, txPathReg a = some (p, i) → txPathRec t p = if pathFit s p then txPathPut (txPathRec s p) i v else txPathRec s p) ∧
      (∀ e, taperReg a = some e → tget 0 t.regs a = if pathFit s e then v else tget 0 s.regs a) ∧
      (∀ n, advanceReg a = some n → txSheetRec t n =
        if sheetFit s n && (sh s n).state != .tx then putAt (txSheetRec s n) 2 (leBytes 2 (v % 8192)) else txSheetRec s n) ∧
      (∀ e i, surveyReg a = some (e, i) → elemOf t e =
        if pathFit s e then (if i = 0 then corrPut (elemOf s e) v else delayPut (elemOf s e) v) else elemOf s e)) ∧
  (∀ (s : State) (ch j v : Nat), s.pwr.aoUp = true → Memory.wf s.mem = true → ch < 8 → j < 0x40 → v < 2 ^ 32 →
    accessError s (0x20000000 + cmdArea ch) = none → s.mbx.ring.testBit ch = false →
    Answers (.registerWrite false (0x20000000 + cmdArea ch + 4 * j) v false) s fun t =>
      peek t .mailbox (cmdArea ch + 4 * j) 4 = leBytes 4 v ∧
      ∀ off, off < cmdArea ch + 4 * j ∨ cmdArea ch + 4 * j + 4 ≤ off → peek t .mailbox off 1 = peek s .mailbox off 1) ∧
  (∀ (s : State) (ch j v : Nat), s.pwr.aoUp = true → ch < 8 → j < 0x40 →
    accessError s (0x20000000 + cmdArea ch) = none → s.mbx.ring.testBit ch = true →
    exec (.registerWrite false (0x20000000 + cmdArea ch + 4 * j) v false) s =
      .next { s with mbx := { s.mbx with blocked := s.mbx.blocked ||| 2 ^ ch } }) ∧
  (∀ (s : State) (a v c : Nat), s.pwr.aoUp = true → a < 2 ^ 32 → accessError s a = none → windowMem a = some c →
    (c ≠ 1 ∨ 0x20001000 ≤ a ∨ 0x100 ≤ a % 0x200) → exec (.registerWrite false a v false) s = .next s) ∧
  (∀ (s : State) (a v c : Nat), s.pwr.aoUp = true → a < 2 ^ 32 → accessError s a = none → windowMem a = some c →
    Answers (.registerWrite true a v false) s fun t =>
      (c ≠ 1 → OnlyCount blkMemAll 0 1 1 s t ∧ KeepsBut [.cnts] s t) ∧
      (c = 1 → Memory.wf s.mem = true → KeepsBut [.mem, .ecc] s t ∧
        peek t .mailbox (a - 0x20000000) 4 = leBytes 4 (v % 2 ^ 32) ∧
        MemoryKept s t fun i b => i = .mailbox ∧ a - 0x20000000 ≤ b ∧ b < a - 0x20000000 + 4)) ∧
  (∀ (s : State) (cpu : Bool) (v : Nat), s.pwr.aoUp = true → v < 2 ^ 32 →
    (domOn s dMBX = true → exec (.registerWrite cpu 0x40030004 v false) s =
      .next { s with mbx := { s.mbx with done := andNot s.mbx.done (v % 256) } } ∧
     exec (.registerWrite cpu 0x4003000C v false) s =
      .next { s with mbx := { s.mbx with blocked := andNot s.mbx.blocked (v / 256 % 256) } }) ∧
    (domOn s dCTRL = true → exec (.registerWrite cpu 0x40040000 v false) s =
      .next { s with txn := { s.txn with failed := s.txn.failed && !v.testBit 1 } })) ∧
  (∀ (s : State) (a v : Nat), a < 2 ^ 32 → s.pwr.aoUp = true → exec (.registerWrite false a v true) s =
    .next { s with host := { s.host with err := s.host.err ||| 8, errAddr := if s.host.err = 0 then a else s.host.errAddr } }) ∧
  (∀ (s : State) (a v e : Nat), a < 2 ^ 32 → s.pwr.aoUp = true → accessError s a = some e →
    exec (.registerWrite true a v false) s = .next s ∧ exec (.registerWrite false a v false) s =
      .next { s with host := { s.host with err := s.host.err ||| 2 ^ e, errAddr := if s.host.err = 0 then a else s.host.errAddr } }) ∧
  (∀ (s : State) (cpu cut : Bool) (a v : Nat), s.pwr.aoUp = false → exec (.registerWrite cpu a v cut) s = .next s) ∧
  (∀ s : State, fwRuns s = false → exec .directWriteCaptureDrain s = .next s) ∧
  (∀ s : State, fwRuns s = true → s.log.capture.length ≤ 16 → Answers .directWriteCaptureDrain s fun t =>
    t.log.capture = [] ∧ t.log.next % 2 ^ 32 = (s.log.next + s.log.capture.length) % 2 ^ 32 ∧ KeepsBut [.cnts, .log, .mbx, .evt] s t ∧
    ∃ l, t.log.recs.map (fun r => (r.kind, r.detail)) = l ++ s.log.capture.map fun e => (0x0C, (e.1 - 0x40000000) % 2 ^ 24))

/-- A fault source sets its bit of FAULT_STATUS and no other; writing ones clears the bits whose condition does not hold
and leaves the others. A raised event enters the log with its code, its unit, its data and the next sequence number; a
full log loses its oldest record and counts it. Acknowledging clears the named DONE bits and nothing else. A source or
an event that the manual does not name, and an event before firmware runs, change nothing. It says that these
complete: doneAcknowledge, faultStatusClear, faultBitSet, eventRaise. -/
def Obligations.FaultsEventsAndDone : Prop :=
  (∀ (s : State) (b : Nat), s.pwr.aoUp = true → b < 9 → domSt s dCTRL ≠ .retention →
    exec (.faultBitSet b) s = .next { s with host := { s.host with fault := s.host.fault ||| 2 ^ b } }) ∧
  (∀ (s : State) (b : Nat), s.pwr.aoUp = true → b < 9 → domSt s dCTRL = .retention → Answers (.faultBitSet b) s fun t =>
    t.host = { s.host with fault := s.host.fault ||| 2 ^ b } ∧ KeepsBut [.host, .clk, .pwr] s t ∧
    ((faultEnEff s).testBit b = true → domMoving t dCTRL = true) ∧ ((faultEnEff s).testBit b = false → t.pwr = s.pwr)) ∧
  (∀ (s : State) (mask : Nat), s.pwr.aoUp = true → Answers (.faultStatusClear mask) s fun t =>
    t = { s with host := { s.host with fault := t.host.fault } } ∧
    ∀ b, t.host.fault.testBit b =
      (s.host.fault.testBit b && !(decide (b < 9) && mask.testBit b && !faultHolds s b))) ∧
  (∀ (s : State) (cls n unit : Nat) (data : List Nat), fwRuns s = true → cls < 14 → 1 ≤ n → n ≤ classEvents.getD cls 0 →
    Answers (.eventRaise (evCode cls n) unit data) s fun t =>
      KeepsBut [.cnts, .evt, .mbx] s t ∧ t.evt.next = (s.evt.next + 1) % 2 ^ 32 ∧
      (∃ r, t.evt.recs.getLast? = some r ∧ r.seq = s.evt.next ∧ r.code = evCode cls n ∧ r.unit = unit ∧
        r.flags = bit s.datum.timeValid ∧ r.d0 = data.getD 0 0 % 2 ^ 32 ∧ r.d1 = data.getD 1 0 % 2 ^ 32 ∧ r.d2 = data.getD 2 0 % 2 ^ 32) ∧
      (s.evt.recs.length < 2048 → t.evt.recs.length = s.evt.recs.length + 1 ∧ cntVal t blkEvt 0 0 = cntVal s blkEvt 0 0) ∧
      (s.evt.recs.length = 2048 → t.evt.recs.length = 2048 ∧ t.evt.recs.dropLast = s.evt.recs.drop 1 ∧
        cntVal t blkEvt 0 0 = satAdd (cntVal s blkEvt 0 0) 1)) ∧
  (∀ (s : State) (mask : Nat), domOn s dMBX = true → exec (.doneAcknowledge mask) s =
    .next { s with mbx := { s.mbx with done := andNot s.mbx.done (mask % 256) } }) ∧
  (∀ (s : State) (b : Nat), s.pwr.aoUp = false ∨ 9 ≤ b → exec (.faultBitSet b) s = .next s) ∧
  (∀ (s : State) (mask : Nat), s.pwr.aoUp = false → exec (.faultStatusClear mask) s = .next s) ∧
  (∀ (s : State) (code unit : Nat) (data : List Nat),
    fwRuns s = false ∨ code % 256 = 0 ∨ classEvents.getD (code / 256) 0 < code % 256 → exec (.eventRaise code unit data) s = .next s) ∧
  (∀ (s : State) (mask : Nat), domOn s dMBX = false → exec (.doneAcknowledge mask) s = .next s)

/-- A fall of TXMUTE_N puts the hold PIN on every fitted sheet, drops its release, switches off the strobes gated by TX
mute, counts and raises TXMUTE_ASSERTED. A rise is noted, and once it has stood 1,000 ns each held sheet is released
5,000 ns after it. HOLD_END ends exactly the holds of the sheet whose release has reached a symbol start, and what was
released before and began earlier stays muted whole. SHEET_READY makes a sheet ready to transmit 4,000 ns and to
receive 3,000 ns after T_done with its synthesizer in lock, and a LO hold is then released. While a path or its sheet
is held the DAC carries the mute code of the path. Otherwise nothing changes. It says that these complete:
txmuteNFall, txmuteNRise, txmuteRelease, holdEnd, sheetReady. -/
def Obligations.MuteAndReadiness : Prop :=
  (∀ s : State, s.tx.mutePin = true → Answers .txmuteNFall s fun t =>
    t.tx.mutePin = false ∧ t.tx.muteSeen = true ∧ t.tx.rise = none ∧ KeepsBut [.cnts, .mbx, .evt, .tx, .radio] s t ∧
    cntVal t blkTxd 16 0 = satAdd (cntVal s blkTxd 16 0) 1 ∧ Raised s (evCode 7 1) noUnit 0 t ∧
    ∀ n ∈ sheets s, holds t n = holds s n ||| 2 ^ holdPin ∧ tfind t.tx.release (8 * n + holdPin) = none ∧
      sh t n = { sh s n with strobes := (sh t n).strobes } ∧ ∀ j, j < 4 → (sh t n).strobes.testBit j =
        ((sh s n).strobes.testBit j && !(fld (strobeRec s n j) 2 1 == 1 && fbit (strobeRec s n j) 3 1 1))) ∧
  (∀ s : State, s.tx.mutePin = false → exec .txmuteNFall s = .next s ∧ exec .txmuteNRise s =
    .next { s with tx := { s.tx with mutePin := true, rise := some (now s) } }) ∧
  (∀ s : State, s.tx.mutePin = true → exec .txmuteNRise s = .next s) ∧
  (∀ (s : State) (x : Nat), s.tx.rise = some x → s.tx.mutePin = true → due s (add32 x 1000) = true →
    Answers .txmuteRelease s fun t => t.tx = { s.tx with rise := none, release := t.tx.release } ∧ KeepsBut [.tx] s t ∧
      ∀ n, tfind t.tx.release (8 * n + holdPin) =
        if n ∈ sheets s ∧ (holds s n).testBit holdPin = true then some (add32 x 5000) else tfind s.tx.release (8 * n + holdPin)) ∧
  (∀ s : State, (∀ x, s.tx.rise = some x → s.tx.mutePin = false ∨ due s (add32 x 1000) = false) →
    exec .txmuteRelease s = .next s) ∧
  (∀ (s : State) (n : Nat),
    let ends := fun b => decide (b < 8) && (tfind s.tx.release (8 * n + b)).any fun x => due s (firstSymbol s x)
    Answers (.holdEnd n) s fun t => KeepsBut [.cnts, .mbx, .evt, .fh, .tx, .rx, .coex] s t ∧
      (∀ b, (holds t n).testBit b = ((holds s n).testBit b && !ends b)) ∧
      (∀ b, ends b = true → tfind t.tx.release (8 * n + b) = none) ∧
      (∀ b x p w, ends b = true → tfind s.tx.release (8 * n + b) = some x → p ∈ t.tx.wave → p.1 / 128 = n → w ∈ p.2 →
        int32Diff w.air x < 0 → (w.mute.getD 0).testBit n = true) ∧
      ∀ m, m ≠ n → holds t m = holds s m) ∧
  (∀ (s : State) (n : Nat), sheetFit s n = true →
    let r := sh s n
    let rx := r.done && r.rxLock && due s (add32 r.tDone 3000)
    let tx := r.done && r.txLock && due s (add32 r.tDone 4000)
    Answers (.sheetReady n) s fun t => KeepsBut [.tx, .radio] s t ∧
      sh t n = { r with rxReady := r.rxReady || rx, txReady := r.txReady || tx } ∧ (∀ m, m ≠ n → sh t m = sh s m) ∧
      (let frees := tx && !r.txReady && (holds s n).testBit holdLo
       t.tx = { s.tx with
         release := if frees then tset s.tx.release (8 * n + holdLo) (add32 r.tDone 4000) else s.tx.release }) ∧
      (rx = false → (tx = false ∨ r.txReady = true) → t = s)) ∧
  (∀ (s : State) (n : Nat), sheetFit s n = false → exec (.sheetReady n) s = .next s) ∧
  (∀ (s : State) (p : Nat), pathHeld s p = true ∨ (sheetHeld s (p / 16) = true ∧ stimOf s p = none) →
    dacWord s p = (sfld (txPathRec s p) 4 2, sfld (txPathRec s p) 6 2))

/-- A receiver with no lease takes the next one: for a campaign of its sheet first, else for predistortion or for tracking
by the share of each frame of 16, else for a capture; what the kiln holds is not granted and counts. Each lease counts
under its owner and moves the index of the frame. A lease ends 50 us after its start and its receiver is idle. In a
predistortion lease the capture begins after COUPLER_SETTLE; complete, its streams stand in the receiver's region of
the tun, and it is rejected with its code or goes on to be solved, unless LINEARITY is held. A receiver whose ALIGN
failed on four paths, one of which the other receiver accepted, goes out of service. Otherwise nothing changes but
what the time that has passed brings. It says that these complete: leaseStart, dpdCaptureStart, dpdCaptureComplete,
leaseEnd, orxFailed. -/
def Obligations.ReceiverLeases : Prop :=
  (∀ (s : State) (k : Nat), orxLive s k = true → (orxOf s k).owner = 0 →
    let o := orxOf s k
    let n := k / 2
    let camp := s.survey.camps.find? fun c => c.sheets.testBit n && due s c.start
    let mine := leaseReserved s o
    let d := dpdNext s k
    let a := trackWants s k
    let takeD := d.isSome && granted s 2 && (mine || !(a.isSome && granted s 3))
    let takeT := a.isSome && granted s 3
    Answers (.leaseStart k) s fun t => KeepsBut [.cnts, .free, .dpd, .radio, .survey, .rffe] s t ∧
      (orxOf t k).index = (o.index + 1) % 16 ∧ (orxOf t k).reserved = (if o.index = 15 then 0 else o.reserved + bit mine) ∧
      (∀ c, camp = some c →
        let plan := (campPlan c).getD (tget 0 c.leases k) 0
        (orxOf t k).owner = 2 ∧ (orxOf t k).leaseStart = now s ∧ (orxOf t k).path = none ∧ (orxOf t k).capture = 0 ∧
        cntVal t blkOrx k 1 = satAdd (cntVal s blkOrx k 1) 1 ∧
        (∃ y ∈ t.survey.camps, y.number = c.number ∧ tget 0 y.leases k = tget 0 c.leases k + 1) ∧
        (k = bench s n → c.partner ≠ some n → tfind t.survey.arr n = some plan)) ∧
      (camp = none → cntVal t blkKiln 0 2 =
        counted s blkKiln 0 2 (bit (d.isSome && !granted s 2) + bit (a.isSome && !granted s 3))) ∧
      (∀ p, camp = none → takeD = true → d = some p → (orxOf t k).owner = 1 ∧ (orxOf t k).source = 1 ∧ (orxOf t k).path = d ∧
        (orxOf t k).leaseStart = now s ∧ (orxOf t k).capture = 0 ∧ (orxOf t k).touched = false ∧
        (orxOf t k).map = couplerRec s p ∧ (orxOf t k).recent = ((p, 255) :: o.recent).take 16 ∧
        cntVal t blkOrx k 0 = satAdd (cntVal s blkOrx k 0) 1 ∧ tfind t.dpd.lastPath n = d) ∧
      (camp = none → takeD = false → takeT = true → (orxOf t k).owner = 2 ∧ (orxOf t k).source = 2 ∧ (orxOf t k).path = none ∧
        (orxOf t k).leaseStart = now s ∧ (orxOf t k).gap = add32 (now s) ((openGap s).getD 0 + 2000) ∧
        cntVal t blkOrx k 1 = satAdd (cntVal s blkOrx k 1) 1 ∧ tfind t.survey.arr n = a) ∧
      (∀ c, camp = none → takeD = false → takeT = false → tapNext s k = some c → granted s 5 = true →
        (orxOf t k).owner = 3 ∧ (orxOf t k).source = 1 ∧ (orxOf t k).path = (setBits 64 (fld c.req 4 8)).head? ∧
        (orxOf t k).leaseStart = now s ∧ cntVal t blkOrx k 2 = satAdd (cntVal s blkOrx k 2) 1) ∧
      (camp = none → takeD = false → takeT = false → tapNext s k = none ∨ granted s 5 = false → (orxOf t k).owner = 0)) ∧
  (∀ (s : State) (k : Nat), orxLive s k = false ∨ (orxOf s k).owner ≠ 0 → exec (.leaseStart k) s = .next s) ∧
  (∀ (s : State) (k : Nat), (orxOf s k).owner ≠ 0 → due s (add32 (orxOf s k).leaseStart 50000) = true →
    Answers (.leaseEnd k) s fun t => KeepsBut [.dpd, .radio, .survey, .rffe] s t ∧
      orxOf t k = { orxOf s k with
        owner := 0, source := 0, path := none, map := [], wide := false, capture := 0, mismatch := false } ∧
      ((orxOf s k).owner = 2 → k = bench s (k / 2) → tfind t.survey.arr (k / 2) = none)) ∧
  (∀ (s : State) (k : Nat), (orxOf s k).owner = 0 ∨ due s (add32 (orxOf s k).leaseStart 50000) = false →
    exec (.leaseEnd k) s = .next s) ∧
  (∀ (s : State) (k p : Nat), (orxOf s k).path = some p → (orxOf s k).owner = 1 → (orxOf s k).capture = 0 →
    due s (add32 (orxOf s k).leaseStart (settleDelay s)) = true → Answers (.dpdCaptureStart k) s fun t =>
      KeepsBut [.dpd] s t ∧ orxOf t k = { orxOf s k with capture := 1, touched := (orxOf t k).touched } ∧
      dpdOf t p = if (orxOf s k).mismatch = true then dpdOf s p else { dpdOf s p with
        captureNs := add32 (orxOf s k).leaseStart (settleDelay s), orx := k
        flags := bit (orxOf s k).wide + 2 * bit (wideAsked s p && !(orxOf s k).wide) }) ∧
  (∀ (s : State) (k : Nat), (orxOf s k).path = none ∨ (orxOf s k).owner ≠ 1 ∨ (orxOf s k).capture ≠ 0 ∨
    due s (add32 (orxOf s k).leaseStart (settleDelay s)) = false → exec (.dpdCaptureStart k) s = .next s) ∧
  (∀ (s : State) (k p start n : Nat) (i q : List Int),
    let r := runP (.seq (txRun none) (.seq touchLeases dpdRefresh)) s
    let iq := i.zip q
    let x := captureX r p p
    let code := captureCode r k p iq
    let adapts := (dpdOf r p).state = 3 ∨ (dpdOf r p).state = 4
    CaptureOver r k p start n → Answers (.dpdCaptureComplete k p start n i q) s fun t =>
      (orxOf t k).capture = 2 ∧ (¬adapts → dpdOf t p = dpdOf r p ∧ (orxOf t k).recent = (orxOf r k).recent) ∧
      (adapts → (orxOf t k).recent = (p, code) :: (orxOf r k).recent.drop 1) ∧
      (adapts → code ≠ 0 → (dpdOf t p).lastReject = code ∧ (dpdOf t p).solving = false ∧
        (dpdOf t p).alignStreak = (if code = 4 then (dpdOf r p).alignStreak + 1 else 0) ∧
        cntVal t blkDpd (p / 16) 2 = satAdd (cntVal r blkDpd (p / 16) 2) 1) ∧
      (adapts → code = 0 → (dpdOf t p).state = 4 ∧ (dpdOf t p).alignStreak = 0 ∧
        ((dpdOf r p).state = 3 → (dpdOf t p).gT = some ((corrSum (alignTo (captureZ r k p iq) x) x).1,
          (corrSum (alignTo (captureZ r k p iq) x) x).2, (energy x).toNat)) ∧
        (granted r 2 = true → (dpdOf t p).solving = true ∧ t.dpd.capture = (r.dpd.capture.filter fun c => c.path != p) ++
          [{ path := p, z := alignTo (captureZ r k p iq) x, x := x, nbr := (nbrsOf (dpdPathRec r p)).map (captureX r p) }]) ∧
        (granted r 2 = false → (dpdOf t p).solving = (dpdOf r p).solving ∧ t.dpd.capture = r.dpd.capture)) ∧
      (Memory.wf s.mem = true →
        let bytes := streamBytes (captureZ r k p iq) ++ streamBytes x ++
          (nbrsOf (dpdPathRec r p)).flatMap fun q => streamBytes (captureX r p q)
        let base := 0x1000000 + k * 0x100000
        peek t .tun base bytes.length = bytes ∧
          MemoryKept s t fun i a => i = .tun ∧ base ≤ a ∧ a < base + bytes.length) ∧
      KeepsBut [.cnts, .mem, .ecc, .tx, .dpd] s t) ∧
  (∀ (s : State) (k p start n : Nat) (i q : List Int),
    let r := runP (.seq (txRun none) (.seq touchLeases dpdRefresh)) s
    ¬CaptureOver r k p start n → exec (.dpdCaptureComplete k p start n i q) s = .next r) ∧
  (∀ (s : State) (k : Nat), OrxFails s k → Answers (.orxFailed k) s fun t =>
    (orxOf t k).service = 2 ∧ inService t (uORX k) = false ∧
    KeepsBut [.cnts, .mem, .ecc, .mbx, .log, .evt, .clk, .fh, .mash, .dpd, .rx, .conv, .radio, .survey, .bias] s t) ∧
  (∀ (s : State) (k : Nat), ¬OrxFails s k → exec (.orxFailed k) s = .next s)

/-- A solved capture writes its tables into the pending bank and only there, stages its set and counts as accepted, or is
rejected with the code of its failure and stages nothing; either way the capture is used up and its errors are noted.
A path that adapts without a set for STALE_MAX is starved once, with the reason. An uncorrectable entry of a table in
use puts its path in bypass, counts, raises its event, and ends the adaptation of a path in MODE 2. Otherwise nothing
changes but what the time that has passed brings. It says that these complete: dpdSolveDone, dpdStarved, dpdCoefEcc. -/
def Obligations.PredistortionCycle : Prop :=
  (∀ (s : State) (p : Nat) (g : Int × Int × Nat) (c : DpdCapture),
    let r := runP dpdRefresh s
    (dpdOf r p).gT = some g → r.dpd.capture.head? = some c → c.path = p → (dpdOf r p).solving = true →
    (dpdOf r p).state = 4 → Answers (.dpdSolveDone p) s fun t =>
      let v := dpdSolve r p c g
      let e := fun (x : Nat × Nat) => toSigned 16 (ofSigned 16 (ratioQdb x.1 (x.2 * (energy c.x).toNat) (toSigned 16 (freeNow r))))
      t.dpd.capture = r.dpd.capture.drop 1 ∧ (dpdOf t p).solving = false ∧ (dpdOf t p).bank = (dpdOf r p).bank ∧
      (dpdOf t p).eCur = e v.cur ∧ (dpdOf t p).ePred = e v.pred ∧
      (v.code = 0 → (dpdOf t p).staged = some (now s) ∧ (dpdOf t p).betaNext = v.beta ∧ (dpdOf t p).lastReject = 0 ∧
        (dpdOf t p).pending = true ∧ (dpdOf t p).alignStreak = 0 ∧
        cntVal t blkDpd (p / 16) 0 = satAdd (cntVal s blkDpd (p / 16) 0) 1 ∧
        (Memory.wf s.mem = true → (∀ tab ∈ dpdTables (dpdPathRec s p), tab.1 < 32) →
          let base := coefOff p (1 - (dpdOf r p).bank) 0
          MemoryKept s t fun i a => i = .coef ∧ base ≤ a ∧ a < base + 0x2000)) ∧
      (v.code ≠ 0 → (dpdOf t p).staged = (dpdOf r p).staged ∧ (dpdOf t p).betaNext = (dpdOf r p).betaNext ∧ t.mem = s.mem ∧
        (dpdOf t p).lastReject = v.code ∧ cntVal t blkDpd (1000 + p) 1 = satAdd (cntVal s blkDpd (1000 + p) 1) 1) ∧
      KeepsBut [.cnts, .free, .mem, .ecc, .dpd] s t) ∧
  (∀ (s : State) (p : Nat),
    let r := runP dpdRefresh s
    ((dpdOf r p).gT = none ∨ (∀ c, r.dpd.capture.head? = some c → c.path ≠ p) ∨ (dpdOf r p).solving = false ∨ (dpdOf r p).state ≠ 4) →
    exec (.dpdSolveDone p) s = .next r) ∧
  (∀ (s : State) (p : Nat),
    let r := runP dpdRefresh s
    let starves := ((dpdOf r p).state = 3 ∨ (dpdOf r p).state = 4) ∧ (dpdOf r p).starved = false ∧
      fld (dpdRec s) 14 2 * 1000000000 ≤ upNs s - (dpdOf r p).since
    (starves → Answers (.dpdStarved p) s fun t => dpdOf t p = { dpdOf r p with starved := true } ∧
      Raised s (evCode 7 5) p (if granted r 2 = false then 0 else
        if (dpdOf r p).lastReject = 0 ∨ (dpdOf r p).lastReject = 9 then 1 else 2) t ∧ KeepsBut [.cnts, .mbx, .evt, .dpd] s t) ∧
    (¬starves → exec (.dpdStarved p) s = .next r)) ∧
  (∀ (s : State) (p : Nat),
    let hit := pathFit s p = true ∧ domOn s (dTXD (p / 16)) = true ∧ tablesBad s p = true ∧ (dpdOf s p).bypass = false
    (hit → Answers (.dpdCoefEcc p) s fun t => KeepsBut [.cnts, .mbx, .evt, .dpd] s t ∧
      cntVal t blkDpd (p / 16) 6 = satAdd (cntVal s blkDpd (p / 16) 6) 1 ∧ Raised s (evCode 7 4) p 0 t ∧
      (dpdMode (dpdPathRec s p) = 2 → dpdOf t p = { dpdHalt s.dpd p (dpdOf s p) with bypass := true, state := 5 } ∧
        t.dpd.capture = s.dpd.capture.filter fun c => c.path != p) ∧
      (dpdMode (dpdPathRec s p) ≠ 2 → dpdOf t p = { dpdOf s p with bypass := true } ∧ t.dpd.capture = s.dpd.capture)) ∧
    (¬hit → exec (.dpdCoefEcc p) s = .next s))

/-- At the end of a half-subframe, once for each, every live path reports its levels over all of its codes with the codes
at a limit, −32768 where the sheet was not in RX and ready throughout, the free value where the power is 0 (assumption
log 3); its clips count and its DC blocker has run over the codes. After 65,536 updating samples the DC blocker of a
path leaves acquisition. The reports of a slot stand with its start, those of an empty accumulator as the manual says,
and the accumulators are empty again. A PRACH repetition that has passed is extracted and sent in messages of its
flow, whose sequence numbers advance by their number; an uncorrectable entry sends nothing. Otherwise nothing changes
but the states of the sheets that are noted. It says that these complete: halfSubframeLevel, foSlotEnd,
prachOccasionDone, dcAcqEnd. -/
def Obligations.ReceiveMeasurements : Prop :=
  (∀ (s : State) (codes : List (Nat × List (Int × Int))),
    let r := runP noteStates s
    let h := halfOf s (extNow s) - 1
    let ends := r.rx.outHalf ≠ some ((h + 1) % 20480).toNat
    let sq := fun p => (pathCodes r p (tget [] codes p)).map fun x => ((16 * x.1) ^ 2 + (16 * x.2) ^ 2).toNat
    let clips := fun p => ((pathCodes r p (tget [] codes p)).filter fun x => codeClips x.1 x.2).length
    let whole := fun p => sq p ≠ [] ∧ worstCode r (p / 16) (h * 983040) ((h + 1) * 983040) = 0
    let free := toSigned 16 (freeNow r)
    (ends → Answers (.halfSubframeLevel codes) s fun t => KeepsBut [.cnts, .free, .rx] s t ∧
      t.rx.outHalf = some ((h + 1) % 20480).toNat ∧
      (∀ n, n < 4 → cntVal t blkRxd n 3 = counted s blkRxd n 3
        (sumN (((paths s).filter fun p => p / 16 == n && domOn s (dRXD n)).map clips))) ∧
      ∀ p ∈ paths s, domOn s (dRXD (p / 16)) = true →
        (∃ v : Nat × Int × Int × Nat, tfind t.rx.level p = some v ∧ v.1 = counterAt s (symNs s 0 h 0) ∧ v.2.2.2 = clips p ∧
          (whole p → v.2.1 = wideQdb (sumN (sq p)) ((sq p).length * 2 ^ 30) free ∧ v.2.2.1 = wideQdb (maxN (sq p)) (2 ^ 30) free) ∧
          (¬whole p → v.2.1 = -32768 ∧ v.2.2.1 = -32768)) ∧
        let run := dcRun r p h (pathCodes r p (tget [] codes p))
        tfind t.rx.dc p = some (run.accI, run.accQ) ∧ tfind t.rx.dcLeft p = some run.left) ∧
    (¬ends → exec (.halfSubframeLevel codes) s = .next r)) ∧
  (∀ (s : State) (p : Nat),
    let r := runP noteStates s
    let past := pathFit s p = true ∧ s.rx.dcAcq.testBit p = true ∧
      dcLeftAfter r p (halfNow r) (dpIndex r (now r) - halfNow r * 983040).toNat = 0
    (past → exec (.dcAcqEnd p) s = .next { r with rx := { r.rx with dcAcq := andNot r.rx.dcAcq (2 ^ p) } }) ∧
    (¬past → exec (.dcAcqEnd p) s = .next r)) ∧
  (∀ (s : State) (carrier : Nat), carrier < 8 → carValid (rxCar s carrier) = true → Answers (.foSlotEnd carrier) s fun t =>
    KeepsBut [.free, .rx] s t ∧ ∀ n ∈ sheets s,
      ∃ r : Int × Nat × Nat, tfind t.rx.fo (8 * n + carrier) = some r ∧ r.2.2 = lastSlot s (carMu (rxCar s carrier)) ∧
        tfind t.rx.foAcc (8 * n + carrier) = none ∧
        (tfind s.rx.foAcc (8 * n + carrier) = none → r.1 = -2147483648) ∧
        ∀ x y e, tfind s.rx.foAcc (8 * n + carrier) = some (x, y, e) →
          (x ≠ 0 ∨ y ≠ 0 → r.1 = -(argScaled x y (15000 * 2 ^ carMu (rxCar s carrier)) 1)) ∧ (e ≠ 0 → r.2.1 = foQual (x, y) e)) ∧
  (∀ (s : State) (carrier : Nat), carValid (rxCar s carrier) = false → exec (.foSlotEnd carrier) s = .next s) ∧
  (∀ (s : State) (flow id k slot startSym rep : Nat) (codes : List (Nat × List (Int × Int))),
    let r := runP noteStates s
    let p := pageOf 1 k
    let entry := s.sect.entries.find? fun e => inPage p e.1 && sectLive e.2 && e.2.type == 3 && e.2.flow == flow &&
      e.2.id == id && e.2.slot == slot && e.2.startSym == startSym
    let car := rxCar s (flowCar (flowRec s flow))
    let hs := symAt s (carMu car) k slot 0 (extNow s)
    let past := fun (e : Nat × Section) (o : Occasion) => pageSub s p = k ∧ carValid car = true ∧ rep < e.2.numSym ∧
      flowValid (flowRec s flow) = true ∧ domOn s dFH = true ∧
      due s (counterAt s ((symStart s (carMu car) hs.1 hs.2 + (o.timeOffset * 12500 : Nat) +
        ((o.cpLength + rep * (prachShape o.filter).useful + (prachShape o.filter).useful) * 12500 : Nat) + 383) / 384)) = true
    (∀ e o, entry = some e → occasionAt s p flow slot = some o → past e o →
      Answers (.prachOccasionDone flow id k slot startSym rep codes) s fun t =>
        KeepsBut [.cnts, .ecc, .mbx, .evt, .fh, .grat, .rx] s t ∧
        (entryGood s e.1 = false → t.fh = s.fh ∧ cntVal t blkSect 0 8 = satAdd (cntVal s blkSect 0 8) 1) ∧
        (entryGood s e.1 = true → 0 < e.2.numPrb →
          (compWidth (if flowDyn (flowRec s e.2.flow) then e.2.comp else flowComp (flowRec s e.2.flow))).isSome = true →
          tget 0 t.fh.seqTx (e.2.flow * 4) = (tget 0 s.fh.seqTx (e.2.flow * 4) + messageCount s e.2 (carPrb car)) % 256)) ∧
    (¬(∃ e o, entry = some e ∧ occasionAt s p flow slot = some o ∧ past e o) →
      exec (.prachOccasionDone flow id k slot startSym rep codes) s = .next r))

/-- The end of INIT gives each slice the mean of its first two agreeing measurements, counts what disagrees or leaves its
range, places the good slices in order and leaves the converter running, without a spare, or failed. A visit of the
spare begins no sooner than a visit after the last. Its agreement test sets the trims, counts a disagreement (failing
the slice at the eighth in a row) or fails the slice. An accepted handover gives the position to the spare and
restarts its window; a refused one is counted, and the fourth in a row fails the holder. A cell of a DAC is trimmed
and exchanged in one visit, or counted, or failed. The first window of a position is kept, the second moves its holder
by one step each way, a move out of range being counted and failing the slice; a window that is not valid is counted;
in wide mode the same holds of the skew between the two ADCs, without a failure. Every other state of the converter
leaves the whole state unchanged. It says that these complete: converterInitDone, spareVisitStart, agreementTest,
handover, cellVisit, estimationWindowEnd. -/
def Obligations.ConverterUpkeep : Prop :=
  (∀ (s : State) (n : Nat) (a b : List (List (Int × Int))),
    ((convOf s n).state ≠ 1 → exec (.converterInitDone n a b) s = .next s) ∧
    (n < 384 → (convOf s n).state = 1 →
      let limit := if n = 144 then 2 else 1
      let one := fun k => initOf n (attemptsOf a b k)
      let out := fun k => (one k).2.any fun t => !inTrim n t
      let fresh := (List.range (sliceCount n)).filter fun k => !(sliceBefore s n k).failed
      let newBad := fresh.filter fun k => (one k).2.isNone || out k
      let bad := (List.range (sliceCount n)).filter fun k => (sliceBefore s n k).failed || newBad.contains k
      let good := (List.range (sliceCount n)).filter fun k => !bad.contains k
      Answers (.converterInitDone n a b) s fun t => ConvStep s n t ∧ (convOf t n).slices.length = sliceCount n ∧
        (∀ k, k < sliceCount n → ∃ x, (convOf t n).slices[k]? = some x ∧ x.failed = bad.contains k ∧
          x.skew = (sliceBefore s n k).skew ∧ x.thresh = (sliceBefore s n k).thresh ∧
          (x.offset, x.gain) = (if bad.contains k then ((sliceBefore s n k).offset, (sliceBefore s n k).gain) else (one k).2.getD (0, 0)) ∧
          x.pos = (if bad.contains k || decide (posCount n ≤ good.idxOf k) then 0xFF else good.idxOf k)) ∧
        (convOf t n).visit = 0 ∧ (convOf t n).disagree = 0 ∧ (convOf t n).refusals = 0 ∧ (convOf t n).lastPos = 0 ∧
        (convOf t n).state = (if bad = [] then 2 else if bad.length ≤ limit then 4 else 5) ∧
        (n < 144 → ∀ j, j < 16 → tfind t.clk.stamps (tkEst n j) = some (upNs s)) ∧
        (∀ sheet, convSheet n = some sheet → cntVal t blkConv sheet 0 = counted s blkConv sheet 0 (sumN (fresh.map fun k => (one k).1)) ∧
          cntVal t blkConv sheet 2 = counted s blkConv sheet 2 (fresh.filter out).length) ∧
        (bad.length ≤ limit → ∀ k, newBad.getLast? = some k → Raised s 0x0B01 (64 * n + k) 0 t) ∧
        (limit < bad.length → cars s ≠ [] → Raised s 0x0B02 n 0 t))) ∧
  (∀ (s : State) (n : Nat),
    let go := decide (convStateNow s n = 2) && (convOf s n).visit == 0 && (spareOf (convOf s n)).isSome &&
      elapsed s (tkVisit n) (visitNs n)
    (go = false → exec (.spareVisitStart n) s = .next s) ∧
    (go = true → Answers (.spareVisitStart n) s fun t => KeepsBut [.clk, .conv] s t ∧ convOf t n = { convOf s n with visit := 1 } ∧
      (∀ m, m ≠ n → convOf t m = convOf s m) ∧ tfind t.clk.stamps (tkVisit n) = some (upNs s))) ∧
  (∀ (s : State) (n : Nat) (ao bo ag bg : Int),
    let m := (ao, bo, ag, bg)
    let go := decide (convStateNow s n = 2) && (convOf s n).visit == 1 && !isDac n &&
      elapsed s (tkVisit n) (if n = 144 then 800000 else 104000)
    (go = false ∨ spareOf (convOf s n) = none → exec (.agreementTest n ao bo ag bg) s = .next s) ∧
    ∀ k, go = true → spareOf (convOf s n) = some k → k < sliceCount n → n < 384 → Answers (.agreementTest n ao bo ag bg) s fun t =>
      ConvStep s n t ∧ (convOf t n).lastPos = (convOf s n).lastPos ∧
      (agreesAt n m = true → inTrim n (pairMean m) = true → KeepsBut [.conv] s t ∧ (convOf t n).visit = 2 ∧ (convOf t n).disagree = 0 ∧
        (convOf t n).state = (convOf s n).state ∧ ∃ x, (convOf s n).slices[k]? = some x ∧
          (convOf t n).slices = setNth (convOf s n).slices k { x with offset := (pairMean m).1, gain := (pairMean m).2 }) ∧
      (agreesAt n m = true → inTrim n (pairMean m) = false → SliceFails s n k t ∧
        ∀ sheet, convSheet n = some sheet → cntVal t blkConv sheet 2 = satAdd (cntVal s blkConv sheet 2) 1) ∧
      (agreesAt n m = false → (∀ sheet, convSheet n = some sheet → cntVal t blkConv sheet 0 = satAdd (cntVal s blkConv sheet 0) 1) ∧
        ((convOf s n).disagree < 7 → KeepsBut [.cnts, .conv] s t ∧
          convOf t n = { convOf s n with visit := 0, disagree := (convOf s n).disagree + 1 }) ∧
        (7 ≤ (convOf s n).disagree → SliceFails s n k t))) ∧
  (∀ (s : State) (n : Nat) (mean : Int) (meanSquare : Nat),
    let j := ((convOf s n).lastPos + 1) % posCount n
    let go := decide (convStateNow s n = 2) && (convOf s n).visit == 2 && !isDac n &&
      elapsed s (tkVisit n) (if n = 144 then 1000000 else 128000)
    (go = false ∨ spareOf (convOf s n) = none ∨ holderOf (convOf s n) j = none → exec (.handover n mean meanSquare) s = .next s) ∧
    ∀ k h, go = true → spareOf (convOf s n) = some k → holderOf (convOf s n) j = some h → k < sliceCount n → h < sliceCount n → n < 384 →
      Answers (.handover n mean meanSquare) s fun t => ConvStep s n t ∧
        (mean.natAbs ≤ 1024 → meanSquare ≤ 16384 → KeepsBut [.cnts, .clk, .conv] s t ∧ (convOf t n).lastPos = j ∧
          (convOf t n).visit = 0 ∧ (convOf t n).refusals = 0 ∧ (convOf t n).disagree = 0 ∧ (convOf t n).state = (convOf s n).state ∧
          (∃ x y, (convOf s n).slices[k]? = some x ∧ (convOf s n).slices[h]? = some y ∧
            (convOf t n).slices = setNth (setNth (convOf s n).slices h { y with pos := 0xFF }) k { x with pos := j }) ∧
          (∀ sheet, convSheet n = some sheet → cntVal t blkConv sheet 4 = satAdd (cntVal s blkConv sheet 4) 1) ∧
          tfind t.conv.window (n * 32 + j) = none ∧ tfind t.clk.stamps (tkEst n j) = some (upNs s)) ∧
        (1024 < mean.natAbs ∨ 16384 < meanSquare → (convOf t n).lastPos = (convOf s n).lastPos ∧
          (∀ sheet, convSheet n = some sheet → cntVal t blkConv sheet 1 = satAdd (cntVal s blkConv sheet 1) 1) ∧
          ((convOf s n).refusals < 3 → KeepsBut [.cnts, .conv] s t ∧
            convOf t n = { convOf s n with visit := 0, refusals := (convOf s n).refusals + 1 }) ∧
          (3 ≤ (convOf s n).refusals → SliceFails s n h t ∧
            (cars s = [] → failedSlices (convOf s n) = 0 → ((convOf t n).slices[k]?).map (·.pos) = some j)))) ∧
  (∀ (s : State) (n : Nat) (a b : Int),
    let j := ((convOf s n).lastPos + 1) % posCount n
    let m := (a, b, (0 : Int), (0 : Int))
    let go := decide (convStateNow s n = 2) && isDac n && elapsed s (tkVisit n) (visitNs n)
    (go = false ∨ spareOf (convOf s n) = none → exec (.cellVisit n a b) s = .next s) ∧
    ∀ k, go = true → spareOf (convOf s n) = some k → k < sliceCount n → n < 384 → Answers (.cellVisit n a b) s fun t =>
      ConvStep s n t ∧ tfind t.clk.stamps (tkVisit n) = some (upNs s) ∧
      (agreesAt n m = true → inTrim n (pairMean m) = true → KeepsBut [.clk, .conv] s t ∧ ∃ x, (convOf s n).slices[k]? = some x ∧
        (∀ h y, holderOf (convOf s n) j = some h → (convOf s n).slices[h]? = some y → (convOf t n).lastPos = j ∧ (convOf t n).visit = 0 ∧
          (convOf t n).disagree = 0 ∧ (convOf t n).state = (convOf s n).state ∧
          (convOf t n).slices = setNth (setNth (convOf s n).slices h { y with pos := 0xFF }) k { x with pos := j, offset := meanTap a b }) ∧
        (holderOf (convOf s n) j = none → convOf t n =
          { convOf s n with slices := setNth (convOf s n).slices k { x with offset := meanTap a b } })) ∧
      (agreesAt n m = true → inTrim n (pairMean m) = false → SliceFails s n k t ∧
        ∀ sheet, convSheet n = some sheet → cntVal t blkConv sheet 2 = satAdd (cntVal s blkConv sheet 2) 1) ∧
      (agreesAt n m = false → (∀ sheet, convSheet n = some sheet → cntVal t blkConv sheet 0 = satAdd (cntVal s blkConv sheet 0) 1) ∧
        ((convOf s n).disagree < 7 → KeepsBut [.cnts, .clk, .conv] s t ∧
          convOf t n = { convOf s n with visit := 0, disagree := (convOf s n).disagree + 1 }) ∧
        (7 ≤ (convOf s n).disagree → SliceFails s n k t))) ∧
  (∀ (s : State) (n pos : Nat) (samples : List (List (Int × Int × Int))), wideRuns s n = false →
    let sheet := (convSheet n).getD 0
    let l := samples.headD []
    let sk := skewEstimate s sheet 0 l
    let th := (List.range 4).map fun i => threshEstimate (11 - i) l
    let key := n * 32 + pos
    (windowOver s n pos = false → exec (.estimationWindowEnd n pos samples) s = .next s) ∧
    (windowOver s n pos = true → Answers (.estimationWindowEnd n pos samples) s fun t =>
      ConvStep s n t ∧ tfind t.clk.stamps (tkEst n pos) = some (upNs s) ∧
      cntVal t blkConv sheet 4 = counted s blkConv sheet 4 (if sk.isNone then 1 else 0) ∧
      (tfind s.conv.window key = none → KeepsBut [.cnts, .clk, .conv] s t ∧ tfind t.conv.window key = some (sk, th) ∧
        convOf t n = convOf s n) ∧
      ∀ a ta, tfind s.conv.window key = some (a, ta) → tfind t.conv.window key = none ∧
        (holderOf (convOf s n) pos = none → KeepsBut [.cnts, .clk, .conv] s t ∧ convOf t n = convOf s n) ∧
        ∀ h x, holderOf (convOf s n) pos = some h → (convOf s n).slices[h]? = some x → h < sliceCount n →
          let m := skewMove s sheet a sk
          let mt := (ta.zip th).map fun p => threshMove p.1 p.2
          let fits := fun (lim : Nat) (v d : Int) => decide ((v - d).natAbs ≤ lim)
          let move := fun (lim : Nat) (v d : Int) => if fits lim v d then v - d else v
          let moved := ((2047, x.skew, m) :: (x.thresh.zip mt).map fun p => (63, p.1, p.2)).filter fun p => p.2.2 != 0
          let out := (moved.filter fun p => !fits p.1 p.2.1 p.2.2).length
          cntVal t blkConv sheet 3 = counted s blkConv sheet 3 (moved.length - out) ∧ cntVal t blkConv sheet 2 = counted s blkConv sheet 2 out ∧
          (∃ y, (convOf t n).slices[h]? = some y ∧ y.skew = move 2047 x.skew m ∧
            y.thresh = (x.thresh.zip mt).map (fun p => move 63 p.1 p.2) ∧ y.offset = x.offset ∧ y.gain = x.gain) ∧
          (out = 0 → KeepsBut [.cnts, .clk, .conv] s t ∧ (convOf t n).state = (convOf s n).state) ∧
          (out ≠ 0 → SliceFails s n h t))) ∧
  (∀ (s : State) (n pos : Nat) (samples : List (List (Int × Int × Int))), wideRuns s n = true →
    let sheet := (n - 128) / 4
    let k := (n - 128) / 2
    let old := tget (Config.wideSkew k).toInt s.conv.wideSkew k
    Answers (.estimationWindowEnd n pos samples) s fun t => KeepsBut [.cnts, .conv] s t ∧ t.conv.conv = s.conv.conv ∧
      (wideEstimate s sheet samples = none → t.conv = s.conv ∧ cntVal t blkConv sheet 4 = satAdd (cntVal s blkConv sheet 4) 1) ∧
      ∀ e, wideEstimate s sheet samples = some e →
        (tfind s.conv.wideWindow k = none → t.cnts = s.cnts ∧ tfind t.conv.wideWindow k = some e ∧
          t.conv.wideSkew = s.conv.wideSkew) ∧
        ∀ a, tfind s.conv.wideWindow k = some a →
          let m := skewMove s sheet (some a) (some e)
          tfind t.conv.wideWindow k = none ∧
          (m = 0 → t.cnts = s.cnts ∧ t.conv.wideSkew = s.conv.wideSkew) ∧
          (m ≠ 0 → (old - m).natAbs ≤ 2047 → tfind t.conv.wideSkew k = some (old - m) ∧
            cntVal t blkConv sheet 3 = satAdd (cntVal s blkConv sheet 3) 1) ∧
          (m ≠ 0 → 2047 < (old - m).natAbs → t.conv.wideSkew = s.conv.wideSkew ∧
            cntVal t blkConv sheet 2 = satAdd (cntVal s blkConv sheet 2) 1))

/-- A pattern arms its next entry on the next free timer of 0 to 5 when that entry still lies ahead, runs it at once up to
RS_WINDOW late and counts it, and counts and reports one that is later; its next entry is then the one that follows. A
timer that fires is no longer armed, and its action starts the transition to its state, waits behind one in progress,
or changes the channel. A step of a transition that is due puts the sheet into the next state on its way and begins
the step after it; the last ends the transition and starts the first deferred one that leads elsewhere. A strobe takes
its level and the other strobes keep theirs. Nothing that is not due changes anything. It says that these complete:
patternArm, rsTimerFire, rsTransitionEnd, strobeEdge. -/
def Obligations.RadioStateSteps : Prop :=
  (∀ (s : State) (n : Nat), let x := sh s n
    let r := patRec s n
    let at_ := x.pat.getD (firstEntry s r (extNow s) fun h i => decide (extNow s + 100000 ≤ entryFire s r h i))
    let te := counterAt s (entryTe s r at_.1 at_.2)
    let action := ((patEntries r).getD at_.2 (0, 2)).2
    let delta := actionDelta (stateAhead x te) action
    let d := int32Diff (now s) (add32 te (-(delta : Int)))
    let free := (List.range 6).find? fun t => (tfind x.timers t).isNone
    (x.patternOn = false ∨ domOn s dDATUM = false ∨ free = none → exec (.patternArm n) s = .next s) ∧
    ∀ i, x.patternOn = true → domOn s dDATUM = true → free = some i → Answers (.patternArm n) s fun t =>
      KeepsBut [.cnts, .mbx, .evt, .tx, .rx, .conv, .radio, .survey, .rffe] s t ∧
      (sh t n).pat = some (if at_.2 + 1 < fld r 3 1 then (at_.1, at_.2 + 1) else (at_.1 + (fld r 2 1 : Nat), 0)) ∧
      (d < 0 → (sh t n).timers = tset x.timers i { tE := te, action := action, pat := true } ∧ (sh t n).state = x.state ∧
        (sh t n).trans = x.trans ∧ KeepsBut [.radio, .rffe] s t) ∧
      (0 ≤ d → (sh t n).timers = x.timers) ∧
      (0 ≤ d → d ≤ rsWindow s → Fired s n action (add32 (now s) delta) t ∧
        cntVal t blkDatum 0 0 = satAdd (cntVal s blkDatum 0 0) 1) ∧
      (0 ≤ d → rsWindow s < d → (sh t n).state = x.state ∧ (sh t n).trans = x.trans ∧ Raised s 0x0405 n te t ∧
        cntVal t blkDatum 0 2 = satAdd (cntVal s blkDatum 0 2) 1 ∧ KeepsBut [.cnts, .mbx, .evt, .radio, .rffe] s t)) ∧
  (∀ (s : State) (n i : Nat), tfind (sh s n).timers i = none → exec (.rsTimerFire n i) s = .next s) ∧
  (∀ (s : State) (n i : Nat) (x : RsTimer), tfind (sh s n).timers i = some x →
    let goes := reached s (add32 x.tE (-(actionDelta (stateSoon (sh s n)) x.action : Int)))
    (goes = false → exec (.rsTimerFire n i) s = .next s) ∧
    (goes = true → Answers (.rsTimerFire n i) s fun t => (sh t n).timers = tdel (sh s n).timers i ∧ (sh t n).pat = (sh s n).pat ∧
      Fired s n x.action x.tE t ∧ KeepsBut [.cnts, .mbx, .evt, .tx, .rx, .conv, .radio, .survey] s t)) ∧
  (∀ (s : State) (n te : Nat) (target : Radio), (sh s n).trans = some (target, te) →
    let x := sh s n
    let a := x.state
    let b := nextHop a target
    let at_ := add32 te (-(deltaOf b target : Int))
    let rest := dropSame b x.deferred
    (due s at_ = false → exec (.rsTransitionEnd n) s = .next s) ∧
    (due s at_ = true → Answers (.rsTransitionEnd n) s fun t =>
      KeepsBut [.cnts, .mbx, .evt, .conv, .radio, .survey, .coex] s t ∧ (sh t n).state = b ∧ (sh t n).hopTe = at_ ∧
      (sh t n).strobes = (if b = .sleep ∨ b = .standby then 0 else x.strobes) ∧ (sh t n).timers = x.timers ∧
      (a = .tx → b ≠ .tx → (∀ m ∈ sheets s, m ≠ n → (sh s m).state ≠ .tx) → t.coex = { s.coex with left := some at_ }) ∧
      (a ≠ .tx → t.coex = s.coex) ∧
      (b = .sleep → n < 4 → rest = [] → ∀ i, i < 68 → (convOf t (convNumber n i)).state = 0) ∧
      (b ≠ target → (sh t n).trans = some (target, te) ∧ (sh t n).deferred = x.deferred ∧ (sh t n).lastTe = x.lastTe ∧
        (b = .standby → nextHop b target = .synth → (sh t n).calDue = some (add32 at_ 30000) ∧ (sh t n).changing = true) ∧
        (b = .synth → nextHop b target = .standby → (sh t n).calDue = none ∧ (sh t n).txLock = false ∧ (sh t n).rxLock = false)) ∧
      (b = target → (sh t n).lastTe = te ∧ (rest = [] → (sh t n).trans = none ∧ (sh t n).deferred = [] ∧ (sh t n).calDue = if a = .synth ∧ b = .standby then none else x.calDue) ∧
        ∀ q l, rest = q :: l → (sh t n).deferred = l ∧ (sh t n).trans = (if s.clk.cpuPll || !beyondStandby (radioOf q.1) then
          some (radioOf q.1, add32 q.2.1 (int32Diff te q.2.2)) else none)))) ∧
  (∀ (s : State) (n : Nat), (sh s n).trans = none → exec (.rsTransitionEnd n) s = .next s) ∧
  (∀ (s : State) (n j : Nat), sheetFit s n = true → j < 4 → Answers (.strobeEdge n j) s fun t => KeepsBut [.radio] s t ∧
    (sh t n).strobes.testBit j = strobeLevel s n j ∧ sh t n = { sh s n with strobes := (sh t n).strobes } ∧
    (∀ i, i ≠ j → (sh t n).strobes.testBit i = (sh s n).strobes.testBit i) ∧ ∀ m, m ≠ n → sh t m = sh s m) ∧
  (∀ (s : State) (n j : Nat), sheetFit s n = false ∨ 4 ≤ j → exec (.strobeEdge n j) s = .next s)

/-- A calibration that is due begins: both synthesizers search, their locks, readiness and alignment are gone, the DC
blockers of the sheet clear and acquire again, adaptation ends its cycles and the campaigns of the sheet are
abandoned. SYNTH_LOCK within its time ends it with both locked on their bands. Without lock after 500 us it is
repeated once; the second failure raises its event, stops the calibration and takes the sheet out of service, and a
return to service ends in SLEEP. A loss of lock takes readiness, places the hold LO, counts and raises its event; the
third within 10 s takes the sheet out of service; 1 us after a loss the synthesizers calibrate again. Nothing that is
not due changes anything. It says that these complete: synthCalStart, synthLock, synthCalTimeout, loUnlock,
recalAfterUnlock. -/
def Obligations.SynthesizerSteps : Prop :=
  (∀ (s : State) (n x : Nat), (sh s n).calDue = some x → due s x = true → domOn s (dSHEET n) = true →
    Answers (.synthCalStart n) s (CalBegun s n x 1)) ∧
  (∀ (s : State) (n : Nat), (∀ x, (sh s n).calDue = some x → due s x = false) ∨ domOn s (dSHEET n) = false →
    exec (.synthCalStart n) s = .next s) ∧
  (∀ (s : State) (n tb rb : Nat), let go := (sh s n).txCal && (sh s n).rxCal && lockTime s n
    (go = false → exec (.synthLock n tb rb) s = .next s) ∧
    (go = true → Answers (.synthLock n tb rb) s fun t => KeepsBut [.radio] s t ∧ sh t n = { sh s n with
      txCal := false, rxCal := false, txLock := true, rxLock := true, band := (tb % 256, rb % 256), unlocked := none } ∧
      ∀ m, m ≠ n → sh t m = sh s m)) ∧
  (∀ (s : State) (n : Nat), (sh s n).txCal = false ∨ due s (add32 (sh s n).calStart 500000) = false →
    exec (.synthCalTimeout n) s = .next s) ∧
  (∀ (s : State) (n : Nat), (sh s n).txCal = true → due s (add32 (sh s n).calStart 500000) = true →
    Answers (.synthCalTimeout n) s fun t =>
      ((sh s n).calTry = 1 → CalBegun s n (now s) 2 t) ∧
      ((sh s n).calTry ≠ 1 → n < 4 → (sh t n).txCal = false ∧ (sh t n).rxCal = false ∧ (sh t n).txLock = false ∧
        (sh t n).rxLock = false ∧ (sh t n).calDue = none ∧ GoesOut n t ∧ (cars s ≠ [] → Raised s 0x0902 n 0 t) ∧
        ((sh s n).returning = true → (sh t n).state = .sleep ∧ (sh t n).returning = false) ∧
        (cars s = [] → isoWaits s n = false → s.clk.isoSheet.testBit n = false → (sh t n).state = .sleep ∧ (sh t n).outOfService = true) ∧
        (cars s ≠ [] → (sh s n).returning = false → (sh t n).state = (sh s n).state))) ∧
  (∀ (s : State) (n which : Nat), let locked := if which = 0 then (sh s n).txLock else (sh s n).rxLock
    let recent := ((sh s n).losses.filter fun t => decide (upNs s < t + 10000000000)) ++ [upNs s]
    (2 ≤ which ∨ locked = false ∨ beyondStandby (sh s n).state = false → exec (.loUnlock n which) s = .next s) ∧
    (which < 2 → locked = true → beyondStandby (sh s n).state = true → Answers (.loUnlock n which) s fun t =>
      cntVal t blkRs n 0 = satAdd (cntVal s blkRs n 0) 1 ∧ (sh t n).txReady = false ∧ (sh t n).rxReady = false ∧
      (holds t n).testBit holdLo = true ∧ tfind t.tx.release (8 * n + holdLo) = none ∧ (which = 0 → (sh t n).txLock = false) ∧
      (which = 1 → (sh t n).rxLock = false) ∧
      (recent.length < 3 → sh t n = { sh s n with
          txReady := false, rxReady := false, done := false, changing := true, losses := recent, unlocked := some (now s)
          txLock := (sh s n).txLock && which != 0, rxLock := (sh s n).rxLock && which != 1 } ∧
        Raised s 0x0901 n which t ∧ KeepsBut [.cnts, .mbx, .evt, .tx, .rx, .radio] s t) ∧
      (3 ≤ recent.length → n < 4 → GoesOut n t ∧ (cars s ≠ [] → Raised s 0x0901 n which t ∧ (sh t n).losses = recent ∧
        (sh t n).state = (sh s n).state)))) ∧
  (∀ (s : State) (n x : Nat), (sh s n).unlocked = some x → due s (add32 x 1000) = true → beyondStandby (sh s n).state = true →
    Answers (.recalAfterUnlock n) s fun t => CalBegun s n (now s) 1 t ∧ (sh t n).unlocked = none) ∧
  (∀ (s : State) (n : Nat), (∀ x, (sh s n).unlocked = some x → due s (add32 x 1000) = false) ∨ beyondStandby (sh s n).state = false →
    exec (.recalAfterUnlock n) s = .next s)

/-- Sheets that hold lock after calibrating together start a quick survey with the next campaign number, and a sheet
rejected four times repeats it alone every 10 ms. A campaign whose leases are over is solved: rejected sheets keep
their codes, are counted and, in a quick survey, surveyed again at once or left to the repetition; accepted ones wait
for their boundary with the campaign's result. At that boundary the corrections come into force, the sheets are
aligned and, after a quick survey, done; a full campaign reports SURVEY_DONE. A tracking capture is used once: the
first measurement of a pair is kept and the second, where it agrees, gives their mean. An evaluation counts and
reports the elements beyond the wide limit and starts one steeping beyond the deadband. A sheet whose temperature
moved too far is latched, at once with no carrier. Nothing that is not due changes anything but what the time that has
passed brings. It says that these complete: quickSurveyStart, surveySolveDone, qsRetry, trackCapture, trackEvaluate,
tempCompare, quickSurveyDone, fullCampaignCommit. -/
def Obligations.SurveyCampaigns : Prop :=
  (∀ (s : State) (mask : Nat), let l := setBits 4 mask
    (engineLost s = true ∨ l.all (surveyReady s) = false ∨ l = [] → exec (.quickSurveyStart mask) s = .next s) ∧
    (engineLost s = false → l.all (surveyReady s) = true → l ≠ [] → Answers (.quickSurveyStart mask) s fun t =>
      CampStarted s (maskOf l) (now s) t ∧
      ∀ n, sh t n = if n ∈ l then { sh s n with qsAttempts := min 255 ((sh s n).qsAttempts + 1) } else sh s n)) ∧
  (∀ (s : State) (n : Nat), n < 4 →
    let go := (sh s n).qsFail && (sh s n).txLock && (sh s n).rxLock && surveyed s n && (campOf s n).isNone && !engineLost s &&
      due s (sh s n).retryAt
    (go = false → exec (.qsRetry n) s = .next s) ∧
    (go = true → Answers (.qsRetry n) s fun t => CampStarted s (2 ^ n) (now s) t ∧
      ∀ m, sh t m = if m = n then { sh s n with
        qsAttempts := min 255 ((sh s n).qsAttempts + 1), retryAt := add32 (sh s n).retryAt 10000000 } else sh s m)) ∧
  (∀ (s : State) (k : Nat) (bench paths : List Reading) (orx : List (Nat × List (Int × Int))),
    let readings := bench ++ paths
    let found := s.survey.camps.find? fun c => c.number == k && !c.solved
    (found = none ∨ engineLost s = true ∨ (∀ c, found = some c → campTaken s c = false) →
      exec (.surveySolveDone k bench paths orx) s = .next s) ∧
    ∀ c, found = some c → campTaken s c = true → engineLost s = false →
      let view := campView s c
      let set := campSet s c readings
      let res := campResult view c readings set
      let img := campImages s c readings
      let b := if c.full then commitAt s 1 (surveyRef s) else add32 c.start 400000
      Answers (.surveySolveDone k bench paths orx) s fun t =>
      KeepsBut [.cnts, .mem, .ecc, .host, .mbx, .log, .evt, .clk, .pwr, .fh, .mash, .dpd, .rx, .conv, .radio, .survey, .bias] s t ∧
      (∀ n code, (n, code) ∈ campCodes s c readings → tfind t.survey.reject n = some (code + 128 * bit
        (code != 3 && code != 4 && txReused view c readings n))) ∧
      cntVal t blkSurvey 0 1 = counted s blkSurvey 0 1 ((campCodes s c readings).filter fun p => p.2 != 0).length ∧
      cntVal t blkSurvey 0 2 = counted s blkSurvey 0 2 (if set = [] then 0 else res.2.1) ∧
      (∀ p taps irr, (p, taps, irr) ∈ img →
        tfind t.rx.irr p = some (irr, tget (sheetTemp s (p / 16), now s) c.rxMeas (p / 16))) ∧
      (set = [] → ∀ x ∈ t.survey.camps, x.number = k → x.start = now s) ∧
      (set ≠ [] → { c with
        solved := true, accepted := maskOf set, boundary := b
        result := { res.1 with
          images := img.map fun p => (p.1, p.2.1)
          orx := if c.full && !c.skipOrx then (orx.filter fun p => set.contains (p.1 / 2)).map fun p => orxSolve view c p.1 p.2
            else [] } } ∈ t.survey.camps ∧ t.survey.provisional = (s.survey.provisional || res.2.2)) ∧
      (c.full = true → set = [] → Raised s 0x0A01 0xFFFF (k % 2 ^ 32) t) ∧
      (c.full = false → (∀ n ∈ set, (sh t n).qsFail = false ∧ tfind t.survey.qsReject n = none) ∧
        ∀ n ∈ setBits 4 c.sheets, n ∉ set → let old := tget 0 s.survey.qsReject n + 1
          tfind t.survey.qsReject n = some old ∧
          (old < 4 → ∃ x ∈ t.survey.camps, x.sheets = 2 ^ n ∧ x.full = false ∧ x.solved = false ∧ x.start = now s ∧
            x.parent = some (res.1.frame, maskOf set)) ∧
          (4 ≤ old → (sh t n).qsFail = true ∧ ((sh s n).qsFail = false →
            (sh t n).retryAt = add32 (now s) 10000000 ∧ t.host.fault.testBit 6 = true)))) ∧
  (∀ (s : State) (k : Nat) (full : Bool), let i := if full then Instr.fullCampaignCommit k else .quickSurveyDone k
    let found := s.survey.camps.find? fun c => c.number == k && c.solved && c.full == full
    (found = none ∨ (∀ c, found = some c → due s c.boundary = false) → exec i s = .next s) ∧
    ∀ c, found = some c → due s c.boundary = true → c ∈ dueCamps s c.boundary ∧
      exec i s = .next (runP (boundaryReached c.boundary) s)) ∧
  (∀ (s : State) (c : Camp), let t := runP (campCommit c) s
    let set := setBits 4 c.accepted
    (∀ x ∈ t.survey.camps, x.number ≠ c.number ∧ x ∈ s.survey.camps) ∧
    (∀ n ∈ set, t.survey.align.testBit n = true ∧ t.survey.recip.testBit n = true ∧
      tfind t.survey.lastCommit n = some c.boundary ∧ (c.full = false → (sh t n).done = true ∧ (sh t n).tDone = c.boundary ∧
        (sh t n).changing = false ∧ (sh t n).returning = false)) ∧
    (∀ n, c.full = true ∨ n ∉ set → sh t n = sh s n) ∧
    ((c.result.elems.map (·.1)).Nodup → ∀ x ∈ c.result.elems, elemOf t x.1 = mergeElem c.result x.1 (elemOf s x.1) x.2) ∧
    (∀ e, (∀ x ∈ c.result.elems, x.1 ≠ e) → elemOf t e = elemOf s e) ∧
    t.survey.frame = c.result.frame ∧ t.survey.ref = c.result.ref ∧
    (∀ q ∈ t.survey.steep, c.accepted.testBit q.sheet = false) ∧
    (c.full = true → Raised s 0x0A01 0xFFFF (c.number % 2 ^ 32) t)) ∧
  (∀ (s : State) (k : Nat) (blocks : List (Nat × List (Int × Int))) (i q : List Int),
    let r := runP (.seq (txRun none) touchLeases) s
    let x := orxOf r k
    let n := k / 2
    let used := runP (modOrx k fun o => { o with capture := 2 }) r
    let at_ := add32 x.leaseStart 5000
    (trackOver r k = false → exec (.trackCapture k blocks i q) s = .next r) ∧
    (trackOver r k = true → tget 0 r.survey.arr n = 3 →
      exec (.trackCapture k blocks i q) s = .next (runP (trackRx n (dpIndex r x.gap) blocks) used)) ∧
    (trackOver r k = true → tget 0 r.survey.arr n = 1 → x.touched = false → exec (.trackCapture k blocks i q) s =
      .next (runP (trackTx n (trackBins r ((elsOf n).map fun p => pathWindow r p (dpIndex r at_) trackLen)
        (observed r k false at_ trackLen (i.zip q)))) used)) ∧
    (trackOver r k = true → tget 0 r.survey.arr n ≠ 3 → tget 0 r.survey.arr n ≠ 1 ∨ x.touched = true →
      exec (.trackCapture k blocks i q) s = .next used)) ∧
  (∀ (s : State) (dir e : Nat) (q : Fit), let t := runP (trackMeasure dir e q) s
    let key := 64 * dir + e
    KeepsBut [.survey] s t ∧
    (tfind s.survey.trackA key = none → t.survey = { s.survey with trackA := tset s.survey.trackA key q }) ∧
    ∀ a, tfind s.survey.trackA key = some a → tfind t.survey.trackA key = none ∧ tfind t.survey.lastMeas e = some (now s) ∧
      t.survey.tracked = if fitsAgree s a q then tset s.survey.tracked key (fitMean a q, extNow s) else s.survey.tracked) ∧
  (∀ (s : State) (n dir : Nat),
    let go := decide (dir < 2) && fbit (surveyRec s) 0 1 0 && trackFull s dir n && !steeping s n dir
    let r := surveyRec s
    let raw := (sheetEls s dir n).map fun e => (e, trackError s dir e)
    let mm := fxMean (raw.map fun x => x.2.1)
    let mp := circMean (raw.map fun x => x.2.2)
    let eps := raw.map fun x => (x.1, x.2.1 - mm, fxWrap (x.2.2 - mp))
    let beyond := fun (o : Nat) (x : Nat × Int × Int) =>
      decide ((fld r o 1 : Int) * fxOne < x.2.1.natAbs) || decide ((fld r (o + 1) 1 : Int) * fxOne < x.2.2.natAbs)
    let corr := fun e => if dir = 0 then (elemOf s e).txCorr else (elemOf s e).rxCorr
    let mag := fun x : Nat × Int × Int => fxRound (cbMag (corr x.1) * fxOne - x.2.1)
    let far := eps.filter (beyond 10)
    (go = false → exec (.trackEvaluate n dir) s = .next s) ∧
    (go = true → Answers (.trackEvaluate n dir) s fun t => KeepsBut [.cnts, .mbx, .evt, .survey] s t ∧
      cntVal t blkSurvey 0 5 = counted s blkSurvey 0 5 far.length ∧ (∀ x, far.getLast? = some x → Raised s 0x0A03 x.1 0 t) ∧
      t.survey.recip.testBit n = (s.survey.recip.testBit n && far.isEmpty) ∧
      (eps.any (beyond 8) = false → t.survey.steep = s.survey.steep ∧ cntVal t blkSurvey 0 2 = cntVal s blkSurvey 0 2) ∧
      (eps.any (beyond 8) = true →
        cntVal t blkSurvey 0 2 = counted s blkSurvey 0 2 (eps.filter fun x => decide (63 < (mag x).natAbs)).length ∧
        ∃ q, t.survey.steep = s.survey.steep ++ [q] ∧ q.sheet = n ∧ q.dir = dir ∧ q.step = 0 ∧ q.steps = fld r 2 1 ∧ q.gap = fld r 3 1 ∧
          q.next = commitAt s 2 (surveyRef s) ∧ q.items = eps.map fun x => (x.1, corr x.1,
            cbMk (clampI (-63) 63 (mag x)) (fxRound (cbPh (corr x.1) * fxOne - x.2.2)))))) ∧
  (∀ s : State, fwRuns s = false → exec .tempCompare s = .next s) ∧
  (∀ s : State, fwRuns s = true → Answers .tempCompare s fun t => KeepsBut [.cnts, .mbx, .log, .evt, .fh, .survey, .bias] s t ∧
    ∀ n ∈ liveSheets s,
    let far := (sh s n).state ≠ .sleep ∧ tfind s.survey.latchPend n = none ∧
      fld (surveyRec s) 18 1 ≤ (sheetTemp s n - tget 0 s.survey.latched n).natAbs
    (¬far → tfind t.survey.latched n = tfind s.survey.latched n ∧ tfind t.survey.latchPend n = tfind s.survey.latchPend n) ∧
    (far → surveyCar s (surveyRef s) = none → tfind t.survey.latched n = some (sheetTemp s n) ∧
      ∀ e, e / 16 = n → (elemOf t e).txDrift = (driftWord s 0 e (sheetTemp s n)).1 ∧
        (elemOf t e).rxDrift = (driftWord s 1 e (sheetTemp s n)).1) ∧
    (far → surveyCar s (surveyRef s) ≠ none → tfind t.survey.latched n = tfind s.survey.latched n ∧
      tfind t.survey.latchPend n = some (sheetTemp s n, commitAt s 2 (surveyRef s))))

/-- The clear phase of an enabled output ends after 20 us; a disabled one is then not configured. A span switches 2 us
after its boundary and the effective code returns after 22 us. An output that has reached its effective code rests
there. A level of BIASCLR_N of 40 ns or longer clears every fitted sheet, holds its transmit paths and replaces its
campaigns. Supervision declares a short at once, compliance and open load at the third sample in a row 50 us apart,
clears each at the third against it, and counts, reports and isolates what it declares. Roles take effect after 10 us;
REQ rises ahead of the first transition into TX and falls after the last; a grant that is missing holds transmission
or counts; the arbiter grants at once when nothing is in TX or near it, else lets the request wait, and takes the
grant back with the request. Nothing that is not due changes anything. It says that these complete: biasclrNAccept,
biasClearPhaseEnd, biasSettled, spanSwitch, biasSuperviseSample, coexRoleTakeEffect, coexReqRaise, coexReqDrop,
coexGntSample, coexGntChange, coexReqChange. -/
def Obligations.BiasAndCoexistence : Prop :=
  (∀ (s : State) (n : Nat), (∀ x, (biasDac s n).phase = some x → due s (add32 x 20000) = false) → exec (.biasClearPhaseEnd n) s = .next s) ∧
  (∀ (s : State) (n x : Nat), (biasDac s n).phase = some x → due s (add32 x 20000) = true → Answers (.biasClearPhaseEnd n) s
    (BiasBecomes s n (if biasEnable s n then { biasDac s n with phase := none, cleared := biasHeld s n, since := upNs s } else bias0))) ∧
  (∀ (s : State) (n : Nat), (biasDac s n).swap = none → exec (.spanSwitch n) s = .next s) ∧
  (∀ (s : State) (n b span : Nat) (did : Bool), (biasDac s n).swap = some (b, span, did) →
    let past := due s (add32 b (if did then 22000 else 2000))
    let clr := fld (biasRec s n) 6 2
    (past = false → exec (.spanSwitch n) s = .next s) ∧
    (past = true → Answers (.spanSwitch n) s (BiasBecomes s n (if did then
        { biasDac s n with swap := none, cleared := biasHeld s n, since := upNs s }
      else { biasDac s n with span := span, clr := clr, out := clr, swap := some (b, span, true) })))) ∧
  (∀ (s : State) (n : Nat),
    let there := (biasDac s n).configured && biasEnable s n && !biasCleared (biasDac s n) && biasOut s n == (biasDac s n).target
    (there = false → exec (.biasSettled n) s = .next s) ∧
    (there = true → Answers (.biasSettled n) s (BiasBecomes s n { biasDac s n with out := (biasDac s n).target }))) ∧
  (∀ (s : State) (lowNs : Nat), lowNs < 40 ∨ domOn s dAO = false → exec (.biasclrNAccept lowNs) s = .next s) ∧
  (∀ (s : State) (lowNs : Nat), 40 ≤ lowNs → domOn s dAO = true → Answers (.biasclrNAccept lowNs) s fun t =>
    KeepsBut [.cnts, .mbx, .evt, .tx, .radio, .survey, .bias] s t ∧ t.bias.pinSeen = true ∧ t.bias.pinLow = upNs s + (lowNs - 40) ∧
    Raised s 0x0C04 0xFFFF 0 t ∧ AllHeld s holdBias t ∧
    (∀ n ∈ sheets s, t.bias.clear.testBit n = true ∧ ∀ k, dacSheet k = n → (biasDac s k).configured = true → biasEnable s k = true →
      (biasDac t k).cleared = true ∧ ((biasDac s k).cleared = false → (biasDac t k).out = (biasDac s k).clr)) ∧
    ∀ x ∈ t.survey.camps, (∃ n ∈ sheets s, x.sheets.testBit n = true) → x.full = false ∧ x.start = now s ∧
      ∃ n, n < 4 ∧ x.sheets = 2 ^ n) ∧
  (∀ (need n : Nat) (declared found : Bool), let j := judgeSample need declared n found
    let limit := if found then need else 3
    (found = declared → j = (declared, 0)) ∧ (found ≠ declared → n + 1 < limit → j = (declared, n + 1)) ∧
      (found ≠ declared → limit ≤ n + 1 → j = (found, 0))) ∧
  (∀ (s : State) (n : Nat) (excess far : Bool), let d := biasDac s n
    let ready := d.sampled.all fun t => decide (t + 50000 ≤ upNs s)
    (d.configured = false ∨ (128 ≤ n ∧ ready = false) → exec (.biasSuperviseSample n excess far) s = .next s) ∧
    (d.configured = true → n < 128 → let j := judgeSample 1 d.short d.nShort excess
      let new := j.1 && !d.short
      Answers (.biasSuperviseSample n excess far) s fun t => (biasDac t n).short = j.1 ∧ (biasDac t n).nShort = j.2 ∧
        (new = false → BiasBecomes s n { d with short := j.1, nShort := j.2 } t) ∧
        (new = true → cntVal t blkBias (dacSheet n) 2 = satAdd (cntVal s blkBias (dacSheet n) 2) 1 ∧
          (cars s ≠ [] → Raised s 0x0C01 n 0 t) ∧ (fbit (biasRec s n) 1 1 3 = true → BiasIsolates s n t) ∧
          (fbit (biasRec s n) 1 1 3 = false → KeepsBut [.cnts, .mbx, .evt, .bias] s t))) ∧
    (d.configured = true → 128 ≤ n → ready = true → let c := judgeSample 3 d.compliance d.nComp excess
      let o := judgeSample 3 d.openLoad d.nOpen (far && decide (8 ≤ fld (biasRec s n) 4 2))
      let newC := c.1 && !d.compliance
      let newO := o.1 && !d.openLoad
      Answers (.biasSuperviseSample n excess far) s fun t => (biasDac t n).sampled = some (upNs s) ∧
        (biasDac t n).compliance = c.1 ∧ (biasDac t n).nComp = c.2 ∧ (biasDac t n).openLoad = o.1 ∧ (biasDac t n).nOpen = o.2 ∧
        cntVal t blkBias (dacSheet n) 4 = counted s blkBias (dacSheet n) 4 (bit newC) ∧
        cntVal t blkBias (dacSheet n) 3 = counted s blkBias (dacSheet n) 3 (bit newO) ∧
        (newC = true → newO = false → Raised s 0x0C02 n 0 t ∧ KeepsBut [.cnts, .mbx, .evt, .bias] s t) ∧
        (newO = true → (cars s ≠ [] → Raised s 0x0C03 n 0 t) ∧ (fbit (biasRec s n) 1 1 4 = true → BiasIsolates s n t) ∧
          (fbit (biasRec s n) 1 1 4 = false → KeepsBut [.cnts, .mbx, .evt, .bias] s t)) ∧
        (newC = false → newO = false → KeepsBut [.bias] s t))) ∧
  (∀ s : State, (∀ role b, s.coex.next = some (role, b) → due s (add32 b 10000) = false) → exec .coexRoleTakeEffect s = .next s) ∧
  (∀ (s : State) (role b : Nat), s.coex.next = some (role, b) → due s (add32 b 10000) = true →
    exec .coexRoleTakeEffect s = .next { s with coex := { s.coex with role := role, next := none } }) ∧
  (∀ s : State, s.coex.role ≠ 1 ∨ s.coex.req = true ∨ coexLead s = false → exec .coexReqRaise s = .next s) ∧
  (∀ s : State, s.coex.role = 1 → s.coex.req = false → coexLead s = true → Answers .coexReqRaise s fun t =>
    t.coex = { s.coex with req := true, pri := fbit (coexRec s) 1 1 1, left := none } ∧ KeepsBut [.cnts, .coex] s t ∧
    cntVal t blkCoex 0 2 = satAdd (cntVal s blkCoex 0 2) 1) ∧
  (∀ s : State, let past := s.coex.left.any fun te => due s (add32 te (1000 * (fld (coexRec s) 6 2 : Int)))
    (s.coex.role ≠ 1 ∨ someTx s = true ∨ coexLead s = true ∨ past = false → exec .coexReqDrop s = .next s) ∧
    (s.coex.role = 1 → someTx s = false → coexLead s = false → past = true → exec .coexReqDrop s =
      .next { s with coex := { s.coex with req := false, pri := false, left := none, sampled := none } })) ∧
  (∀ s : State, let past := (firstTx s).any fun te => s.coex.sampled != some te && due s (add32 te (-1000 * (fld (coexRec s) 4 2 : Int)))
    (s.coex.role ≠ 1 ∨ past = false → exec .coexGntSample s = .next s) ∧
    (s.coex.role = 1 → past = true → Answers .coexGntSample s fun t => t.coex = { s.coex with sampled := firstTx s } ∧
      (s.coex.gnt = true → KeepsBut [.coex] s t) ∧
      (s.coex.gnt = false → denyMute s = true → AllHeld s holdCoexWhole t ∧ KeepsBut [.tx, .coex] s t) ∧
      (s.coex.gnt = false → denyMute s = false → cntVal t blkCoex 0 1 = satAdd (cntVal s blkCoex 0 1) 1 ∧
        KeepsBut [.cnts, .coex] s t))) ∧
  (∀ (s : State) (level : Bool), s.coex.role ≠ 1 ∨ s.coex.gnt = level → exec (.coexGntChange level) s = .next s) ∧
  (∀ (s : State) (level : Bool), s.coex.role = 1 → s.coex.gnt ≠ level → Answers (.coexGntChange level) s fun t =>
    t.coex = { s.coex with gnt := level } ∧ KeepsBut [.tx, .coex] s t ∧ (level = true → CoexEnds s (add32 (now s) 1000) t) ∧
    (level = false → denyMute s = true → (someTx s || s.coex.sampled.isSome) = true → AllHeld s holdCoex t) ∧
    (level = false → (denyMute s && (someTx s || s.coex.sampled.isSome)) = false → t.tx = s.tx)) ∧
  (∀ (s : State) (req pri : Bool), s.coex.role ≠ 2 → exec (.coexReqChange req pri) s = .next s) ∧
  (∀ (s : State) (req pri : Bool), s.coex.role = 2 → Answers (.coexReqChange req pri) s fun t => KeepsBut [.cnts, .tx, .coex] s t ∧
    (req = s.coex.req → t.coex = { s.coex with req := req, pri := pri } ∧ KeepsBut [.coex] s t) ∧
    (req = true → s.coex.req = false → cntVal t blkCoex 0 2 = satAdd (cntVal s blkCoex 0 2) 1 ∧
      (coexClear s = true → t.coex = { s.coex with req := true, pri := pri, gnt := true, wait := none } ∧ AllHeld s holdCoexWhole t) ∧
      (coexClear s = false → t.tx = s.tx ∧ t.coex = { s.coex with
        req := true, pri := pri
        wait := some (if pri && fbit (coexRec s) 1 1 2 then some (add32 (now s) 1000) else none) })) ∧
    (req = false → s.coex.req = true → t.coex = { s.coex with req := false, pri := pri, gnt := false, wait := none } ∧
      CoexEnds s (add32 (now s) 1000) t ∧ t.cnts = s.cnts))

/-- An idle master starts the message that the order of its queues picks, counting and reporting a trigger more than 2 ns
late; one whose time is over leaves it idle, with the result of a transfer; a master that may not drive its bus drops
the groups whose triggers are due. An enabled tuner asks for a measurement each interval; its result stands with its
word or as invalid, is counted by its kind, and the second in a row beyond the limit is reported and, where asked,
isolates the element. An armed capture whose time has come starts at its first sample, at its symbol or in its lease,
is aborted when a grant or a domain is gone, ends with its samples in its region and nowhere else, or times out
without a lease. With TEST_EN high each edge of TCK moves the controller of IEEE 1149.1 by TMS, with the instruction,
data and boundary registers behind it. Nothing that is not due changes anything but what the time that has passed
brings. It says that these complete: rffeMessageStart, rffeMessageDone, mismatchInterval, mismatchResult,
captureStart, captureDone, captureAbort, captureLeaseTimeout, tapTckEdge. -/
def Obligations.BusesCapturesAndTap : Prop :=
  (∀ (s : State) (m : Nat), masterLive s m = true →
    masterOn s m = false ∨ (masterOf s m).busy ≠ none ∨ pickMsg s (masterOf s m) = none → exec (.rffeMessageStart m) s = .next s) ∧
  (∀ (s : State) (m : Nat) (r : Rffe), masterLive s m = true → masterOn s m = true → (masterOf s m).busy = none →
    pickMsg s (masterOf s m) = some r → Answers (.rffeMessageStart m) s fun t =>
      let late := r.trigger && decide (2 < int32Diff (now s) r.due)
      let slot := (slotOf s (now s)).getD 0
      KeepsBut [.cnts, .mbx, .evt, .rffe] s t ∧ (∀ j, j ≠ m → masterOf t j = masterOf s j) ∧
      masterOf t m = { takeMsg (masterOf s m) r with
        busy := some r, doneAt := upNs s + itemNs s m r.item
        opened := if r.origin = 0 then (masterOf s m).opened else some r.group } ∧
      (late = false → KeepsBut [.rffe] s t ∧ t.rffe.lateSlot = s.rffe.lateSlot) ∧
      (late = true → cntVal t blkRffe m 0 = satAdd (cntVal s blkRffe m 0) 1 ∧ t.rffe.lateSlot = some slot ∧
        (s.rffe.lateSlot ≠ some slot → Raised s 0x0C06 m (int32Diff (now s) r.due).toNat t) ∧
        (s.rffe.lateSlot = some slot → t.evt = s.evt))) ∧
  (∀ (s : State) (m : Nat), masterLive s m = false → Answers (.rffeMessageStart m) s fun t =>
    let gone := (((masterOf s m).crit ++ (masterOf s m).sched).filter fun r => r.trigger && due s r.due).map (·.group)
    KeepsBut [.cnts, .rffe] s t ∧ (∀ j, j ≠ m → masterOf t j = masterOf s j) ∧
    cntVal t blkRffe m 2 = counted s blkRffe m 2 gone.length ∧ masterOf t m = { masterOf s m with
      crit := (masterOf s m).crit.filter fun r => !gone.contains r.group
      sched := (masterOf s m).sched.filter fun r => !gone.contains r.group }) ∧
  (∀ (s : State) (m : Nat) (good : Bool) (data : Rec), (masterOf s m).busy = none ∨ upNs s < (masterOf s m).doneAt →
    exec (.rffeMessageDone m good data) s = .next s) ∧
  (∀ (s : State) (m : Nat) (good : Bool) (data : Rec) (r : Rffe), (masterOf s m).busy = some r → (masterOf s m).doneAt ≤ upNs s →
    Answers (.rffeMessageDone m good data) s fun t => KeepsBut [.cnts, .rffe] s t ∧ (∀ j, j ≠ m → masterOf t j = masterOf s j) ∧
      masterOf t m = { masterOf s m with
        busy := none, opened := if r.trigger then none else (masterOf s m).opened
        result := if r.origin = 0 then some (good || !itemReads r.item, padTo (fld r.item 4 1) data) else (masterOf s m).result } ∧
      cntVal t blkRffe m 1 = counted s blkRffe m 1 (bit (itemReads r.item && !good))) ∧
  (∀ (s : State) (p : Nat), let asks := pathFit s p && fbit (tunerRec s p) 1 1 1 && intervalOver s p
    exec (.mismatchInterval p) s = .next (if asks then { s with rffe := { s.rffe with
      want := s.rffe.want ||| 2 ^ p, asked := tset s.rffe.asked p (upNs s) } } else s)) ∧
  (∀ (s : State) (p k : Nat) (forward reverse : List (Int × Int)), let r := runP (.seq (txRun none) touchLeases) s
    mismatchOver r p k = false → exec (.mismatchResult p k forward reverse) s = .next r) ∧
  (∀ (s : State) (p k : Nat) (forward reverse : List (Int × Int)), let r := runP (.seq (txRun none) touchLeases) s
    mismatchOver r p k = true →
    let t0 := add32 (orxOf r k).leaseStart (settleDelay r)
    let least := sfld (dpdRec r) 10 2
    let a := mismatchBlock r k p t0 forward
    let b := mismatchBlock r k p (add32 t0 20000) reverse
    let good := !(orxOf r k).touched && !belowRms a.2 least && !belowRms b.2 least && aligned95 a.1 a.2 && aligned95 b.1 b.2
    let w := gammaWord (corrSum a.1 a.2) (corrSum b.1 b.2) (fld (tunerRec r p) 16 2)
    let bad := good && !cbNull w.1 && decide (sfld (tunerRec r p) 15 1 < cbMag w.1)
    let streak := if bad then tget 0 r.rffe.exceed p + 1 else 0
    let cuts := fbit (tunerRec r p) 1 1 2
    Answers (.mismatchResult p k forward reverse) s fun t => (orxOf t k).capture = 2 ∧ gammaOf t p = (if good then w.1 else 0x8000) ∧
      tfind t.rffe.lastNs p = some (orxOf r k).leaseStart ∧ tfind t.rffe.exceed p = some (min 2 streak) ∧
      cntVal t blkTuner p 0 = satAdd (cntVal r blkTuner p 0) 1 ∧ cntVal t blkTuner p 1 = counted r blkTuner p 1 (bit bad) ∧
      cntVal t blkTuner p 2 = counted r blkTuner p 2 (bit (!good)) ∧ cntVal t blkTuner p 3 = counted r blkTuner p 3 (bit (good && w.2)) ∧
      (streak < 2 → KeepsBut [.cnts, .dpd, .rffe] r t) ∧
      (2 ≤ streak → (cars r ≠ [] → Raised s 0x0C07 p w.1 t ∧ (cuts = true → t.clk.isoPend = r.clk.isoPend ++ [(2, 1, p + 768)])) ∧
        (cuts = false → KeepsBut [.cnts, .mbx, .evt, .dpd, .rffe] r t))) ∧
  (∀ (s : State) (k firstNs : Nat), (capOf s k).state ≠ 1 ∨ due s (fld (capOf s k).req 16 4) = false →
    exec (.captureStart k firstNs) s = .next s) ∧
  (∀ (s : State) (k firstNs : Nat), (capOf s k).state = 1 → due s (fld (capOf s k).req 16 4) = true →
    let c := capOf s k
    let o := orxOf s (fld c.req 12 1)
    let went := fun (t sym : Nat) => { c with state := 2, firstNs := t, firstSym := sym, hold := capTouched s c.req }
    let leased := o.owner == 3 && o.capture == 0 && o.path == (capPaths c.req).head? && due s (add32 o.leaseStart (settleDelay s))
    let b := nextBoundary s 1 c.mu (extTotal s.datum.ref (fld c.req 16 4))
    let d := int32Diff firstNs (fld c.req 16 4)
    let first := due s firstNs && decide (0 ≤ d) && decide (d * (tapRate s c.req : Nat) ≤ 1000000000 + (tapRate s c.req : Nat))
    (capTap c.req = 5 → (leased = false → exec (.captureStart k firstNs) s = .next s) ∧
      (leased = true → Answers (.captureStart k firstNs) s fun t => KeepsBut [.cap, .dpd] s t ∧
        orxOf t (fld c.req 12 1) = { o with capture := 1 } ∧ SlotBecomes s k (went (add32 o.leaseStart (settleDelay s)) 0) t)) ∧
    (capTap c.req ≠ 5 → granted s 5 = false → Answers (.captureStart k firstNs) s fun t =>
      KeepsBut [.cap] s t ∧ SlotBecomes s k { c with state := 4, abort := 2 } t) ∧
    (capTap c.req = 2 → granted s 5 = true → (due s (counterAt s b.2.2) = false → exec (.captureStart k firstNs) s = .next s) ∧
      (due s (counterAt s b.2.2) = true → Answers (.captureStart k firstNs) s fun t => KeepsBut [.cap] s t ∧
        SlotBecomes s k (went (counterAt s b.2.2) ((b.1 % 20).toNat * symPerHalf c.mu + b.2.1)) t)) ∧
    (capTap c.req ≠ 2 → capTap c.req ≠ 5 → granted s 5 = true → (first = false → exec (.captureStart k firstNs) s = .next s) ∧
      (first = true → Answers (.captureStart k firstNs) s fun t => KeepsBut [.cap] s t ∧ SlotBecomes s k (went firstNs 0) t))) ∧
  (∀ (s : State) (k n : Nat) (data : Rec), (capOf s k).state ≠ 2 ∨ n ≠ capLen (capOf s k).req ∨ due s (add32 (capOf s k).firstNs (capSpan s (capOf s k))) = false →
    exec (.captureDone k n data) s = .next s) ∧
  (∀ (s : State) (k n : Nat) (data : Rec), (capOf s k).state = 2 → n = capLen (capOf s k).req → due s (add32 (capOf s k).firstNs (capSpan s (capOf s k))) = true →
    let c := capOf s k
    let base := capBase c.req * 0x10000
    Answers (.captureDone k n data) s fun t => KeepsBut [.mem, .ecc, .cap, .dpd] s t ∧
      SlotBecomes s k { c with state := 3, doneLen := capLen c.req, hold := c.hold || capTouched s c.req } t ∧
      (capTap c.req ≠ 5 → t.dpd = s.dpd) ∧
      (capTap c.req = 5 → orxOf t (fld c.req 12 1) = { orxOf s (fld c.req 12 1) with capture := 2 }) ∧
      (Memory.wf s.mem = true → base + capBytes c ≤ 0x2000000 →
        (∀ j, j < capBytes c → (peek t .tun base (capBytes c)).getD j 0 = data.getD j 0 % 256) ∧
        MemoryKept s t fun i a => i = .tun ∧ base ≤ a ∧ a < base + capBytes c)) ∧
  (∀ (s : State) (k : Nat), let c := capOf s k
    let alive := (dGRAT :: capDoms c.req).all fun d => domOn s d
    ((c.state ≠ 1 ∧ c.state ≠ 2) ∨ (alive = true ∧ (c.state = 2 ∨ granted s 5 = true)) → exec (.captureAbort k) s = .next s) ∧
    (c.state = 1 ∨ c.state = 2 → alive = false → Answers (.captureAbort k) s fun t =>
      KeepsBut [.cap] s t ∧ SlotBecomes s k { c with state := 4, abort := 1 } t) ∧
    (c.state = 1 → alive = true → granted s 5 = false → Answers (.captureAbort k) s fun t =>
      KeepsBut [.cap] s t ∧ SlotBecomes s k { c with state := 4, abort := 2 } t)) ∧
  (∀ (s : State) (k : Nat), let c := capOf s k
    let past := c.state == 1 && capTap c.req == 5 && due s (add32 (fld c.req 16 4) 100000000)
    (past = false → exec (.captureLeaseTimeout k) s = .next s) ∧
    (past = true → Answers (.captureLeaseTimeout k) s fun t =>
      KeepsBut [.cap] s t ∧ SlotBecomes s k { c with state := 4, abort := 4 } t)) ∧
  (∀ (s : State) (tms tdi trstN : Bool) (inputs : Nat), s.boot.testEn = true → Answers (.tapTckEdge tms tdi trstN inputs) s fun t =>
    let next := tapStep tms s.tap.st
    KeepsBut [.free, .tap] s t ∧ (trstN = false → t.tap = { s.tap with st := .testLogicReset, ir := 1 } ∧ t.free = s.free) ∧
    (trstN = true → t.tap.st = next ∧
      (s.tap.st = .shiftDr → t.tap.shift = s.tap.shift.drop 1 ++ [tdi]) ∧
      (s.tap.st = .captureDr → s.tap.ir = 1 → t.tap.shift = (List.range 32).map (idcode s).testBit) ∧
      (s.tap.st = .captureDr → s.tap.ir ∉ [0, 1, 2] → t.tap.shift = [false]) ∧
      (s.tap.st = .captureDr → s.tap.ir ∈ [0, 2] → t.tap.shift.length = 3 * tapBalls s ∧
        (∀ b, b < tapBalls s → t.tap.shift.getD (3 * b) false = inputs.testBit b) ∧ t.free = s.free + 2 * tapBalls s) ∧
      (s.tap.st ≠ .captureDr → t.free = s.free) ∧ (s.tap.st ≠ .captureDr → s.tap.st ≠ .shiftDr → t.tap.shift = s.tap.shift) ∧
      (s.tap.st = .captureIr → t.tap.irShift = 1) ∧ (s.tap.st = .shiftIr → t.tap.irShift = s.tap.irShift / 2 + 8 * bit tdi) ∧
      (s.tap.st ≠ .captureIr → s.tap.st ≠ .shiftIr → t.tap.irShift = s.tap.irShift) ∧
      t.tap.ir = (if next = .updateIr then t.tap.irShift else if next = .testLogicReset then 1 else s.tap.ir) ∧
      t.tap.bsr = (if next = .updateDr ∧ s.tap.ir ∈ [0, 2] then t.tap.shift else s.tap.bsr) ∧
      t.tap.tdo = (if next = .shiftDr then t.tap.shift.headD false else if next = .shiftIr then t.tap.irShift.testBit 0
        else s.tap.tdo))) ∧
  (∀ (s : State) (tms tdi trstN : Bool) (inputs : Nat), s.boot.testEn = false → exec (.tapTckEdge tms tdi trstN inputs) s = .next s)

/-- Each of the 141 mailbox commands has a definition under its own opcode: 62 of kind R answered at once, 32 of kind N
that are not parked, 9 marked P (SYS_FUSE_PROGRAM and its like), 30 of kind T, 2 of kind S, and the six transaction
commands of class 0x0F. -/
def Obligations.CommandIndex : Prop :=
  (∀ op ∈ readOps, ∃ d, cmdOf op = some d ∧ d.op = op ∧ d.kind = .r ∧ d.parked = false) ∧
  (∀ op ∈ setOps, ∃ d, cmdOf op = some d ∧ d.op = op ∧ d.kind = .n ∧ d.parked = false) ∧
  (∀ op ∈ parkOps, ∃ d, cmdOf op = some d ∧ d.op = op ∧ d.parked = true) ∧
  (∀ op ∈ itemOps, ∃ d, cmdOf op = some d ∧ d.op = op ∧ d.kind = .t) ∧
  (∀ op ∈ swapOps, ∃ d, cmdOf op = some d ∧ d.op = op ∧ d.kind = .s) ∧
  (∀ (i : Instr) (op : Nat) (c : Call), i.call = some (op, c) →
    op ∈ readOps ++ setOps ++ parkOps ++ itemOps ++ swapOps ∨ isTxnOp op = true)

/-- Each of the 141 mailbox commands, sent by the host on a free channel, is written to its command area, rings, and is
taken by firmware in the same step: the answer is what firmware makes of the command, with its record in bytes, in
that state. -/
def Obligations.HostCommandTaken : Prop :=
  ∀ (i : Instr) (op : Nat) (c : Call) (ch : Nat) (s : State), Sent i op c ch s →
    exec i s = .next (runP (takeCmd (taken op c)) (rung op c ch s))

/-- Each of the 62 commands of kind R and the 32 of kind N that are not parked, sent on a free channel and passing every
check, has exactly its own effect and is answered with its status and record in the same step: STATUS and record of
its definition, evaluated in the state in which it is taken, reach the response area, DONE is set, RING clears and the
pair of SEQ and OPCODE is kept. It says that these complete: sysCapRead, sysBootStatus, eventRead, mbxStatus,
commitLogRead, pwrStatus, pwrSavelistGet, kilnStatus, datumStatus, fhLinkStatus, fhFlowGet, fhStats, fhFlowStats,
gratBeamRead, gratWeightRead, gratStatus, mashCtxGet, mashStatus, mashPortStatus, mashEstRead, txCarrierGet,
txPathGet, txStatus, txCfrGet, rxCarrierGet, rxPathGet, rxImageGet, rxStatus, rxLevel, rxFo, dpdPathGet, dpdCoefRead,
dpdStatus, dpdPathStatus, orxCouplerGet, orxStatus, surveyStatus, surveyNetGet, surveyCorrGet, surveyTempGet,
rsPatternGet, rsStatus, loStatus, tddStrobeGet, convStatus, convSliceRead, biasGet, biasStatus, rffeStatus, tunerGet,
tunerStatus, coexStatus, hkRead, memStatus, memRemapRead, memTmrRead, sectionRead, sectionStats, profileStatus,
captureStatus, captureRead, testgenGet, sysReset, fwActivate, fwConfirm, eventMaskSet, mbxInbandSet, pwrCaskClear,
pwrSavelistSet, kilnConfig, kilnBudgetSet, kilnModelSet, datumConfig, datumTimeSet, datumStep, datumFreqSet, ecpriOwd,
fhLinkSet, fhQueueSet, gratWeightWrite, dpdCoefWrite, surveyRun, rsTimerSet, convCalSet, biasRestore, rffeSched,
hkSeqSet, hkLimitSet, memConfig, memInject, memTmrWrite, profileSelect, captureSet, captureRelease. -/
def Obligations.ReadAndSetCommandsRun : Prop :=
  ∀ (i : Instr) (op : Nat) (c : Call) (ch : Nat) (s : State), Sent i op c ch s → Passes op c ch s → op ∈ readOps ++ setOps →
    ∃ d, cmdOf op = some d ∧
      let k := taken op c
      let u := entered op c ch s
      let a := d.answer 1 k.req u
      Answers i s fun t => t = runP (answer k a.1 a.2) (runP (d.effect 1 k.req) u) ∧
        (a.2.length ≤ 248 → Answered k ch a.1 0xFFFF (if a.1 = stOK ∨ fullRecord k a.1 = true then a.2 else []) u t)

/-- A command of kind R that is answered at once leaves every setting, register, power state, transaction, converter,
radio state and fuse as it was; only counters, the integrity notes of what it read, the notes of what a host has read
of the two logs, and the mailbox change, and a transaction of the number in its header, were one open under 0, would
count as named. With no CLEAR and no memory to read, the counters stay as well. It says that these complete:
sysCapRead, sysBootStatus, eventRead, mbxStatus, commitLogRead, pwrStatus, pwrSavelistGet, kilnStatus, datumStatus,
fhLinkStatus, fhFlowGet, fhStats, fhFlowStats, gratBeamRead, gratWeightRead, gratStatus, mashCtxGet, mashStatus,
mashPortStatus, mashEstRead, txCarrierGet, txPathGet, txStatus, txCfrGet, rxCarrierGet, rxPathGet, rxImageGet,
rxStatus, rxLevel, rxFo, dpdPathGet, dpdCoefRead, dpdStatus, dpdPathStatus, orxCouplerGet, orxStatus, surveyStatus,
surveyNetGet, surveyCorrGet, surveyTempGet, rsPatternGet, rsStatus, loStatus, tddStrobeGet, convStatus, convSliceRead,
biasGet, biasStatus, rffeStatus, tunerGet, tunerStatus, coexStatus, hkRead, memStatus, memRemapRead, memTmrRead,
sectionRead, sectionStats, profileStatus, captureStatus, captureRead, testgenGet. -/
def Obligations.ReadsChangeNothing : Prop :=
  (∀ (i : Instr) (op : Nat) (c : Call) (ch : Nat) (s : State), Sent i op c ch s → Passes op c ch s → op ∈ readOps →
    Answers i s fun t => KeepsBut [.cnts, .tots, .free, .mem, .ecc, .mbx, .log, .evt, .txn] s t ∧ t.txn = (entered op c ch s).txn) ∧
  (∀ (i : Instr) (op : Nat) (c : Call) (ch : Nat) (s : State), Sent i op c ch s → Passes op c ch s →
    op ∈ [0x0101, 0x0103, 0x0205, 0x0404, 0x0603, 0x0702, 0x0704, 0x0709, 0x0802, 0x0804, 0x0806, 0x0808, 0x0809, 0x0903, 0x090A,
      0x0A05, 0x0A07, 0x0A09, 0x0B03, 0x0B06, 0x0B08, 0x0B42, 0x0C02, 0x0C21, 0x0D02, 0x0E03, 0x0F12, 0x1002, 0x1011] →
    Answers i s fun t => KeepsBut [.mem, .ecc, .mbx, .txn] s t ∧ t.txn = (entered op c ch s).txn)

/-- EVENT_MASK_SET, KILN_CONFIG, KILN_BUDGET_SET, KILN_MODEL_SET, DATUM_CONFIG, FH_LINK_SET, HK_SEQ_SET, MBX_INBAND_SET,
FH_QUEUE_SET, CONV_CAL_SET and HK_LIMIT_SET keep their record as the setting of the unit it names; DATUM_FREQ_SET
loads the increment of its FREQ_ADJ; MEM_TMR_WRITE writes its word; SYS_RESET asks for the reset; SYS_RESET,
MEM_CONFIG, MEM_INJECT, MEM_TMR_WRITE, PWR_CASK_CLEAR, FW_ACTIVATE, FW_CONFIRM and PROFILE_SELECT change no setting.
It says that these complete: sysReset, datumFreqSet, memTmrWrite. -/
def Obligations.SettingsTaken : Prop :=
  (∀ (i : Instr) (op : Nat) (c : Call) (ch : Nat) (s : State), Sent i op c ch s → Passes op c ch s →
    op ∈ [0x0109, 0x0110, 0x0210, 0x0211, 0x0212, 0x0302, 0x0401, 0x0D01] →
    Answers i s fun t => setting t op 0 [] = (taken op c).req) ∧
  (∀ (i : Instr) (op : Nat) (c : Call) (ch : Nat) (s : State), Sent i op c ch s → Passes op c ch s →
    op ∈ [0x0405, 0x0B40, 0x0D03] → Answers i s fun t => setting t op (fld (taken op c).req 0 1) [] = (taken op c).req) ∧
  (∀ (c : Call) (ch : Nat) (s : State), Sent (.datumFreqSet c) 0x0305 c ch s → Passes 0x0305 c ch s →
    Answers (.datumFreqSet c) s fun t => t.datum.freqAdj = sfld (taken 0x0305 c).req 0 4 ∧
      t.datum.incNext = some (incOf (sfld (taken 0x0305 c).req 0 4) / 2 ^ 44 % 16, incOf (sfld (taken 0x0305 c).req 0 4) % 2 ^ 44)) ∧
  (∀ (c : Call) (ch : Nat) (s : State), Sent (.memTmrWrite c) 0x0E06 c ch s → Passes 0x0E06 c ch s →
    Answers (.memTmrWrite c) s fun t => tmrWord t (fld (taken 0x0E06 c).req 0 1) = fld (taken 0x0E06 c).req 4 4) ∧
  (∀ (c : Call) (ch : Nat) (s : State), Sent (.sysReset c) 0x0102 c ch s → Passes 0x0102 c ch s →
    Answers (.sysReset c) s fun t => t.boot.resetPending = true ∧ t.boot.romSafe = fbit (taken 0x0102 c).req 0 1 0 ∧
      tfind t.clk.stamps tkCommand = some (upNs s)) ∧
  (∀ (i : Instr) (op : Nat) (c : Call) (ch : Nat) (s : State), Sent i op c ch s → Passes op c ch s →
    op ∈ [0x0102, 0x0105, 0x0106, 0x0203, 0x0E01, 0x0E04, 0x0E06, 0x0F11] → Answers i s fun t => t.cfg = s.cfg)

/-- Each of the nine commands marked P, passing every check, starts at once: its effect happens, it joins the parked
commands, and its channel keeps ringing. P_COMMAND_COMPLETE of one that can complete takes it off the parked ones and
answers its requester with the status and record of its definition; where a unit it names has gone out of service
meanwhile it answers UNAVAILABLE, and a free value says whether its effect takes place (assumption log 3); with no
such command, with the mailbox not ready, or where it cannot complete yet, nothing changes. It says that these
complete: fwWrite, sysFuseProgram, pwrDomainSet, orxService, sheetService, convSliceService, rffeXfer, profileWrite,
analyse, pCommandComplete. -/
def Obligations.ParkedCommands : Prop :=
  (∀ (i : Instr) (op : Nat) (c : Call) (ch : Nat) (s : State), Sent i op c ch s → Passes op c ch s → op ∈ parkOps →
    ∃ d, cmdOf op = some d ∧
      let u := runP (d.effect 1 (taken op c).req) (entered op c ch s)
      exec i s = .next { u with mbx := { u.mbx with parked := u.mbx.parked ++ [{ cmd := taken op c }] } } ∧
      u.mbx.ring.testBit ch = true) ∧
  (∀ (s : State) (index : Nat) (ok : Bool) (data : Rec) (k : Cmd) (d : CmdDef) (ch : Nat), s.mbx.parked[index]? = some { cmd := k } →
    cmdOf k.op = some d → k.src = .host ch → ch < 8 → s.mbx.ready = true → goneUnit s d k.req = false → d.ready k.req s = true →
    Memory.wf s.mem = true →
    let f := d.finish 1 k.req ok data s
    f.2.1.length ≤ 248 → Answers (.pCommandComplete index ok data) s fun t =>
      t.mbx.parked = s.mbx.parked.eraseIdx index ∧
      Answered k ch f.1 0xFFFF (if f.1 = stOK ∨ fullRecord k f.1 = true then f.2.1 else []) s t) ∧
  (∀ (s : State) (index : Nat) (ok : Bool) (data : Rec) (k : Cmd) (d : CmdDef), s.mbx.parked[index]? = some { cmd := k } →
    cmdOf k.op = some d → s.mbx.ready = true → goneUnit s d k.req = true →
    let left := runP (modMbx fun m => { m with parked := m.parked.eraseIdx index }) s
    let did := runP (if freeNow s % 2 = 1 then (d.finish (originOf k.src) k.req ok data s).2.2 else .skip) left
    exec (.pCommandComplete index ok data) s = .next (runP (seqs [drawFree, answer k stUNAVAILABLE [], inbandSettle]) did)) ∧
  (∀ (s : State) (index : Nat) (ok : Bool) (data : Rec), s.mbx.ready = false ∨ (∀ k d, s.mbx.parked[index]? = some { cmd := k } →
      cmdOf k.op = some d → goneUnit s d k.req = false ∧ d.ready k.req s = false) →
    exec (.pCommandComplete index ok data) s = .next s)

/-- Each of the 30 commands of kind T and the 2 of kind S that names an OPEN transaction of its origin, with room in it,
becomes the last item of that transaction and is answered with OK, and with no room it is answered with BUSY and
staged nowhere; no setting, no power state and no other transaction changes. It says that these complete: fhFlowSet,
gratConfig, gratBeamWrite, mashConfig, mashCtxSet, txCarrierSet, txPathSet, txCfrSet, txToneSet, txSheetSet,
rxCarrierSet, rxPathSet, rxImageSet, dpdConfig, dpdPathSet, orxCouplerSet, surveyConfig, surveyNetSet, surveyCorrSet,
surveyTempSet, rsPatternSet, loSet, tddStrobeSet, biasSet, biasGainSet, rffeMasterSet, rffeBindSet, tunerSet, coexSet,
testgenSet, gratWeightSwap, dpdCoefSwap. -/
def Obligations.CommandsAreStaged : Prop :=
  ∀ (i : Instr) (op : Nat) (c : Call) (ch : Nat) (s : State) (q : Txn), Sent i op c ch s → Passes op c ch s →
    op ∈ itemOps ++ swapOps → c.txn ≠ 0 → txnOf s c.txn = some q → let fits := itemsFit (entered op c ch s) { q with named := upNs s } [itemFor op c]
    Answers i s fun t => KeepsBut [.mem, .ecc, .mbx, .txn] s t ∧
      (fits = true → t.txn = { s.txn with live := s.txn.live.map (fun x =>
          if x.id = c.txn then { x with items := x.items ++ [itemFor op c], named := upNs s } else x) } ∧
        Answered (taken op c) ch stOK 0xFFFF [] (rung op c ch s) t) ∧
      (fits = false → t.txn = (entered op c ch s).txn ∧ Answered (taken op c) ch stBUSY 0xFFFF [] (rung op c ch s) t)

/-- Each of the 30 commands of kind T with TXN_ID 0, while no carrier is committed and firmware runs: where the commit
passes validation the transaction is applied at the time of acceptance, its record is the setting of every key the
command names, it is kept as APPLIED and the response is OK. Where validation fails the transaction is closed as
FAILED with the status, no setting changes, and the response carries the status. It says that these complete:
fhFlowSet, gratConfig, gratBeamWrite, mashConfig, mashCtxSet, txCarrierSet, txPathSet, txCfrSet, txToneSet,
txSheetSet, rxCarrierSet, rxPathSet, rxImageSet, dpdConfig, dpdPathSet, orxCouplerSet, surveyConfig, surveyNetSet,
surveyCorrSet, surveyTempSet, rsPatternSet, loSet, tddStrobeSet, biasSet, biasGainSet, rffeMasterSet, rffeBindSet,
tunerSet, coexSet, testgenSet. -/
def Obligations.OneItemTransactions : Prop :=
  ∀ (i : Instr) (op : Nat) (c : Call) (ch : Nat) (s : State) (d : CmdDef), Sent i op c ch s → Passes op c ch s → op ∈ itemOps →
    cmdOf op = some d → c.txn = 0 → txnOf s 0 = none → cars s = [] → (txnsIn s .opened).length < 8 → (txnsIn s .committed).length < 16 →
    txnOf s s.txn.next = none →
    sumN ((itemFor op c :: s.txn.live.flatMap (·.items)).map fun x => (itemBytes x).length) ≤ 192 * 1024 →
    ∀ x, txnOf (opened op c ch s) s.txn.next = some x → Answers i s fun t =>
      (validate (opened op c ch s) x = none →
        (∀ y, txnOf (loadedOne op c ch s) s.txn.next = some y → applyFail (loadedOne op c ch s) y = none) →
        t.txn.lastApply = now s ∧
        (∃ y, t.txn.closed.head? = some y ∧ y.id = s.txn.next ∧ y.state = .applied ∧ y.items = [itemFor op c]) ∧
        (d.stores = true → ∀ k ∈ d.keys (taken op c).req, setting t d.keyOp k [] = (taken op c).req)) ∧
      (∀ st ix, validate (opened op c ch s) x = some (st, ix) → st ≠ stOK → t.cfg = s.cfg ∧ t.txn.failed = true ∧
        (∃ y, t.txn.closed.head? = some y ∧ y.id = s.txn.next ∧ y.state = .failed ∧ y.failStatus = st ∧ y.failIndex = ix) ∧
        Answered (taken op c) ch st 0xFFFF [] (rung op c ch s) t)

/-- TXN_BEGIN opens a transaction under the next identifier and answers it, or answers BUSY with eight open. TXN_STAGE_REG
adds its registers to an OPEN transaction of the origin and answers the count. TXN_COMMIT of one that validates with a
boundary ahead makes it COMMITTED for that boundary; one that fails stays OPEN and keeps status and index. TXN_ABORT
closes an OPEN transaction as ABORTED, and answers STATE for one too near its boundary and DENIED for another
origin's. TXN_STATUS changes no transaction and answers its state, or BAD_PARAM for an unknown one. OWNER_SET gives
the areas it names to the owners it names. It says that these complete: txnBegin, txnStageReg, txnCommit, txnAbort,
txnStatus, ownerSet. -/
def Obligations.TransactionCommands : Prop :=
  (∀ (c : Call) (ch : Nat) (s : State), Sent (.txnBegin c) 0x0F01 c ch s → Passes 0x0F01 c ch s →
    let u := entered 0x0F01 c ch s
    Answers (.txnBegin c) s fun t => KeepsBut [.mem, .ecc, .mbx, .txn] s t ∧
      ((txnsIn u .opened).length < 8 → (∃ q, t.txn = { u.txn with
            live := u.txn.live ++ [q], next := if u.txn.next + 1 = 2 ^ 32 then 1 else u.txn.next + 1 } ∧ q.id = u.txn.next ∧
          q.state = .opened ∧ q.origin = 1 ∧ q.label = fld (taken 0x0F01 c).req 0 4 ∧ q.items = [] ∧ q.named = upNs s) ∧
        Answered (taken 0x0F01 c) ch stOK 0xFFFF (leBytes 4 u.txn.next) u t) ∧
      (8 ≤ (txnsIn u .opened).length → t.txn = u.txn ∧ Answered (taken 0x0F01 c) ch stBUSY 0xFFFF [] u t)) ∧
  (∀ (c : Call) (ch : Nat) (s : State) (q : Txn), Sent (.txnStageReg c) 0x0F02 c ch s → Passes 0x0F02 c ch s →
    let u := entered 0x0F02 c ch s
    let id := fld (taken 0x0F02 c).req 0 4
    let l := regItems (taken 0x0F02 c).req
    txnOf u id = some q → txnCheck u id 1 = stOK → (∀ i ∈ l, ownFail u q i = stOK) → keysHeld u id (l.map (·.addr)) = false →
    itemsFit u q l = true → Answers (.txnStageReg c) s fun t =>
      t.txn = { u.txn with live := u.txn.live.map (fun x => if x.id = id then { x with items := x.items ++ l } else x) } ∧
      Answered (taken 0x0F02 c) ch stOK 0xFFFF (leBytes 2 (q.items.length + l.length)) u t ∧
      KeepsBut [.mem, .ecc, .mbx, .txn] s t) ∧
  (∀ (c : Call) (ch : Nat) (s : State) (q : Txn), Sent (.txnCommit c) 0x0F03 c ch s → Passes 0x0F03 c ch s →
    let r := (taken 0x0F03 c).req
    let id := fld r 0 4
    let u := entered 0x0F03 c ch s
    let j := judgeCommit u q (fld r 8 1) (fld r 9 1) (fld r 4 4) (fbit r 10 1 0) (fbit r 10 1 1)
    txnOf u id = some q → txnCheck u id 1 = stOK → Answers (.txnCommit c) s fun t =>
      (j.1 = stOK → j.2.2.2 = false → KeepsBut [.mem, .ecc, .mbx, .txn] s t ∧
        (∃ x, t.txn = { u.txn with live := (u.txn.live.filter fun y => y.id != q.id) ++ [x] } ∧ x.state = .committed ∧
          x.applyNs = j.2.2.1 ∧ x.items = q.items ∧ x.boundary = fld r 8 1) ∧
        Answered (taken 0x0F03 c) ch stOK 0xFFFF (commitRec j.2.2.1 0xFFFF 0) u t) ∧
      (j.1 = stOK → j.2.2.2 = true → ∃ y, t.txn.closed.head? = some y ∧ y.id = id ∧ y.items = q.items ∧
        (y.state = .applied ∨ y.state = .failed)) ∧
      (j.1 ≠ stOK → KeepsBut [.mem, .ecc, .mbx, .txn] s t ∧ t.txn = { u.txn with live := u.txn.live.map (fun x =>
          if x.id = id then { x with failStatus := j.1, failIndex := j.2.1 } else x) } ∧
        Answered (taken 0x0F03 c) ch j.1 0xFFFF (commitRec 0 j.2.1 j.1) u t)) ∧
  (∀ (c : Call) (ch : Nat) (s : State) (q : Txn), Sent (.txnAbort c) 0x0F04 c ch s → Passes 0x0F04 c ch s →
    let u := entered 0x0F04 c ch s
    let id := fld (taken 0x0F04 c).req 0 4
    txnOf u id = some q → Answers (.txnAbort c) s fun t =>
      (q.origin = 1 → q.state = .opened → q.loaded = false → t.txn = { u.txn with
          live := u.txn.live.filter (fun x => x.id != id), closed := ({ q with state := .aborted } :: u.txn.closed).take 64 } ∧
        Answered (taken 0x0F04 c) ch stOK 0xFFFF [] u t ∧ KeepsBut [.mem, .ecc, .mbx, .txn] s t) ∧
      (q.origin = 1 → q.state = .committed → inLead u q.applyNs q.lead = false → t.txn = u.txn ∧
        Answered (taken 0x0F04 c) ch stSTATE 0xFFFF [] u t ∧ KeepsBut [.mem, .ecc, .mbx, .txn] s t) ∧
      (q.origin ≠ 1 → t.txn = u.txn ∧ Answered (taken 0x0F04 c) ch stDENIED 0xFFFF [] u t ∧ KeepsBut [.mem, .ecc, .mbx, .txn] s t)) ∧
  (∀ (c : Call) (ch : Nat) (s : State), Sent (.txnStatus c) 0x0F05 c ch s → Passes 0x0F05 c ch s →
    let u := entered 0x0F05 c ch s
    let id := fld (taken 0x0F05 c).req 0 4
    Answers (.txnStatus c) s fun t => KeepsBut [.mem, .ecc, .mbx, .txn] s t ∧ t.txn = u.txn ∧
      (txnAny u id = none → Answered (taken 0x0F05 c) ch stBAD_PARAM 0xFFFF [] u t) ∧
      ∀ q, txnAny u id = some q → Answered (taken 0x0F05 c) ch stOK 0xFFFF (leBytes 1 (txnCode q.state) ++ leBytes 1 q.origin ++
        leBytes 2 q.items.length ++ leBytes 4 q.label ++ leBytes 1 q.boundary ++ leBytes 1 q.failStatus ++ leBytes 2 q.failIndex ++
        leBytes 4 q.applyNs) u t) ∧
  (∀ (c : Call) (ch : Nat) (s : State), Sent (.ownerSet c) 0x0F06 c ch s → Passes 0x0F06 c ch s →
    let r := (taken 0x0F06 c).req
    Answers (.ownerSet c) s fun t => (∀ a, t.txn.owner.testBit a =
        if (fld r 0 4).testBit a then (fld r 4 4).testBit a else s.txn.owner.testBit a) ∧ t.txn.closed = s.txn.closed ∧
      t.txn.next = s.txn.next ∧ Answered (taken 0x0F06 c) ch stOK 0xFFFF (leBytes 4 t.txn.owner) (rung 0x0F06 c ch s) t ∧
      KeepsBut [.mem, .ecc, .mbx, .txn] s t)

/-- An OPEN transaction that no command has named for 10 s is closed as EXPIRED and nothing else changes; any other stays.
The shadow load of a COMMITTED one marks it loaded, with the items whose domains are not ON as bus errors. A boundary
that datum time has reached applies what is due, answers and takes what waited, and leaves, where no command waits, no
transaction COMMITTED for a boundary at or before it; a boundary that it has not reached changes nothing. It says that
these complete: commitBoundary, txnShadowLoad, txnExpire. -/
def Obligations.TransactionEvents : Prop :=
  (∀ (s : State) (id : Nat), (∀ q, txnOf s id = some q → q.state ≠ .opened ∨ upNs s < q.named + 10000000000) →
    exec (.txnExpire id) s = .next s) ∧
  (∀ (s : State) (id : Nat) (q : Txn), txnOf s id = some q → q.state = .opened → q.named + 10000000000 ≤ upNs s → exec (.txnExpire id) s =
    .next { s with txn := { s.txn with
      live := s.txn.live.filter (fun x => x.id != id), closed := ({ q with state := .expired } :: s.txn.closed).take 64 } }) ∧
  (∀ (s : State) (id : Nat) (q : Txn), txnOf s id = some q → q.state = .committed → q.loaded = false →
    Answers (.txnShadowLoad id) s fun t => txnOf t id = some { q with
      loaded := true, busErr := (q.items.zipIdx.filter fun p => busError s p.1).map (·.2) } ∧ t.cfg = s.cfg) ∧
  (∀ (s : State) (id : Nat), (∀ q, txnOf s id = some q → q.state ≠ .committed ∨ q.loaded = true) →
    exec (.txnShadowLoad id) s = .next s) ∧
  (∀ (s : State) (b : Nat), domOn s dDATUM = true → due s b = true →
    exec (.commitBoundary b) s = .next (runP (boundaryReached b) s)) ∧
  (∀ (s : State) (b : Nat), domOn s dDATUM = true → due s b = true → s.mbx.fifo = [] → s.mbx.queue31 = [] →
    Answers (.commitBoundary b) s fun t => ∀ x ∈ t.txn.live, x.state = .committed → int32Diff b x.applyNs < 0) ∧
  (∀ (s : State) (b : Nat), domOn s dDATUM = false ∨ due s b = false → exec (.commitBoundary b) s = .next s)

/-- Any mailbox command whose first failing check gives a status other than BUDGET, and whose opcode returns no record on
failure, is answered with that status and DETAIL and changes nothing but the mailbox and its memory, and when the
transaction it names was last named. An opcode with a wrong length for its record fails with BAD_PARAM; under the ROM
safe mode an opcode outside its list fails with STATE. -/
def Obligations.FailedChecks : Prop :=
  (∀ (i : Instr) (op : Nat) (c : Call) (ch st det : Nat) (s : State), Sent i op c ch s → tfind s.mbx.last ch ≠ some (c.seq, op) →
    badRange (rung op c ch s) 1 (cmdArea ch) (8 + c.req.length) = false →
    checkAll (entered op c ch s) (taken op c) = some (st, det) → st ≠ stBUDGET → fullRecord (taken op c) st = false →
    Answers i s fun t => Answered (taken op c) ch st det [] (rung op c ch s) t ∧ KeepsBut [.mem, .ecc, .mbx, .txn] s t ∧
      t.txn = (entered op c ch s).txn) ∧
  (∀ (s : State) (k : Cmd) (d : CmdDef), cmdOf k.op = some d → romSafeRuns s = false → k.req.length ≠ d.len k.req →
    checkAll s k = some (stBAD_PARAM, d.len k.req)) ∧
  (∀ (s : State) (k : Cmd) (d : CmdDef), cmdOf k.op = some d → romSafeRuns s = true → romSafeOps.contains k.op = false →
    checkAll s k = some (stSTATE, 0xFFFF))

/-- A ring of a channel whose area holds the pair kept for it: REPLAYED is set in the stored response and every other byte
of it stays, DONE is set, RING clears, MBX.REPLAYS counts one, and nothing else changes but the mailbox. The pair is
kept with every completed command, and forgotten on reset. While a command has not completed, a ring that repeats it
sets nothing going. It says that these complete: reset, doorbellRing. -/
def Obligations.RepeatedCommand : Prop :=
  (∀ (s : State) (ch : Nat), ChannelFree ch s → Memory.wf s.mem = true →
    let k := areaCmd s (.host ch)
    badRange s 1 (cmdArea ch) (8 + k.req.length) = false → tfind s.mbx.last ch = some (k.seq, k.op) →
    Answers (.doorbellRing (2 ^ ch)) s fun t =>
      (∀ j, j < 256 → (peek t .mailbox (respArea ch) 256).getD j 0 = (peek s .mailbox (respArea ch) 256).getD j 0 |||
        (if j = 5 then 1 else 0)) ∧
      t.mbx.done.testBit ch = true ∧ t.mbx.ring.testBit ch = false ∧ t.mbx.last = s.mbx.last ∧
      cntVal t blkMbx 0 2 = satAdd (cntVal s blkMbx 0 2) 1 ∧ KeepsBut [.cnts, .mem, .ecc, .mbx] s t) ∧
  (∀ (s : State) (k : Cmd) (ch st : Nat) (r : Rec), k.src = .host ch →
    tfind (runP (answer k st r) s).mbx.last ch = some (k.seq, k.op)) ∧
  (∀ (s : State) (cause : Nat), domOn s dCTRL = true → Answers (.reset cause) s fun t => t.mbx.last = []) ∧
  (∀ (s : State) (ch : Nat), accessError s 0x40030000 = none → s.mbx.ring.testBit ch = true → ch < 8 →
    (ch = 7 → s.mbx.inband = false) → s.mbx.fifo = [] → exec (.doorbellRing (2 ^ ch)) s = .next s)

/-- While a channel rings, a host write to its command area is ignored and BLOCKED is set. While INBAND is 1 a ring of
channel 7 is ignored and BLOCKED bit 7 is set. While READY is 0 writes to the doorbell are ignored. READY clears at
the start of every reset, and the commands rung before it are gone; it sets when firmware or the ROM safe mode starts
taking commands, with every RING and DONE bit cleared. It says that these complete: reset, firmwareStart,
romSafeProfile, registerWrite, doorbellRing. -/
def Obligations.HostPortRefuses : Prop :=
  (∀ (s : State) (addr value ch : Nat), s.pwr.aoUp = true → ch < 8 → 0x20000000 + cmdArea ch ≤ addr →
    addr < 0x20000000 + respArea ch → accessError s addr = none → s.mbx.ring.testBit ch = true →
    exec (.registerWrite false addr value false) s = .next { s with mbx := { s.mbx with blocked := s.mbx.blocked ||| 2 ^ ch } }) ∧
  (∀ s : State, accessError s 0x40030000 = none → s.mbx.ready = true → s.mbx.inband = true → s.mbx.fifo = [] →
    exec (.doorbellRing 0x80) s = .next { s with mbx := { s.mbx with blocked := s.mbx.blocked ||| 0x80 } }) ∧
  (∀ (s : State) (mask : Nat), accessError s 0x40030000 = none → s.mbx.ready = false → exec (.doorbellRing mask) s = .next s) ∧
  (∀ (s : State) (cause : Nat), domOn s dCTRL = true → Answers (.reset cause) s fun t =>
    t.mbx.ready = false ∧ t.mbx.fifo = [] ∧ t.mbx.parked = [] ∧ t.mbx.waiting = none ∧ t.mbx.queue31 = []) ∧
  (∀ s : State, s.boot.step = 4 → s.boot.held = false → domOn s dCTRL = true → Answers .firmwareStart s fun t =>
    t.mbx.ready = true ∧ t.mbx.ring = 0 ∧ t.mbx.done = 0) ∧
  (∀ s : State, domOn s dCTRL = true → s.boot.held = false → s.boot.step = 7 → Answers .romSafeProfile s fun t =>
    t.mbx.ready = true ∧ t.mbx.ring = 0 ∧ t.mbx.done = 0)

/-- INBAND_COMMAND takes the oldest frame of queue 31, counts it, copies it into the area of channel 7 and runs it for its
TAG; with none waiting, or while a one-item transaction waits, nothing changes. A mailbox command that firmware runs
itself is run at once, with its own status kept for firmware. Frames of the baseband arrive only over an established
link; while the stream is off each is dropped and counted, and while it is on a frame that nothing waits before is run
in the same step. It says that these complete: inbandCommand. -/
def Obligations.InbandAndFirmwareCommands : Prop :=
  (∀ (s : State) (tag : Nat) (v : Rec) (rest : List (Nat × Rec)), s.mbx.ready = true → s.mbx.waiting = none →
    s.mbx.queue31 = (tag, v) :: rest →
    let u := runP (seqs [modMbx fun m => { m with queue31 := rest }, count blkMbx 0 0, putArea (cmdArea 7) v]) s
    exec .inbandCommand s = .next (runP (takeCmd (areaCmd u (.baseband tag))) u)) ∧
  (∀ s : State, s.mbx.queue31 = [] ∨ s.mbx.ready = false ∨ s.mbx.waiting ≠ none → exec .inbandCommand s = .next s) ∧
  (∀ (i : Instr) (op : Nat) (c : Call) (s : State), i.call = some (op, c) → c.src = .firmware → callOk c = true → fwRuns s = true →
    s.mbx.waiting = none →
    exec i s = .next (runP (runCmd { src := .firmware, op := op, seq := c.seq, txn := c.txn, req := c.req }) s)) ∧
  (∀ (i : Instr) (op tag : Nat) (c : Call) (s : State), i.call = some (op, c) → c.src = .baseband tag →
    domOn s dFH = false ∨ s.fh.link ≠ 3 → exec i s = .next s) ∧
  (∀ (i : Instr) (op tag : Nat) (c : Call) (s : State), i.call = some (op, c) → c.src = .baseband tag → domOn s dFH = true →
    s.fh.link = 3 → s.mbx.inband = false → s.mbx.queue31 = [] → Answers i s fun t =>
      cntVal t blkMbx 0 1 = satAdd (cntVal s blkMbx 0 1) 1 ∧ KeepsBut [.cnts] s t) ∧
  (∀ (i : Instr) (op tag : Nat) (c : Call) (s : State), i.call = some (op, c) → c.src = .baseband tag → callOk c = true →
    domOn s dFH = true → s.fh.link = 3 → s.mbx.inband = true → s.mbx.queue31 = [] → s.mbx.ready = true → s.mbx.waiting = none →
    let u := runP (.seq (count blkMbx 0 0) (putArea (cmdArea 7) (cmdBytes op c))) s
    exec i s = .next (runP (takeCmd (areaCmd u (.baseband tag))) u))

end
end

