-- ==== Sys2Proof/Laws/Memory.lean ====
section
/-! SUPPORT. Byte memories: what a write leaves at every address, and that every operation keeps the canonical form. -/

namespace Sys2Proof.Laws

open Sys2Proof Sys2Proof.Machine

theorem memWfFrom_mono (i : MemId) {lo lo' : Nat} (h : lo' ≤ lo) : ∀ {m : Mem}, memWfFrom i lo m = true → memWfFrom i lo' m = true
  | [], _ => rfl
  | (k, v) :: t, hm => by
    simp only [memWfFrom, Bool.and_eq_true, decide_eq_true_eq] at hm ⊢
    exact ⟨⟨by omega, hm.1.2⟩, hm.2⟩

/-- A byte below every cell reads as the unlisted value. -/
theorem memGet_below (i : MemId) {lo a : Nat} (h : a < lo) : ∀ {m : Mem}, memWfFrom i lo m = true → memGet i m a = memDefault i a
  | [], _ => rfl
  | (k, v) :: t, hm => by
    simp only [memWfFrom, Bool.and_eq_true, decide_eq_true_eq] at hm
    have hk : k ≠ a := by omega
    simp only [memGet, if_neg hk]
    exact memGet_below i (by omega) hm.2

/-- Reading after a write: the written byte at its address, the old byte elsewhere. -/
theorem memGet_memSet (i : MemId) (a x : Nat) (b : Byte) : ∀ {lo : Nat} {m : Mem}, memWfFrom i lo m = true →
    memGet i (memSet i m a b) x = if x = a then b else memGet i m x
  | lo, [], _ => by
    by_cases hx : x = a
    · subst hx
      by_cases hb : b = memDefault i x
      · simp [memSet, memGet, ← hb]
      · simp [memSet, memGet, hb]
    · have : a ≠ x := fun h => hx h.symm
      by_cases hb : b = memDefault i a <;> simp [memSet, memGet, hb, hx, this]
  | lo, (k, v) :: t, hm => by
    simp only [memWfFrom, Bool.and_eq_true, decide_eq_true_eq] at hm
    by_cases h1 : a < k
    · by_cases hb : b = memDefault i a
      · simp only [memSet, if_pos h1, if_pos hb]
        by_cases hx : x = a
        · subst hx
          have hk : k ≠ x := by omega
          simp only [memGet, if_neg hk, if_true, hb]
          exact memGet_below i (by omega) hm.2
        · simp [hx]
      · simp only [memSet, if_pos h1, if_neg hb]
        by_cases hx : x = a
        · simp [memGet, hx]
        · have : a ≠ x := fun h => hx h.symm
          simp [memGet, hx, this]
    · by_cases h2 : a = k
      · subst h2
        by_cases hb : b = memDefault i a
        · simp only [memSet, Nat.lt_irrefl, if_false, if_true, hb]
          by_cases hx : x = a
          · subst hx
            simp only [if_true]
            exact memGet_below i (by omega) hm.2
          · have : a ≠ x := fun h => hx h.symm
            simp [memGet, hx, this]
        · simp only [memSet, Nat.lt_irrefl, if_false, if_true, if_neg hb]
          by_cases hx : x = a
          · simp [memGet, hx]
          · have : a ≠ x := fun h => hx h.symm
            simp [memGet, hx, this]
      · simp only [memSet, if_neg h1, if_neg h2]
        by_cases hk : k = x
        · subst hk
          have : k ≠ a := fun h => h2 h.symm
          simp [memGet, this]
        · simp only [memGet, if_neg hk]
          exact memGet_memSet i a x b hm.2

theorem memSet_wfFrom (i : MemId) (a : Nat) (b : Byte) : ∀ {lo : Nat} {m : Mem}, lo ≤ a → memWfFrom i lo m = true →
    memWfFrom i lo (memSet i m a b) = true
  | lo, [], h, _ => by
    by_cases hb : b = memDefault i a <;> simp [memSet, memWfFrom, hb, h]
  | lo, (k, v) :: t, h, hm => by
    have hm' := hm
    simp only [memWfFrom, Bool.and_eq_true, decide_eq_true_eq] at hm
    by_cases h1 : a < k
    · by_cases hb : b = memDefault i a
      · simp only [memSet, if_pos h1, if_pos hb]; exact hm'
      · simp only [memSet, if_pos h1, if_neg hb, memWfFrom, Bool.and_eq_true, decide_eq_true_eq]
        exact ⟨⟨h, hb⟩, ⟨by omega, hm.1.2⟩, hm.2⟩
    · by_cases h2 : a = k
      · subst h2
        by_cases hb : b = memDefault i a
        · simp only [memSet, Nat.lt_irrefl, if_false, if_true, if_pos hb]
          exact memWfFrom_mono i (by omega) hm.2
        · simp only [memSet, Nat.lt_irrefl, if_false, if_true, if_neg hb, memWfFrom, Bool.and_eq_true, decide_eq_true_eq]
          exact ⟨⟨h, hb⟩, hm.2⟩
      · simp only [memSet, if_neg h1, if_neg h2, memWfFrom, Bool.and_eq_true, decide_eq_true_eq]
        exact ⟨hm.1, memSet_wfFrom i a b (by omega) hm.2⟩

/-- A write of one byte keeps the canonical form. -/
theorem memSet_wf (i : MemId) (m : Mem) (a : Nat) (b : Byte) (h : memWf i m = true) : memWf i (memSet i m a b) = true :=
  memSet_wfFrom i a b (Nat.zero_le a) h

theorem filter_wfFrom (i : MemId) (f : Host.Cell → Bool) : ∀ {lo : Nat} {m : Mem}, memWfFrom i lo m = true →
    memWfFrom i lo (m.filter f) = true
  | _, [], _ => rfl
  | lo, (k, v) :: t, hm => by
    simp only [memWfFrom, Bool.and_eq_true, decide_eq_true_eq] at hm
    by_cases hf : f (k, v) = true
    · simp only [List.filter, hf, memWfFrom, Bool.and_eq_true, decide_eq_true_eq]
      exact ⟨hm.1, filter_wfFrom i f hm.2⟩
    · simp only [List.filter, hf]
      exact filter_wfFrom i f (memWfFrom_mono i (by omega) hm.2)

/-- Cells let go leave the canonical form. -/
theorem filter_wf (i : MemId) (f : Host.Cell → Bool) (m : Mem) (h : memWf i m = true) : memWf i (m.filter f) = true :=
  filter_wfFrom i f h

/-- Consecutive bytes written keep the canonical form. -/
theorem memPut_wf (i : MemId) : ∀ (v : Rec) (m : Mem) (a : Nat), memWf i m = true → memWf i (memPut i m a v) = true
  | [], _, _, h => h
  | b :: bs, m, a, h => memPut_wf i bs _ (a + 1) (memSet_wf i m a b h)

/-- The memories by name, each in canonical form. -/
theorem wf_get (m : MemSt) : Memory.wf m = true ↔ ∀ i, memWf i (m.get i) = true := by
  simp only [Memory.wf, Bool.and_eq_true]
  constructor
  · rintro ⟨⟨⟨⟨a, b⟩, c⟩, d⟩, e⟩ i
    cases i <;> assumption
  · intro h
    exact ⟨⟨⟨⟨h .mailbox, h .weight⟩, h .tun⟩, h .coef⟩, h .queue⟩

theorem get_put (m : MemSt) (x : Mem) (i j : MemId) : (m.put x i).get j = if i = j then x else m.get j := by
  cases i <;> cases j <;> rfl

theorem put_wf (m : MemSt) (x : Mem) (i : MemId) (h : Memory.wf m = true) (hx : memWf i x = true) : Memory.wf (m.put x i) = true := by
  rw [wf_get] at *
  intro j
  rw [get_put]
  by_cases e : i = j
  · subst e; simpa using hx
  · simpa [e] using h j

/-- One byte written keeps every memory canonical. -/
theorem poke_wf (m : MemSt) (i : MemId) (a : Nat) (b : Byte) (h : Memory.wf m = true) : Memory.wf (m.poke i a b) = true :=
  put_wf m _ i h (memSet_wf i _ a b ((wf_get m).1 h i))

/-- An initialized span keeps every memory canonical. -/
theorem fill_wf (m : MemSt) (i : MemId) (lo hi : Nat) (h : Memory.wf m = true) : Memory.wf (m.fill i lo hi) = true :=
  put_wf m _ i h (filter_wf i _ _ ((wf_get m).1 h i))

theorem pokes_wf (i : MemId) (f : Host.Cell → Nat) : ∀ (l : List Host.Cell) (m : MemSt), Memory.wf m = true →
    Memory.wf (l.foldl (fun x p => x.poke i (f p) p.2) m) = true
  | [], _, h => h
  | c :: t, m, h => pokes_wf i f t _ (poke_wf m i (f c) c.2 h)

/-- Bytes copied keep every memory canonical. -/
theorem copy_wf (m : MemSt) (i : MemId) (src dst n : Nat) (h : Memory.wf m = true) : Memory.wf (m.copy i src dst n) = true :=
  pokes_wf i (fun p => p.1 - src + dst) _ _ (fill_wf m i dst (dst + n) h)

end Sys2Proof.Laws
end

