-- ==== Sys2Proof/Laws/PerInstr.lean ====
section
/-! SUPPORT. Statements about every command as syntax, one lemma per constructor. -/

namespace Sys2Proof.Laws.TableRow

open Sys2Proof

/-- A mailbox command is well formed exactly when its call is, and its OPCODE lies in classes 0x01 to 0x10 (18 R400, R422). -/
def Statement (i : Instr) : Prop :=
  ∀ op c, i.call = some (op, c) → i.wf = callOk c ∧ 0x0101 ≤ op ∧ op ≤ 0x10FF

theorem powerUp : Statement (.powerUp) := by
  intro op d h; cases h

theorem aoUndervoltageLockout : Statement (.aoUndervoltageLockout) := by
  intro op d h; cases h

theorem aoLogicRelease : Statement (.aoLogicRelease) := by
  intro op d h; cases h

theorem powerGoodHeld (rail : Nat) : Statement (.powerGoodHeld rail) := by
  intro op d h; cases h

theorem railFault (rail : Nat) : Statement (.railFault rail) := by
  intro op d h; cases h

theorem railRestartTimeout : Statement (.railRestartTimeout) := by
  intro op d h; cases h

theorem pwrCtrlRestart : Statement (.pwrCtrlRestart) := by
  intro op d h; cases h

theorem pwrCtrlWake : Statement (.pwrCtrlWake) := by
  intro op d h; cases h

theorem reset (cause : Nat) : Statement (.reset cause) := by
  intro op d h; cases h

theorem resetNAssert (lowNs : Nat) : Statement (.resetNAssert lowNs) := by
  intro op d h; cases h

theorem resetNRelease (prof : Nat) : Statement (.resetNRelease prof) := by
  intro op d h; cases h

theorem watchdogExpiry : Statement (.watchdogExpiry) := by
  intro op d h; cases h

theorem lockstepMismatch : Statement (.lockstepMismatch) := by
  intro op d h; cases h

theorem commandResetTimeout : Statement (.commandResetTimeout) := by
  intro op d h; cases h

theorem testEnChange (high : Bool) : Statement (.testEnChange high) := by
  intro op d h; cases h

theorem bootRomStart : Statement (.bootRomStart) := by
  intro op d h; cases h

theorem imageHeaderCheck (flashOk : Bool) : Statement (.imageHeaderCheck flashOk) := by
  intro op d h; cases h

theorem imagePayloadLoaded : Statement (.imagePayloadLoaded) := by
  intro op d h; cases h

theorem signatureVerified : Statement (.signatureVerified) := by
  intro op d h; cases h

theorem firmwareStart : Statement (.firmwareStart) := by
  intro op d h; cases h

theorem romSafeProfile : Statement (.romSafeProfile) := by
  intro op d h; cases h

theorem trialTimeout : Statement (.trialTimeout) := by
  intro op d h; cases h

theorem crashCountClear : Statement (.crashCountClear) := by
  intro op d h; cases h

theorem profileApply : Statement (.profileApply) := by
  intro op d h; cases h

theorem profileEntry : Statement (.profileEntry) := by
  intro op d h; cases h

theorem profileWaitExpiry : Statement (.profileWaitExpiry) := by
  intro op d h; cases h

theorem profileRefTimeout : Statement (.profileRefTimeout) := by
  intro op d h; cases h

theorem hostPortRead (addr : Nat) (words : Nat) : Statement (.hostPortRead addr words) := by
  intro op d h; cases h

theorem portStatus : Statement (.portStatus) := by
  intro op d h; cases h

theorem shadowLoRead (cpu : Bool) (addr : Nat) : Statement (.shadowLoRead cpu addr) := by
  intro op d h; cases h

theorem shadowHiRead (cpu : Bool) (addr : Nat) : Statement (.shadowHiRead cpu addr) := by
  intro op d h; cases h

theorem registerWrite (cpu : Bool) (addr : Nat) (value : Nat) (cut : Bool) : Statement (.registerWrite cpu addr value cut) := by
  intro op d h; cases h

theorem directWriteCaptureDrain : Statement (.directWriteCaptureDrain) := by
  intro op d h; cases h

theorem doorbellRing (mask : Nat) : Statement (.doorbellRing mask) := by
  intro op d h; cases h

theorem doneAcknowledge (mask : Nat) : Statement (.doneAcknowledge mask) := by
  intro op d h; cases h

theorem faultStatusClear (mask : Nat) : Statement (.faultStatusClear mask) := by
  intro op d h; cases h

theorem faultBitSet (source : Nat) : Statement (.faultBitSet source) := by
  intro op d h; cases h

theorem pCommandComplete (index : Nat) (ok : Bool) (data : Rec) : Statement (.pCommandComplete index ok data) := by
  intro op d h; cases h

theorem inbandCommand : Statement (.inbandCommand) := by
  intro op d h; cases h

theorem eventRaise (code : Nat) (unit : Nat) (data : List Nat) : Statement (.eventRaise code unit data) := by
  intro op d h; cases h

theorem sysCapRead (c : Call) : Statement (.sysCapRead c) := by
  intro op d h; cases h; exact ⟨rfl, by decide, by decide⟩

theorem sysReset (c : Call) : Statement (.sysReset c) := by
  intro op d h; cases h; exact ⟨rfl, by decide, by decide⟩

theorem sysBootStatus (c : Call) : Statement (.sysBootStatus c) := by
  intro op d h; cases h; exact ⟨rfl, by decide, by decide⟩

theorem fwWrite (c : Call) : Statement (.fwWrite c) := by
  intro op d h; cases h; exact ⟨rfl, by decide, by decide⟩

theorem fwActivate (c : Call) : Statement (.fwActivate c) := by
  intro op d h; cases h; exact ⟨rfl, by decide, by decide⟩

theorem fwConfirm (c : Call) : Statement (.fwConfirm c) := by
  intro op d h; cases h; exact ⟨rfl, by decide, by decide⟩

theorem sysFuseProgram (c : Call) : Statement (.sysFuseProgram c) := by
  intro op d h; cases h; exact ⟨rfl, by decide, by decide⟩

theorem eventRead (c : Call) : Statement (.eventRead c) := by
  intro op d h; cases h; exact ⟨rfl, by decide, by decide⟩

theorem eventMaskSet (c : Call) : Statement (.eventMaskSet c) := by
  intro op d h; cases h; exact ⟨rfl, by decide, by decide⟩

theorem mbxInbandSet (c : Call) : Statement (.mbxInbandSet c) := by
  intro op d h; cases h; exact ⟨rfl, by decide, by decide⟩

theorem mbxStatus (c : Call) : Statement (.mbxStatus c) := by
  intro op d h; cases h; exact ⟨rfl, by decide, by decide⟩

theorem commitLogRead (c : Call) : Statement (.commitLogRead c) := by
  intro op d h; cases h; exact ⟨rfl, by decide, by decide⟩

theorem pwrDomainSet (c : Call) : Statement (.pwrDomainSet c) := by
  intro op d h; cases h; exact ⟨rfl, by decide, by decide⟩

theorem pwrStatus (c : Call) : Statement (.pwrStatus c) := by
  intro op d h; cases h; exact ⟨rfl, by decide, by decide⟩

theorem pwrCaskClear (c : Call) : Statement (.pwrCaskClear c) := by
  intro op d h; cases h; exact ⟨rfl, by decide, by decide⟩

theorem pwrSavelistSet (c : Call) : Statement (.pwrSavelistSet c) := by
  intro op d h; cases h; exact ⟨rfl, by decide, by decide⟩

theorem pwrSavelistGet (c : Call) : Statement (.pwrSavelistGet c) := by
  intro op d h; cases h; exact ⟨rfl, by decide, by decide⟩

theorem kilnConfig (c : Call) : Statement (.kilnConfig c) := by
  intro op d h; cases h; exact ⟨rfl, by decide, by decide⟩

theorem kilnBudgetSet (c : Call) : Statement (.kilnBudgetSet c) := by
  intro op d h; cases h; exact ⟨rfl, by decide, by decide⟩

theorem kilnModelSet (c : Call) : Statement (.kilnModelSet c) := by
  intro op d h; cases h; exact ⟨rfl, by decide, by decide⟩

theorem kilnStatus (c : Call) : Statement (.kilnStatus c) := by
  intro op d h; cases h; exact ⟨rfl, by decide, by decide⟩

theorem drainComplete (dom : Nat) : Statement (.drainComplete dom) := by
  intro op d h; cases h

theorem drainTimeoutExpiry (dom : Nat) (left : List (Nat × Nat)) : Statement (.drainTimeoutExpiry dom left) := by
  intro op d h; cases h

theorem powerSwitchClose (dom : Nat) : Statement (.powerSwitchClose dom) := by
  intro op d h; cases h

theorem memoryInitDone (dom : Nat) : Statement (.memoryInitDone dom) := by
  intro op d h; cases h

theorem wakeScrubDone (dom : Nat) (bad : Nat) : Statement (.wakeScrubDone dom bad) := by
  intro op d h; cases h

theorem savelistRestore (dom : Nat) (bad : List Nat) : Statement (.savelistRestore dom bad) := by
  intro op d h; cases h

theorem domainOn (dom : Nat) : Statement (.domainOn dom) := by
  intro op d h; cases h

theorem domainOff (dom : Nat) : Statement (.domainOff dom) := by
  intro op d h; cases h

theorem wakeAfterExpiry : Statement (.wakeAfterExpiry) := by
  intro op d h; cases h

theorem fioStart : Statement (.fioStart) := by
  intro op d h; cases h

theorem kilnEvaluate : Statement (.kilnEvaluate) := by
  intro op d h; cases h

theorem datumStatus (c : Call) : Statement (.datumStatus c) := by
  intro op d h; cases h; exact ⟨rfl, by decide, by decide⟩

theorem datumConfig (c : Call) : Statement (.datumConfig c) := by
  intro op d h; cases h; exact ⟨rfl, by decide, by decide⟩

theorem datumTimeSet (c : Call) : Statement (.datumTimeSet c) := by
  intro op d h; cases h; exact ⟨rfl, by decide, by decide⟩

theorem datumStep (c : Call) : Statement (.datumStep c) := by
  intro op d h; cases h; exact ⟨rfl, by decide, by decide⟩

theorem datumFreqSet (c : Call) : Statement (.datumFreqSet c) := by
  intro op d h; cases h; exact ⟨rfl, by decide, by decide⟩

theorem ecpriOwd (c : Call) : Statement (.ecpriOwd c) := by
  intro op d h; cases h; exact ⟨rfl, by decide, by decide⟩

theorem datumCtrlStep : Statement (.datumCtrlStep) := by
  intro op d h; cases h

theorem incrementWrite (value : Nat) : Statement (.incrementWrite value) := by
  intro op d h; cases h

theorem todReferenceWrite (value : Nat) : Statement (.todReferenceWrite value) := by
  intro op d h; cases h

theorem todRefresh : Statement (.todRefresh) := by
  intro op d h; cases h

theorem ptpMessage : Statement (.ptpMessage) := by
  intro op d h; cases h

theorem delayReqSend : Statement (.delayReqSend) := by
  intro op d h; cases h

theorem announceTimeout : Statement (.announceTimeout) := by
  intro op d h; cases h

theorem datumHoldoverExpired : Statement (.datumHoldoverExpired) := by
  intro op d h; cases h

theorem ptpTransmit (capture : Nat) (fecPos : Nat) : Statement (.ptpTransmit capture fecPos) := by
  intro op d h; cases h

theorem ppsOutEdge : Statement (.ppsOutEdge) := by
  intro op d h; cases h

theorem ppsOutFall : Statement (.ppsOutFall) := by
  intro op d h; cases h

theorem ppsInEdge (falling : Bool) : Statement (.ppsInEdge falling) := by
  intro op d h; cases h

theorem ppsInTimeout : Statement (.ppsInTimeout) := by
  intro op d h; cases h

theorem ecpriOwdResponse : Statement (.ecpriOwdResponse) := by
  intro op d h; cases h

theorem clockWindow (good : Nat) : Statement (.clockWindow good) := by
  intro op d h; cases h

theorem cpuClockSwitch : Statement (.cpuClockSwitch) := by
  intro op d h; cases h

theorem armAlignment : Statement (.armAlignment) := by
  intro op d h; cases h

theorem dasync (dist : List Nat) : Statement (.dasync dist) := by
  intro op d h; cases h

theorem elasticBufferReset : Statement (.elasticBufferReset) := by
  intro op d h; cases h

theorem d2dCrcFail (link : Nat) (group : Nat) : Statement (.d2dCrcFail link group) := by
  intro op d h; cases h

theorem d2dLaneTestDone (link : Nat) (lane : Nat) : Statement (.d2dLaneTestDone link lane) := by
  intro op d h; cases h

theorem commitBoundary (b : Nat) : Statement (.commitBoundary b) := by
  intro op d h; cases h

theorem txnShadowLoad (id : Nat) : Statement (.txnShadowLoad id) := by
  intro op d h; cases h

theorem txnExpire (id : Nat) : Statement (.txnExpire id) := by
  intro op d h; cases h

theorem txnBegin (c : Call) : Statement (.txnBegin c) := by
  intro op d h; cases h; exact ⟨rfl, by decide, by decide⟩

theorem txnStageReg (c : Call) : Statement (.txnStageReg c) := by
  intro op d h; cases h; exact ⟨rfl, by decide, by decide⟩

theorem txnCommit (c : Call) : Statement (.txnCommit c) := by
  intro op d h; cases h; exact ⟨rfl, by decide, by decide⟩

theorem txnAbort (c : Call) : Statement (.txnAbort c) := by
  intro op d h; cases h; exact ⟨rfl, by decide, by decide⟩

theorem txnStatus (c : Call) : Statement (.txnStatus c) := by
  intro op d h; cases h; exact ⟨rfl, by decide, by decide⟩

theorem ownerSet (c : Call) : Statement (.ownerSet c) := by
  intro op d h; cases h; exact ⟨rfl, by decide, by decide⟩

theorem sectionRead (c : Call) : Statement (.sectionRead c) := by
  intro op d h; cases h; exact ⟨rfl, by decide, by decide⟩

theorem sectionStats (c : Call) : Statement (.sectionStats c) := by
  intro op d h; cases h; exact ⟨rfl, by decide, by decide⟩

theorem profileWrite (c : Call) : Statement (.profileWrite c) := by
  intro op d h; cases h; exact ⟨rfl, by decide, by decide⟩

theorem profileSelect (c : Call) : Statement (.profileSelect c) := by
  intro op d h; cases h; exact ⟨rfl, by decide, by decide⟩

theorem profileStatus (c : Call) : Statement (.profileStatus c) := by
  intro op d h; cases h; exact ⟨rfl, by decide, by decide⟩

theorem laneSignalChange (signal : Nat) (cdr : Nat) (am : Nat) : Statement (.laneSignalChange signal cdr am) := by
  intro op d h; cases h

theorem linkUp : Statement (.linkUp) := by
  intro op d h; cases h

theorem linkDown : Statement (.linkDown) := by
  intro op d h; cases h

theorem laneFailed (lane : Nat) : Statement (.laneFailed lane) := by
  intro op d h; cases h

theorem fecWindowEnd (lane : Nat) (corrected : Nat) (received : Nat) (uncorr : Nat) : Statement (.fecWindowEnd lane corrected received uncorr) := by
  intro op d h; cases h

theorem fallbackTimeout : Statement (.fallbackTimeout) := by
  intro op d h; cases h

theorem fhLinkSet (c : Call) : Statement (.fhLinkSet c) := by
  intro op d h; cases h; exact ⟨rfl, by decide, by decide⟩

theorem fhLinkStatus (c : Call) : Statement (.fhLinkStatus c) := by
  intro op d h; cases h; exact ⟨rfl, by decide, by decide⟩

theorem fhFlowSet (c : Call) : Statement (.fhFlowSet c) := by
  intro op d h; cases h; exact ⟨rfl, by decide, by decide⟩

theorem fhFlowGet (c : Call) : Statement (.fhFlowGet c) := by
  intro op d h; cases h; exact ⟨rfl, by decide, by decide⟩

theorem fhQueueSet (c : Call) : Statement (.fhQueueSet c) := by
  intro op d h; cases h; exact ⟨rfl, by decide, by decide⟩

theorem fhStats (c : Call) : Statement (.fhStats c) := by
  intro op d h; cases h; exact ⟨rfl, by decide, by decide⟩

theorem fhFlowStats (c : Call) : Statement (.fhFlowStats c) := by
  intro op d h; cases h; exact ⟨rfl, by decide, by decide⟩

theorem frameReceived (fcsOk : Bool) (frame : Rec) (capture : Nat) (deskew : Nat) (fecPos : Nat) : Statement (.frameReceived fcsOk frame capture deskew fecPos) := by
  intro op d h; cases h

theorem pageClear : Statement (.pageClear) := by
  intro op d h; cases h

theorem pageClearComplete (page : Nat) : Statement (.pageClearComplete page) := by
  intro op d h; cases h

theorem airSymbolDl (carrier : Nat) : Statement (.airSymbolDl carrier) := by
  intro op d h; cases h

theorem airSymbolUl (carrier : Nat) : Statement (.airSymbolUl carrier) := by
  intro op d h; cases h

theorem uplaneMessageBuild (carrier : Nat) (codes : List (Nat × List (Int × Int))) : Statement (.uplaneMessageBuild carrier codes) := by
  intro op d h; cases h

theorem egressLaunch (queue : Nat) : Statement (.egressLaunch queue) := by
  intro op d h; cases h

theorem macFrameStart : Statement (.macFrameStart) := by
  intro op d h; cases h

theorem gratConfig (c : Call) : Statement (.gratConfig c) := by
  intro op d h; cases h; exact ⟨rfl, by decide, by decide⟩

theorem gratBeamWrite (c : Call) : Statement (.gratBeamWrite c) := by
  intro op d h; cases h; exact ⟨rfl, by decide, by decide⟩

theorem gratBeamRead (c : Call) : Statement (.gratBeamRead c) := by
  intro op d h; cases h; exact ⟨rfl, by decide, by decide⟩

theorem gratWeightWrite (c : Call) : Statement (.gratWeightWrite c) := by
  intro op d h; cases h; exact ⟨rfl, by decide, by decide⟩

theorem gratWeightRead (c : Call) : Statement (.gratWeightRead c) := by
  intro op d h; cases h; exact ⟨rfl, by decide, by decide⟩

theorem gratWeightSwap (c : Call) : Statement (.gratWeightSwap c) := by
  intro op d h; cases h; exact ⟨rfl, by decide, by decide⟩

theorem gratStatus (c : Call) : Statement (.gratStatus c) := by
  intro op d h; cases h; exact ⟨rfl, by decide, by decide⟩

theorem ulBankRelease : Statement (.ulBankRelease) := by
  intro op d h; cases h

theorem mashConfig (c : Call) : Statement (.mashConfig c) := by
  intro op d h; cases h; exact ⟨rfl, by decide, by decide⟩

theorem mashCtxSet (c : Call) : Statement (.mashCtxSet c) := by
  intro op d h; cases h; exact ⟨rfl, by decide, by decide⟩

theorem mashCtxGet (c : Call) : Statement (.mashCtxGet c) := by
  intro op d h; cases h; exact ⟨rfl, by decide, by decide⟩

theorem mashStatus (c : Call) : Statement (.mashStatus c) := by
  intro op d h; cases h; exact ⟨rfl, by decide, by decide⟩

theorem mashPortStatus (c : Call) : Statement (.mashPortStatus c) := by
  intro op d h; cases h; exact ⟨rfl, by decide, by decide⟩

theorem mashEstRead (c : Call) : Statement (.mashEstRead c) := by
  intro op d h; cases h; exact ⟨rfl, by decide, by decide⟩

theorem srsOccasionEnd : Statement (.srsOccasionEnd) := by
  intro op d h; cases h

theorem mashCut : Statement (.mashCut) := by
  intro op d h; cases h

theorem mashPrereq : Statement (.mashPrereq) := by
  intro op d h; cases h

theorem mashSetReady : Statement (.mashSetReady) := by
  intro op d h; cases h

theorem txCarrierSet (c : Call) : Statement (.txCarrierSet c) := by
  intro op d h; cases h; exact ⟨rfl, by decide, by decide⟩

theorem txCarrierGet (c : Call) : Statement (.txCarrierGet c) := by
  intro op d h; cases h; exact ⟨rfl, by decide, by decide⟩

theorem txPathSet (c : Call) : Statement (.txPathSet c) := by
  intro op d h; cases h; exact ⟨rfl, by decide, by decide⟩

theorem txPathGet (c : Call) : Statement (.txPathGet c) := by
  intro op d h; cases h; exact ⟨rfl, by decide, by decide⟩

theorem txCfrSet (c : Call) : Statement (.txCfrSet c) := by
  intro op d h; cases h; exact ⟨rfl, by decide, by decide⟩

theorem txToneSet (c : Call) : Statement (.txToneSet c) := by
  intro op d h; cases h; exact ⟨rfl, by decide, by decide⟩

theorem txSheetSet (c : Call) : Statement (.txSheetSet c) := by
  intro op d h; cases h; exact ⟨rfl, by decide, by decide⟩

theorem txStatus (c : Call) : Statement (.txStatus c) := by
  intro op d h; cases h; exact ⟨rfl, by decide, by decide⟩

theorem txCfrGet (c : Call) : Statement (.txCfrGet c) := by
  intro op d h; cases h; exact ⟨rfl, by decide, by decide⟩

theorem txmuteNFall : Statement (.txmuteNFall) := by
  intro op d h; cases h

theorem txmuteNRise : Statement (.txmuteNRise) := by
  intro op d h; cases h

theorem txmuteRelease : Statement (.txmuteRelease) := by
  intro op d h; cases h

theorem holdEnd (sheet : Nat) : Statement (.holdEnd sheet) := by
  intro op d h; cases h

theorem sheetReady (sheet : Nat) : Statement (.sheetReady sheet) := by
  intro op d h; cases h

theorem dpdConfig (c : Call) : Statement (.dpdConfig c) := by
  intro op d h; cases h; exact ⟨rfl, by decide, by decide⟩

theorem dpdPathSet (c : Call) : Statement (.dpdPathSet c) := by
  intro op d h; cases h; exact ⟨rfl, by decide, by decide⟩

theorem dpdPathGet (c : Call) : Statement (.dpdPathGet c) := by
  intro op d h; cases h; exact ⟨rfl, by decide, by decide⟩

theorem dpdCoefWrite (c : Call) : Statement (.dpdCoefWrite c) := by
  intro op d h; cases h; exact ⟨rfl, by decide, by decide⟩

theorem dpdCoefRead (c : Call) : Statement (.dpdCoefRead c) := by
  intro op d h; cases h; exact ⟨rfl, by decide, by decide⟩

theorem dpdCoefSwap (c : Call) : Statement (.dpdCoefSwap c) := by
  intro op d h; cases h; exact ⟨rfl, by decide, by decide⟩

theorem dpdStatus (c : Call) : Statement (.dpdStatus c) := by
  intro op d h; cases h; exact ⟨rfl, by decide, by decide⟩

theorem dpdPathStatus (c : Call) : Statement (.dpdPathStatus c) := by
  intro op d h; cases h; exact ⟨rfl, by decide, by decide⟩

theorem orxCouplerSet (c : Call) : Statement (.orxCouplerSet c) := by
  intro op d h; cases h; exact ⟨rfl, by decide, by decide⟩

theorem orxCouplerGet (c : Call) : Statement (.orxCouplerGet c) := by
  intro op d h; cases h; exact ⟨rfl, by decide, by decide⟩

theorem orxStatus (c : Call) : Statement (.orxStatus c) := by
  intro op d h; cases h; exact ⟨rfl, by decide, by decide⟩

theorem orxService (c : Call) : Statement (.orxService c) := by
  intro op d h; cases h; exact ⟨rfl, by decide, by decide⟩

theorem leaseStart (orx : Nat) : Statement (.leaseStart orx) := by
  intro op d h; cases h

theorem dpdCaptureStart (orx : Nat) : Statement (.dpdCaptureStart orx) := by
  intro op d h; cases h

theorem dpdCaptureComplete (orx : Nat) (path : Nat) (start : Nat) (samples : Nat) (i : List Int) (q : List Int) : Statement (.dpdCaptureComplete orx path start samples i q) := by
  intro op d h; cases h

theorem leaseEnd (orx : Nat) : Statement (.leaseEnd orx) := by
  intro op d h; cases h

theorem dpdSolveDone (path : Nat) : Statement (.dpdSolveDone path) := by
  intro op d h; cases h

theorem dpdStarved (path : Nat) : Statement (.dpdStarved path) := by
  intro op d h; cases h

theorem orxFailed (orx : Nat) : Statement (.orxFailed orx) := by
  intro op d h; cases h

theorem dpdCoefEcc (path : Nat) : Statement (.dpdCoefEcc path) := by
  intro op d h; cases h

theorem rxCarrierSet (c : Call) : Statement (.rxCarrierSet c) := by
  intro op d h; cases h; exact ⟨rfl, by decide, by decide⟩

theorem rxCarrierGet (c : Call) : Statement (.rxCarrierGet c) := by
  intro op d h; cases h; exact ⟨rfl, by decide, by decide⟩

theorem rxPathSet (c : Call) : Statement (.rxPathSet c) := by
  intro op d h; cases h; exact ⟨rfl, by decide, by decide⟩

theorem rxPathGet (c : Call) : Statement (.rxPathGet c) := by
  intro op d h; cases h; exact ⟨rfl, by decide, by decide⟩

theorem rxImageSet (c : Call) : Statement (.rxImageSet c) := by
  intro op d h; cases h; exact ⟨rfl, by decide, by decide⟩

theorem rxImageGet (c : Call) : Statement (.rxImageGet c) := by
  intro op d h; cases h; exact ⟨rfl, by decide, by decide⟩

theorem rxStatus (c : Call) : Statement (.rxStatus c) := by
  intro op d h; cases h; exact ⟨rfl, by decide, by decide⟩

theorem rxLevel (c : Call) : Statement (.rxLevel c) := by
  intro op d h; cases h; exact ⟨rfl, by decide, by decide⟩

theorem rxFo (c : Call) : Statement (.rxFo c) := by
  intro op d h; cases h; exact ⟨rfl, by decide, by decide⟩

theorem halfSubframeLevel (codes : List (Nat × List (Int × Int))) : Statement (.halfSubframeLevel codes) := by
  intro op d h; cases h

theorem foSlotEnd (carrier : Nat) : Statement (.foSlotEnd carrier) := by
  intro op d h; cases h

theorem prachOccasionDone (flow : Nat) (id : Nat) (k : Nat) (slot : Nat) (startSym : Nat) (rep : Nat) (codes : List (Nat × List (Int × Int))) : Statement (.prachOccasionDone flow id k slot startSym rep codes) := by
  intro op d h; cases h

theorem convCalSet (c : Call) : Statement (.convCalSet c) := by
  intro op d h; cases h; exact ⟨rfl, by decide, by decide⟩

theorem convStatus (c : Call) : Statement (.convStatus c) := by
  intro op d h; cases h; exact ⟨rfl, by decide, by decide⟩

theorem convSliceRead (c : Call) : Statement (.convSliceRead c) := by
  intro op d h; cases h; exact ⟨rfl, by decide, by decide⟩

theorem convSliceService (c : Call) : Statement (.convSliceService c) := by
  intro op d h; cases h; exact ⟨rfl, by decide, by decide⟩

theorem converterInitDone (conv : Nat) (a : List (List (Int × Int))) (b : List (List (Int × Int))) : Statement (.converterInitDone conv a b) := by
  intro op d h; cases h

theorem spareVisitStart (conv : Nat) : Statement (.spareVisitStart conv) := by
  intro op d h; cases h

theorem agreementTest (conv : Nat) (aOffset : Int) (bOffset : Int) (aGain : Int) (bGain : Int) : Statement (.agreementTest conv aOffset bOffset aGain bGain) := by
  intro op d h; cases h

theorem handover (conv : Nat) (mean : Int) (meanSquare : Nat) : Statement (.handover conv mean meanSquare) := by
  intro op d h; cases h

theorem cellVisit (conv : Nat) (a : Int) (b : Int) : Statement (.cellVisit conv a b) := by
  intro op d h; cases h

theorem estimationWindowEnd (conv : Nat) (pos : Nat) (samples : List (List (Int × Int × Int))) : Statement (.estimationWindowEnd conv pos samples) := by
  intro op d h; cases h

theorem hkSeqSet (c : Call) : Statement (.hkSeqSet c) := by
  intro op d h; cases h; exact ⟨rfl, by decide, by decide⟩

theorem hkRead (c : Call) : Statement (.hkRead c) := by
  intro op d h; cases h; exact ⟨rfl, by decide, by decide⟩

theorem hkLimitSet (c : Call) : Statement (.hkLimitSet c) := by
  intro op d h; cases h; exact ⟨rfl, by decide, by decide⟩

theorem hkConversion (conversions : List Nat) : Statement (.hkConversion conversions) := by
  intro op d h; cases h

theorem sheetTempUpdate (sheet : Nat) (t0 : Int) (t1 : Int) : Statement (.sheetTempUpdate sheet t0 t1) := by
  intro op d h; cases h

theorem rsTimerSet (c : Call) : Statement (.rsTimerSet c) := by
  intro op d h; cases h; exact ⟨rfl, by decide, by decide⟩

theorem rsPatternSet (c : Call) : Statement (.rsPatternSet c) := by
  intro op d h; cases h; exact ⟨rfl, by decide, by decide⟩

theorem rsPatternGet (c : Call) : Statement (.rsPatternGet c) := by
  intro op d h; cases h; exact ⟨rfl, by decide, by decide⟩

theorem rsStatus (c : Call) : Statement (.rsStatus c) := by
  intro op d h; cases h; exact ⟨rfl, by decide, by decide⟩

theorem loSet (c : Call) : Statement (.loSet c) := by
  intro op d h; cases h; exact ⟨rfl, by decide, by decide⟩

theorem loStatus (c : Call) : Statement (.loStatus c) := by
  intro op d h; cases h; exact ⟨rfl, by decide, by decide⟩

theorem tddStrobeSet (c : Call) : Statement (.tddStrobeSet c) := by
  intro op d h; cases h; exact ⟨rfl, by decide, by decide⟩

theorem tddStrobeGet (c : Call) : Statement (.tddStrobeGet c) := by
  intro op d h; cases h; exact ⟨rfl, by decide, by decide⟩

theorem sheetService (c : Call) : Statement (.sheetService c) := by
  intro op d h; cases h; exact ⟨rfl, by decide, by decide⟩

theorem patternArm (sheet : Nat) : Statement (.patternArm sheet) := by
  intro op d h; cases h

theorem rsTimerFire (sheet : Nat) (timer : Nat) : Statement (.rsTimerFire sheet timer) := by
  intro op d h; cases h

theorem rsTransitionEnd (sheet : Nat) : Statement (.rsTransitionEnd sheet) := by
  intro op d h; cases h

theorem strobeEdge (sheet : Nat) (strobe : Nat) : Statement (.strobeEdge sheet strobe) := by
  intro op d h; cases h

theorem synthCalStart (sheet : Nat) : Statement (.synthCalStart sheet) := by
  intro op d h; cases h

theorem synthLock (sheet : Nat) (txBand : Nat) (rxBand : Nat) : Statement (.synthLock sheet txBand rxBand) := by
  intro op d h; cases h

theorem synthCalTimeout (sheet : Nat) : Statement (.synthCalTimeout sheet) := by
  intro op d h; cases h

theorem loUnlock (sheet : Nat) (which : Nat) : Statement (.loUnlock sheet which) := by
  intro op d h; cases h

theorem recalAfterUnlock (sheet : Nat) : Statement (.recalAfterUnlock sheet) := by
  intro op d h; cases h

theorem surveyConfig (c : Call) : Statement (.surveyConfig c) := by
  intro op d h; cases h; exact ⟨rfl, by decide, by decide⟩

theorem surveyRun (c : Call) : Statement (.surveyRun c) := by
  intro op d h; cases h; exact ⟨rfl, by decide, by decide⟩

theorem surveyStatus (c : Call) : Statement (.surveyStatus c) := by
  intro op d h; cases h; exact ⟨rfl, by decide, by decide⟩

theorem surveyNetSet (c : Call) : Statement (.surveyNetSet c) := by
  intro op d h; cases h; exact ⟨rfl, by decide, by decide⟩

theorem surveyNetGet (c : Call) : Statement (.surveyNetGet c) := by
  intro op d h; cases h; exact ⟨rfl, by decide, by decide⟩

theorem surveyCorrSet (c : Call) : Statement (.surveyCorrSet c) := by
  intro op d h; cases h; exact ⟨rfl, by decide, by decide⟩

theorem surveyCorrGet (c : Call) : Statement (.surveyCorrGet c) := by
  intro op d h; cases h; exact ⟨rfl, by decide, by decide⟩

theorem surveyTempSet (c : Call) : Statement (.surveyTempSet c) := by
  intro op d h; cases h; exact ⟨rfl, by decide, by decide⟩

theorem surveyTempGet (c : Call) : Statement (.surveyTempGet c) := by
  intro op d h; cases h; exact ⟨rfl, by decide, by decide⟩

theorem quickSurveyStart (sheets : Nat) : Statement (.quickSurveyStart sheets) := by
  intro op d h; cases h

theorem surveySolveDone (campaign : Nat) (bench : List Reading) (paths : List Reading) (orx : List (Nat × List (Int × Int))) : Statement (.surveySolveDone campaign bench paths orx) := by
  intro op d h; cases h

theorem quickSurveyDone (campaign : Nat) : Statement (.quickSurveyDone campaign) := by
  intro op d h; cases h

theorem qsRetry (sheet : Nat) : Statement (.qsRetry sheet) := by
  intro op d h; cases h

theorem fullCampaignCommit (campaign : Nat) : Statement (.fullCampaignCommit campaign) := by
  intro op d h; cases h

theorem trackCapture (orx : Nat) (blocks : List (Nat × List (Int × Int))) (i : List Int) (q : List Int) : Statement (.trackCapture orx blocks i q) := by
  intro op d h; cases h

theorem trackEvaluate (sheet : Nat) (dir : Nat) : Statement (.trackEvaluate sheet dir) := by
  intro op d h; cases h

theorem tempCompare : Statement (.tempCompare) := by
  intro op d h; cases h

theorem biasSet (c : Call) : Statement (.biasSet c) := by
  intro op d h; cases h; exact ⟨rfl, by decide, by decide⟩

theorem biasGet (c : Call) : Statement (.biasGet c) := by
  intro op d h; cases h; exact ⟨rfl, by decide, by decide⟩

theorem biasGainSet (c : Call) : Statement (.biasGainSet c) := by
  intro op d h; cases h; exact ⟨rfl, by decide, by decide⟩

theorem biasStatus (c : Call) : Statement (.biasStatus c) := by
  intro op d h; cases h; exact ⟨rfl, by decide, by decide⟩

theorem biasRestore (c : Call) : Statement (.biasRestore c) := by
  intro op d h; cases h; exact ⟨rfl, by decide, by decide⟩

theorem biasclrNAccept (lowNs : Nat) : Statement (.biasclrNAccept lowNs) := by
  intro op d h; cases h

theorem biasClearPhaseEnd (dac : Nat) : Statement (.biasClearPhaseEnd dac) := by
  intro op d h; cases h

theorem biasSettled (dac : Nat) : Statement (.biasSettled dac) := by
  intro op d h; cases h

theorem spanSwitch (dac : Nat) : Statement (.spanSwitch dac) := by
  intro op d h; cases h

theorem biasSuperviseSample (dac : Nat) (excess : Bool) (far : Bool) : Statement (.biasSuperviseSample dac excess far) := by
  intro op d h; cases h

theorem rffeMasterSet (c : Call) : Statement (.rffeMasterSet c) := by
  intro op d h; cases h; exact ⟨rfl, by decide, by decide⟩

theorem rffeXfer (c : Call) : Statement (.rffeXfer c) := by
  intro op d h; cases h; exact ⟨rfl, by decide, by decide⟩

theorem rffeSched (c : Call) : Statement (.rffeSched c) := by
  intro op d h; cases h; exact ⟨rfl, by decide, by decide⟩

theorem rffeBindSet (c : Call) : Statement (.rffeBindSet c) := by
  intro op d h; cases h; exact ⟨rfl, by decide, by decide⟩

theorem rffeStatus (c : Call) : Statement (.rffeStatus c) := by
  intro op d h; cases h; exact ⟨rfl, by decide, by decide⟩

theorem rffeMessageStart (master : Nat) : Statement (.rffeMessageStart master) := by
  intro op d h; cases h

theorem rffeMessageDone (master : Nat) (parityGood : Bool) (data : Rec) : Statement (.rffeMessageDone master parityGood data) := by
  intro op d h; cases h

theorem tunerSet (c : Call) : Statement (.tunerSet c) := by
  intro op d h; cases h; exact ⟨rfl, by decide, by decide⟩

theorem tunerGet (c : Call) : Statement (.tunerGet c) := by
  intro op d h; cases h; exact ⟨rfl, by decide, by decide⟩

theorem tunerStatus (c : Call) : Statement (.tunerStatus c) := by
  intro op d h; cases h; exact ⟨rfl, by decide, by decide⟩

theorem mismatchInterval (path : Nat) : Statement (.mismatchInterval path) := by
  intro op d h; cases h

theorem mismatchResult (path : Nat) (orx : Nat) (forward : List (Int × Int)) (reverse : List (Int × Int)) : Statement (.mismatchResult path orx forward reverse) := by
  intro op d h; cases h

theorem coexSet (c : Call) : Statement (.coexSet c) := by
  intro op d h; cases h; exact ⟨rfl, by decide, by decide⟩

theorem coexStatus (c : Call) : Statement (.coexStatus c) := by
  intro op d h; cases h; exact ⟨rfl, by decide, by decide⟩

theorem coexRoleTakeEffect : Statement (.coexRoleTakeEffect) := by
  intro op d h; cases h

theorem coexReqRaise : Statement (.coexReqRaise) := by
  intro op d h; cases h

theorem coexReqDrop : Statement (.coexReqDrop) := by
  intro op d h; cases h

theorem coexGntSample : Statement (.coexGntSample) := by
  intro op d h; cases h

theorem coexGntChange (level : Bool) : Statement (.coexGntChange level) := by
  intro op d h; cases h

theorem coexReqChange (req : Bool) (pri : Bool) : Statement (.coexReqChange req pri) := by
  intro op d h; cases h

theorem memConfig (c : Call) : Statement (.memConfig c) := by
  intro op d h; cases h; exact ⟨rfl, by decide, by decide⟩

theorem memStatus (c : Call) : Statement (.memStatus c) := by
  intro op d h; cases h; exact ⟨rfl, by decide, by decide⟩

theorem memRemapRead (c : Call) : Statement (.memRemapRead c) := by
  intro op d h; cases h; exact ⟨rfl, by decide, by decide⟩

theorem memInject (c : Call) : Statement (.memInject c) := by
  intro op d h; cases h; exact ⟨rfl, by decide, by decide⟩

theorem memTmrRead (c : Call) : Statement (.memTmrRead c) := by
  intro op d h; cases h; exact ⟨rfl, by decide, by decide⟩

theorem memTmrWrite (c : Call) : Statement (.memTmrWrite c) := by
  intro op d h; cases h; exact ⟨rfl, by decide, by decide⟩

theorem spargeVisit (code : Nat) : Statement (.spargeVisit code) := by
  intro op d h; cases h

theorem prioritySpargeVisit (code : Nat) : Statement (.prioritySpargeVisit code) := by
  intro op d h; cases h

theorem spargePassEnd (code : Nat) : Statement (.spargePassEnd code) := by
  intro op d h; cases h

theorem remapCopyDone (code : Nat) (spare : Nat) : Statement (.remapCopyDone code spare) := by
  intro op d h; cases h

theorem memUncorr (code : Nat) (off : Nat) (requester : Nat) : Statement (.memUncorr code off requester) := by
  intro op d h; cases h

theorem captureSet (c : Call) : Statement (.captureSet c) := by
  intro op d h; cases h; exact ⟨rfl, by decide, by decide⟩

theorem captureStatus (c : Call) : Statement (.captureStatus c) := by
  intro op d h; cases h; exact ⟨rfl, by decide, by decide⟩

theorem captureRead (c : Call) : Statement (.captureRead c) := by
  intro op d h; cases h; exact ⟨rfl, by decide, by decide⟩

theorem captureRelease (c : Call) : Statement (.captureRelease c) := by
  intro op d h; cases h; exact ⟨rfl, by decide, by decide⟩

theorem testgenSet (c : Call) : Statement (.testgenSet c) := by
  intro op d h; cases h; exact ⟨rfl, by decide, by decide⟩

theorem testgenGet (c : Call) : Statement (.testgenGet c) := by
  intro op d h; cases h; exact ⟨rfl, by decide, by decide⟩

theorem analyse (c : Call) : Statement (.analyse c) := by
  intro op d h; cases h; exact ⟨rfl, by decide, by decide⟩

theorem captureStart (slot : Nat) (firstNs : Nat) : Statement (.captureStart slot firstNs) := by
  intro op d h; cases h

theorem captureDone (slot : Nat) (samples : Nat) (data : Rec) : Statement (.captureDone slot samples data) := by
  intro op d h; cases h

theorem captureAbort (slot : Nat) : Statement (.captureAbort slot) := by
  intro op d h; cases h

theorem captureLeaseTimeout (slot : Nat) : Statement (.captureLeaseTimeout slot) := by
  intro op d h; cases h

theorem dcAcqEnd (path : Nat) : Statement (.dcAcqEnd path) := by
  intro op d h; cases h

theorem tapTckEdge (tms : Bool) (tdi : Bool) (trstN : Bool) (inputs : Nat) : Statement (.tapTckEdge tms tdi trstN inputs) := by
  intro op d h; cases h

end Sys2Proof.Laws.TableRow
end

