-- ==== Sys2Proof/Laws/State.lean ====
section
/-! SUPPORT. One lemma per field per elementary write: what `applyUpd` leaves of each group. -/

namespace Sys2Proof.Laws

open Sys2Proof Sys2Proof.Machine

@[simp] theorem ecc_cfg (x : EccSt) (s : State) : (applyUpd (.ecc x) s).cfg = s.cfg := rfl
@[simp] theorem ecc_regs (x : EccSt) (s : State) : (applyUpd (.ecc x) s).regs = s.regs := rfl
@[simp] theorem ecc_cnts (x : EccSt) (s : State) : (applyUpd (.ecc x) s).cnts = s.cnts := rfl
@[simp] theorem ecc_tots (x : EccSt) (s : State) : (applyUpd (.ecc x) s).tots = s.tots := rfl
@[simp] theorem ecc_free (x : EccSt) (s : State) : (applyUpd (.ecc x) s).free = s.free := rfl
@[simp] theorem ecc_tick (x : EccSt) (s : State) : (applyUpd (.ecc x) s).tick = s.tick := rfl
@[simp] theorem ecc_mem (x : EccSt) (s : State) : (applyUpd (.ecc x) s).mem = s.mem := rfl
@[simp] theorem ecc_ecc (x : EccSt) (s : State) : (applyUpd (.ecc x) s).ecc = x := rfl
@[simp] theorem ecc_host (x : EccSt) (s : State) : (applyUpd (.ecc x) s).host = s.host := rfl
@[simp] theorem ecc_mbx (x : EccSt) (s : State) : (applyUpd (.ecc x) s).mbx = s.mbx := rfl
@[simp] theorem ecc_log (x : EccSt) (s : State) : (applyUpd (.ecc x) s).log = s.log := rfl
@[simp] theorem ecc_evt (x : EccSt) (s : State) : (applyUpd (.ecc x) s).evt = s.evt := rfl
@[simp] theorem ecc_txn (x : EccSt) (s : State) : (applyUpd (.ecc x) s).txn = s.txn := rfl
@[simp] theorem ecc_clk (x : EccSt) (s : State) : (applyUpd (.ecc x) s).clk = s.clk := rfl
@[simp] theorem ecc_datum (x : EccSt) (s : State) : (applyUpd (.ecc x) s).datum = s.datum := rfl
@[simp] theorem ecc_pwr (x : EccSt) (s : State) : (applyUpd (.ecc x) s).pwr = s.pwr := rfl
@[simp] theorem ecc_kiln (x : EccSt) (s : State) : (applyUpd (.ecc x) s).kiln = s.kiln := rfl
@[simp] theorem ecc_boot (x : EccSt) (s : State) : (applyUpd (.ecc x) s).boot = s.boot := rfl
@[simp] theorem ecc_fuse (x : EccSt) (s : State) : (applyUpd (.ecc x) s).fuse = s.fuse := rfl
@[simp] theorem ecc_cap (x : EccSt) (s : State) : (applyUpd (.ecc x) s).cap = s.cap := rfl
@[simp] theorem ecc_sect (x : EccSt) (s : State) : (applyUpd (.ecc x) s).sect = s.sect := rfl
@[simp] theorem ecc_fh (x : EccSt) (s : State) : (applyUpd (.ecc x) s).fh = s.fh := rfl
@[simp] theorem ecc_grat (x : EccSt) (s : State) : (applyUpd (.ecc x) s).grat = s.grat := rfl
@[simp] theorem ecc_mash (x : EccSt) (s : State) : (applyUpd (.ecc x) s).mash = s.mash := rfl
@[simp] theorem ecc_tx (x : EccSt) (s : State) : (applyUpd (.ecc x) s).tx = s.tx := rfl
@[simp] theorem ecc_dpd (x : EccSt) (s : State) : (applyUpd (.ecc x) s).dpd = s.dpd := rfl
@[simp] theorem ecc_rx (x : EccSt) (s : State) : (applyUpd (.ecc x) s).rx = s.rx := rfl
@[simp] theorem ecc_conv (x : EccSt) (s : State) : (applyUpd (.ecc x) s).conv = s.conv := rfl
@[simp] theorem ecc_hk (x : EccSt) (s : State) : (applyUpd (.ecc x) s).hk = s.hk := rfl
@[simp] theorem ecc_radio (x : EccSt) (s : State) : (applyUpd (.ecc x) s).radio = s.radio := rfl
@[simp] theorem ecc_survey (x : EccSt) (s : State) : (applyUpd (.ecc x) s).survey = s.survey := rfl
@[simp] theorem ecc_bias (x : EccSt) (s : State) : (applyUpd (.ecc x) s).bias = s.bias := rfl
@[simp] theorem ecc_rffe (x : EccSt) (s : State) : (applyUpd (.ecc x) s).rffe = s.rffe := rfl
@[simp] theorem ecc_coex (x : EccSt) (s : State) : (applyUpd (.ecc x) s).coex = s.coex := rfl
@[simp] theorem ecc_tap (x : EccSt) (s : State) : (applyUpd (.ecc x) s).tap = s.tap := rfl
@[simp] theorem ecc_pending (x : EccSt) (s : State) : (applyUpd (.ecc x) s).pending = s.pending := rfl
@[simp] theorem host_cfg (x : HostSt) (s : State) : (applyUpd (.host x) s).cfg = s.cfg := rfl
@[simp] theorem host_regs (x : HostSt) (s : State) : (applyUpd (.host x) s).regs = s.regs := rfl
@[simp] theorem host_cnts (x : HostSt) (s : State) : (applyUpd (.host x) s).cnts = s.cnts := rfl
@[simp] theorem host_tots (x : HostSt) (s : State) : (applyUpd (.host x) s).tots = s.tots := rfl
@[simp] theorem host_free (x : HostSt) (s : State) : (applyUpd (.host x) s).free = s.free := rfl
@[simp] theorem host_tick (x : HostSt) (s : State) : (applyUpd (.host x) s).tick = s.tick := rfl
@[simp] theorem host_mem (x : HostSt) (s : State) : (applyUpd (.host x) s).mem = s.mem := rfl
@[simp] theorem host_ecc (x : HostSt) (s : State) : (applyUpd (.host x) s).ecc = s.ecc := rfl
@[simp] theorem host_host (x : HostSt) (s : State) : (applyUpd (.host x) s).host = x := rfl
@[simp] theorem host_mbx (x : HostSt) (s : State) : (applyUpd (.host x) s).mbx = s.mbx := rfl
@[simp] theorem host_log (x : HostSt) (s : State) : (applyUpd (.host x) s).log = s.log := rfl
@[simp] theorem host_evt (x : HostSt) (s : State) : (applyUpd (.host x) s).evt = s.evt := rfl
@[simp] theorem host_txn (x : HostSt) (s : State) : (applyUpd (.host x) s).txn = s.txn := rfl
@[simp] theorem host_clk (x : HostSt) (s : State) : (applyUpd (.host x) s).clk = s.clk := rfl
@[simp] theorem host_datum (x : HostSt) (s : State) : (applyUpd (.host x) s).datum = s.datum := rfl
@[simp] theorem host_pwr (x : HostSt) (s : State) : (applyUpd (.host x) s).pwr = s.pwr := rfl
@[simp] theorem host_kiln (x : HostSt) (s : State) : (applyUpd (.host x) s).kiln = s.kiln := rfl
@[simp] theorem host_boot (x : HostSt) (s : State) : (applyUpd (.host x) s).boot = s.boot := rfl
@[simp] theorem host_fuse (x : HostSt) (s : State) : (applyUpd (.host x) s).fuse = s.fuse := rfl
@[simp] theorem host_cap (x : HostSt) (s : State) : (applyUpd (.host x) s).cap = s.cap := rfl
@[simp] theorem host_sect (x : HostSt) (s : State) : (applyUpd (.host x) s).sect = s.sect := rfl
@[simp] theorem host_fh (x : HostSt) (s : State) : (applyUpd (.host x) s).fh = s.fh := rfl
@[simp] theorem host_grat (x : HostSt) (s : State) : (applyUpd (.host x) s).grat = s.grat := rfl
@[simp] theorem host_mash (x : HostSt) (s : State) : (applyUpd (.host x) s).mash = s.mash := rfl
@[simp] theorem host_tx (x : HostSt) (s : State) : (applyUpd (.host x) s).tx = s.tx := rfl
@[simp] theorem host_dpd (x : HostSt) (s : State) : (applyUpd (.host x) s).dpd = s.dpd := rfl
@[simp] theorem host_rx (x : HostSt) (s : State) : (applyUpd (.host x) s).rx = s.rx := rfl
@[simp] theorem host_conv (x : HostSt) (s : State) : (applyUpd (.host x) s).conv = s.conv := rfl
@[simp] theorem host_hk (x : HostSt) (s : State) : (applyUpd (.host x) s).hk = s.hk := rfl
@[simp] theorem host_radio (x : HostSt) (s : State) : (applyUpd (.host x) s).radio = s.radio := rfl
@[simp] theorem host_survey (x : HostSt) (s : State) : (applyUpd (.host x) s).survey = s.survey := rfl
@[simp] theorem host_bias (x : HostSt) (s : State) : (applyUpd (.host x) s).bias = s.bias := rfl
@[simp] theorem host_rffe (x : HostSt) (s : State) : (applyUpd (.host x) s).rffe = s.rffe := rfl
@[simp] theorem host_coex (x : HostSt) (s : State) : (applyUpd (.host x) s).coex = s.coex := rfl
@[simp] theorem host_tap (x : HostSt) (s : State) : (applyUpd (.host x) s).tap = s.tap := rfl
@[simp] theorem host_pending (x : HostSt) (s : State) : (applyUpd (.host x) s).pending = s.pending := rfl
@[simp] theorem mbx_cfg (x : MbxSt) (s : State) : (applyUpd (.mbx x) s).cfg = s.cfg := rfl
@[simp] theorem mbx_regs (x : MbxSt) (s : State) : (applyUpd (.mbx x) s).regs = s.regs := rfl
@[simp] theorem mbx_cnts (x : MbxSt) (s : State) : (applyUpd (.mbx x) s).cnts = s.cnts := rfl
@[simp] theorem mbx_tots (x : MbxSt) (s : State) : (applyUpd (.mbx x) s).tots = s.tots := rfl
@[simp] theorem mbx_free (x : MbxSt) (s : State) : (applyUpd (.mbx x) s).free = s.free := rfl
@[simp] theorem mbx_tick (x : MbxSt) (s : State) : (applyUpd (.mbx x) s).tick = s.tick := rfl
@[simp] theorem mbx_mem (x : MbxSt) (s : State) : (applyUpd (.mbx x) s).mem = s.mem := rfl
@[simp] theorem mbx_ecc (x : MbxSt) (s : State) : (applyUpd (.mbx x) s).ecc = s.ecc := rfl
@[simp] theorem mbx_host (x : MbxSt) (s : State) : (applyUpd (.mbx x) s).host = s.host := rfl
@[simp] theorem mbx_mbx (x : MbxSt) (s : State) : (applyUpd (.mbx x) s).mbx = x := rfl
@[simp] theorem mbx_log (x : MbxSt) (s : State) : (applyUpd (.mbx x) s).log = s.log := rfl
@[simp] theorem mbx_evt (x : MbxSt) (s : State) : (applyUpd (.mbx x) s).evt = s.evt := rfl
@[simp] theorem mbx_txn (x : MbxSt) (s : State) : (applyUpd (.mbx x) s).txn = s.txn := rfl
@[simp] theorem mbx_clk (x : MbxSt) (s : State) : (applyUpd (.mbx x) s).clk = s.clk := rfl
@[simp] theorem mbx_datum (x : MbxSt) (s : State) : (applyUpd (.mbx x) s).datum = s.datum := rfl
@[simp] theorem mbx_pwr (x : MbxSt) (s : State) : (applyUpd (.mbx x) s).pwr = s.pwr := rfl
@[simp] theorem mbx_kiln (x : MbxSt) (s : State) : (applyUpd (.mbx x) s).kiln = s.kiln := rfl
@[simp] theorem mbx_boot (x : MbxSt) (s : State) : (applyUpd (.mbx x) s).boot = s.boot := rfl
@[simp] theorem mbx_fuse (x : MbxSt) (s : State) : (applyUpd (.mbx x) s).fuse = s.fuse := rfl
@[simp] theorem mbx_cap (x : MbxSt) (s : State) : (applyUpd (.mbx x) s).cap = s.cap := rfl
@[simp] theorem mbx_sect (x : MbxSt) (s : State) : (applyUpd (.mbx x) s).sect = s.sect := rfl
@[simp] theorem mbx_fh (x : MbxSt) (s : State) : (applyUpd (.mbx x) s).fh = s.fh := rfl
@[simp] theorem mbx_grat (x : MbxSt) (s : State) : (applyUpd (.mbx x) s).grat = s.grat := rfl
@[simp] theorem mbx_mash (x : MbxSt) (s : State) : (applyUpd (.mbx x) s).mash = s.mash := rfl
@[simp] theorem mbx_tx (x : MbxSt) (s : State) : (applyUpd (.mbx x) s).tx = s.tx := rfl
@[simp] theorem mbx_dpd (x : MbxSt) (s : State) : (applyUpd (.mbx x) s).dpd = s.dpd := rfl
@[simp] theorem mbx_rx (x : MbxSt) (s : State) : (applyUpd (.mbx x) s).rx = s.rx := rfl
@[simp] theorem mbx_conv (x : MbxSt) (s : State) : (applyUpd (.mbx x) s).conv = s.conv := rfl
@[simp] theorem mbx_hk (x : MbxSt) (s : State) : (applyUpd (.mbx x) s).hk = s.hk := rfl
@[simp] theorem mbx_radio (x : MbxSt) (s : State) : (applyUpd (.mbx x) s).radio = s.radio := rfl
@[simp] theorem mbx_survey (x : MbxSt) (s : State) : (applyUpd (.mbx x) s).survey = s.survey := rfl
@[simp] theorem mbx_bias (x : MbxSt) (s : State) : (applyUpd (.mbx x) s).bias = s.bias := rfl
@[simp] theorem mbx_rffe (x : MbxSt) (s : State) : (applyUpd (.mbx x) s).rffe = s.rffe := rfl
@[simp] theorem mbx_coex (x : MbxSt) (s : State) : (applyUpd (.mbx x) s).coex = s.coex := rfl
@[simp] theorem mbx_tap (x : MbxSt) (s : State) : (applyUpd (.mbx x) s).tap = s.tap := rfl
@[simp] theorem mbx_pending (x : MbxSt) (s : State) : (applyUpd (.mbx x) s).pending = s.pending := rfl
@[simp] theorem txn_cfg (x : TxnSt) (s : State) : (applyUpd (.txn x) s).cfg = s.cfg := rfl
@[simp] theorem txn_regs (x : TxnSt) (s : State) : (applyUpd (.txn x) s).regs = s.regs := rfl
@[simp] theorem txn_cnts (x : TxnSt) (s : State) : (applyUpd (.txn x) s).cnts = s.cnts := rfl
@[simp] theorem txn_tots (x : TxnSt) (s : State) : (applyUpd (.txn x) s).tots = s.tots := rfl
@[simp] theorem txn_free (x : TxnSt) (s : State) : (applyUpd (.txn x) s).free = s.free := rfl
@[simp] theorem txn_tick (x : TxnSt) (s : State) : (applyUpd (.txn x) s).tick = s.tick := rfl
@[simp] theorem txn_mem (x : TxnSt) (s : State) : (applyUpd (.txn x) s).mem = s.mem := rfl
@[simp] theorem txn_ecc (x : TxnSt) (s : State) : (applyUpd (.txn x) s).ecc = s.ecc := rfl
@[simp] theorem txn_host (x : TxnSt) (s : State) : (applyUpd (.txn x) s).host = s.host := rfl
@[simp] theorem txn_mbx (x : TxnSt) (s : State) : (applyUpd (.txn x) s).mbx = s.mbx := rfl
@[simp] theorem txn_log (x : TxnSt) (s : State) : (applyUpd (.txn x) s).log = s.log := rfl
@[simp] theorem txn_evt (x : TxnSt) (s : State) : (applyUpd (.txn x) s).evt = s.evt := rfl
@[simp] theorem txn_txn (x : TxnSt) (s : State) : (applyUpd (.txn x) s).txn = x := rfl
@[simp] theorem txn_clk (x : TxnSt) (s : State) : (applyUpd (.txn x) s).clk = s.clk := rfl
@[simp] theorem txn_datum (x : TxnSt) (s : State) : (applyUpd (.txn x) s).datum = s.datum := rfl
@[simp] theorem txn_pwr (x : TxnSt) (s : State) : (applyUpd (.txn x) s).pwr = s.pwr := rfl
@[simp] theorem txn_kiln (x : TxnSt) (s : State) : (applyUpd (.txn x) s).kiln = s.kiln := rfl
@[simp] theorem txn_boot (x : TxnSt) (s : State) : (applyUpd (.txn x) s).boot = s.boot := rfl
@[simp] theorem txn_fuse (x : TxnSt) (s : State) : (applyUpd (.txn x) s).fuse = s.fuse := rfl
@[simp] theorem txn_cap (x : TxnSt) (s : State) : (applyUpd (.txn x) s).cap = s.cap := rfl
@[simp] theorem txn_sect (x : TxnSt) (s : State) : (applyUpd (.txn x) s).sect = s.sect := rfl
@[simp] theorem txn_fh (x : TxnSt) (s : State) : (applyUpd (.txn x) s).fh = s.fh := rfl
@[simp] theorem txn_grat (x : TxnSt) (s : State) : (applyUpd (.txn x) s).grat = s.grat := rfl
@[simp] theorem txn_mash (x : TxnSt) (s : State) : (applyUpd (.txn x) s).mash = s.mash := rfl
@[simp] theorem txn_tx (x : TxnSt) (s : State) : (applyUpd (.txn x) s).tx = s.tx := rfl
@[simp] theorem txn_dpd (x : TxnSt) (s : State) : (applyUpd (.txn x) s).dpd = s.dpd := rfl
@[simp] theorem txn_rx (x : TxnSt) (s : State) : (applyUpd (.txn x) s).rx = s.rx := rfl
@[simp] theorem txn_conv (x : TxnSt) (s : State) : (applyUpd (.txn x) s).conv = s.conv := rfl
@[simp] theorem txn_hk (x : TxnSt) (s : State) : (applyUpd (.txn x) s).hk = s.hk := rfl
@[simp] theorem txn_radio (x : TxnSt) (s : State) : (applyUpd (.txn x) s).radio = s.radio := rfl
@[simp] theorem txn_survey (x : TxnSt) (s : State) : (applyUpd (.txn x) s).survey = s.survey := rfl
@[simp] theorem txn_bias (x : TxnSt) (s : State) : (applyUpd (.txn x) s).bias = s.bias := rfl
@[simp] theorem txn_rffe (x : TxnSt) (s : State) : (applyUpd (.txn x) s).rffe = s.rffe := rfl
@[simp] theorem txn_coex (x : TxnSt) (s : State) : (applyUpd (.txn x) s).coex = s.coex := rfl
@[simp] theorem txn_tap (x : TxnSt) (s : State) : (applyUpd (.txn x) s).tap = s.tap := rfl
@[simp] theorem txn_pending (x : TxnSt) (s : State) : (applyUpd (.txn x) s).pending = s.pending := rfl
@[simp] theorem clk_cfg (x : ClkSt) (s : State) : (applyUpd (.clk x) s).cfg = s.cfg := rfl
@[simp] theorem clk_regs (x : ClkSt) (s : State) : (applyUpd (.clk x) s).regs = s.regs := rfl
@[simp] theorem clk_cnts (x : ClkSt) (s : State) : (applyUpd (.clk x) s).cnts = s.cnts := rfl
@[simp] theorem clk_tots (x : ClkSt) (s : State) : (applyUpd (.clk x) s).tots = s.tots := rfl
@[simp] theorem clk_free (x : ClkSt) (s : State) : (applyUpd (.clk x) s).free = s.free := rfl
@[simp] theorem clk_tick (x : ClkSt) (s : State) : (applyUpd (.clk x) s).tick = s.tick := rfl
@[simp] theorem clk_mem (x : ClkSt) (s : State) : (applyUpd (.clk x) s).mem = s.mem := rfl
@[simp] theorem clk_ecc (x : ClkSt) (s : State) : (applyUpd (.clk x) s).ecc = s.ecc := rfl
@[simp] theorem clk_host (x : ClkSt) (s : State) : (applyUpd (.clk x) s).host = s.host := rfl
@[simp] theorem clk_mbx (x : ClkSt) (s : State) : (applyUpd (.clk x) s).mbx = s.mbx := rfl
@[simp] theorem clk_log (x : ClkSt) (s : State) : (applyUpd (.clk x) s).log = s.log := rfl
@[simp] theorem clk_evt (x : ClkSt) (s : State) : (applyUpd (.clk x) s).evt = s.evt := rfl
@[simp] theorem clk_txn (x : ClkSt) (s : State) : (applyUpd (.clk x) s).txn = s.txn := rfl
@[simp] theorem clk_clk (x : ClkSt) (s : State) : (applyUpd (.clk x) s).clk = x := rfl
@[simp] theorem clk_datum (x : ClkSt) (s : State) : (applyUpd (.clk x) s).datum = s.datum := rfl
@[simp] theorem clk_pwr (x : ClkSt) (s : State) : (applyUpd (.clk x) s).pwr = s.pwr := rfl
@[simp] theorem clk_kiln (x : ClkSt) (s : State) : (applyUpd (.clk x) s).kiln = s.kiln := rfl
@[simp] theorem clk_boot (x : ClkSt) (s : State) : (applyUpd (.clk x) s).boot = s.boot := rfl
@[simp] theorem clk_fuse (x : ClkSt) (s : State) : (applyUpd (.clk x) s).fuse = s.fuse := rfl
@[simp] theorem clk_cap (x : ClkSt) (s : State) : (applyUpd (.clk x) s).cap = s.cap := rfl
@[simp] theorem clk_sect (x : ClkSt) (s : State) : (applyUpd (.clk x) s).sect = s.sect := rfl
@[simp] theorem clk_fh (x : ClkSt) (s : State) : (applyUpd (.clk x) s).fh = s.fh := rfl
@[simp] theorem clk_grat (x : ClkSt) (s : State) : (applyUpd (.clk x) s).grat = s.grat := rfl
@[simp] theorem clk_mash (x : ClkSt) (s : State) : (applyUpd (.clk x) s).mash = s.mash := rfl
@[simp] theorem clk_tx (x : ClkSt) (s : State) : (applyUpd (.clk x) s).tx = s.tx := rfl
@[simp] theorem clk_dpd (x : ClkSt) (s : State) : (applyUpd (.clk x) s).dpd = s.dpd := rfl
@[simp] theorem clk_rx (x : ClkSt) (s : State) : (applyUpd (.clk x) s).rx = s.rx := rfl
@[simp] theorem clk_conv (x : ClkSt) (s : State) : (applyUpd (.clk x) s).conv = s.conv := rfl
@[simp] theorem clk_hk (x : ClkSt) (s : State) : (applyUpd (.clk x) s).hk = s.hk := rfl
@[simp] theorem clk_radio (x : ClkSt) (s : State) : (applyUpd (.clk x) s).radio = s.radio := rfl
@[simp] theorem clk_survey (x : ClkSt) (s : State) : (applyUpd (.clk x) s).survey = s.survey := rfl
@[simp] theorem clk_bias (x : ClkSt) (s : State) : (applyUpd (.clk x) s).bias = s.bias := rfl
@[simp] theorem clk_rffe (x : ClkSt) (s : State) : (applyUpd (.clk x) s).rffe = s.rffe := rfl
@[simp] theorem clk_coex (x : ClkSt) (s : State) : (applyUpd (.clk x) s).coex = s.coex := rfl
@[simp] theorem clk_tap (x : ClkSt) (s : State) : (applyUpd (.clk x) s).tap = s.tap := rfl
@[simp] theorem clk_pending (x : ClkSt) (s : State) : (applyUpd (.clk x) s).pending = s.pending := rfl
@[simp] theorem datum_cfg (x : DatumSt) (s : State) : (applyUpd (.datum x) s).cfg = s.cfg := rfl
@[simp] theorem datum_regs (x : DatumSt) (s : State) : (applyUpd (.datum x) s).regs = s.regs := rfl
@[simp] theorem datum_cnts (x : DatumSt) (s : State) : (applyUpd (.datum x) s).cnts = s.cnts := rfl
@[simp] theorem datum_tots (x : DatumSt) (s : State) : (applyUpd (.datum x) s).tots = s.tots := rfl
@[simp] theorem datum_free (x : DatumSt) (s : State) : (applyUpd (.datum x) s).free = s.free := rfl
@[simp] theorem datum_tick (x : DatumSt) (s : State) : (applyUpd (.datum x) s).tick = s.tick := rfl
@[simp] theorem datum_mem (x : DatumSt) (s : State) : (applyUpd (.datum x) s).mem = s.mem := rfl
@[simp] theorem datum_ecc (x : DatumSt) (s : State) : (applyUpd (.datum x) s).ecc = s.ecc := rfl
@[simp] theorem datum_host (x : DatumSt) (s : State) : (applyUpd (.datum x) s).host = s.host := rfl
@[simp] theorem datum_mbx (x : DatumSt) (s : State) : (applyUpd (.datum x) s).mbx = s.mbx := rfl
@[simp] theorem datum_log (x : DatumSt) (s : State) : (applyUpd (.datum x) s).log = s.log := rfl
@[simp] theorem datum_evt (x : DatumSt) (s : State) : (applyUpd (.datum x) s).evt = s.evt := rfl
@[simp] theorem datum_txn (x : DatumSt) (s : State) : (applyUpd (.datum x) s).txn = s.txn := rfl
@[simp] theorem datum_clk (x : DatumSt) (s : State) : (applyUpd (.datum x) s).clk = s.clk := rfl
@[simp] theorem datum_datum (x : DatumSt) (s : State) : (applyUpd (.datum x) s).datum = x := rfl
@[simp] theorem datum_pwr (x : DatumSt) (s : State) : (applyUpd (.datum x) s).pwr = s.pwr := rfl
@[simp] theorem datum_kiln (x : DatumSt) (s : State) : (applyUpd (.datum x) s).kiln = s.kiln := rfl
@[simp] theorem datum_boot (x : DatumSt) (s : State) : (applyUpd (.datum x) s).boot = s.boot := rfl
@[simp] theorem datum_fuse (x : DatumSt) (s : State) : (applyUpd (.datum x) s).fuse = s.fuse := rfl
@[simp] theorem datum_cap (x : DatumSt) (s : State) : (applyUpd (.datum x) s).cap = s.cap := rfl
@[simp] theorem datum_sect (x : DatumSt) (s : State) : (applyUpd (.datum x) s).sect = s.sect := rfl
@[simp] theorem datum_fh (x : DatumSt) (s : State) : (applyUpd (.datum x) s).fh = s.fh := rfl
@[simp] theorem datum_grat (x : DatumSt) (s : State) : (applyUpd (.datum x) s).grat = s.grat := rfl
@[simp] theorem datum_mash (x : DatumSt) (s : State) : (applyUpd (.datum x) s).mash = s.mash := rfl
@[simp] theorem datum_tx (x : DatumSt) (s : State) : (applyUpd (.datum x) s).tx = s.tx := rfl
@[simp] theorem datum_dpd (x : DatumSt) (s : State) : (applyUpd (.datum x) s).dpd = s.dpd := rfl
@[simp] theorem datum_rx (x : DatumSt) (s : State) : (applyUpd (.datum x) s).rx = s.rx := rfl
@[simp] theorem datum_conv (x : DatumSt) (s : State) : (applyUpd (.datum x) s).conv = s.conv := rfl
@[simp] theorem datum_hk (x : DatumSt) (s : State) : (applyUpd (.datum x) s).hk = s.hk := rfl
@[simp] theorem datum_radio (x : DatumSt) (s : State) : (applyUpd (.datum x) s).radio = s.radio := rfl
@[simp] theorem datum_survey (x : DatumSt) (s : State) : (applyUpd (.datum x) s).survey = s.survey := rfl
@[simp] theorem datum_bias (x : DatumSt) (s : State) : (applyUpd (.datum x) s).bias = s.bias := rfl
@[simp] theorem datum_rffe (x : DatumSt) (s : State) : (applyUpd (.datum x) s).rffe = s.rffe := rfl
@[simp] theorem datum_coex (x : DatumSt) (s : State) : (applyUpd (.datum x) s).coex = s.coex := rfl
@[simp] theorem datum_tap (x : DatumSt) (s : State) : (applyUpd (.datum x) s).tap = s.tap := rfl
@[simp] theorem datum_pending (x : DatumSt) (s : State) : (applyUpd (.datum x) s).pending = s.pending := rfl
@[simp] theorem pwr_cfg (x : PwrSt) (s : State) : (applyUpd (.pwr x) s).cfg = s.cfg := rfl
@[simp] theorem pwr_regs (x : PwrSt) (s : State) : (applyUpd (.pwr x) s).regs = s.regs := rfl
@[simp] theorem pwr_cnts (x : PwrSt) (s : State) : (applyUpd (.pwr x) s).cnts = s.cnts := rfl
@[simp] theorem pwr_tots (x : PwrSt) (s : State) : (applyUpd (.pwr x) s).tots = s.tots := rfl
@[simp] theorem pwr_free (x : PwrSt) (s : State) : (applyUpd (.pwr x) s).free = s.free := rfl
@[simp] theorem pwr_tick (x : PwrSt) (s : State) : (applyUpd (.pwr x) s).tick = s.tick := rfl
@[simp] theorem pwr_mem (x : PwrSt) (s : State) : (applyUpd (.pwr x) s).mem = s.mem := rfl
@[simp] theorem pwr_ecc (x : PwrSt) (s : State) : (applyUpd (.pwr x) s).ecc = s.ecc := rfl
@[simp] theorem pwr_host (x : PwrSt) (s : State) : (applyUpd (.pwr x) s).host = s.host := rfl
@[simp] theorem pwr_mbx (x : PwrSt) (s : State) : (applyUpd (.pwr x) s).mbx = s.mbx := rfl
@[simp] theorem pwr_log (x : PwrSt) (s : State) : (applyUpd (.pwr x) s).log = s.log := rfl
@[simp] theorem pwr_evt (x : PwrSt) (s : State) : (applyUpd (.pwr x) s).evt = s.evt := rfl
@[simp] theorem pwr_txn (x : PwrSt) (s : State) : (applyUpd (.pwr x) s).txn = s.txn := rfl
@[simp] theorem pwr_clk (x : PwrSt) (s : State) : (applyUpd (.pwr x) s).clk = s.clk := rfl
@[simp] theorem pwr_datum (x : PwrSt) (s : State) : (applyUpd (.pwr x) s).datum = s.datum := rfl
@[simp] theorem pwr_pwr (x : PwrSt) (s : State) : (applyUpd (.pwr x) s).pwr = x := rfl
@[simp] theorem pwr_kiln (x : PwrSt) (s : State) : (applyUpd (.pwr x) s).kiln = s.kiln := rfl
@[simp] theorem pwr_boot (x : PwrSt) (s : State) : (applyUpd (.pwr x) s).boot = s.boot := rfl
@[simp] theorem pwr_fuse (x : PwrSt) (s : State) : (applyUpd (.pwr x) s).fuse = s.fuse := rfl
@[simp] theorem pwr_cap (x : PwrSt) (s : State) : (applyUpd (.pwr x) s).cap = s.cap := rfl
@[simp] theorem pwr_sect (x : PwrSt) (s : State) : (applyUpd (.pwr x) s).sect = s.sect := rfl
@[simp] theorem pwr_fh (x : PwrSt) (s : State) : (applyUpd (.pwr x) s).fh = s.fh := rfl
@[simp] theorem pwr_grat (x : PwrSt) (s : State) : (applyUpd (.pwr x) s).grat = s.grat := rfl
@[simp] theorem pwr_mash (x : PwrSt) (s : State) : (applyUpd (.pwr x) s).mash = s.mash := rfl
@[simp] theorem pwr_tx (x : PwrSt) (s : State) : (applyUpd (.pwr x) s).tx = s.tx := rfl
@[simp] theorem pwr_dpd (x : PwrSt) (s : State) : (applyUpd (.pwr x) s).dpd = s.dpd := rfl
@[simp] theorem pwr_rx (x : PwrSt) (s : State) : (applyUpd (.pwr x) s).rx = s.rx := rfl
@[simp] theorem pwr_conv (x : PwrSt) (s : State) : (applyUpd (.pwr x) s).conv = s.conv := rfl
@[simp] theorem pwr_hk (x : PwrSt) (s : State) : (applyUpd (.pwr x) s).hk = s.hk := rfl
@[simp] theorem pwr_radio (x : PwrSt) (s : State) : (applyUpd (.pwr x) s).radio = s.radio := rfl
@[simp] theorem pwr_survey (x : PwrSt) (s : State) : (applyUpd (.pwr x) s).survey = s.survey := rfl
@[simp] theorem pwr_bias (x : PwrSt) (s : State) : (applyUpd (.pwr x) s).bias = s.bias := rfl
@[simp] theorem pwr_rffe (x : PwrSt) (s : State) : (applyUpd (.pwr x) s).rffe = s.rffe := rfl
@[simp] theorem pwr_coex (x : PwrSt) (s : State) : (applyUpd (.pwr x) s).coex = s.coex := rfl
@[simp] theorem pwr_tap (x : PwrSt) (s : State) : (applyUpd (.pwr x) s).tap = s.tap := rfl
@[simp] theorem pwr_pending (x : PwrSt) (s : State) : (applyUpd (.pwr x) s).pending = s.pending := rfl
@[simp] theorem kiln_cfg (x : KilnSt) (s : State) : (applyUpd (.kiln x) s).cfg = s.cfg := rfl
@[simp] theorem kiln_regs (x : KilnSt) (s : State) : (applyUpd (.kiln x) s).regs = s.regs := rfl
@[simp] theorem kiln_cnts (x : KilnSt) (s : State) : (applyUpd (.kiln x) s).cnts = s.cnts := rfl
@[simp] theorem kiln_tots (x : KilnSt) (s : State) : (applyUpd (.kiln x) s).tots = s.tots := rfl
@[simp] theorem kiln_free (x : KilnSt) (s : State) : (applyUpd (.kiln x) s).free = s.free := rfl
@[simp] theorem kiln_tick (x : KilnSt) (s : State) : (applyUpd (.kiln x) s).tick = s.tick := rfl
@[simp] theorem kiln_mem (x : KilnSt) (s : State) : (applyUpd (.kiln x) s).mem = s.mem := rfl
@[simp] theorem kiln_ecc (x : KilnSt) (s : State) : (applyUpd (.kiln x) s).ecc = s.ecc := rfl
@[simp] theorem kiln_host (x : KilnSt) (s : State) : (applyUpd (.kiln x) s).host = s.host := rfl
@[simp] theorem kiln_mbx (x : KilnSt) (s : State) : (applyUpd (.kiln x) s).mbx = s.mbx := rfl
@[simp] theorem kiln_log (x : KilnSt) (s : State) : (applyUpd (.kiln x) s).log = s.log := rfl
@[simp] theorem kiln_evt (x : KilnSt) (s : State) : (applyUpd (.kiln x) s).evt = s.evt := rfl
@[simp] theorem kiln_txn (x : KilnSt) (s : State) : (applyUpd (.kiln x) s).txn = s.txn := rfl
@[simp] theorem kiln_clk (x : KilnSt) (s : State) : (applyUpd (.kiln x) s).clk = s.clk := rfl
@[simp] theorem kiln_datum (x : KilnSt) (s : State) : (applyUpd (.kiln x) s).datum = s.datum := rfl
@[simp] theorem kiln_pwr (x : KilnSt) (s : State) : (applyUpd (.kiln x) s).pwr = s.pwr := rfl
@[simp] theorem kiln_kiln (x : KilnSt) (s : State) : (applyUpd (.kiln x) s).kiln = x := rfl
@[simp] theorem kiln_boot (x : KilnSt) (s : State) : (applyUpd (.kiln x) s).boot = s.boot := rfl
@[simp] theorem kiln_fuse (x : KilnSt) (s : State) : (applyUpd (.kiln x) s).fuse = s.fuse := rfl
@[simp] theorem kiln_cap (x : KilnSt) (s : State) : (applyUpd (.kiln x) s).cap = s.cap := rfl
@[simp] theorem kiln_sect (x : KilnSt) (s : State) : (applyUpd (.kiln x) s).sect = s.sect := rfl
@[simp] theorem kiln_fh (x : KilnSt) (s : State) : (applyUpd (.kiln x) s).fh = s.fh := rfl
@[simp] theorem kiln_grat (x : KilnSt) (s : State) : (applyUpd (.kiln x) s).grat = s.grat := rfl
@[simp] theorem kiln_mash (x : KilnSt) (s : State) : (applyUpd (.kiln x) s).mash = s.mash := rfl
@[simp] theorem kiln_tx (x : KilnSt) (s : State) : (applyUpd (.kiln x) s).tx = s.tx := rfl
@[simp] theorem kiln_dpd (x : KilnSt) (s : State) : (applyUpd (.kiln x) s).dpd = s.dpd := rfl
@[simp] theorem kiln_rx (x : KilnSt) (s : State) : (applyUpd (.kiln x) s).rx = s.rx := rfl
@[simp] theorem kiln_conv (x : KilnSt) (s : State) : (applyUpd (.kiln x) s).conv = s.conv := rfl
@[simp] theorem kiln_hk (x : KilnSt) (s : State) : (applyUpd (.kiln x) s).hk = s.hk := rfl
@[simp] theorem kiln_radio (x : KilnSt) (s : State) : (applyUpd (.kiln x) s).radio = s.radio := rfl
@[simp] theorem kiln_survey (x : KilnSt) (s : State) : (applyUpd (.kiln x) s).survey = s.survey := rfl
@[simp] theorem kiln_bias (x : KilnSt) (s : State) : (applyUpd (.kiln x) s).bias = s.bias := rfl
@[simp] theorem kiln_rffe (x : KilnSt) (s : State) : (applyUpd (.kiln x) s).rffe = s.rffe := rfl
@[simp] theorem kiln_coex (x : KilnSt) (s : State) : (applyUpd (.kiln x) s).coex = s.coex := rfl
@[simp] theorem kiln_tap (x : KilnSt) (s : State) : (applyUpd (.kiln x) s).tap = s.tap := rfl
@[simp] theorem kiln_pending (x : KilnSt) (s : State) : (applyUpd (.kiln x) s).pending = s.pending := rfl
@[simp] theorem boot_cfg (x : BootSt) (s : State) : (applyUpd (.boot x) s).cfg = s.cfg := rfl
@[simp] theorem boot_regs (x : BootSt) (s : State) : (applyUpd (.boot x) s).regs = s.regs := rfl
@[simp] theorem boot_cnts (x : BootSt) (s : State) : (applyUpd (.boot x) s).cnts = s.cnts := rfl
@[simp] theorem boot_tots (x : BootSt) (s : State) : (applyUpd (.boot x) s).tots = s.tots := rfl
@[simp] theorem boot_free (x : BootSt) (s : State) : (applyUpd (.boot x) s).free = s.free := rfl
@[simp] theorem boot_tick (x : BootSt) (s : State) : (applyUpd (.boot x) s).tick = s.tick := rfl
@[simp] theorem boot_mem (x : BootSt) (s : State) : (applyUpd (.boot x) s).mem = s.mem := rfl
@[simp] theorem boot_ecc (x : BootSt) (s : State) : (applyUpd (.boot x) s).ecc = s.ecc := rfl
@[simp] theorem boot_host (x : BootSt) (s : State) : (applyUpd (.boot x) s).host = s.host := rfl
@[simp] theorem boot_mbx (x : BootSt) (s : State) : (applyUpd (.boot x) s).mbx = s.mbx := rfl
@[simp] theorem boot_log (x : BootSt) (s : State) : (applyUpd (.boot x) s).log = s.log := rfl
@[simp] theorem boot_evt (x : BootSt) (s : State) : (applyUpd (.boot x) s).evt = s.evt := rfl
@[simp] theorem boot_txn (x : BootSt) (s : State) : (applyUpd (.boot x) s).txn = s.txn := rfl
@[simp] theorem boot_clk (x : BootSt) (s : State) : (applyUpd (.boot x) s).clk = s.clk := rfl
@[simp] theorem boot_datum (x : BootSt) (s : State) : (applyUpd (.boot x) s).datum = s.datum := rfl
@[simp] theorem boot_pwr (x : BootSt) (s : State) : (applyUpd (.boot x) s).pwr = s.pwr := rfl
@[simp] theorem boot_kiln (x : BootSt) (s : State) : (applyUpd (.boot x) s).kiln = s.kiln := rfl
@[simp] theorem boot_boot (x : BootSt) (s : State) : (applyUpd (.boot x) s).boot = x := rfl
@[simp] theorem boot_fuse (x : BootSt) (s : State) : (applyUpd (.boot x) s).fuse = s.fuse := rfl
@[simp] theorem boot_cap (x : BootSt) (s : State) : (applyUpd (.boot x) s).cap = s.cap := rfl
@[simp] theorem boot_sect (x : BootSt) (s : State) : (applyUpd (.boot x) s).sect = s.sect := rfl
@[simp] theorem boot_fh (x : BootSt) (s : State) : (applyUpd (.boot x) s).fh = s.fh := rfl
@[simp] theorem boot_grat (x : BootSt) (s : State) : (applyUpd (.boot x) s).grat = s.grat := rfl
@[simp] theorem boot_mash (x : BootSt) (s : State) : (applyUpd (.boot x) s).mash = s.mash := rfl
@[simp] theorem boot_tx (x : BootSt) (s : State) : (applyUpd (.boot x) s).tx = s.tx := rfl
@[simp] theorem boot_dpd (x : BootSt) (s : State) : (applyUpd (.boot x) s).dpd = s.dpd := rfl
@[simp] theorem boot_rx (x : BootSt) (s : State) : (applyUpd (.boot x) s).rx = s.rx := rfl
@[simp] theorem boot_conv (x : BootSt) (s : State) : (applyUpd (.boot x) s).conv = s.conv := rfl
@[simp] theorem boot_hk (x : BootSt) (s : State) : (applyUpd (.boot x) s).hk = s.hk := rfl
@[simp] theorem boot_radio (x : BootSt) (s : State) : (applyUpd (.boot x) s).radio = s.radio := rfl
@[simp] theorem boot_survey (x : BootSt) (s : State) : (applyUpd (.boot x) s).survey = s.survey := rfl
@[simp] theorem boot_bias (x : BootSt) (s : State) : (applyUpd (.boot x) s).bias = s.bias := rfl
@[simp] theorem boot_rffe (x : BootSt) (s : State) : (applyUpd (.boot x) s).rffe = s.rffe := rfl
@[simp] theorem boot_coex (x : BootSt) (s : State) : (applyUpd (.boot x) s).coex = s.coex := rfl
@[simp] theorem boot_tap (x : BootSt) (s : State) : (applyUpd (.boot x) s).tap = s.tap := rfl
@[simp] theorem boot_pending (x : BootSt) (s : State) : (applyUpd (.boot x) s).pending = s.pending := rfl
@[simp] theorem cap_cfg (x : CapSt) (s : State) : (applyUpd (.cap x) s).cfg = s.cfg := rfl
@[simp] theorem cap_regs (x : CapSt) (s : State) : (applyUpd (.cap x) s).regs = s.regs := rfl
@[simp] theorem cap_cnts (x : CapSt) (s : State) : (applyUpd (.cap x) s).cnts = s.cnts := rfl
@[simp] theorem cap_tots (x : CapSt) (s : State) : (applyUpd (.cap x) s).tots = s.tots := rfl
@[simp] theorem cap_free (x : CapSt) (s : State) : (applyUpd (.cap x) s).free = s.free := rfl
@[simp] theorem cap_tick (x : CapSt) (s : State) : (applyUpd (.cap x) s).tick = s.tick := rfl
@[simp] theorem cap_mem (x : CapSt) (s : State) : (applyUpd (.cap x) s).mem = s.mem := rfl
@[simp] theorem cap_ecc (x : CapSt) (s : State) : (applyUpd (.cap x) s).ecc = s.ecc := rfl
@[simp] theorem cap_host (x : CapSt) (s : State) : (applyUpd (.cap x) s).host = s.host := rfl
@[simp] theorem cap_mbx (x : CapSt) (s : State) : (applyUpd (.cap x) s).mbx = s.mbx := rfl
@[simp] theorem cap_log (x : CapSt) (s : State) : (applyUpd (.cap x) s).log = s.log := rfl
@[simp] theorem cap_evt (x : CapSt) (s : State) : (applyUpd (.cap x) s).evt = s.evt := rfl
@[simp] theorem cap_txn (x : CapSt) (s : State) : (applyUpd (.cap x) s).txn = s.txn := rfl
@[simp] theorem cap_clk (x : CapSt) (s : State) : (applyUpd (.cap x) s).clk = s.clk := rfl
@[simp] theorem cap_datum (x : CapSt) (s : State) : (applyUpd (.cap x) s).datum = s.datum := rfl
@[simp] theorem cap_pwr (x : CapSt) (s : State) : (applyUpd (.cap x) s).pwr = s.pwr := rfl
@[simp] theorem cap_kiln (x : CapSt) (s : State) : (applyUpd (.cap x) s).kiln = s.kiln := rfl
@[simp] theorem cap_boot (x : CapSt) (s : State) : (applyUpd (.cap x) s).boot = s.boot := rfl
@[simp] theorem cap_fuse (x : CapSt) (s : State) : (applyUpd (.cap x) s).fuse = s.fuse := rfl
@[simp] theorem cap_cap (x : CapSt) (s : State) : (applyUpd (.cap x) s).cap = x := rfl
@[simp] theorem cap_sect (x : CapSt) (s : State) : (applyUpd (.cap x) s).sect = s.sect := rfl
@[simp] theorem cap_fh (x : CapSt) (s : State) : (applyUpd (.cap x) s).fh = s.fh := rfl
@[simp] theorem cap_grat (x : CapSt) (s : State) : (applyUpd (.cap x) s).grat = s.grat := rfl
@[simp] theorem cap_mash (x : CapSt) (s : State) : (applyUpd (.cap x) s).mash = s.mash := rfl
@[simp] theorem cap_tx (x : CapSt) (s : State) : (applyUpd (.cap x) s).tx = s.tx := rfl
@[simp] theorem cap_dpd (x : CapSt) (s : State) : (applyUpd (.cap x) s).dpd = s.dpd := rfl
@[simp] theorem cap_rx (x : CapSt) (s : State) : (applyUpd (.cap x) s).rx = s.rx := rfl
@[simp] theorem cap_conv (x : CapSt) (s : State) : (applyUpd (.cap x) s).conv = s.conv := rfl
@[simp] theorem cap_hk (x : CapSt) (s : State) : (applyUpd (.cap x) s).hk = s.hk := rfl
@[simp] theorem cap_radio (x : CapSt) (s : State) : (applyUpd (.cap x) s).radio = s.radio := rfl
@[simp] theorem cap_survey (x : CapSt) (s : State) : (applyUpd (.cap x) s).survey = s.survey := rfl
@[simp] theorem cap_bias (x : CapSt) (s : State) : (applyUpd (.cap x) s).bias = s.bias := rfl
@[simp] theorem cap_rffe (x : CapSt) (s : State) : (applyUpd (.cap x) s).rffe = s.rffe := rfl
@[simp] theorem cap_coex (x : CapSt) (s : State) : (applyUpd (.cap x) s).coex = s.coex := rfl
@[simp] theorem cap_tap (x : CapSt) (s : State) : (applyUpd (.cap x) s).tap = s.tap := rfl
@[simp] theorem cap_pending (x : CapSt) (s : State) : (applyUpd (.cap x) s).pending = s.pending := rfl
@[simp] theorem sect_cfg (x : SectSt) (s : State) : (applyUpd (.sect x) s).cfg = s.cfg := rfl
@[simp] theorem sect_regs (x : SectSt) (s : State) : (applyUpd (.sect x) s).regs = s.regs := rfl
@[simp] theorem sect_cnts (x : SectSt) (s : State) : (applyUpd (.sect x) s).cnts = s.cnts := rfl
@[simp] theorem sect_tots (x : SectSt) (s : State) : (applyUpd (.sect x) s).tots = s.tots := rfl
@[simp] theorem sect_free (x : SectSt) (s : State) : (applyUpd (.sect x) s).free = s.free := rfl
@[simp] theorem sect_tick (x : SectSt) (s : State) : (applyUpd (.sect x) s).tick = s.tick := rfl
@[simp] theorem sect_mem (x : SectSt) (s : State) : (applyUpd (.sect x) s).mem = s.mem := rfl
@[simp] theorem sect_ecc (x : SectSt) (s : State) : (applyUpd (.sect x) s).ecc = s.ecc := rfl
@[simp] theorem sect_host (x : SectSt) (s : State) : (applyUpd (.sect x) s).host = s.host := rfl
@[simp] theorem sect_mbx (x : SectSt) (s : State) : (applyUpd (.sect x) s).mbx = s.mbx := rfl
@[simp] theorem sect_log (x : SectSt) (s : State) : (applyUpd (.sect x) s).log = s.log := rfl
@[simp] theorem sect_evt (x : SectSt) (s : State) : (applyUpd (.sect x) s).evt = s.evt := rfl
@[simp] theorem sect_txn (x : SectSt) (s : State) : (applyUpd (.sect x) s).txn = s.txn := rfl
@[simp] theorem sect_clk (x : SectSt) (s : State) : (applyUpd (.sect x) s).clk = s.clk := rfl
@[simp] theorem sect_datum (x : SectSt) (s : State) : (applyUpd (.sect x) s).datum = s.datum := rfl
@[simp] theorem sect_pwr (x : SectSt) (s : State) : (applyUpd (.sect x) s).pwr = s.pwr := rfl
@[simp] theorem sect_kiln (x : SectSt) (s : State) : (applyUpd (.sect x) s).kiln = s.kiln := rfl
@[simp] theorem sect_boot (x : SectSt) (s : State) : (applyUpd (.sect x) s).boot = s.boot := rfl
@[simp] theorem sect_fuse (x : SectSt) (s : State) : (applyUpd (.sect x) s).fuse = s.fuse := rfl
@[simp] theorem sect_cap (x : SectSt) (s : State) : (applyUpd (.sect x) s).cap = s.cap := rfl
@[simp] theorem sect_sect (x : SectSt) (s : State) : (applyUpd (.sect x) s).sect = x := rfl
@[simp] theorem sect_fh (x : SectSt) (s : State) : (applyUpd (.sect x) s).fh = s.fh := rfl
@[simp] theorem sect_grat (x : SectSt) (s : State) : (applyUpd (.sect x) s).grat = s.grat := rfl
@[simp] theorem sect_mash (x : SectSt) (s : State) : (applyUpd (.sect x) s).mash = s.mash := rfl
@[simp] theorem sect_tx (x : SectSt) (s : State) : (applyUpd (.sect x) s).tx = s.tx := rfl
@[simp] theorem sect_dpd (x : SectSt) (s : State) : (applyUpd (.sect x) s).dpd = s.dpd := rfl
@[simp] theorem sect_rx (x : SectSt) (s : State) : (applyUpd (.sect x) s).rx = s.rx := rfl
@[simp] theorem sect_conv (x : SectSt) (s : State) : (applyUpd (.sect x) s).conv = s.conv := rfl
@[simp] theorem sect_hk (x : SectSt) (s : State) : (applyUpd (.sect x) s).hk = s.hk := rfl
@[simp] theorem sect_radio (x : SectSt) (s : State) : (applyUpd (.sect x) s).radio = s.radio := rfl
@[simp] theorem sect_survey (x : SectSt) (s : State) : (applyUpd (.sect x) s).survey = s.survey := rfl
@[simp] theorem sect_bias (x : SectSt) (s : State) : (applyUpd (.sect x) s).bias = s.bias := rfl
@[simp] theorem sect_rffe (x : SectSt) (s : State) : (applyUpd (.sect x) s).rffe = s.rffe := rfl
@[simp] theorem sect_coex (x : SectSt) (s : State) : (applyUpd (.sect x) s).coex = s.coex := rfl
@[simp] theorem sect_tap (x : SectSt) (s : State) : (applyUpd (.sect x) s).tap = s.tap := rfl
@[simp] theorem sect_pending (x : SectSt) (s : State) : (applyUpd (.sect x) s).pending = s.pending := rfl
@[simp] theorem fh_cfg (x : FhSt) (s : State) : (applyUpd (.fh x) s).cfg = s.cfg := rfl
@[simp] theorem fh_regs (x : FhSt) (s : State) : (applyUpd (.fh x) s).regs = s.regs := rfl
@[simp] theorem fh_cnts (x : FhSt) (s : State) : (applyUpd (.fh x) s).cnts = s.cnts := rfl
@[simp] theorem fh_tots (x : FhSt) (s : State) : (applyUpd (.fh x) s).tots = s.tots := rfl
@[simp] theorem fh_free (x : FhSt) (s : State) : (applyUpd (.fh x) s).free = s.free := rfl
@[simp] theorem fh_tick (x : FhSt) (s : State) : (applyUpd (.fh x) s).tick = s.tick := rfl
@[simp] theorem fh_mem (x : FhSt) (s : State) : (applyUpd (.fh x) s).mem = s.mem := rfl
@[simp] theorem fh_ecc (x : FhSt) (s : State) : (applyUpd (.fh x) s).ecc = s.ecc := rfl
@[simp] theorem fh_host (x : FhSt) (s : State) : (applyUpd (.fh x) s).host = s.host := rfl
@[simp] theorem fh_mbx (x : FhSt) (s : State) : (applyUpd (.fh x) s).mbx = s.mbx := rfl
@[simp] theorem fh_log (x : FhSt) (s : State) : (applyUpd (.fh x) s).log = s.log := rfl
@[simp] theorem fh_evt (x : FhSt) (s : State) : (applyUpd (.fh x) s).evt = s.evt := rfl
@[simp] theorem fh_txn (x : FhSt) (s : State) : (applyUpd (.fh x) s).txn = s.txn := rfl
@[simp] theorem fh_clk (x : FhSt) (s : State) : (applyUpd (.fh x) s).clk = s.clk := rfl
@[simp] theorem fh_datum (x : FhSt) (s : State) : (applyUpd (.fh x) s).datum = s.datum := rfl
@[simp] theorem fh_pwr (x : FhSt) (s : State) : (applyUpd (.fh x) s).pwr = s.pwr := rfl
@[simp] theorem fh_kiln (x : FhSt) (s : State) : (applyUpd (.fh x) s).kiln = s.kiln := rfl
@[simp] theorem fh_boot (x : FhSt) (s : State) : (applyUpd (.fh x) s).boot = s.boot := rfl
@[simp] theorem fh_fuse (x : FhSt) (s : State) : (applyUpd (.fh x) s).fuse = s.fuse := rfl
@[simp] theorem fh_cap (x : FhSt) (s : State) : (applyUpd (.fh x) s).cap = s.cap := rfl
@[simp] theorem fh_sect (x : FhSt) (s : State) : (applyUpd (.fh x) s).sect = s.sect := rfl
@[simp] theorem fh_fh (x : FhSt) (s : State) : (applyUpd (.fh x) s).fh = x := rfl
@[simp] theorem fh_grat (x : FhSt) (s : State) : (applyUpd (.fh x) s).grat = s.grat := rfl
@[simp] theorem fh_mash (x : FhSt) (s : State) : (applyUpd (.fh x) s).mash = s.mash := rfl
@[simp] theorem fh_tx (x : FhSt) (s : State) : (applyUpd (.fh x) s).tx = s.tx := rfl
@[simp] theorem fh_dpd (x : FhSt) (s : State) : (applyUpd (.fh x) s).dpd = s.dpd := rfl
@[simp] theorem fh_rx (x : FhSt) (s : State) : (applyUpd (.fh x) s).rx = s.rx := rfl
@[simp] theorem fh_conv (x : FhSt) (s : State) : (applyUpd (.fh x) s).conv = s.conv := rfl
@[simp] theorem fh_hk (x : FhSt) (s : State) : (applyUpd (.fh x) s).hk = s.hk := rfl
@[simp] theorem fh_radio (x : FhSt) (s : State) : (applyUpd (.fh x) s).radio = s.radio := rfl
@[simp] theorem fh_survey (x : FhSt) (s : State) : (applyUpd (.fh x) s).survey = s.survey := rfl
@[simp] theorem fh_bias (x : FhSt) (s : State) : (applyUpd (.fh x) s).bias = s.bias := rfl
@[simp] theorem fh_rffe (x : FhSt) (s : State) : (applyUpd (.fh x) s).rffe = s.rffe := rfl
@[simp] theorem fh_coex (x : FhSt) (s : State) : (applyUpd (.fh x) s).coex = s.coex := rfl
@[simp] theorem fh_tap (x : FhSt) (s : State) : (applyUpd (.fh x) s).tap = s.tap := rfl
@[simp] theorem fh_pending (x : FhSt) (s : State) : (applyUpd (.fh x) s).pending = s.pending := rfl
@[simp] theorem grat_cfg (x : GratSt) (s : State) : (applyUpd (.grat x) s).cfg = s.cfg := rfl
@[simp] theorem grat_regs (x : GratSt) (s : State) : (applyUpd (.grat x) s).regs = s.regs := rfl
@[simp] theorem grat_cnts (x : GratSt) (s : State) : (applyUpd (.grat x) s).cnts = s.cnts := rfl
@[simp] theorem grat_tots (x : GratSt) (s : State) : (applyUpd (.grat x) s).tots = s.tots := rfl
@[simp] theorem grat_free (x : GratSt) (s : State) : (applyUpd (.grat x) s).free = s.free := rfl
@[simp] theorem grat_tick (x : GratSt) (s : State) : (applyUpd (.grat x) s).tick = s.tick := rfl
@[simp] theorem grat_mem (x : GratSt) (s : State) : (applyUpd (.grat x) s).mem = s.mem := rfl
@[simp] theorem grat_ecc (x : GratSt) (s : State) : (applyUpd (.grat x) s).ecc = s.ecc := rfl
@[simp] theorem grat_host (x : GratSt) (s : State) : (applyUpd (.grat x) s).host = s.host := rfl
@[simp] theorem grat_mbx (x : GratSt) (s : State) : (applyUpd (.grat x) s).mbx = s.mbx := rfl
@[simp] theorem grat_log (x : GratSt) (s : State) : (applyUpd (.grat x) s).log = s.log := rfl
@[simp] theorem grat_evt (x : GratSt) (s : State) : (applyUpd (.grat x) s).evt = s.evt := rfl
@[simp] theorem grat_txn (x : GratSt) (s : State) : (applyUpd (.grat x) s).txn = s.txn := rfl
@[simp] theorem grat_clk (x : GratSt) (s : State) : (applyUpd (.grat x) s).clk = s.clk := rfl
@[simp] theorem grat_datum (x : GratSt) (s : State) : (applyUpd (.grat x) s).datum = s.datum := rfl
@[simp] theorem grat_pwr (x : GratSt) (s : State) : (applyUpd (.grat x) s).pwr = s.pwr := rfl
@[simp] theorem grat_kiln (x : GratSt) (s : State) : (applyUpd (.grat x) s).kiln = s.kiln := rfl
@[simp] theorem grat_boot (x : GratSt) (s : State) : (applyUpd (.grat x) s).boot = s.boot := rfl
@[simp] theorem grat_fuse (x : GratSt) (s : State) : (applyUpd (.grat x) s).fuse = s.fuse := rfl
@[simp] theorem grat_cap (x : GratSt) (s : State) : (applyUpd (.grat x) s).cap = s.cap := rfl
@[simp] theorem grat_sect (x : GratSt) (s : State) : (applyUpd (.grat x) s).sect = s.sect := rfl
@[simp] theorem grat_fh (x : GratSt) (s : State) : (applyUpd (.grat x) s).fh = s.fh := rfl
@[simp] theorem grat_grat (x : GratSt) (s : State) : (applyUpd (.grat x) s).grat = x := rfl
@[simp] theorem grat_mash (x : GratSt) (s : State) : (applyUpd (.grat x) s).mash = s.mash := rfl
@[simp] theorem grat_tx (x : GratSt) (s : State) : (applyUpd (.grat x) s).tx = s.tx := rfl
@[simp] theorem grat_dpd (x : GratSt) (s : State) : (applyUpd (.grat x) s).dpd = s.dpd := rfl
@[simp] theorem grat_rx (x : GratSt) (s : State) : (applyUpd (.grat x) s).rx = s.rx := rfl
@[simp] theorem grat_conv (x : GratSt) (s : State) : (applyUpd (.grat x) s).conv = s.conv := rfl
@[simp] theorem grat_hk (x : GratSt) (s : State) : (applyUpd (.grat x) s).hk = s.hk := rfl
@[simp] theorem grat_radio (x : GratSt) (s : State) : (applyUpd (.grat x) s).radio = s.radio := rfl
@[simp] theorem grat_survey (x : GratSt) (s : State) : (applyUpd (.grat x) s).survey = s.survey := rfl
@[simp] theorem grat_bias (x : GratSt) (s : State) : (applyUpd (.grat x) s).bias = s.bias := rfl
@[simp] theorem grat_rffe (x : GratSt) (s : State) : (applyUpd (.grat x) s).rffe = s.rffe := rfl
@[simp] theorem grat_coex (x : GratSt) (s : State) : (applyUpd (.grat x) s).coex = s.coex := rfl
@[simp] theorem grat_tap (x : GratSt) (s : State) : (applyUpd (.grat x) s).tap = s.tap := rfl
@[simp] theorem grat_pending (x : GratSt) (s : State) : (applyUpd (.grat x) s).pending = s.pending := rfl
@[simp] theorem mash_cfg (x : MashSt) (s : State) : (applyUpd (.mash x) s).cfg = s.cfg := rfl
@[simp] theorem mash_regs (x : MashSt) (s : State) : (applyUpd (.mash x) s).regs = s.regs := rfl
@[simp] theorem mash_cnts (x : MashSt) (s : State) : (applyUpd (.mash x) s).cnts = s.cnts := rfl
@[simp] theorem mash_tots (x : MashSt) (s : State) : (applyUpd (.mash x) s).tots = s.tots := rfl
@[simp] theorem mash_free (x : MashSt) (s : State) : (applyUpd (.mash x) s).free = s.free := rfl
@[simp] theorem mash_tick (x : MashSt) (s : State) : (applyUpd (.mash x) s).tick = s.tick := rfl
@[simp] theorem mash_mem (x : MashSt) (s : State) : (applyUpd (.mash x) s).mem = s.mem := rfl
@[simp] theorem mash_ecc (x : MashSt) (s : State) : (applyUpd (.mash x) s).ecc = s.ecc := rfl
@[simp] theorem mash_host (x : MashSt) (s : State) : (applyUpd (.mash x) s).host = s.host := rfl
@[simp] theorem mash_mbx (x : MashSt) (s : State) : (applyUpd (.mash x) s).mbx = s.mbx := rfl
@[simp] theorem mash_log (x : MashSt) (s : State) : (applyUpd (.mash x) s).log = s.log := rfl
@[simp] theorem mash_evt (x : MashSt) (s : State) : (applyUpd (.mash x) s).evt = s.evt := rfl
@[simp] theorem mash_txn (x : MashSt) (s : State) : (applyUpd (.mash x) s).txn = s.txn := rfl
@[simp] theorem mash_clk (x : MashSt) (s : State) : (applyUpd (.mash x) s).clk = s.clk := rfl
@[simp] theorem mash_datum (x : MashSt) (s : State) : (applyUpd (.mash x) s).datum = s.datum := rfl
@[simp] theorem mash_pwr (x : MashSt) (s : State) : (applyUpd (.mash x) s).pwr = s.pwr := rfl
@[simp] theorem mash_kiln (x : MashSt) (s : State) : (applyUpd (.mash x) s).kiln = s.kiln := rfl
@[simp] theorem mash_boot (x : MashSt) (s : State) : (applyUpd (.mash x) s).boot = s.boot := rfl
@[simp] theorem mash_fuse (x : MashSt) (s : State) : (applyUpd (.mash x) s).fuse = s.fuse := rfl
@[simp] theorem mash_cap (x : MashSt) (s : State) : (applyUpd (.mash x) s).cap = s.cap := rfl
@[simp] theorem mash_sect (x : MashSt) (s : State) : (applyUpd (.mash x) s).sect = s.sect := rfl
@[simp] theorem mash_fh (x : MashSt) (s : State) : (applyUpd (.mash x) s).fh = s.fh := rfl
@[simp] theorem mash_grat (x : MashSt) (s : State) : (applyUpd (.mash x) s).grat = s.grat := rfl
@[simp] theorem mash_mash (x : MashSt) (s : State) : (applyUpd (.mash x) s).mash = x := rfl
@[simp] theorem mash_tx (x : MashSt) (s : State) : (applyUpd (.mash x) s).tx = s.tx := rfl
@[simp] theorem mash_dpd (x : MashSt) (s : State) : (applyUpd (.mash x) s).dpd = s.dpd := rfl
@[simp] theorem mash_rx (x : MashSt) (s : State) : (applyUpd (.mash x) s).rx = s.rx := rfl
@[simp] theorem mash_conv (x : MashSt) (s : State) : (applyUpd (.mash x) s).conv = s.conv := rfl
@[simp] theorem mash_hk (x : MashSt) (s : State) : (applyUpd (.mash x) s).hk = s.hk := rfl
@[simp] theorem mash_radio (x : MashSt) (s : State) : (applyUpd (.mash x) s).radio = s.radio := rfl
@[simp] theorem mash_survey (x : MashSt) (s : State) : (applyUpd (.mash x) s).survey = s.survey := rfl
@[simp] theorem mash_bias (x : MashSt) (s : State) : (applyUpd (.mash x) s).bias = s.bias := rfl
@[simp] theorem mash_rffe (x : MashSt) (s : State) : (applyUpd (.mash x) s).rffe = s.rffe := rfl
@[simp] theorem mash_coex (x : MashSt) (s : State) : (applyUpd (.mash x) s).coex = s.coex := rfl
@[simp] theorem mash_tap (x : MashSt) (s : State) : (applyUpd (.mash x) s).tap = s.tap := rfl
@[simp] theorem mash_pending (x : MashSt) (s : State) : (applyUpd (.mash x) s).pending = s.pending := rfl
@[simp] theorem tx_cfg (x : TxSt) (s : State) : (applyUpd (.tx x) s).cfg = s.cfg := rfl
@[simp] theorem tx_regs (x : TxSt) (s : State) : (applyUpd (.tx x) s).regs = s.regs := rfl
@[simp] theorem tx_cnts (x : TxSt) (s : State) : (applyUpd (.tx x) s).cnts = s.cnts := rfl
@[simp] theorem tx_tots (x : TxSt) (s : State) : (applyUpd (.tx x) s).tots = s.tots := rfl
@[simp] theorem tx_free (x : TxSt) (s : State) : (applyUpd (.tx x) s).free = s.free := rfl
@[simp] theorem tx_tick (x : TxSt) (s : State) : (applyUpd (.tx x) s).tick = s.tick := rfl
@[simp] theorem tx_mem (x : TxSt) (s : State) : (applyUpd (.tx x) s).mem = s.mem := rfl
@[simp] theorem tx_ecc (x : TxSt) (s : State) : (applyUpd (.tx x) s).ecc = s.ecc := rfl
@[simp] theorem tx_host (x : TxSt) (s : State) : (applyUpd (.tx x) s).host = s.host := rfl
@[simp] theorem tx_mbx (x : TxSt) (s : State) : (applyUpd (.tx x) s).mbx = s.mbx := rfl
@[simp] theorem tx_log (x : TxSt) (s : State) : (applyUpd (.tx x) s).log = s.log := rfl
@[simp] theorem tx_evt (x : TxSt) (s : State) : (applyUpd (.tx x) s).evt = s.evt := rfl
@[simp] theorem tx_txn (x : TxSt) (s : State) : (applyUpd (.tx x) s).txn = s.txn := rfl
@[simp] theorem tx_clk (x : TxSt) (s : State) : (applyUpd (.tx x) s).clk = s.clk := rfl
@[simp] theorem tx_datum (x : TxSt) (s : State) : (applyUpd (.tx x) s).datum = s.datum := rfl
@[simp] theorem tx_pwr (x : TxSt) (s : State) : (applyUpd (.tx x) s).pwr = s.pwr := rfl
@[simp] theorem tx_kiln (x : TxSt) (s : State) : (applyUpd (.tx x) s).kiln = s.kiln := rfl
@[simp] theorem tx_boot (x : TxSt) (s : State) : (applyUpd (.tx x) s).boot = s.boot := rfl
@[simp] theorem tx_fuse (x : TxSt) (s : State) : (applyUpd (.tx x) s).fuse = s.fuse := rfl
@[simp] theorem tx_cap (x : TxSt) (s : State) : (applyUpd (.tx x) s).cap = s.cap := rfl
@[simp] theorem tx_sect (x : TxSt) (s : State) : (applyUpd (.tx x) s).sect = s.sect := rfl
@[simp] theorem tx_fh (x : TxSt) (s : State) : (applyUpd (.tx x) s).fh = s.fh := rfl
@[simp] theorem tx_grat (x : TxSt) (s : State) : (applyUpd (.tx x) s).grat = s.grat := rfl
@[simp] theorem tx_mash (x : TxSt) (s : State) : (applyUpd (.tx x) s).mash = s.mash := rfl
@[simp] theorem tx_tx (x : TxSt) (s : State) : (applyUpd (.tx x) s).tx = x := rfl
@[simp] theorem tx_dpd (x : TxSt) (s : State) : (applyUpd (.tx x) s).dpd = s.dpd := rfl
@[simp] theorem tx_rx (x : TxSt) (s : State) : (applyUpd (.tx x) s).rx = s.rx := rfl
@[simp] theorem tx_conv (x : TxSt) (s : State) : (applyUpd (.tx x) s).conv = s.conv := rfl
@[simp] theorem tx_hk (x : TxSt) (s : State) : (applyUpd (.tx x) s).hk = s.hk := rfl
@[simp] theorem tx_radio (x : TxSt) (s : State) : (applyUpd (.tx x) s).radio = s.radio := rfl
@[simp] theorem tx_survey (x : TxSt) (s : State) : (applyUpd (.tx x) s).survey = s.survey := rfl
@[simp] theorem tx_bias (x : TxSt) (s : State) : (applyUpd (.tx x) s).bias = s.bias := rfl
@[simp] theorem tx_rffe (x : TxSt) (s : State) : (applyUpd (.tx x) s).rffe = s.rffe := rfl
@[simp] theorem tx_coex (x : TxSt) (s : State) : (applyUpd (.tx x) s).coex = s.coex := rfl
@[simp] theorem tx_tap (x : TxSt) (s : State) : (applyUpd (.tx x) s).tap = s.tap := rfl
@[simp] theorem tx_pending (x : TxSt) (s : State) : (applyUpd (.tx x) s).pending = s.pending := rfl
@[simp] theorem dpd_cfg (x : DpdSt) (s : State) : (applyUpd (.dpd x) s).cfg = s.cfg := rfl
@[simp] theorem dpd_regs (x : DpdSt) (s : State) : (applyUpd (.dpd x) s).regs = s.regs := rfl
@[simp] theorem dpd_cnts (x : DpdSt) (s : State) : (applyUpd (.dpd x) s).cnts = s.cnts := rfl
@[simp] theorem dpd_tots (x : DpdSt) (s : State) : (applyUpd (.dpd x) s).tots = s.tots := rfl
@[simp] theorem dpd_free (x : DpdSt) (s : State) : (applyUpd (.dpd x) s).free = s.free := rfl
@[simp] theorem dpd_tick (x : DpdSt) (s : State) : (applyUpd (.dpd x) s).tick = s.tick := rfl
@[simp] theorem dpd_mem (x : DpdSt) (s : State) : (applyUpd (.dpd x) s).mem = s.mem := rfl
@[simp] theorem dpd_ecc (x : DpdSt) (s : State) : (applyUpd (.dpd x) s).ecc = s.ecc := rfl
@[simp] theorem dpd_host (x : DpdSt) (s : State) : (applyUpd (.dpd x) s).host = s.host := rfl
@[simp] theorem dpd_mbx (x : DpdSt) (s : State) : (applyUpd (.dpd x) s).mbx = s.mbx := rfl
@[simp] theorem dpd_log (x : DpdSt) (s : State) : (applyUpd (.dpd x) s).log = s.log := rfl
@[simp] theorem dpd_evt (x : DpdSt) (s : State) : (applyUpd (.dpd x) s).evt = s.evt := rfl
@[simp] theorem dpd_txn (x : DpdSt) (s : State) : (applyUpd (.dpd x) s).txn = s.txn := rfl
@[simp] theorem dpd_clk (x : DpdSt) (s : State) : (applyUpd (.dpd x) s).clk = s.clk := rfl
@[simp] theorem dpd_datum (x : DpdSt) (s : State) : (applyUpd (.dpd x) s).datum = s.datum := rfl
@[simp] theorem dpd_pwr (x : DpdSt) (s : State) : (applyUpd (.dpd x) s).pwr = s.pwr := rfl
@[simp] theorem dpd_kiln (x : DpdSt) (s : State) : (applyUpd (.dpd x) s).kiln = s.kiln := rfl
@[simp] theorem dpd_boot (x : DpdSt) (s : State) : (applyUpd (.dpd x) s).boot = s.boot := rfl
@[simp] theorem dpd_fuse (x : DpdSt) (s : State) : (applyUpd (.dpd x) s).fuse = s.fuse := rfl
@[simp] theorem dpd_cap (x : DpdSt) (s : State) : (applyUpd (.dpd x) s).cap = s.cap := rfl
@[simp] theorem dpd_sect (x : DpdSt) (s : State) : (applyUpd (.dpd x) s).sect = s.sect := rfl
@[simp] theorem dpd_fh (x : DpdSt) (s : State) : (applyUpd (.dpd x) s).fh = s.fh := rfl
@[simp] theorem dpd_grat (x : DpdSt) (s : State) : (applyUpd (.dpd x) s).grat = s.grat := rfl
@[simp] theorem dpd_mash (x : DpdSt) (s : State) : (applyUpd (.dpd x) s).mash = s.mash := rfl
@[simp] theorem dpd_tx (x : DpdSt) (s : State) : (applyUpd (.dpd x) s).tx = s.tx := rfl
@[simp] theorem dpd_dpd (x : DpdSt) (s : State) : (applyUpd (.dpd x) s).dpd = x := rfl
@[simp] theorem dpd_rx (x : DpdSt) (s : State) : (applyUpd (.dpd x) s).rx = s.rx := rfl
@[simp] theorem dpd_conv (x : DpdSt) (s : State) : (applyUpd (.dpd x) s).conv = s.conv := rfl
@[simp] theorem dpd_hk (x : DpdSt) (s : State) : (applyUpd (.dpd x) s).hk = s.hk := rfl
@[simp] theorem dpd_radio (x : DpdSt) (s : State) : (applyUpd (.dpd x) s).radio = s.radio := rfl
@[simp] theorem dpd_survey (x : DpdSt) (s : State) : (applyUpd (.dpd x) s).survey = s.survey := rfl
@[simp] theorem dpd_bias (x : DpdSt) (s : State) : (applyUpd (.dpd x) s).bias = s.bias := rfl
@[simp] theorem dpd_rffe (x : DpdSt) (s : State) : (applyUpd (.dpd x) s).rffe = s.rffe := rfl
@[simp] theorem dpd_coex (x : DpdSt) (s : State) : (applyUpd (.dpd x) s).coex = s.coex := rfl
@[simp] theorem dpd_tap (x : DpdSt) (s : State) : (applyUpd (.dpd x) s).tap = s.tap := rfl
@[simp] theorem dpd_pending (x : DpdSt) (s : State) : (applyUpd (.dpd x) s).pending = s.pending := rfl
@[simp] theorem rx_cfg (x : RxSt) (s : State) : (applyUpd (.rx x) s).cfg = s.cfg := rfl
@[simp] theorem rx_regs (x : RxSt) (s : State) : (applyUpd (.rx x) s).regs = s.regs := rfl
@[simp] theorem rx_cnts (x : RxSt) (s : State) : (applyUpd (.rx x) s).cnts = s.cnts := rfl
@[simp] theorem rx_tots (x : RxSt) (s : State) : (applyUpd (.rx x) s).tots = s.tots := rfl
@[simp] theorem rx_free (x : RxSt) (s : State) : (applyUpd (.rx x) s).free = s.free := rfl
@[simp] theorem rx_tick (x : RxSt) (s : State) : (applyUpd (.rx x) s).tick = s.tick := rfl
@[simp] theorem rx_mem (x : RxSt) (s : State) : (applyUpd (.rx x) s).mem = s.mem := rfl
@[simp] theorem rx_ecc (x : RxSt) (s : State) : (applyUpd (.rx x) s).ecc = s.ecc := rfl
@[simp] theorem rx_host (x : RxSt) (s : State) : (applyUpd (.rx x) s).host = s.host := rfl
@[simp] theorem rx_mbx (x : RxSt) (s : State) : (applyUpd (.rx x) s).mbx = s.mbx := rfl
@[simp] theorem rx_log (x : RxSt) (s : State) : (applyUpd (.rx x) s).log = s.log := rfl
@[simp] theorem rx_evt (x : RxSt) (s : State) : (applyUpd (.rx x) s).evt = s.evt := rfl
@[simp] theorem rx_txn (x : RxSt) (s : State) : (applyUpd (.rx x) s).txn = s.txn := rfl
@[simp] theorem rx_clk (x : RxSt) (s : State) : (applyUpd (.rx x) s).clk = s.clk := rfl
@[simp] theorem rx_datum (x : RxSt) (s : State) : (applyUpd (.rx x) s).datum = s.datum := rfl
@[simp] theorem rx_pwr (x : RxSt) (s : State) : (applyUpd (.rx x) s).pwr = s.pwr := rfl
@[simp] theorem rx_kiln (x : RxSt) (s : State) : (applyUpd (.rx x) s).kiln = s.kiln := rfl
@[simp] theorem rx_boot (x : RxSt) (s : State) : (applyUpd (.rx x) s).boot = s.boot := rfl
@[simp] theorem rx_fuse (x : RxSt) (s : State) : (applyUpd (.rx x) s).fuse = s.fuse := rfl
@[simp] theorem rx_cap (x : RxSt) (s : State) : (applyUpd (.rx x) s).cap = s.cap := rfl
@[simp] theorem rx_sect (x : RxSt) (s : State) : (applyUpd (.rx x) s).sect = s.sect := rfl
@[simp] theorem rx_fh (x : RxSt) (s : State) : (applyUpd (.rx x) s).fh = s.fh := rfl
@[simp] theorem rx_grat (x : RxSt) (s : State) : (applyUpd (.rx x) s).grat = s.grat := rfl
@[simp] theorem rx_mash (x : RxSt) (s : State) : (applyUpd (.rx x) s).mash = s.mash := rfl
@[simp] theorem rx_tx (x : RxSt) (s : State) : (applyUpd (.rx x) s).tx = s.tx := rfl
@[simp] theorem rx_dpd (x : RxSt) (s : State) : (applyUpd (.rx x) s).dpd = s.dpd := rfl
@[simp] theorem rx_rx (x : RxSt) (s : State) : (applyUpd (.rx x) s).rx = x := rfl
@[simp] theorem rx_conv (x : RxSt) (s : State) : (applyUpd (.rx x) s).conv = s.conv := rfl
@[simp] theorem rx_hk (x : RxSt) (s : State) : (applyUpd (.rx x) s).hk = s.hk := rfl
@[simp] theorem rx_radio (x : RxSt) (s : State) : (applyUpd (.rx x) s).radio = s.radio := rfl
@[simp] theorem rx_survey (x : RxSt) (s : State) : (applyUpd (.rx x) s).survey = s.survey := rfl
@[simp] theorem rx_bias (x : RxSt) (s : State) : (applyUpd (.rx x) s).bias = s.bias := rfl
@[simp] theorem rx_rffe (x : RxSt) (s : State) : (applyUpd (.rx x) s).rffe = s.rffe := rfl
@[simp] theorem rx_coex (x : RxSt) (s : State) : (applyUpd (.rx x) s).coex = s.coex := rfl
@[simp] theorem rx_tap (x : RxSt) (s : State) : (applyUpd (.rx x) s).tap = s.tap := rfl
@[simp] theorem rx_pending (x : RxSt) (s : State) : (applyUpd (.rx x) s).pending = s.pending := rfl
@[simp] theorem conv_cfg (x : ConvSt) (s : State) : (applyUpd (.conv x) s).cfg = s.cfg := rfl
@[simp] theorem conv_regs (x : ConvSt) (s : State) : (applyUpd (.conv x) s).regs = s.regs := rfl
@[simp] theorem conv_cnts (x : ConvSt) (s : State) : (applyUpd (.conv x) s).cnts = s.cnts := rfl
@[simp] theorem conv_tots (x : ConvSt) (s : State) : (applyUpd (.conv x) s).tots = s.tots := rfl
@[simp] theorem conv_free (x : ConvSt) (s : State) : (applyUpd (.conv x) s).free = s.free := rfl
@[simp] theorem conv_tick (x : ConvSt) (s : State) : (applyUpd (.conv x) s).tick = s.tick := rfl
@[simp] theorem conv_mem (x : ConvSt) (s : State) : (applyUpd (.conv x) s).mem = s.mem := rfl
@[simp] theorem conv_ecc (x : ConvSt) (s : State) : (applyUpd (.conv x) s).ecc = s.ecc := rfl
@[simp] theorem conv_host (x : ConvSt) (s : State) : (applyUpd (.conv x) s).host = s.host := rfl
@[simp] theorem conv_mbx (x : ConvSt) (s : State) : (applyUpd (.conv x) s).mbx = s.mbx := rfl
@[simp] theorem conv_log (x : ConvSt) (s : State) : (applyUpd (.conv x) s).log = s.log := rfl
@[simp] theorem conv_evt (x : ConvSt) (s : State) : (applyUpd (.conv x) s).evt = s.evt := rfl
@[simp] theorem conv_txn (x : ConvSt) (s : State) : (applyUpd (.conv x) s).txn = s.txn := rfl
@[simp] theorem conv_clk (x : ConvSt) (s : State) : (applyUpd (.conv x) s).clk = s.clk := rfl
@[simp] theorem conv_datum (x : ConvSt) (s : State) : (applyUpd (.conv x) s).datum = s.datum := rfl
@[simp] theorem conv_pwr (x : ConvSt) (s : State) : (applyUpd (.conv x) s).pwr = s.pwr := rfl
@[simp] theorem conv_kiln (x : ConvSt) (s : State) : (applyUpd (.conv x) s).kiln = s.kiln := rfl
@[simp] theorem conv_boot (x : ConvSt) (s : State) : (applyUpd (.conv x) s).boot = s.boot := rfl
@[simp] theorem conv_fuse (x : ConvSt) (s : State) : (applyUpd (.conv x) s).fuse = s.fuse := rfl
@[simp] theorem conv_cap (x : ConvSt) (s : State) : (applyUpd (.conv x) s).cap = s.cap := rfl
@[simp] theorem conv_sect (x : ConvSt) (s : State) : (applyUpd (.conv x) s).sect = s.sect := rfl
@[simp] theorem conv_fh (x : ConvSt) (s : State) : (applyUpd (.conv x) s).fh = s.fh := rfl
@[simp] theorem conv_grat (x : ConvSt) (s : State) : (applyUpd (.conv x) s).grat = s.grat := rfl
@[simp] theorem conv_mash (x : ConvSt) (s : State) : (applyUpd (.conv x) s).mash = s.mash := rfl
@[simp] theorem conv_tx (x : ConvSt) (s : State) : (applyUpd (.conv x) s).tx = s.tx := rfl
@[simp] theorem conv_dpd (x : ConvSt) (s : State) : (applyUpd (.conv x) s).dpd = s.dpd := rfl
@[simp] theorem conv_rx (x : ConvSt) (s : State) : (applyUpd (.conv x) s).rx = s.rx := rfl
@[simp] theorem conv_conv (x : ConvSt) (s : State) : (applyUpd (.conv x) s).conv = x := rfl
@[simp] theorem conv_hk (x : ConvSt) (s : State) : (applyUpd (.conv x) s).hk = s.hk := rfl
@[simp] theorem conv_radio (x : ConvSt) (s : State) : (applyUpd (.conv x) s).radio = s.radio := rfl
@[simp] theorem conv_survey (x : ConvSt) (s : State) : (applyUpd (.conv x) s).survey = s.survey := rfl
@[simp] theorem conv_bias (x : ConvSt) (s : State) : (applyUpd (.conv x) s).bias = s.bias := rfl
@[simp] theorem conv_rffe (x : ConvSt) (s : State) : (applyUpd (.conv x) s).rffe = s.rffe := rfl
@[simp] theorem conv_coex (x : ConvSt) (s : State) : (applyUpd (.conv x) s).coex = s.coex := rfl
@[simp] theorem conv_tap (x : ConvSt) (s : State) : (applyUpd (.conv x) s).tap = s.tap := rfl
@[simp] theorem conv_pending (x : ConvSt) (s : State) : (applyUpd (.conv x) s).pending = s.pending := rfl
@[simp] theorem hk_cfg (x : HkSt) (s : State) : (applyUpd (.hk x) s).cfg = s.cfg := rfl
@[simp] theorem hk_regs (x : HkSt) (s : State) : (applyUpd (.hk x) s).regs = s.regs := rfl
@[simp] theorem hk_cnts (x : HkSt) (s : State) : (applyUpd (.hk x) s).cnts = s.cnts := rfl
@[simp] theorem hk_tots (x : HkSt) (s : State) : (applyUpd (.hk x) s).tots = s.tots := rfl
@[simp] theorem hk_free (x : HkSt) (s : State) : (applyUpd (.hk x) s).free = s.free := rfl
@[simp] theorem hk_tick (x : HkSt) (s : State) : (applyUpd (.hk x) s).tick = s.tick := rfl
@[simp] theorem hk_mem (x : HkSt) (s : State) : (applyUpd (.hk x) s).mem = s.mem := rfl
@[simp] theorem hk_ecc (x : HkSt) (s : State) : (applyUpd (.hk x) s).ecc = s.ecc := rfl
@[simp] theorem hk_host (x : HkSt) (s : State) : (applyUpd (.hk x) s).host = s.host := rfl
@[simp] theorem hk_mbx (x : HkSt) (s : State) : (applyUpd (.hk x) s).mbx = s.mbx := rfl
@[simp] theorem hk_log (x : HkSt) (s : State) : (applyUpd (.hk x) s).log = s.log := rfl
@[simp] theorem hk_evt (x : HkSt) (s : State) : (applyUpd (.hk x) s).evt = s.evt := rfl
@[simp] theorem hk_txn (x : HkSt) (s : State) : (applyUpd (.hk x) s).txn = s.txn := rfl
@[simp] theorem hk_clk (x : HkSt) (s : State) : (applyUpd (.hk x) s).clk = s.clk := rfl
@[simp] theorem hk_datum (x : HkSt) (s : State) : (applyUpd (.hk x) s).datum = s.datum := rfl
@[simp] theorem hk_pwr (x : HkSt) (s : State) : (applyUpd (.hk x) s).pwr = s.pwr := rfl
@[simp] theorem hk_kiln (x : HkSt) (s : State) : (applyUpd (.hk x) s).kiln = s.kiln := rfl
@[simp] theorem hk_boot (x : HkSt) (s : State) : (applyUpd (.hk x) s).boot = s.boot := rfl
@[simp] theorem hk_fuse (x : HkSt) (s : State) : (applyUpd (.hk x) s).fuse = s.fuse := rfl
@[simp] theorem hk_cap (x : HkSt) (s : State) : (applyUpd (.hk x) s).cap = s.cap := rfl
@[simp] theorem hk_sect (x : HkSt) (s : State) : (applyUpd (.hk x) s).sect = s.sect := rfl
@[simp] theorem hk_fh (x : HkSt) (s : State) : (applyUpd (.hk x) s).fh = s.fh := rfl
@[simp] theorem hk_grat (x : HkSt) (s : State) : (applyUpd (.hk x) s).grat = s.grat := rfl
@[simp] theorem hk_mash (x : HkSt) (s : State) : (applyUpd (.hk x) s).mash = s.mash := rfl
@[simp] theorem hk_tx (x : HkSt) (s : State) : (applyUpd (.hk x) s).tx = s.tx := rfl
@[simp] theorem hk_dpd (x : HkSt) (s : State) : (applyUpd (.hk x) s).dpd = s.dpd := rfl
@[simp] theorem hk_rx (x : HkSt) (s : State) : (applyUpd (.hk x) s).rx = s.rx := rfl
@[simp] theorem hk_conv (x : HkSt) (s : State) : (applyUpd (.hk x) s).conv = s.conv := rfl
@[simp] theorem hk_hk (x : HkSt) (s : State) : (applyUpd (.hk x) s).hk = x := rfl
@[simp] theorem hk_radio (x : HkSt) (s : State) : (applyUpd (.hk x) s).radio = s.radio := rfl
@[simp] theorem hk_survey (x : HkSt) (s : State) : (applyUpd (.hk x) s).survey = s.survey := rfl
@[simp] theorem hk_bias (x : HkSt) (s : State) : (applyUpd (.hk x) s).bias = s.bias := rfl
@[simp] theorem hk_rffe (x : HkSt) (s : State) : (applyUpd (.hk x) s).rffe = s.rffe := rfl
@[simp] theorem hk_coex (x : HkSt) (s : State) : (applyUpd (.hk x) s).coex = s.coex := rfl
@[simp] theorem hk_tap (x : HkSt) (s : State) : (applyUpd (.hk x) s).tap = s.tap := rfl
@[simp] theorem hk_pending (x : HkSt) (s : State) : (applyUpd (.hk x) s).pending = s.pending := rfl
@[simp] theorem radio_cfg (x : RadioSt) (s : State) : (applyUpd (.radio x) s).cfg = s.cfg := rfl
@[simp] theorem radio_regs (x : RadioSt) (s : State) : (applyUpd (.radio x) s).regs = s.regs := rfl
@[simp] theorem radio_cnts (x : RadioSt) (s : State) : (applyUpd (.radio x) s).cnts = s.cnts := rfl
@[simp] theorem radio_tots (x : RadioSt) (s : State) : (applyUpd (.radio x) s).tots = s.tots := rfl
@[simp] theorem radio_free (x : RadioSt) (s : State) : (applyUpd (.radio x) s).free = s.free := rfl
@[simp] theorem radio_tick (x : RadioSt) (s : State) : (applyUpd (.radio x) s).tick = s.tick := rfl
@[simp] theorem radio_mem (x : RadioSt) (s : State) : (applyUpd (.radio x) s).mem = s.mem := rfl
@[simp] theorem radio_ecc (x : RadioSt) (s : State) : (applyUpd (.radio x) s).ecc = s.ecc := rfl
@[simp] theorem radio_host (x : RadioSt) (s : State) : (applyUpd (.radio x) s).host = s.host := rfl
@[simp] theorem radio_mbx (x : RadioSt) (s : State) : (applyUpd (.radio x) s).mbx = s.mbx := rfl
@[simp] theorem radio_log (x : RadioSt) (s : State) : (applyUpd (.radio x) s).log = s.log := rfl
@[simp] theorem radio_evt (x : RadioSt) (s : State) : (applyUpd (.radio x) s).evt = s.evt := rfl
@[simp] theorem radio_txn (x : RadioSt) (s : State) : (applyUpd (.radio x) s).txn = s.txn := rfl
@[simp] theorem radio_clk (x : RadioSt) (s : State) : (applyUpd (.radio x) s).clk = s.clk := rfl
@[simp] theorem radio_datum (x : RadioSt) (s : State) : (applyUpd (.radio x) s).datum = s.datum := rfl
@[simp] theorem radio_pwr (x : RadioSt) (s : State) : (applyUpd (.radio x) s).pwr = s.pwr := rfl
@[simp] theorem radio_kiln (x : RadioSt) (s : State) : (applyUpd (.radio x) s).kiln = s.kiln := rfl
@[simp] theorem radio_boot (x : RadioSt) (s : State) : (applyUpd (.radio x) s).boot = s.boot := rfl
@[simp] theorem radio_fuse (x : RadioSt) (s : State) : (applyUpd (.radio x) s).fuse = s.fuse := rfl
@[simp] theorem radio_cap (x : RadioSt) (s : State) : (applyUpd (.radio x) s).cap = s.cap := rfl
@[simp] theorem radio_sect (x : RadioSt) (s : State) : (applyUpd (.radio x) s).sect = s.sect := rfl
@[simp] theorem radio_fh (x : RadioSt) (s : State) : (applyUpd (.radio x) s).fh = s.fh := rfl
@[simp] theorem radio_grat (x : RadioSt) (s : State) : (applyUpd (.radio x) s).grat = s.grat := rfl
@[simp] theorem radio_mash (x : RadioSt) (s : State) : (applyUpd (.radio x) s).mash = s.mash := rfl
@[simp] theorem radio_tx (x : RadioSt) (s : State) : (applyUpd (.radio x) s).tx = s.tx := rfl
@[simp] theorem radio_dpd (x : RadioSt) (s : State) : (applyUpd (.radio x) s).dpd = s.dpd := rfl
@[simp] theorem radio_rx (x : RadioSt) (s : State) : (applyUpd (.radio x) s).rx = s.rx := rfl
@[simp] theorem radio_conv (x : RadioSt) (s : State) : (applyUpd (.radio x) s).conv = s.conv := rfl
@[simp] theorem radio_hk (x : RadioSt) (s : State) : (applyUpd (.radio x) s).hk = s.hk := rfl
@[simp] theorem radio_radio (x : RadioSt) (s : State) : (applyUpd (.radio x) s).radio = x := rfl
@[simp] theorem radio_survey (x : RadioSt) (s : State) : (applyUpd (.radio x) s).survey = s.survey := rfl
@[simp] theorem radio_bias (x : RadioSt) (s : State) : (applyUpd (.radio x) s).bias = s.bias := rfl
@[simp] theorem radio_rffe (x : RadioSt) (s : State) : (applyUpd (.radio x) s).rffe = s.rffe := rfl
@[simp] theorem radio_coex (x : RadioSt) (s : State) : (applyUpd (.radio x) s).coex = s.coex := rfl
@[simp] theorem radio_tap (x : RadioSt) (s : State) : (applyUpd (.radio x) s).tap = s.tap := rfl
@[simp] theorem radio_pending (x : RadioSt) (s : State) : (applyUpd (.radio x) s).pending = s.pending := rfl
@[simp] theorem survey_cfg (x : SurveySt) (s : State) : (applyUpd (.survey x) s).cfg = s.cfg := rfl
@[simp] theorem survey_regs (x : SurveySt) (s : State) : (applyUpd (.survey x) s).regs = s.regs := rfl
@[simp] theorem survey_cnts (x : SurveySt) (s : State) : (applyUpd (.survey x) s).cnts = s.cnts := rfl
@[simp] theorem survey_tots (x : SurveySt) (s : State) : (applyUpd (.survey x) s).tots = s.tots := rfl
@[simp] theorem survey_free (x : SurveySt) (s : State) : (applyUpd (.survey x) s).free = s.free := rfl
@[simp] theorem survey_tick (x : SurveySt) (s : State) : (applyUpd (.survey x) s).tick = s.tick := rfl
@[simp] theorem survey_mem (x : SurveySt) (s : State) : (applyUpd (.survey x) s).mem = s.mem := rfl
@[simp] theorem survey_ecc (x : SurveySt) (s : State) : (applyUpd (.survey x) s).ecc = s.ecc := rfl
@[simp] theorem survey_host (x : SurveySt) (s : State) : (applyUpd (.survey x) s).host = s.host := rfl
@[simp] theorem survey_mbx (x : SurveySt) (s : State) : (applyUpd (.survey x) s).mbx = s.mbx := rfl
@[simp] theorem survey_log (x : SurveySt) (s : State) : (applyUpd (.survey x) s).log = s.log := rfl
@[simp] theorem survey_evt (x : SurveySt) (s : State) : (applyUpd (.survey x) s).evt = s.evt := rfl
@[simp] theorem survey_txn (x : SurveySt) (s : State) : (applyUpd (.survey x) s).txn = s.txn := rfl
@[simp] theorem survey_clk (x : SurveySt) (s : State) : (applyUpd (.survey x) s).clk = s.clk := rfl
@[simp] theorem survey_datum (x : SurveySt) (s : State) : (applyUpd (.survey x) s).datum = s.datum := rfl
@[simp] theorem survey_pwr (x : SurveySt) (s : State) : (applyUpd (.survey x) s).pwr = s.pwr := rfl
@[simp] theorem survey_kiln (x : SurveySt) (s : State) : (applyUpd (.survey x) s).kiln = s.kiln := rfl
@[simp] theorem survey_boot (x : SurveySt) (s : State) : (applyUpd (.survey x) s).boot = s.boot := rfl
@[simp] theorem survey_fuse (x : SurveySt) (s : State) : (applyUpd (.survey x) s).fuse = s.fuse := rfl
@[simp] theorem survey_cap (x : SurveySt) (s : State) : (applyUpd (.survey x) s).cap = s.cap := rfl
@[simp] theorem survey_sect (x : SurveySt) (s : State) : (applyUpd (.survey x) s).sect = s.sect := rfl
@[simp] theorem survey_fh (x : SurveySt) (s : State) : (applyUpd (.survey x) s).fh = s.fh := rfl
@[simp] theorem survey_grat (x : SurveySt) (s : State) : (applyUpd (.survey x) s).grat = s.grat := rfl
@[simp] theorem survey_mash (x : SurveySt) (s : State) : (applyUpd (.survey x) s).mash = s.mash := rfl
@[simp] theorem survey_tx (x : SurveySt) (s : State) : (applyUpd (.survey x) s).tx = s.tx := rfl
@[simp] theorem survey_dpd (x : SurveySt) (s : State) : (applyUpd (.survey x) s).dpd = s.dpd := rfl
@[simp] theorem survey_rx (x : SurveySt) (s : State) : (applyUpd (.survey x) s).rx = s.rx := rfl
@[simp] theorem survey_conv (x : SurveySt) (s : State) : (applyUpd (.survey x) s).conv = s.conv := rfl
@[simp] theorem survey_hk (x : SurveySt) (s : State) : (applyUpd (.survey x) s).hk = s.hk := rfl
@[simp] theorem survey_radio (x : SurveySt) (s : State) : (applyUpd (.survey x) s).radio = s.radio := rfl
@[simp] theorem survey_survey (x : SurveySt) (s : State) : (applyUpd (.survey x) s).survey = x := rfl
@[simp] theorem survey_bias (x : SurveySt) (s : State) : (applyUpd (.survey x) s).bias = s.bias := rfl
@[simp] theorem survey_rffe (x : SurveySt) (s : State) : (applyUpd (.survey x) s).rffe = s.rffe := rfl
@[simp] theorem survey_coex (x : SurveySt) (s : State) : (applyUpd (.survey x) s).coex = s.coex := rfl
@[simp] theorem survey_tap (x : SurveySt) (s : State) : (applyUpd (.survey x) s).tap = s.tap := rfl
@[simp] theorem survey_pending (x : SurveySt) (s : State) : (applyUpd (.survey x) s).pending = s.pending := rfl
@[simp] theorem bias_cfg (x : BiasSt) (s : State) : (applyUpd (.bias x) s).cfg = s.cfg := rfl
@[simp] theorem bias_regs (x : BiasSt) (s : State) : (applyUpd (.bias x) s).regs = s.regs := rfl
@[simp] theorem bias_cnts (x : BiasSt) (s : State) : (applyUpd (.bias x) s).cnts = s.cnts := rfl
@[simp] theorem bias_tots (x : BiasSt) (s : State) : (applyUpd (.bias x) s).tots = s.tots := rfl
@[simp] theorem bias_free (x : BiasSt) (s : State) : (applyUpd (.bias x) s).free = s.free := rfl
@[simp] theorem bias_tick (x : BiasSt) (s : State) : (applyUpd (.bias x) s).tick = s.tick := rfl
@[simp] theorem bias_mem (x : BiasSt) (s : State) : (applyUpd (.bias x) s).mem = s.mem := rfl
@[simp] theorem bias_ecc (x : BiasSt) (s : State) : (applyUpd (.bias x) s).ecc = s.ecc := rfl
@[simp] theorem bias_host (x : BiasSt) (s : State) : (applyUpd (.bias x) s).host = s.host := rfl
@[simp] theorem bias_mbx (x : BiasSt) (s : State) : (applyUpd (.bias x) s).mbx = s.mbx := rfl
@[simp] theorem bias_log (x : BiasSt) (s : State) : (applyUpd (.bias x) s).log = s.log := rfl
@[simp] theorem bias_evt (x : BiasSt) (s : State) : (applyUpd (.bias x) s).evt = s.evt := rfl
@[simp] theorem bias_txn (x : BiasSt) (s : State) : (applyUpd (.bias x) s).txn = s.txn := rfl
@[simp] theorem bias_clk (x : BiasSt) (s : State) : (applyUpd (.bias x) s).clk = s.clk := rfl
@[simp] theorem bias_datum (x : BiasSt) (s : State) : (applyUpd (.bias x) s).datum = s.datum := rfl
@[simp] theorem bias_pwr (x : BiasSt) (s : State) : (applyUpd (.bias x) s).pwr = s.pwr := rfl
@[simp] theorem bias_kiln (x : BiasSt) (s : State) : (applyUpd (.bias x) s).kiln = s.kiln := rfl
@[simp] theorem bias_boot (x : BiasSt) (s : State) : (applyUpd (.bias x) s).boot = s.boot := rfl
@[simp] theorem bias_fuse (x : BiasSt) (s : State) : (applyUpd (.bias x) s).fuse = s.fuse := rfl
@[simp] theorem bias_cap (x : BiasSt) (s : State) : (applyUpd (.bias x) s).cap = s.cap := rfl
@[simp] theorem bias_sect (x : BiasSt) (s : State) : (applyUpd (.bias x) s).sect = s.sect := rfl
@[simp] theorem bias_fh (x : BiasSt) (s : State) : (applyUpd (.bias x) s).fh = s.fh := rfl
@[simp] theorem bias_grat (x : BiasSt) (s : State) : (applyUpd (.bias x) s).grat = s.grat := rfl
@[simp] theorem bias_mash (x : BiasSt) (s : State) : (applyUpd (.bias x) s).mash = s.mash := rfl
@[simp] theorem bias_tx (x : BiasSt) (s : State) : (applyUpd (.bias x) s).tx = s.tx := rfl
@[simp] theorem bias_dpd (x : BiasSt) (s : State) : (applyUpd (.bias x) s).dpd = s.dpd := rfl
@[simp] theorem bias_rx (x : BiasSt) (s : State) : (applyUpd (.bias x) s).rx = s.rx := rfl
@[simp] theorem bias_conv (x : BiasSt) (s : State) : (applyUpd (.bias x) s).conv = s.conv := rfl
@[simp] theorem bias_hk (x : BiasSt) (s : State) : (applyUpd (.bias x) s).hk = s.hk := rfl
@[simp] theorem bias_radio (x : BiasSt) (s : State) : (applyUpd (.bias x) s).radio = s.radio := rfl
@[simp] theorem bias_survey (x : BiasSt) (s : State) : (applyUpd (.bias x) s).survey = s.survey := rfl
@[simp] theorem bias_bias (x : BiasSt) (s : State) : (applyUpd (.bias x) s).bias = x := rfl
@[simp] theorem bias_rffe (x : BiasSt) (s : State) : (applyUpd (.bias x) s).rffe = s.rffe := rfl
@[simp] theorem bias_coex (x : BiasSt) (s : State) : (applyUpd (.bias x) s).coex = s.coex := rfl
@[simp] theorem bias_tap (x : BiasSt) (s : State) : (applyUpd (.bias x) s).tap = s.tap := rfl
@[simp] theorem bias_pending (x : BiasSt) (s : State) : (applyUpd (.bias x) s).pending = s.pending := rfl
@[simp] theorem rffe_cfg (x : RffeSt) (s : State) : (applyUpd (.rffe x) s).cfg = s.cfg := rfl
@[simp] theorem rffe_regs (x : RffeSt) (s : State) : (applyUpd (.rffe x) s).regs = s.regs := rfl
@[simp] theorem rffe_cnts (x : RffeSt) (s : State) : (applyUpd (.rffe x) s).cnts = s.cnts := rfl
@[simp] theorem rffe_tots (x : RffeSt) (s : State) : (applyUpd (.rffe x) s).tots = s.tots := rfl
@[simp] theorem rffe_free (x : RffeSt) (s : State) : (applyUpd (.rffe x) s).free = s.free := rfl
@[simp] theorem rffe_tick (x : RffeSt) (s : State) : (applyUpd (.rffe x) s).tick = s.tick := rfl
@[simp] theorem rffe_mem (x : RffeSt) (s : State) : (applyUpd (.rffe x) s).mem = s.mem := rfl
@[simp] theorem rffe_ecc (x : RffeSt) (s : State) : (applyUpd (.rffe x) s).ecc = s.ecc := rfl
@[simp] theorem rffe_host (x : RffeSt) (s : State) : (applyUpd (.rffe x) s).host = s.host := rfl
@[simp] theorem rffe_mbx (x : RffeSt) (s : State) : (applyUpd (.rffe x) s).mbx = s.mbx := rfl
@[simp] theorem rffe_log (x : RffeSt) (s : State) : (applyUpd (.rffe x) s).log = s.log := rfl
@[simp] theorem rffe_evt (x : RffeSt) (s : State) : (applyUpd (.rffe x) s).evt = s.evt := rfl
@[simp] theorem rffe_txn (x : RffeSt) (s : State) : (applyUpd (.rffe x) s).txn = s.txn := rfl
@[simp] theorem rffe_clk (x : RffeSt) (s : State) : (applyUpd (.rffe x) s).clk = s.clk := rfl
@[simp] theorem rffe_datum (x : RffeSt) (s : State) : (applyUpd (.rffe x) s).datum = s.datum := rfl
@[simp] theorem rffe_pwr (x : RffeSt) (s : State) : (applyUpd (.rffe x) s).pwr = s.pwr := rfl
@[simp] theorem rffe_kiln (x : RffeSt) (s : State) : (applyUpd (.rffe x) s).kiln = s.kiln := rfl
@[simp] theorem rffe_boot (x : RffeSt) (s : State) : (applyUpd (.rffe x) s).boot = s.boot := rfl
@[simp] theorem rffe_fuse (x : RffeSt) (s : State) : (applyUpd (.rffe x) s).fuse = s.fuse := rfl
@[simp] theorem rffe_cap (x : RffeSt) (s : State) : (applyUpd (.rffe x) s).cap = s.cap := rfl
@[simp] theorem rffe_sect (x : RffeSt) (s : State) : (applyUpd (.rffe x) s).sect = s.sect := rfl
@[simp] theorem rffe_fh (x : RffeSt) (s : State) : (applyUpd (.rffe x) s).fh = s.fh := rfl
@[simp] theorem rffe_grat (x : RffeSt) (s : State) : (applyUpd (.rffe x) s).grat = s.grat := rfl
@[simp] theorem rffe_mash (x : RffeSt) (s : State) : (applyUpd (.rffe x) s).mash = s.mash := rfl
@[simp] theorem rffe_tx (x : RffeSt) (s : State) : (applyUpd (.rffe x) s).tx = s.tx := rfl
@[simp] theorem rffe_dpd (x : RffeSt) (s : State) : (applyUpd (.rffe x) s).dpd = s.dpd := rfl
@[simp] theorem rffe_rx (x : RffeSt) (s : State) : (applyUpd (.rffe x) s).rx = s.rx := rfl
@[simp] theorem rffe_conv (x : RffeSt) (s : State) : (applyUpd (.rffe x) s).conv = s.conv := rfl
@[simp] theorem rffe_hk (x : RffeSt) (s : State) : (applyUpd (.rffe x) s).hk = s.hk := rfl
@[simp] theorem rffe_radio (x : RffeSt) (s : State) : (applyUpd (.rffe x) s).radio = s.radio := rfl
@[simp] theorem rffe_survey (x : RffeSt) (s : State) : (applyUpd (.rffe x) s).survey = s.survey := rfl
@[simp] theorem rffe_bias (x : RffeSt) (s : State) : (applyUpd (.rffe x) s).bias = s.bias := rfl
@[simp] theorem rffe_rffe (x : RffeSt) (s : State) : (applyUpd (.rffe x) s).rffe = x := rfl
@[simp] theorem rffe_coex (x : RffeSt) (s : State) : (applyUpd (.rffe x) s).coex = s.coex := rfl
@[simp] theorem rffe_tap (x : RffeSt) (s : State) : (applyUpd (.rffe x) s).tap = s.tap := rfl
@[simp] theorem rffe_pending (x : RffeSt) (s : State) : (applyUpd (.rffe x) s).pending = s.pending := rfl
@[simp] theorem coex_cfg (x : CoexSt) (s : State) : (applyUpd (.coex x) s).cfg = s.cfg := rfl
@[simp] theorem coex_regs (x : CoexSt) (s : State) : (applyUpd (.coex x) s).regs = s.regs := rfl
@[simp] theorem coex_cnts (x : CoexSt) (s : State) : (applyUpd (.coex x) s).cnts = s.cnts := rfl
@[simp] theorem coex_tots (x : CoexSt) (s : State) : (applyUpd (.coex x) s).tots = s.tots := rfl
@[simp] theorem coex_free (x : CoexSt) (s : State) : (applyUpd (.coex x) s).free = s.free := rfl
@[simp] theorem coex_tick (x : CoexSt) (s : State) : (applyUpd (.coex x) s).tick = s.tick := rfl
@[simp] theorem coex_mem (x : CoexSt) (s : State) : (applyUpd (.coex x) s).mem = s.mem := rfl
@[simp] theorem coex_ecc (x : CoexSt) (s : State) : (applyUpd (.coex x) s).ecc = s.ecc := rfl
@[simp] theorem coex_host (x : CoexSt) (s : State) : (applyUpd (.coex x) s).host = s.host := rfl
@[simp] theorem coex_mbx (x : CoexSt) (s : State) : (applyUpd (.coex x) s).mbx = s.mbx := rfl
@[simp] theorem coex_log (x : CoexSt) (s : State) : (applyUpd (.coex x) s).log = s.log := rfl
@[simp] theorem coex_evt (x : CoexSt) (s : State) : (applyUpd (.coex x) s).evt = s.evt := rfl
@[simp] theorem coex_txn (x : CoexSt) (s : State) : (applyUpd (.coex x) s).txn = s.txn := rfl
@[simp] theorem coex_clk (x : CoexSt) (s : State) : (applyUpd (.coex x) s).clk = s.clk := rfl
@[simp] theorem coex_datum (x : CoexSt) (s : State) : (applyUpd (.coex x) s).datum = s.datum := rfl
@[simp] theorem coex_pwr (x : CoexSt) (s : State) : (applyUpd (.coex x) s).pwr = s.pwr := rfl
@[simp] theorem coex_kiln (x : CoexSt) (s : State) : (applyUpd (.coex x) s).kiln = s.kiln := rfl
@[simp] theorem coex_boot (x : CoexSt) (s : State) : (applyUpd (.coex x) s).boot = s.boot := rfl
@[simp] theorem coex_fuse (x : CoexSt) (s : State) : (applyUpd (.coex x) s).fuse = s.fuse := rfl
@[simp] theorem coex_cap (x : CoexSt) (s : State) : (applyUpd (.coex x) s).cap = s.cap := rfl
@[simp] theorem coex_sect (x : CoexSt) (s : State) : (applyUpd (.coex x) s).sect = s.sect := rfl
@[simp] theorem coex_fh (x : CoexSt) (s : State) : (applyUpd (.coex x) s).fh = s.fh := rfl
@[simp] theorem coex_grat (x : CoexSt) (s : State) : (applyUpd (.coex x) s).grat = s.grat := rfl
@[simp] theorem coex_mash (x : CoexSt) (s : State) : (applyUpd (.coex x) s).mash = s.mash := rfl
@[simp] theorem coex_tx (x : CoexSt) (s : State) : (applyUpd (.coex x) s).tx = s.tx := rfl
@[simp] theorem coex_dpd (x : CoexSt) (s : State) : (applyUpd (.coex x) s).dpd = s.dpd := rfl
@[simp] theorem coex_rx (x : CoexSt) (s : State) : (applyUpd (.coex x) s).rx = s.rx := rfl
@[simp] theorem coex_conv (x : CoexSt) (s : State) : (applyUpd (.coex x) s).conv = s.conv := rfl
@[simp] theorem coex_hk (x : CoexSt) (s : State) : (applyUpd (.coex x) s).hk = s.hk := rfl
@[simp] theorem coex_radio (x : CoexSt) (s : State) : (applyUpd (.coex x) s).radio = s.radio := rfl
@[simp] theorem coex_survey (x : CoexSt) (s : State) : (applyUpd (.coex x) s).survey = s.survey := rfl
@[simp] theorem coex_bias (x : CoexSt) (s : State) : (applyUpd (.coex x) s).bias = s.bias := rfl
@[simp] theorem coex_rffe (x : CoexSt) (s : State) : (applyUpd (.coex x) s).rffe = s.rffe := rfl
@[simp] theorem coex_coex (x : CoexSt) (s : State) : (applyUpd (.coex x) s).coex = x := rfl
@[simp] theorem coex_tap (x : CoexSt) (s : State) : (applyUpd (.coex x) s).tap = s.tap := rfl
@[simp] theorem coex_pending (x : CoexSt) (s : State) : (applyUpd (.coex x) s).pending = s.pending := rfl
@[simp] theorem tap_cfg (x : TapSt) (s : State) : (applyUpd (.tap x) s).cfg = s.cfg := rfl
@[simp] theorem tap_regs (x : TapSt) (s : State) : (applyUpd (.tap x) s).regs = s.regs := rfl
@[simp] theorem tap_cnts (x : TapSt) (s : State) : (applyUpd (.tap x) s).cnts = s.cnts := rfl
@[simp] theorem tap_tots (x : TapSt) (s : State) : (applyUpd (.tap x) s).tots = s.tots := rfl
@[simp] theorem tap_free (x : TapSt) (s : State) : (applyUpd (.tap x) s).free = s.free := rfl
@[simp] theorem tap_tick (x : TapSt) (s : State) : (applyUpd (.tap x) s).tick = s.tick := rfl
@[simp] theorem tap_mem (x : TapSt) (s : State) : (applyUpd (.tap x) s).mem = s.mem := rfl
@[simp] theorem tap_ecc (x : TapSt) (s : State) : (applyUpd (.tap x) s).ecc = s.ecc := rfl
@[simp] theorem tap_host (x : TapSt) (s : State) : (applyUpd (.tap x) s).host = s.host := rfl
@[simp] theorem tap_mbx (x : TapSt) (s : State) : (applyUpd (.tap x) s).mbx = s.mbx := rfl
@[simp] theorem tap_log (x : TapSt) (s : State) : (applyUpd (.tap x) s).log = s.log := rfl
@[simp] theorem tap_evt (x : TapSt) (s : State) : (applyUpd (.tap x) s).evt = s.evt := rfl
@[simp] theorem tap_txn (x : TapSt) (s : State) : (applyUpd (.tap x) s).txn = s.txn := rfl
@[simp] theorem tap_clk (x : TapSt) (s : State) : (applyUpd (.tap x) s).clk = s.clk := rfl
@[simp] theorem tap_datum (x : TapSt) (s : State) : (applyUpd (.tap x) s).datum = s.datum := rfl
@[simp] theorem tap_pwr (x : TapSt) (s : State) : (applyUpd (.tap x) s).pwr = s.pwr := rfl
@[simp] theorem tap_kiln (x : TapSt) (s : State) : (applyUpd (.tap x) s).kiln = s.kiln := rfl
@[simp] theorem tap_boot (x : TapSt) (s : State) : (applyUpd (.tap x) s).boot = s.boot := rfl
@[simp] theorem tap_fuse (x : TapSt) (s : State) : (applyUpd (.tap x) s).fuse = s.fuse := rfl
@[simp] theorem tap_cap (x : TapSt) (s : State) : (applyUpd (.tap x) s).cap = s.cap := rfl
@[simp] theorem tap_sect (x : TapSt) (s : State) : (applyUpd (.tap x) s).sect = s.sect := rfl
@[simp] theorem tap_fh (x : TapSt) (s : State) : (applyUpd (.tap x) s).fh = s.fh := rfl
@[simp] theorem tap_grat (x : TapSt) (s : State) : (applyUpd (.tap x) s).grat = s.grat := rfl
@[simp] theorem tap_mash (x : TapSt) (s : State) : (applyUpd (.tap x) s).mash = s.mash := rfl
@[simp] theorem tap_tx (x : TapSt) (s : State) : (applyUpd (.tap x) s).tx = s.tx := rfl
@[simp] theorem tap_dpd (x : TapSt) (s : State) : (applyUpd (.tap x) s).dpd = s.dpd := rfl
@[simp] theorem tap_rx (x : TapSt) (s : State) : (applyUpd (.tap x) s).rx = s.rx := rfl
@[simp] theorem tap_conv (x : TapSt) (s : State) : (applyUpd (.tap x) s).conv = s.conv := rfl
@[simp] theorem tap_hk (x : TapSt) (s : State) : (applyUpd (.tap x) s).hk = s.hk := rfl
@[simp] theorem tap_radio (x : TapSt) (s : State) : (applyUpd (.tap x) s).radio = s.radio := rfl
@[simp] theorem tap_survey (x : TapSt) (s : State) : (applyUpd (.tap x) s).survey = s.survey := rfl
@[simp] theorem tap_bias (x : TapSt) (s : State) : (applyUpd (.tap x) s).bias = s.bias := rfl
@[simp] theorem tap_rffe (x : TapSt) (s : State) : (applyUpd (.tap x) s).rffe = s.rffe := rfl
@[simp] theorem tap_coex (x : TapSt) (s : State) : (applyUpd (.tap x) s).coex = s.coex := rfl
@[simp] theorem tap_tap (x : TapSt) (s : State) : (applyUpd (.tap x) s).tap = x := rfl
@[simp] theorem tap_pending (x : TapSt) (s : State) : (applyUpd (.tap x) s).pending = s.pending := rfl
@[simp] theorem poke_cfg (i : MemId) (a : Nat) (b : Byte) (s : State) : (applyUpd (.poke i a b) s).cfg = s.cfg := rfl
@[simp] theorem poke_regs (i : MemId) (a : Nat) (b : Byte) (s : State) : (applyUpd (.poke i a b) s).regs = s.regs := rfl
@[simp] theorem poke_cnts (i : MemId) (a : Nat) (b : Byte) (s : State) : (applyUpd (.poke i a b) s).cnts = s.cnts := rfl
@[simp] theorem poke_tots (i : MemId) (a : Nat) (b : Byte) (s : State) : (applyUpd (.poke i a b) s).tots = s.tots := rfl
@[simp] theorem poke_free (i : MemId) (a : Nat) (b : Byte) (s : State) : (applyUpd (.poke i a b) s).free = s.free := rfl
@[simp] theorem poke_tick (i : MemId) (a : Nat) (b : Byte) (s : State) : (applyUpd (.poke i a b) s).tick = s.tick := rfl
@[simp] theorem poke_mem (i : MemId) (a : Nat) (b : Byte) (s : State) : (applyUpd (.poke i a b) s).mem = s.mem.poke i a b := rfl
@[simp] theorem poke_ecc (i : MemId) (a : Nat) (b : Byte) (s : State) : (applyUpd (.poke i a b) s).ecc = s.ecc := rfl
@[simp] theorem poke_host (i : MemId) (a : Nat) (b : Byte) (s : State) : (applyUpd (.poke i a b) s).host = s.host := rfl
@[simp] theorem poke_mbx (i : MemId) (a : Nat) (b : Byte) (s : State) : (applyUpd (.poke i a b) s).mbx = s.mbx := rfl
@[simp] theorem poke_log (i : MemId) (a : Nat) (b : Byte) (s : State) : (applyUpd (.poke i a b) s).log = s.log := rfl
@[simp] theorem poke_evt (i : MemId) (a : Nat) (b : Byte) (s : State) : (applyUpd (.poke i a b) s).evt = s.evt := rfl
@[simp] theorem poke_txn (i : MemId) (a : Nat) (b : Byte) (s : State) : (applyUpd (.poke i a b) s).txn = s.txn := rfl
@[simp] theorem poke_clk (i : MemId) (a : Nat) (b : Byte) (s : State) : (applyUpd (.poke i a b) s).clk = s.clk := rfl
@[simp] theorem poke_datum (i : MemId) (a : Nat) (b : Byte) (s : State) : (applyUpd (.poke i a b) s).datum = s.datum := rfl
@[simp] theorem poke_pwr (i : MemId) (a : Nat) (b : Byte) (s : State) : (applyUpd (.poke i a b) s).pwr = s.pwr := rfl
@[simp] theorem poke_kiln (i : MemId) (a : Nat) (b : Byte) (s : State) : (applyUpd (.poke i a b) s).kiln = s.kiln := rfl
@[simp] theorem poke_boot (i : MemId) (a : Nat) (b : Byte) (s : State) : (applyUpd (.poke i a b) s).boot = s.boot := rfl
@[simp] theorem poke_fuse (i : MemId) (a : Nat) (b : Byte) (s : State) : (applyUpd (.poke i a b) s).fuse = s.fuse := rfl
@[simp] theorem poke_cap (i : MemId) (a : Nat) (b : Byte) (s : State) : (applyUpd (.poke i a b) s).cap = s.cap := rfl
@[simp] theorem poke_sect (i : MemId) (a : Nat) (b : Byte) (s : State) : (applyUpd (.poke i a b) s).sect = s.sect := rfl
@[simp] theorem poke_fh (i : MemId) (a : Nat) (b : Byte) (s : State) : (applyUpd (.poke i a b) s).fh = s.fh := rfl
@[simp] theorem poke_grat (i : MemId) (a : Nat) (b : Byte) (s : State) : (applyUpd (.poke i a b) s).grat = s.grat := rfl
@[simp] theorem poke_mash (i : MemId) (a : Nat) (b : Byte) (s : State) : (applyUpd (.poke i a b) s).mash = s.mash := rfl
@[simp] theorem poke_tx (i : MemId) (a : Nat) (b : Byte) (s : State) : (applyUpd (.poke i a b) s).tx = s.tx := rfl
@[simp] theorem poke_dpd (i : MemId) (a : Nat) (b : Byte) (s : State) : (applyUpd (.poke i a b) s).dpd = s.dpd := rfl
@[simp] theorem poke_rx (i : MemId) (a : Nat) (b : Byte) (s : State) : (applyUpd (.poke i a b) s).rx = s.rx := rfl
@[simp] theorem poke_conv (i : MemId) (a : Nat) (b : Byte) (s : State) : (applyUpd (.poke i a b) s).conv = s.conv := rfl
@[simp] theorem poke_hk (i : MemId) (a : Nat) (b : Byte) (s : State) : (applyUpd (.poke i a b) s).hk = s.hk := rfl
@[simp] theorem poke_radio (i : MemId) (a : Nat) (b : Byte) (s : State) : (applyUpd (.poke i a b) s).radio = s.radio := rfl
@[simp] theorem poke_survey (i : MemId) (a : Nat) (b : Byte) (s : State) : (applyUpd (.poke i a b) s).survey = s.survey := rfl
@[simp] theorem poke_bias (i : MemId) (a : Nat) (b : Byte) (s : State) : (applyUpd (.poke i a b) s).bias = s.bias := rfl
@[simp] theorem poke_rffe (i : MemId) (a : Nat) (b : Byte) (s : State) : (applyUpd (.poke i a b) s).rffe = s.rffe := rfl
@[simp] theorem poke_coex (i : MemId) (a : Nat) (b : Byte) (s : State) : (applyUpd (.poke i a b) s).coex = s.coex := rfl
@[simp] theorem poke_tap (i : MemId) (a : Nat) (b : Byte) (s : State) : (applyUpd (.poke i a b) s).tap = s.tap := rfl
@[simp] theorem poke_pending (i : MemId) (a : Nat) (b : Byte) (s : State) : (applyUpd (.poke i a b) s).pending = s.pending := rfl
@[simp] theorem fill_cfg (i : MemId) (lo hi : Nat) (s : State) : (applyUpd (.fill i lo hi) s).cfg = s.cfg := rfl
@[simp] theorem fill_regs (i : MemId) (lo hi : Nat) (s : State) : (applyUpd (.fill i lo hi) s).regs = s.regs := rfl
@[simp] theorem fill_cnts (i : MemId) (lo hi : Nat) (s : State) : (applyUpd (.fill i lo hi) s).cnts = s.cnts := rfl
@[simp] theorem fill_tots (i : MemId) (lo hi : Nat) (s : State) : (applyUpd (.fill i lo hi) s).tots = s.tots := rfl
@[simp] theorem fill_free (i : MemId) (lo hi : Nat) (s : State) : (applyUpd (.fill i lo hi) s).free = s.free := rfl
@[simp] theorem fill_tick (i : MemId) (lo hi : Nat) (s : State) : (applyUpd (.fill i lo hi) s).tick = s.tick := rfl
@[simp] theorem fill_mem (i : MemId) (lo hi : Nat) (s : State) : (applyUpd (.fill i lo hi) s).mem = s.mem.fill i lo hi := rfl
@[simp] theorem fill_ecc (i : MemId) (lo hi : Nat) (s : State) : (applyUpd (.fill i lo hi) s).ecc = s.ecc := rfl
@[simp] theorem fill_host (i : MemId) (lo hi : Nat) (s : State) : (applyUpd (.fill i lo hi) s).host = s.host := rfl
@[simp] theorem fill_mbx (i : MemId) (lo hi : Nat) (s : State) : (applyUpd (.fill i lo hi) s).mbx = s.mbx := rfl
@[simp] theorem fill_log (i : MemId) (lo hi : Nat) (s : State) : (applyUpd (.fill i lo hi) s).log = s.log := rfl
@[simp] theorem fill_evt (i : MemId) (lo hi : Nat) (s : State) : (applyUpd (.fill i lo hi) s).evt = s.evt := rfl
@[simp] theorem fill_txn (i : MemId) (lo hi : Nat) (s : State) : (applyUpd (.fill i lo hi) s).txn = s.txn := rfl
@[simp] theorem fill_clk (i : MemId) (lo hi : Nat) (s : State) : (applyUpd (.fill i lo hi) s).clk = s.clk := rfl
@[simp] theorem fill_datum (i : MemId) (lo hi : Nat) (s : State) : (applyUpd (.fill i lo hi) s).datum = s.datum := rfl
@[simp] theorem fill_pwr (i : MemId) (lo hi : Nat) (s : State) : (applyUpd (.fill i lo hi) s).pwr = s.pwr := rfl
@[simp] theorem fill_kiln (i : MemId) (lo hi : Nat) (s : State) : (applyUpd (.fill i lo hi) s).kiln = s.kiln := rfl
@[simp] theorem fill_boot (i : MemId) (lo hi : Nat) (s : State) : (applyUpd (.fill i lo hi) s).boot = s.boot := rfl
@[simp] theorem fill_fuse (i : MemId) (lo hi : Nat) (s : State) : (applyUpd (.fill i lo hi) s).fuse = s.fuse := rfl
@[simp] theorem fill_cap (i : MemId) (lo hi : Nat) (s : State) : (applyUpd (.fill i lo hi) s).cap = s.cap := rfl
@[simp] theorem fill_sect (i : MemId) (lo hi : Nat) (s : State) : (applyUpd (.fill i lo hi) s).sect = s.sect := rfl
@[simp] theorem fill_fh (i : MemId) (lo hi : Nat) (s : State) : (applyUpd (.fill i lo hi) s).fh = s.fh := rfl
@[simp] theorem fill_grat (i : MemId) (lo hi : Nat) (s : State) : (applyUpd (.fill i lo hi) s).grat = s.grat := rfl
@[simp] theorem fill_mash (i : MemId) (lo hi : Nat) (s : State) : (applyUpd (.fill i lo hi) s).mash = s.mash := rfl
@[simp] theorem fill_tx (i : MemId) (lo hi : Nat) (s : State) : (applyUpd (.fill i lo hi) s).tx = s.tx := rfl
@[simp] theorem fill_dpd (i : MemId) (lo hi : Nat) (s : State) : (applyUpd (.fill i lo hi) s).dpd = s.dpd := rfl
@[simp] theorem fill_rx (i : MemId) (lo hi : Nat) (s : State) : (applyUpd (.fill i lo hi) s).rx = s.rx := rfl
@[simp] theorem fill_conv (i : MemId) (lo hi : Nat) (s : State) : (applyUpd (.fill i lo hi) s).conv = s.conv := rfl
@[simp] theorem fill_hk (i : MemId) (lo hi : Nat) (s : State) : (applyUpd (.fill i lo hi) s).hk = s.hk := rfl
@[simp] theorem fill_radio (i : MemId) (lo hi : Nat) (s : State) : (applyUpd (.fill i lo hi) s).radio = s.radio := rfl
@[simp] theorem fill_survey (i : MemId) (lo hi : Nat) (s : State) : (applyUpd (.fill i lo hi) s).survey = s.survey := rfl
@[simp] theorem fill_bias (i : MemId) (lo hi : Nat) (s : State) : (applyUpd (.fill i lo hi) s).bias = s.bias := rfl
@[simp] theorem fill_rffe (i : MemId) (lo hi : Nat) (s : State) : (applyUpd (.fill i lo hi) s).rffe = s.rffe := rfl
@[simp] theorem fill_coex (i : MemId) (lo hi : Nat) (s : State) : (applyUpd (.fill i lo hi) s).coex = s.coex := rfl
@[simp] theorem fill_tap (i : MemId) (lo hi : Nat) (s : State) : (applyUpd (.fill i lo hi) s).tap = s.tap := rfl
@[simp] theorem fill_pending (i : MemId) (lo hi : Nat) (s : State) : (applyUpd (.fill i lo hi) s).pending = s.pending := rfl
@[simp] theorem copy_cfg (i : MemId) (src dst n : Nat) (s : State) : (applyUpd (.copy i src dst n) s).cfg = s.cfg := rfl
@[simp] theorem copy_regs (i : MemId) (src dst n : Nat) (s : State) : (applyUpd (.copy i src dst n) s).regs = s.regs := rfl
@[simp] theorem copy_cnts (i : MemId) (src dst n : Nat) (s : State) : (applyUpd (.copy i src dst n) s).cnts = s.cnts := rfl
@[simp] theorem copy_tots (i : MemId) (src dst n : Nat) (s : State) : (applyUpd (.copy i src dst n) s).tots = s.tots := rfl
@[simp] theorem copy_free (i : MemId) (src dst n : Nat) (s : State) : (applyUpd (.copy i src dst n) s).free = s.free := rfl
@[simp] theorem copy_tick (i : MemId) (src dst n : Nat) (s : State) : (applyUpd (.copy i src dst n) s).tick = s.tick := rfl
@[simp] theorem copy_mem (i : MemId) (src dst n : Nat) (s : State) : (applyUpd (.copy i src dst n) s).mem = s.mem.copy i src dst n := rfl
@[simp] theorem copy_ecc (i : MemId) (src dst n : Nat) (s : State) : (applyUpd (.copy i src dst n) s).ecc = s.ecc := rfl
@[simp] theorem copy_host (i : MemId) (src dst n : Nat) (s : State) : (applyUpd (.copy i src dst n) s).host = s.host := rfl
@[simp] theorem copy_mbx (i : MemId) (src dst n : Nat) (s : State) : (applyUpd (.copy i src dst n) s).mbx = s.mbx := rfl
@[simp] theorem copy_log (i : MemId) (src dst n : Nat) (s : State) : (applyUpd (.copy i src dst n) s).log = s.log := rfl
@[simp] theorem copy_evt (i : MemId) (src dst n : Nat) (s : State) : (applyUpd (.copy i src dst n) s).evt = s.evt := rfl
@[simp] theorem copy_txn (i : MemId) (src dst n : Nat) (s : State) : (applyUpd (.copy i src dst n) s).txn = s.txn := rfl
@[simp] theorem copy_clk (i : MemId) (src dst n : Nat) (s : State) : (applyUpd (.copy i src dst n) s).clk = s.clk := rfl
@[simp] theorem copy_datum (i : MemId) (src dst n : Nat) (s : State) : (applyUpd (.copy i src dst n) s).datum = s.datum := rfl
@[simp] theorem copy_pwr (i : MemId) (src dst n : Nat) (s : State) : (applyUpd (.copy i src dst n) s).pwr = s.pwr := rfl
@[simp] theorem copy_kiln (i : MemId) (src dst n : Nat) (s : State) : (applyUpd (.copy i src dst n) s).kiln = s.kiln := rfl
@[simp] theorem copy_boot (i : MemId) (src dst n : Nat) (s : State) : (applyUpd (.copy i src dst n) s).boot = s.boot := rfl
@[simp] theorem copy_fuse (i : MemId) (src dst n : Nat) (s : State) : (applyUpd (.copy i src dst n) s).fuse = s.fuse := rfl
@[simp] theorem copy_cap (i : MemId) (src dst n : Nat) (s : State) : (applyUpd (.copy i src dst n) s).cap = s.cap := rfl
@[simp] theorem copy_sect (i : MemId) (src dst n : Nat) (s : State) : (applyUpd (.copy i src dst n) s).sect = s.sect := rfl
@[simp] theorem copy_fh (i : MemId) (src dst n : Nat) (s : State) : (applyUpd (.copy i src dst n) s).fh = s.fh := rfl
@[simp] theorem copy_grat (i : MemId) (src dst n : Nat) (s : State) : (applyUpd (.copy i src dst n) s).grat = s.grat := rfl
@[simp] theorem copy_mash (i : MemId) (src dst n : Nat) (s : State) : (applyUpd (.copy i src dst n) s).mash = s.mash := rfl
@[simp] theorem copy_tx (i : MemId) (src dst n : Nat) (s : State) : (applyUpd (.copy i src dst n) s).tx = s.tx := rfl
@[simp] theorem copy_dpd (i : MemId) (src dst n : Nat) (s : State) : (applyUpd (.copy i src dst n) s).dpd = s.dpd := rfl
@[simp] theorem copy_rx (i : MemId) (src dst n : Nat) (s : State) : (applyUpd (.copy i src dst n) s).rx = s.rx := rfl
@[simp] theorem copy_conv (i : MemId) (src dst n : Nat) (s : State) : (applyUpd (.copy i src dst n) s).conv = s.conv := rfl
@[simp] theorem copy_hk (i : MemId) (src dst n : Nat) (s : State) : (applyUpd (.copy i src dst n) s).hk = s.hk := rfl
@[simp] theorem copy_radio (i : MemId) (src dst n : Nat) (s : State) : (applyUpd (.copy i src dst n) s).radio = s.radio := rfl
@[simp] theorem copy_survey (i : MemId) (src dst n : Nat) (s : State) : (applyUpd (.copy i src dst n) s).survey = s.survey := rfl
@[simp] theorem copy_bias (i : MemId) (src dst n : Nat) (s : State) : (applyUpd (.copy i src dst n) s).bias = s.bias := rfl
@[simp] theorem copy_rffe (i : MemId) (src dst n : Nat) (s : State) : (applyUpd (.copy i src dst n) s).rffe = s.rffe := rfl
@[simp] theorem copy_coex (i : MemId) (src dst n : Nat) (s : State) : (applyUpd (.copy i src dst n) s).coex = s.coex := rfl
@[simp] theorem copy_tap (i : MemId) (src dst n : Nat) (s : State) : (applyUpd (.copy i src dst n) s).tap = s.tap := rfl
@[simp] theorem copy_pending (i : MemId) (src dst n : Nat) (s : State) : (applyUpd (.copy i src dst n) s).pending = s.pending := rfl
@[simp] theorem setCfg_cfg (k : Nat) (r : Rec) (s : State) : (applyUpd (.setCfg k r) s).cfg = tset s.cfg k r := rfl
@[simp] theorem setCfg_regs (k : Nat) (r : Rec) (s : State) : (applyUpd (.setCfg k r) s).regs = s.regs := rfl
@[simp] theorem setCfg_cnts (k : Nat) (r : Rec) (s : State) : (applyUpd (.setCfg k r) s).cnts = s.cnts := rfl
@[simp] theorem setCfg_tots (k : Nat) (r : Rec) (s : State) : (applyUpd (.setCfg k r) s).tots = s.tots := rfl
@[simp] theorem setCfg_free (k : Nat) (r : Rec) (s : State) : (applyUpd (.setCfg k r) s).free = s.free := rfl
@[simp] theorem setCfg_tick (k : Nat) (r : Rec) (s : State) : (applyUpd (.setCfg k r) s).tick = s.tick := rfl
@[simp] theorem setCfg_mem (k : Nat) (r : Rec) (s : State) : (applyUpd (.setCfg k r) s).mem = s.mem := rfl
@[simp] theorem setCfg_ecc (k : Nat) (r : Rec) (s : State) : (applyUpd (.setCfg k r) s).ecc = s.ecc := rfl
@[simp] theorem setCfg_host (k : Nat) (r : Rec) (s : State) : (applyUpd (.setCfg k r) s).host = s.host := rfl
@[simp] theorem setCfg_mbx (k : Nat) (r : Rec) (s : State) : (applyUpd (.setCfg k r) s).mbx = s.mbx := rfl
@[simp] theorem setCfg_log (k : Nat) (r : Rec) (s : State) : (applyUpd (.setCfg k r) s).log = s.log := rfl
@[simp] theorem setCfg_evt (k : Nat) (r : Rec) (s : State) : (applyUpd (.setCfg k r) s).evt = s.evt := rfl
@[simp] theorem setCfg_txn (k : Nat) (r : Rec) (s : State) : (applyUpd (.setCfg k r) s).txn = s.txn := rfl
@[simp] theorem setCfg_clk (k : Nat) (r : Rec) (s : State) : (applyUpd (.setCfg k r) s).clk = s.clk := rfl
@[simp] theorem setCfg_datum (k : Nat) (r : Rec) (s : State) : (applyUpd (.setCfg k r) s).datum = s.datum := rfl
@[simp] theorem setCfg_pwr (k : Nat) (r : Rec) (s : State) : (applyUpd (.setCfg k r) s).pwr = s.pwr := rfl
@[simp] theorem setCfg_kiln (k : Nat) (r : Rec) (s : State) : (applyUpd (.setCfg k r) s).kiln = s.kiln := rfl
@[simp] theorem setCfg_boot (k : Nat) (r : Rec) (s : State) : (applyUpd (.setCfg k r) s).boot = s.boot := rfl
@[simp] theorem setCfg_fuse (k : Nat) (r : Rec) (s : State) : (applyUpd (.setCfg k r) s).fuse = s.fuse := rfl
@[simp] theorem setCfg_cap (k : Nat) (r : Rec) (s : State) : (applyUpd (.setCfg k r) s).cap = s.cap := rfl
@[simp] theorem setCfg_sect (k : Nat) (r : Rec) (s : State) : (applyUpd (.setCfg k r) s).sect = s.sect := rfl
@[simp] theorem setCfg_fh (k : Nat) (r : Rec) (s : State) : (applyUpd (.setCfg k r) s).fh = s.fh := rfl
@[simp] theorem setCfg_grat (k : Nat) (r : Rec) (s : State) : (applyUpd (.setCfg k r) s).grat = s.grat := rfl
@[simp] theorem setCfg_mash (k : Nat) (r : Rec) (s : State) : (applyUpd (.setCfg k r) s).mash = s.mash := rfl
@[simp] theorem setCfg_tx (k : Nat) (r : Rec) (s : State) : (applyUpd (.setCfg k r) s).tx = s.tx := rfl
@[simp] theorem setCfg_dpd (k : Nat) (r : Rec) (s : State) : (applyUpd (.setCfg k r) s).dpd = s.dpd := rfl
@[simp] theorem setCfg_rx (k : Nat) (r : Rec) (s : State) : (applyUpd (.setCfg k r) s).rx = s.rx := rfl
@[simp] theorem setCfg_conv (k : Nat) (r : Rec) (s : State) : (applyUpd (.setCfg k r) s).conv = s.conv := rfl
@[simp] theorem setCfg_hk (k : Nat) (r : Rec) (s : State) : (applyUpd (.setCfg k r) s).hk = s.hk := rfl
@[simp] theorem setCfg_radio (k : Nat) (r : Rec) (s : State) : (applyUpd (.setCfg k r) s).radio = s.radio := rfl
@[simp] theorem setCfg_survey (k : Nat) (r : Rec) (s : State) : (applyUpd (.setCfg k r) s).survey = s.survey := rfl
@[simp] theorem setCfg_bias (k : Nat) (r : Rec) (s : State) : (applyUpd (.setCfg k r) s).bias = s.bias := rfl
@[simp] theorem setCfg_rffe (k : Nat) (r : Rec) (s : State) : (applyUpd (.setCfg k r) s).rffe = s.rffe := rfl
@[simp] theorem setCfg_coex (k : Nat) (r : Rec) (s : State) : (applyUpd (.setCfg k r) s).coex = s.coex := rfl
@[simp] theorem setCfg_tap (k : Nat) (r : Rec) (s : State) : (applyUpd (.setCfg k r) s).tap = s.tap := rfl
@[simp] theorem setCfg_pending (k : Nat) (r : Rec) (s : State) : (applyUpd (.setCfg k r) s).pending = s.pending := rfl
@[simp] theorem clearCfg_cfg  (s : State) : (applyUpd (.clearCfg) s).cfg = [] := rfl
@[simp] theorem clearCfg_regs  (s : State) : (applyUpd (.clearCfg) s).regs = s.regs := rfl
@[simp] theorem clearCfg_cnts  (s : State) : (applyUpd (.clearCfg) s).cnts = s.cnts := rfl
@[simp] theorem clearCfg_tots  (s : State) : (applyUpd (.clearCfg) s).tots = s.tots := rfl
@[simp] theorem clearCfg_free  (s : State) : (applyUpd (.clearCfg) s).free = s.free := rfl
@[simp] theorem clearCfg_tick  (s : State) : (applyUpd (.clearCfg) s).tick = s.tick := rfl
@[simp] theorem clearCfg_mem  (s : State) : (applyUpd (.clearCfg) s).mem = s.mem := rfl
@[simp] theorem clearCfg_ecc  (s : State) : (applyUpd (.clearCfg) s).ecc = s.ecc := rfl
@[simp] theorem clearCfg_host  (s : State) : (applyUpd (.clearCfg) s).host = s.host := rfl
@[simp] theorem clearCfg_mbx  (s : State) : (applyUpd (.clearCfg) s).mbx = s.mbx := rfl
@[simp] theorem clearCfg_log  (s : State) : (applyUpd (.clearCfg) s).log = s.log := rfl
@[simp] theorem clearCfg_evt  (s : State) : (applyUpd (.clearCfg) s).evt = s.evt := rfl
@[simp] theorem clearCfg_txn  (s : State) : (applyUpd (.clearCfg) s).txn = s.txn := rfl
@[simp] theorem clearCfg_clk  (s : State) : (applyUpd (.clearCfg) s).clk = s.clk := rfl
@[simp] theorem clearCfg_datum  (s : State) : (applyUpd (.clearCfg) s).datum = s.datum := rfl
@[simp] theorem clearCfg_pwr  (s : State) : (applyUpd (.clearCfg) s).pwr = s.pwr := rfl
@[simp] theorem clearCfg_kiln  (s : State) : (applyUpd (.clearCfg) s).kiln = s.kiln := rfl
@[simp] theorem clearCfg_boot  (s : State) : (applyUpd (.clearCfg) s).boot = s.boot := rfl
@[simp] theorem clearCfg_fuse  (s : State) : (applyUpd (.clearCfg) s).fuse = s.fuse := rfl
@[simp] theorem clearCfg_cap  (s : State) : (applyUpd (.clearCfg) s).cap = s.cap := rfl
@[simp] theorem clearCfg_sect  (s : State) : (applyUpd (.clearCfg) s).sect = s.sect := rfl
@[simp] theorem clearCfg_fh  (s : State) : (applyUpd (.clearCfg) s).fh = s.fh := rfl
@[simp] theorem clearCfg_grat  (s : State) : (applyUpd (.clearCfg) s).grat = s.grat := rfl
@[simp] theorem clearCfg_mash  (s : State) : (applyUpd (.clearCfg) s).mash = s.mash := rfl
@[simp] theorem clearCfg_tx  (s : State) : (applyUpd (.clearCfg) s).tx = s.tx := rfl
@[simp] theorem clearCfg_dpd  (s : State) : (applyUpd (.clearCfg) s).dpd = s.dpd := rfl
@[simp] theorem clearCfg_rx  (s : State) : (applyUpd (.clearCfg) s).rx = s.rx := rfl
@[simp] theorem clearCfg_conv  (s : State) : (applyUpd (.clearCfg) s).conv = s.conv := rfl
@[simp] theorem clearCfg_hk  (s : State) : (applyUpd (.clearCfg) s).hk = s.hk := rfl
@[simp] theorem clearCfg_radio  (s : State) : (applyUpd (.clearCfg) s).radio = s.radio := rfl
@[simp] theorem clearCfg_survey  (s : State) : (applyUpd (.clearCfg) s).survey = s.survey := rfl
@[simp] theorem clearCfg_bias  (s : State) : (applyUpd (.clearCfg) s).bias = s.bias := rfl
@[simp] theorem clearCfg_rffe  (s : State) : (applyUpd (.clearCfg) s).rffe = s.rffe := rfl
@[simp] theorem clearCfg_coex  (s : State) : (applyUpd (.clearCfg) s).coex = s.coex := rfl
@[simp] theorem clearCfg_tap  (s : State) : (applyUpd (.clearCfg) s).tap = s.tap := rfl
@[simp] theorem clearCfg_pending  (s : State) : (applyUpd (.clearCfg) s).pending = s.pending := rfl
@[simp] theorem setReg_cfg (a v : Nat) (s : State) : (applyUpd (.setReg a v) s).cfg = s.cfg := rfl
@[simp] theorem setReg_regs (a v : Nat) (s : State) : (applyUpd (.setReg a v) s).regs = tset s.regs a v := rfl
@[simp] theorem setReg_cnts (a v : Nat) (s : State) : (applyUpd (.setReg a v) s).cnts = s.cnts := rfl
@[simp] theorem setReg_tots (a v : Nat) (s : State) : (applyUpd (.setReg a v) s).tots = s.tots := rfl
@[simp] theorem setReg_free (a v : Nat) (s : State) : (applyUpd (.setReg a v) s).free = s.free := rfl
@[simp] theorem setReg_tick (a v : Nat) (s : State) : (applyUpd (.setReg a v) s).tick = s.tick := rfl
@[simp] theorem setReg_mem (a v : Nat) (s : State) : (applyUpd (.setReg a v) s).mem = s.mem := rfl
@[simp] theorem setReg_ecc (a v : Nat) (s : State) : (applyUpd (.setReg a v) s).ecc = s.ecc := rfl
@[simp] theorem setReg_host (a v : Nat) (s : State) : (applyUpd (.setReg a v) s).host = s.host := rfl
@[simp] theorem setReg_mbx (a v : Nat) (s : State) : (applyUpd (.setReg a v) s).mbx = s.mbx := rfl
@[simp] theorem setReg_log (a v : Nat) (s : State) : (applyUpd (.setReg a v) s).log = s.log := rfl
@[simp] theorem setReg_evt (a v : Nat) (s : State) : (applyUpd (.setReg a v) s).evt = s.evt := rfl
@[simp] theorem setReg_txn (a v : Nat) (s : State) : (applyUpd (.setReg a v) s).txn = s.txn := rfl
@[simp] theorem setReg_clk (a v : Nat) (s : State) : (applyUpd (.setReg a v) s).clk = s.clk := rfl
@[simp] theorem setReg_datum (a v : Nat) (s : State) : (applyUpd (.setReg a v) s).datum = s.datum := rfl
@[simp] theorem setReg_pwr (a v : Nat) (s : State) : (applyUpd (.setReg a v) s).pwr = s.pwr := rfl
@[simp] theorem setReg_kiln (a v : Nat) (s : State) : (applyUpd (.setReg a v) s).kiln = s.kiln := rfl
@[simp] theorem setReg_boot (a v : Nat) (s : State) : (applyUpd (.setReg a v) s).boot = s.boot := rfl
@[simp] theorem setReg_fuse (a v : Nat) (s : State) : (applyUpd (.setReg a v) s).fuse = s.fuse := rfl
@[simp] theorem setReg_cap (a v : Nat) (s : State) : (applyUpd (.setReg a v) s).cap = s.cap := rfl
@[simp] theorem setReg_sect (a v : Nat) (s : State) : (applyUpd (.setReg a v) s).sect = s.sect := rfl
@[simp] theorem setReg_fh (a v : Nat) (s : State) : (applyUpd (.setReg a v) s).fh = s.fh := rfl
@[simp] theorem setReg_grat (a v : Nat) (s : State) : (applyUpd (.setReg a v) s).grat = s.grat := rfl
@[simp] theorem setReg_mash (a v : Nat) (s : State) : (applyUpd (.setReg a v) s).mash = s.mash := rfl
@[simp] theorem setReg_tx (a v : Nat) (s : State) : (applyUpd (.setReg a v) s).tx = s.tx := rfl
@[simp] theorem setReg_dpd (a v : Nat) (s : State) : (applyUpd (.setReg a v) s).dpd = s.dpd := rfl
@[simp] theorem setReg_rx (a v : Nat) (s : State) : (applyUpd (.setReg a v) s).rx = s.rx := rfl
@[simp] theorem setReg_conv (a v : Nat) (s : State) : (applyUpd (.setReg a v) s).conv = s.conv := rfl
@[simp] theorem setReg_hk (a v : Nat) (s : State) : (applyUpd (.setReg a v) s).hk = s.hk := rfl
@[simp] theorem setReg_radio (a v : Nat) (s : State) : (applyUpd (.setReg a v) s).radio = s.radio := rfl
@[simp] theorem setReg_survey (a v : Nat) (s : State) : (applyUpd (.setReg a v) s).survey = s.survey := rfl
@[simp] theorem setReg_bias (a v : Nat) (s : State) : (applyUpd (.setReg a v) s).bias = s.bias := rfl
@[simp] theorem setReg_rffe (a v : Nat) (s : State) : (applyUpd (.setReg a v) s).rffe = s.rffe := rfl
@[simp] theorem setReg_coex (a v : Nat) (s : State) : (applyUpd (.setReg a v) s).coex = s.coex := rfl
@[simp] theorem setReg_tap (a v : Nat) (s : State) : (applyUpd (.setReg a v) s).tap = s.tap := rfl
@[simp] theorem setReg_pending (a v : Nat) (s : State) : (applyUpd (.setReg a v) s).pending = s.pending := rfl
@[simp] theorem dropRegs_cfg (lo hi : Nat) (s : State) : (applyUpd (.dropRegs lo hi) s).cfg = s.cfg := rfl
@[simp] theorem dropRegs_regs (lo hi : Nat) (s : State) : (applyUpd (.dropRegs lo hi) s).regs = s.regs.filter fun p => !(decide (lo ≤ p.1) && decide (p.1 < hi)) := rfl
@[simp] theorem dropRegs_cnts (lo hi : Nat) (s : State) : (applyUpd (.dropRegs lo hi) s).cnts = s.cnts := rfl
@[simp] theorem dropRegs_tots (lo hi : Nat) (s : State) : (applyUpd (.dropRegs lo hi) s).tots = s.tots := rfl
@[simp] theorem dropRegs_free (lo hi : Nat) (s : State) : (applyUpd (.dropRegs lo hi) s).free = s.free := rfl
@[simp] theorem dropRegs_tick (lo hi : Nat) (s : State) : (applyUpd (.dropRegs lo hi) s).tick = s.tick := rfl
@[simp] theorem dropRegs_mem (lo hi : Nat) (s : State) : (applyUpd (.dropRegs lo hi) s).mem = s.mem := rfl
@[simp] theorem dropRegs_ecc (lo hi : Nat) (s : State) : (applyUpd (.dropRegs lo hi) s).ecc = s.ecc := rfl
@[simp] theorem dropRegs_host (lo hi : Nat) (s : State) : (applyUpd (.dropRegs lo hi) s).host = s.host := rfl
@[simp] theorem dropRegs_mbx (lo hi : Nat) (s : State) : (applyUpd (.dropRegs lo hi) s).mbx = s.mbx := rfl
@[simp] theorem dropRegs_log (lo hi : Nat) (s : State) : (applyUpd (.dropRegs lo hi) s).log = s.log := rfl
@[simp] theorem dropRegs_evt (lo hi : Nat) (s : State) : (applyUpd (.dropRegs lo hi) s).evt = s.evt := rfl
@[simp] theorem dropRegs_txn (lo hi : Nat) (s : State) : (applyUpd (.dropRegs lo hi) s).txn = s.txn := rfl
@[simp] theorem dropRegs_clk (lo hi : Nat) (s : State) : (applyUpd (.dropRegs lo hi) s).clk = s.clk := rfl
@[simp] theorem dropRegs_datum (lo hi : Nat) (s : State) : (applyUpd (.dropRegs lo hi) s).datum = s.datum := rfl
@[simp] theorem dropRegs_pwr (lo hi : Nat) (s : State) : (applyUpd (.dropRegs lo hi) s).pwr = s.pwr := rfl
@[simp] theorem dropRegs_kiln (lo hi : Nat) (s : State) : (applyUpd (.dropRegs lo hi) s).kiln = s.kiln := rfl
@[simp] theorem dropRegs_boot (lo hi : Nat) (s : State) : (applyUpd (.dropRegs lo hi) s).boot = s.boot := rfl
@[simp] theorem dropRegs_fuse (lo hi : Nat) (s : State) : (applyUpd (.dropRegs lo hi) s).fuse = s.fuse := rfl
@[simp] theorem dropRegs_cap (lo hi : Nat) (s : State) : (applyUpd (.dropRegs lo hi) s).cap = s.cap := rfl
@[simp] theorem dropRegs_sect (lo hi : Nat) (s : State) : (applyUpd (.dropRegs lo hi) s).sect = s.sect := rfl
@[simp] theorem dropRegs_fh (lo hi : Nat) (s : State) : (applyUpd (.dropRegs lo hi) s).fh = s.fh := rfl
@[simp] theorem dropRegs_grat (lo hi : Nat) (s : State) : (applyUpd (.dropRegs lo hi) s).grat = s.grat := rfl
@[simp] theorem dropRegs_mash (lo hi : Nat) (s : State) : (applyUpd (.dropRegs lo hi) s).mash = s.mash := rfl
@[simp] theorem dropRegs_tx (lo hi : Nat) (s : State) : (applyUpd (.dropRegs lo hi) s).tx = s.tx := rfl
@[simp] theorem dropRegs_dpd (lo hi : Nat) (s : State) : (applyUpd (.dropRegs lo hi) s).dpd = s.dpd := rfl
@[simp] theorem dropRegs_rx (lo hi : Nat) (s : State) : (applyUpd (.dropRegs lo hi) s).rx = s.rx := rfl
@[simp] theorem dropRegs_conv (lo hi : Nat) (s : State) : (applyUpd (.dropRegs lo hi) s).conv = s.conv := rfl
@[simp] theorem dropRegs_hk (lo hi : Nat) (s : State) : (applyUpd (.dropRegs lo hi) s).hk = s.hk := rfl
@[simp] theorem dropRegs_radio (lo hi : Nat) (s : State) : (applyUpd (.dropRegs lo hi) s).radio = s.radio := rfl
@[simp] theorem dropRegs_survey (lo hi : Nat) (s : State) : (applyUpd (.dropRegs lo hi) s).survey = s.survey := rfl
@[simp] theorem dropRegs_bias (lo hi : Nat) (s : State) : (applyUpd (.dropRegs lo hi) s).bias = s.bias := rfl
@[simp] theorem dropRegs_rffe (lo hi : Nat) (s : State) : (applyUpd (.dropRegs lo hi) s).rffe = s.rffe := rfl
@[simp] theorem dropRegs_coex (lo hi : Nat) (s : State) : (applyUpd (.dropRegs lo hi) s).coex = s.coex := rfl
@[simp] theorem dropRegs_tap (lo hi : Nat) (s : State) : (applyUpd (.dropRegs lo hi) s).tap = s.tap := rfl
@[simp] theorem dropRegs_pending (lo hi : Nat) (s : State) : (applyUpd (.dropRegs lo hi) s).pending = s.pending := rfl
@[simp] theorem bump_cfg (k n : Nat) (s : State) : (applyUpd (.bump k n) s).cfg = s.cfg := rfl
@[simp] theorem bump_regs (k n : Nat) (s : State) : (applyUpd (.bump k n) s).regs = s.regs := rfl
@[simp] theorem bump_cnts (k n : Nat) (s : State) : (applyUpd (.bump k n) s).cnts = tset s.cnts k (satAdd (tget 0 s.cnts k) n) := rfl
@[simp] theorem bump_tots (k n : Nat) (s : State) : (applyUpd (.bump k n) s).tots = s.tots := rfl
@[simp] theorem bump_free (k n : Nat) (s : State) : (applyUpd (.bump k n) s).free = s.free := rfl
@[simp] theorem bump_tick (k n : Nat) (s : State) : (applyUpd (.bump k n) s).tick = s.tick := rfl
@[simp] theorem bump_mem (k n : Nat) (s : State) : (applyUpd (.bump k n) s).mem = s.mem := rfl
@[simp] theorem bump_ecc (k n : Nat) (s : State) : (applyUpd (.bump k n) s).ecc = s.ecc := rfl
@[simp] theorem bump_host (k n : Nat) (s : State) : (applyUpd (.bump k n) s).host = s.host := rfl
@[simp] theorem bump_mbx (k n : Nat) (s : State) : (applyUpd (.bump k n) s).mbx = s.mbx := rfl
@[simp] theorem bump_log (k n : Nat) (s : State) : (applyUpd (.bump k n) s).log = s.log := rfl
@[simp] theorem bump_evt (k n : Nat) (s : State) : (applyUpd (.bump k n) s).evt = s.evt := rfl
@[simp] theorem bump_txn (k n : Nat) (s : State) : (applyUpd (.bump k n) s).txn = s.txn := rfl
@[simp] theorem bump_clk (k n : Nat) (s : State) : (applyUpd (.bump k n) s).clk = s.clk := rfl
@[simp] theorem bump_datum (k n : Nat) (s : State) : (applyUpd (.bump k n) s).datum = s.datum := rfl
@[simp] theorem bump_pwr (k n : Nat) (s : State) : (applyUpd (.bump k n) s).pwr = s.pwr := rfl
@[simp] theorem bump_kiln (k n : Nat) (s : State) : (applyUpd (.bump k n) s).kiln = s.kiln := rfl
@[simp] theorem bump_boot (k n : Nat) (s : State) : (applyUpd (.bump k n) s).boot = s.boot := rfl
@[simp] theorem bump_fuse (k n : Nat) (s : State) : (applyUpd (.bump k n) s).fuse = s.fuse := rfl
@[simp] theorem bump_cap (k n : Nat) (s : State) : (applyUpd (.bump k n) s).cap = s.cap := rfl
@[simp] theorem bump_sect (k n : Nat) (s : State) : (applyUpd (.bump k n) s).sect = s.sect := rfl
@[simp] theorem bump_fh (k n : Nat) (s : State) : (applyUpd (.bump k n) s).fh = s.fh := rfl
@[simp] theorem bump_grat (k n : Nat) (s : State) : (applyUpd (.bump k n) s).grat = s.grat := rfl
@[simp] theorem bump_mash (k n : Nat) (s : State) : (applyUpd (.bump k n) s).mash = s.mash := rfl
@[simp] theorem bump_tx (k n : Nat) (s : State) : (applyUpd (.bump k n) s).tx = s.tx := rfl
@[simp] theorem bump_dpd (k n : Nat) (s : State) : (applyUpd (.bump k n) s).dpd = s.dpd := rfl
@[simp] theorem bump_rx (k n : Nat) (s : State) : (applyUpd (.bump k n) s).rx = s.rx := rfl
@[simp] theorem bump_conv (k n : Nat) (s : State) : (applyUpd (.bump k n) s).conv = s.conv := rfl
@[simp] theorem bump_hk (k n : Nat) (s : State) : (applyUpd (.bump k n) s).hk = s.hk := rfl
@[simp] theorem bump_radio (k n : Nat) (s : State) : (applyUpd (.bump k n) s).radio = s.radio := rfl
@[simp] theorem bump_survey (k n : Nat) (s : State) : (applyUpd (.bump k n) s).survey = s.survey := rfl
@[simp] theorem bump_bias (k n : Nat) (s : State) : (applyUpd (.bump k n) s).bias = s.bias := rfl
@[simp] theorem bump_rffe (k n : Nat) (s : State) : (applyUpd (.bump k n) s).rffe = s.rffe := rfl
@[simp] theorem bump_coex (k n : Nat) (s : State) : (applyUpd (.bump k n) s).coex = s.coex := rfl
@[simp] theorem bump_tap (k n : Nat) (s : State) : (applyUpd (.bump k n) s).tap = s.tap := rfl
@[simp] theorem bump_pending (k n : Nat) (s : State) : (applyUpd (.bump k n) s).pending = s.pending := rfl
@[simp] theorem clearCnt_cfg (k : Nat) (s : State) : (applyUpd (.clearCnt k) s).cfg = s.cfg := rfl
@[simp] theorem clearCnt_regs (k : Nat) (s : State) : (applyUpd (.clearCnt k) s).regs = s.regs := rfl
@[simp] theorem clearCnt_cnts (k : Nat) (s : State) : (applyUpd (.clearCnt k) s).cnts = tdel s.cnts k := rfl
@[simp] theorem clearCnt_tots (k : Nat) (s : State) : (applyUpd (.clearCnt k) s).tots = s.tots := rfl
@[simp] theorem clearCnt_free (k : Nat) (s : State) : (applyUpd (.clearCnt k) s).free = s.free := rfl
@[simp] theorem clearCnt_tick (k : Nat) (s : State) : (applyUpd (.clearCnt k) s).tick = s.tick := rfl
@[simp] theorem clearCnt_mem (k : Nat) (s : State) : (applyUpd (.clearCnt k) s).mem = s.mem := rfl
@[simp] theorem clearCnt_ecc (k : Nat) (s : State) : (applyUpd (.clearCnt k) s).ecc = s.ecc := rfl
@[simp] theorem clearCnt_host (k : Nat) (s : State) : (applyUpd (.clearCnt k) s).host = s.host := rfl
@[simp] theorem clearCnt_mbx (k : Nat) (s : State) : (applyUpd (.clearCnt k) s).mbx = s.mbx := rfl
@[simp] theorem clearCnt_log (k : Nat) (s : State) : (applyUpd (.clearCnt k) s).log = s.log := rfl
@[simp] theorem clearCnt_evt (k : Nat) (s : State) : (applyUpd (.clearCnt k) s).evt = s.evt := rfl
@[simp] theorem clearCnt_txn (k : Nat) (s : State) : (applyUpd (.clearCnt k) s).txn = s.txn := rfl
@[simp] theorem clearCnt_clk (k : Nat) (s : State) : (applyUpd (.clearCnt k) s).clk = s.clk := rfl
@[simp] theorem clearCnt_datum (k : Nat) (s : State) : (applyUpd (.clearCnt k) s).datum = s.datum := rfl
@[simp] theorem clearCnt_pwr (k : Nat) (s : State) : (applyUpd (.clearCnt k) s).pwr = s.pwr := rfl
@[simp] theorem clearCnt_kiln (k : Nat) (s : State) : (applyUpd (.clearCnt k) s).kiln = s.kiln := rfl
@[simp] theorem clearCnt_boot (k : Nat) (s : State) : (applyUpd (.clearCnt k) s).boot = s.boot := rfl
@[simp] theorem clearCnt_fuse (k : Nat) (s : State) : (applyUpd (.clearCnt k) s).fuse = s.fuse := rfl
@[simp] theorem clearCnt_cap (k : Nat) (s : State) : (applyUpd (.clearCnt k) s).cap = s.cap := rfl
@[simp] theorem clearCnt_sect (k : Nat) (s : State) : (applyUpd (.clearCnt k) s).sect = s.sect := rfl
@[simp] theorem clearCnt_fh (k : Nat) (s : State) : (applyUpd (.clearCnt k) s).fh = s.fh := rfl
@[simp] theorem clearCnt_grat (k : Nat) (s : State) : (applyUpd (.clearCnt k) s).grat = s.grat := rfl
@[simp] theorem clearCnt_mash (k : Nat) (s : State) : (applyUpd (.clearCnt k) s).mash = s.mash := rfl
@[simp] theorem clearCnt_tx (k : Nat) (s : State) : (applyUpd (.clearCnt k) s).tx = s.tx := rfl
@[simp] theorem clearCnt_dpd (k : Nat) (s : State) : (applyUpd (.clearCnt k) s).dpd = s.dpd := rfl
@[simp] theorem clearCnt_rx (k : Nat) (s : State) : (applyUpd (.clearCnt k) s).rx = s.rx := rfl
@[simp] theorem clearCnt_conv (k : Nat) (s : State) : (applyUpd (.clearCnt k) s).conv = s.conv := rfl
@[simp] theorem clearCnt_hk (k : Nat) (s : State) : (applyUpd (.clearCnt k) s).hk = s.hk := rfl
@[simp] theorem clearCnt_radio (k : Nat) (s : State) : (applyUpd (.clearCnt k) s).radio = s.radio := rfl
@[simp] theorem clearCnt_survey (k : Nat) (s : State) : (applyUpd (.clearCnt k) s).survey = s.survey := rfl
@[simp] theorem clearCnt_bias (k : Nat) (s : State) : (applyUpd (.clearCnt k) s).bias = s.bias := rfl
@[simp] theorem clearCnt_rffe (k : Nat) (s : State) : (applyUpd (.clearCnt k) s).rffe = s.rffe := rfl
@[simp] theorem clearCnt_coex (k : Nat) (s : State) : (applyUpd (.clearCnt k) s).coex = s.coex := rfl
@[simp] theorem clearCnt_tap (k : Nat) (s : State) : (applyUpd (.clearCnt k) s).tap = s.tap := rfl
@[simp] theorem clearCnt_pending (k : Nat) (s : State) : (applyUpd (.clearCnt k) s).pending = s.pending := rfl
@[simp] theorem dropCnts_cfg (lo hi : Nat) (s : State) : (applyUpd (.dropCnts lo hi) s).cfg = s.cfg := rfl
@[simp] theorem dropCnts_regs (lo hi : Nat) (s : State) : (applyUpd (.dropCnts lo hi) s).regs = s.regs := rfl
@[simp] theorem dropCnts_cnts (lo hi : Nat) (s : State) : (applyUpd (.dropCnts lo hi) s).cnts = s.cnts.filter fun p => !(decide (lo ≤ p.1) && decide (p.1 < hi)) := rfl
@[simp] theorem dropCnts_tots (lo hi : Nat) (s : State) : (applyUpd (.dropCnts lo hi) s).tots = s.tots := rfl
@[simp] theorem dropCnts_free (lo hi : Nat) (s : State) : (applyUpd (.dropCnts lo hi) s).free = s.free := rfl
@[simp] theorem dropCnts_tick (lo hi : Nat) (s : State) : (applyUpd (.dropCnts lo hi) s).tick = s.tick := rfl
@[simp] theorem dropCnts_mem (lo hi : Nat) (s : State) : (applyUpd (.dropCnts lo hi) s).mem = s.mem := rfl
@[simp] theorem dropCnts_ecc (lo hi : Nat) (s : State) : (applyUpd (.dropCnts lo hi) s).ecc = s.ecc := rfl
@[simp] theorem dropCnts_host (lo hi : Nat) (s : State) : (applyUpd (.dropCnts lo hi) s).host = s.host := rfl
@[simp] theorem dropCnts_mbx (lo hi : Nat) (s : State) : (applyUpd (.dropCnts lo hi) s).mbx = s.mbx := rfl
@[simp] theorem dropCnts_log (lo hi : Nat) (s : State) : (applyUpd (.dropCnts lo hi) s).log = s.log := rfl
@[simp] theorem dropCnts_evt (lo hi : Nat) (s : State) : (applyUpd (.dropCnts lo hi) s).evt = s.evt := rfl
@[simp] theorem dropCnts_txn (lo hi : Nat) (s : State) : (applyUpd (.dropCnts lo hi) s).txn = s.txn := rfl
@[simp] theorem dropCnts_clk (lo hi : Nat) (s : State) : (applyUpd (.dropCnts lo hi) s).clk = s.clk := rfl
@[simp] theorem dropCnts_datum (lo hi : Nat) (s : State) : (applyUpd (.dropCnts lo hi) s).datum = s.datum := rfl
@[simp] theorem dropCnts_pwr (lo hi : Nat) (s : State) : (applyUpd (.dropCnts lo hi) s).pwr = s.pwr := rfl
@[simp] theorem dropCnts_kiln (lo hi : Nat) (s : State) : (applyUpd (.dropCnts lo hi) s).kiln = s.kiln := rfl
@[simp] theorem dropCnts_boot (lo hi : Nat) (s : State) : (applyUpd (.dropCnts lo hi) s).boot = s.boot := rfl
@[simp] theorem dropCnts_fuse (lo hi : Nat) (s : State) : (applyUpd (.dropCnts lo hi) s).fuse = s.fuse := rfl
@[simp] theorem dropCnts_cap (lo hi : Nat) (s : State) : (applyUpd (.dropCnts lo hi) s).cap = s.cap := rfl
@[simp] theorem dropCnts_sect (lo hi : Nat) (s : State) : (applyUpd (.dropCnts lo hi) s).sect = s.sect := rfl
@[simp] theorem dropCnts_fh (lo hi : Nat) (s : State) : (applyUpd (.dropCnts lo hi) s).fh = s.fh := rfl
@[simp] theorem dropCnts_grat (lo hi : Nat) (s : State) : (applyUpd (.dropCnts lo hi) s).grat = s.grat := rfl
@[simp] theorem dropCnts_mash (lo hi : Nat) (s : State) : (applyUpd (.dropCnts lo hi) s).mash = s.mash := rfl
@[simp] theorem dropCnts_tx (lo hi : Nat) (s : State) : (applyUpd (.dropCnts lo hi) s).tx = s.tx := rfl
@[simp] theorem dropCnts_dpd (lo hi : Nat) (s : State) : (applyUpd (.dropCnts lo hi) s).dpd = s.dpd := rfl
@[simp] theorem dropCnts_rx (lo hi : Nat) (s : State) : (applyUpd (.dropCnts lo hi) s).rx = s.rx := rfl
@[simp] theorem dropCnts_conv (lo hi : Nat) (s : State) : (applyUpd (.dropCnts lo hi) s).conv = s.conv := rfl
@[simp] theorem dropCnts_hk (lo hi : Nat) (s : State) : (applyUpd (.dropCnts lo hi) s).hk = s.hk := rfl
@[simp] theorem dropCnts_radio (lo hi : Nat) (s : State) : (applyUpd (.dropCnts lo hi) s).radio = s.radio := rfl
@[simp] theorem dropCnts_survey (lo hi : Nat) (s : State) : (applyUpd (.dropCnts lo hi) s).survey = s.survey := rfl
@[simp] theorem dropCnts_bias (lo hi : Nat) (s : State) : (applyUpd (.dropCnts lo hi) s).bias = s.bias := rfl
@[simp] theorem dropCnts_rffe (lo hi : Nat) (s : State) : (applyUpd (.dropCnts lo hi) s).rffe = s.rffe := rfl
@[simp] theorem dropCnts_coex (lo hi : Nat) (s : State) : (applyUpd (.dropCnts lo hi) s).coex = s.coex := rfl
@[simp] theorem dropCnts_tap (lo hi : Nat) (s : State) : (applyUpd (.dropCnts lo hi) s).tap = s.tap := rfl
@[simp] theorem dropCnts_pending (lo hi : Nat) (s : State) : (applyUpd (.dropCnts lo hi) s).pending = s.pending := rfl
@[simp] theorem dropTots_cfg (lo hi : Nat) (s : State) : (applyUpd (.dropTots lo hi) s).cfg = s.cfg := rfl
@[simp] theorem dropTots_regs (lo hi : Nat) (s : State) : (applyUpd (.dropTots lo hi) s).regs = s.regs := rfl
@[simp] theorem dropTots_cnts (lo hi : Nat) (s : State) : (applyUpd (.dropTots lo hi) s).cnts = s.cnts := rfl
@[simp] theorem dropTots_tots (lo hi : Nat) (s : State) : (applyUpd (.dropTots lo hi) s).tots = s.tots.filter fun p => !(decide (lo ≤ p.1) && decide (p.1 < hi)) := rfl
@[simp] theorem dropTots_free (lo hi : Nat) (s : State) : (applyUpd (.dropTots lo hi) s).free = s.free := rfl
@[simp] theorem dropTots_tick (lo hi : Nat) (s : State) : (applyUpd (.dropTots lo hi) s).tick = s.tick := rfl
@[simp] theorem dropTots_mem (lo hi : Nat) (s : State) : (applyUpd (.dropTots lo hi) s).mem = s.mem := rfl
@[simp] theorem dropTots_ecc (lo hi : Nat) (s : State) : (applyUpd (.dropTots lo hi) s).ecc = s.ecc := rfl
@[simp] theorem dropTots_host (lo hi : Nat) (s : State) : (applyUpd (.dropTots lo hi) s).host = s.host := rfl
@[simp] theorem dropTots_mbx (lo hi : Nat) (s : State) : (applyUpd (.dropTots lo hi) s).mbx = s.mbx := rfl
@[simp] theorem dropTots_log (lo hi : Nat) (s : State) : (applyUpd (.dropTots lo hi) s).log = s.log := rfl
@[simp] theorem dropTots_evt (lo hi : Nat) (s : State) : (applyUpd (.dropTots lo hi) s).evt = s.evt := rfl
@[simp] theorem dropTots_txn (lo hi : Nat) (s : State) : (applyUpd (.dropTots lo hi) s).txn = s.txn := rfl
@[simp] theorem dropTots_clk (lo hi : Nat) (s : State) : (applyUpd (.dropTots lo hi) s).clk = s.clk := rfl
@[simp] theorem dropTots_datum (lo hi : Nat) (s : State) : (applyUpd (.dropTots lo hi) s).datum = s.datum := rfl
@[simp] theorem dropTots_pwr (lo hi : Nat) (s : State) : (applyUpd (.dropTots lo hi) s).pwr = s.pwr := rfl
@[simp] theorem dropTots_kiln (lo hi : Nat) (s : State) : (applyUpd (.dropTots lo hi) s).kiln = s.kiln := rfl
@[simp] theorem dropTots_boot (lo hi : Nat) (s : State) : (applyUpd (.dropTots lo hi) s).boot = s.boot := rfl
@[simp] theorem dropTots_fuse (lo hi : Nat) (s : State) : (applyUpd (.dropTots lo hi) s).fuse = s.fuse := rfl
@[simp] theorem dropTots_cap (lo hi : Nat) (s : State) : (applyUpd (.dropTots lo hi) s).cap = s.cap := rfl
@[simp] theorem dropTots_sect (lo hi : Nat) (s : State) : (applyUpd (.dropTots lo hi) s).sect = s.sect := rfl
@[simp] theorem dropTots_fh (lo hi : Nat) (s : State) : (applyUpd (.dropTots lo hi) s).fh = s.fh := rfl
@[simp] theorem dropTots_grat (lo hi : Nat) (s : State) : (applyUpd (.dropTots lo hi) s).grat = s.grat := rfl
@[simp] theorem dropTots_mash (lo hi : Nat) (s : State) : (applyUpd (.dropTots lo hi) s).mash = s.mash := rfl
@[simp] theorem dropTots_tx (lo hi : Nat) (s : State) : (applyUpd (.dropTots lo hi) s).tx = s.tx := rfl
@[simp] theorem dropTots_dpd (lo hi : Nat) (s : State) : (applyUpd (.dropTots lo hi) s).dpd = s.dpd := rfl
@[simp] theorem dropTots_rx (lo hi : Nat) (s : State) : (applyUpd (.dropTots lo hi) s).rx = s.rx := rfl
@[simp] theorem dropTots_conv (lo hi : Nat) (s : State) : (applyUpd (.dropTots lo hi) s).conv = s.conv := rfl
@[simp] theorem dropTots_hk (lo hi : Nat) (s : State) : (applyUpd (.dropTots lo hi) s).hk = s.hk := rfl
@[simp] theorem dropTots_radio (lo hi : Nat) (s : State) : (applyUpd (.dropTots lo hi) s).radio = s.radio := rfl
@[simp] theorem dropTots_survey (lo hi : Nat) (s : State) : (applyUpd (.dropTots lo hi) s).survey = s.survey := rfl
@[simp] theorem dropTots_bias (lo hi : Nat) (s : State) : (applyUpd (.dropTots lo hi) s).bias = s.bias := rfl
@[simp] theorem dropTots_rffe (lo hi : Nat) (s : State) : (applyUpd (.dropTots lo hi) s).rffe = s.rffe := rfl
@[simp] theorem dropTots_coex (lo hi : Nat) (s : State) : (applyUpd (.dropTots lo hi) s).coex = s.coex := rfl
@[simp] theorem dropTots_tap (lo hi : Nat) (s : State) : (applyUpd (.dropTots lo hi) s).tap = s.tap := rfl
@[simp] theorem dropTots_pending (lo hi : Nat) (s : State) : (applyUpd (.dropTots lo hi) s).pending = s.pending := rfl
@[simp] theorem addTot_cfg (k n : Nat) (s : State) : (applyUpd (.addTot k n) s).cfg = s.cfg := rfl
@[simp] theorem addTot_regs (k n : Nat) (s : State) : (applyUpd (.addTot k n) s).regs = s.regs := rfl
@[simp] theorem addTot_cnts (k n : Nat) (s : State) : (applyUpd (.addTot k n) s).cnts = s.cnts := rfl
@[simp] theorem addTot_tots (k n : Nat) (s : State) : (applyUpd (.addTot k n) s).tots = tset s.tots k ((tget 0 s.tots k + n) % 2 ^ 64) := rfl
@[simp] theorem addTot_free (k n : Nat) (s : State) : (applyUpd (.addTot k n) s).free = s.free := rfl
@[simp] theorem addTot_tick (k n : Nat) (s : State) : (applyUpd (.addTot k n) s).tick = s.tick := rfl
@[simp] theorem addTot_mem (k n : Nat) (s : State) : (applyUpd (.addTot k n) s).mem = s.mem := rfl
@[simp] theorem addTot_ecc (k n : Nat) (s : State) : (applyUpd (.addTot k n) s).ecc = s.ecc := rfl
@[simp] theorem addTot_host (k n : Nat) (s : State) : (applyUpd (.addTot k n) s).host = s.host := rfl
@[simp] theorem addTot_mbx (k n : Nat) (s : State) : (applyUpd (.addTot k n) s).mbx = s.mbx := rfl
@[simp] theorem addTot_log (k n : Nat) (s : State) : (applyUpd (.addTot k n) s).log = s.log := rfl
@[simp] theorem addTot_evt (k n : Nat) (s : State) : (applyUpd (.addTot k n) s).evt = s.evt := rfl
@[simp] theorem addTot_txn (k n : Nat) (s : State) : (applyUpd (.addTot k n) s).txn = s.txn := rfl
@[simp] theorem addTot_clk (k n : Nat) (s : State) : (applyUpd (.addTot k n) s).clk = s.clk := rfl
@[simp] theorem addTot_datum (k n : Nat) (s : State) : (applyUpd (.addTot k n) s).datum = s.datum := rfl
@[simp] theorem addTot_pwr (k n : Nat) (s : State) : (applyUpd (.addTot k n) s).pwr = s.pwr := rfl
@[simp] theorem addTot_kiln (k n : Nat) (s : State) : (applyUpd (.addTot k n) s).kiln = s.kiln := rfl
@[simp] theorem addTot_boot (k n : Nat) (s : State) : (applyUpd (.addTot k n) s).boot = s.boot := rfl
@[simp] theorem addTot_fuse (k n : Nat) (s : State) : (applyUpd (.addTot k n) s).fuse = s.fuse := rfl
@[simp] theorem addTot_cap (k n : Nat) (s : State) : (applyUpd (.addTot k n) s).cap = s.cap := rfl
@[simp] theorem addTot_sect (k n : Nat) (s : State) : (applyUpd (.addTot k n) s).sect = s.sect := rfl
@[simp] theorem addTot_fh (k n : Nat) (s : State) : (applyUpd (.addTot k n) s).fh = s.fh := rfl
@[simp] theorem addTot_grat (k n : Nat) (s : State) : (applyUpd (.addTot k n) s).grat = s.grat := rfl
@[simp] theorem addTot_mash (k n : Nat) (s : State) : (applyUpd (.addTot k n) s).mash = s.mash := rfl
@[simp] theorem addTot_tx (k n : Nat) (s : State) : (applyUpd (.addTot k n) s).tx = s.tx := rfl
@[simp] theorem addTot_dpd (k n : Nat) (s : State) : (applyUpd (.addTot k n) s).dpd = s.dpd := rfl
@[simp] theorem addTot_rx (k n : Nat) (s : State) : (applyUpd (.addTot k n) s).rx = s.rx := rfl
@[simp] theorem addTot_conv (k n : Nat) (s : State) : (applyUpd (.addTot k n) s).conv = s.conv := rfl
@[simp] theorem addTot_hk (k n : Nat) (s : State) : (applyUpd (.addTot k n) s).hk = s.hk := rfl
@[simp] theorem addTot_radio (k n : Nat) (s : State) : (applyUpd (.addTot k n) s).radio = s.radio := rfl
@[simp] theorem addTot_survey (k n : Nat) (s : State) : (applyUpd (.addTot k n) s).survey = s.survey := rfl
@[simp] theorem addTot_bias (k n : Nat) (s : State) : (applyUpd (.addTot k n) s).bias = s.bias := rfl
@[simp] theorem addTot_rffe (k n : Nat) (s : State) : (applyUpd (.addTot k n) s).rffe = s.rffe := rfl
@[simp] theorem addTot_coex (k n : Nat) (s : State) : (applyUpd (.addTot k n) s).coex = s.coex := rfl
@[simp] theorem addTot_tap (k n : Nat) (s : State) : (applyUpd (.addTot k n) s).tap = s.tap := rfl
@[simp] theorem addTot_pending (k n : Nat) (s : State) : (applyUpd (.addTot k n) s).pending = s.pending := rfl
@[simp] theorem clearTot_cfg (k : Nat) (s : State) : (applyUpd (.clearTot k) s).cfg = s.cfg := rfl
@[simp] theorem clearTot_regs (k : Nat) (s : State) : (applyUpd (.clearTot k) s).regs = s.regs := rfl
@[simp] theorem clearTot_cnts (k : Nat) (s : State) : (applyUpd (.clearTot k) s).cnts = s.cnts := rfl
@[simp] theorem clearTot_tots (k : Nat) (s : State) : (applyUpd (.clearTot k) s).tots = tdel s.tots k := rfl
@[simp] theorem clearTot_free (k : Nat) (s : State) : (applyUpd (.clearTot k) s).free = s.free := rfl
@[simp] theorem clearTot_tick (k : Nat) (s : State) : (applyUpd (.clearTot k) s).tick = s.tick := rfl
@[simp] theorem clearTot_mem (k : Nat) (s : State) : (applyUpd (.clearTot k) s).mem = s.mem := rfl
@[simp] theorem clearTot_ecc (k : Nat) (s : State) : (applyUpd (.clearTot k) s).ecc = s.ecc := rfl
@[simp] theorem clearTot_host (k : Nat) (s : State) : (applyUpd (.clearTot k) s).host = s.host := rfl
@[simp] theorem clearTot_mbx (k : Nat) (s : State) : (applyUpd (.clearTot k) s).mbx = s.mbx := rfl
@[simp] theorem clearTot_log (k : Nat) (s : State) : (applyUpd (.clearTot k) s).log = s.log := rfl
@[simp] theorem clearTot_evt (k : Nat) (s : State) : (applyUpd (.clearTot k) s).evt = s.evt := rfl
@[simp] theorem clearTot_txn (k : Nat) (s : State) : (applyUpd (.clearTot k) s).txn = s.txn := rfl
@[simp] theorem clearTot_clk (k : Nat) (s : State) : (applyUpd (.clearTot k) s).clk = s.clk := rfl
@[simp] theorem clearTot_datum (k : Nat) (s : State) : (applyUpd (.clearTot k) s).datum = s.datum := rfl
@[simp] theorem clearTot_pwr (k : Nat) (s : State) : (applyUpd (.clearTot k) s).pwr = s.pwr := rfl
@[simp] theorem clearTot_kiln (k : Nat) (s : State) : (applyUpd (.clearTot k) s).kiln = s.kiln := rfl
@[simp] theorem clearTot_boot (k : Nat) (s : State) : (applyUpd (.clearTot k) s).boot = s.boot := rfl
@[simp] theorem clearTot_fuse (k : Nat) (s : State) : (applyUpd (.clearTot k) s).fuse = s.fuse := rfl
@[simp] theorem clearTot_cap (k : Nat) (s : State) : (applyUpd (.clearTot k) s).cap = s.cap := rfl
@[simp] theorem clearTot_sect (k : Nat) (s : State) : (applyUpd (.clearTot k) s).sect = s.sect := rfl
@[simp] theorem clearTot_fh (k : Nat) (s : State) : (applyUpd (.clearTot k) s).fh = s.fh := rfl
@[simp] theorem clearTot_grat (k : Nat) (s : State) : (applyUpd (.clearTot k) s).grat = s.grat := rfl
@[simp] theorem clearTot_mash (k : Nat) (s : State) : (applyUpd (.clearTot k) s).mash = s.mash := rfl
@[simp] theorem clearTot_tx (k : Nat) (s : State) : (applyUpd (.clearTot k) s).tx = s.tx := rfl
@[simp] theorem clearTot_dpd (k : Nat) (s : State) : (applyUpd (.clearTot k) s).dpd = s.dpd := rfl
@[simp] theorem clearTot_rx (k : Nat) (s : State) : (applyUpd (.clearTot k) s).rx = s.rx := rfl
@[simp] theorem clearTot_conv (k : Nat) (s : State) : (applyUpd (.clearTot k) s).conv = s.conv := rfl
@[simp] theorem clearTot_hk (k : Nat) (s : State) : (applyUpd (.clearTot k) s).hk = s.hk := rfl
@[simp] theorem clearTot_radio (k : Nat) (s : State) : (applyUpd (.clearTot k) s).radio = s.radio := rfl
@[simp] theorem clearTot_survey (k : Nat) (s : State) : (applyUpd (.clearTot k) s).survey = s.survey := rfl
@[simp] theorem clearTot_bias (k : Nat) (s : State) : (applyUpd (.clearTot k) s).bias = s.bias := rfl
@[simp] theorem clearTot_rffe (k : Nat) (s : State) : (applyUpd (.clearTot k) s).rffe = s.rffe := rfl
@[simp] theorem clearTot_coex (k : Nat) (s : State) : (applyUpd (.clearTot k) s).coex = s.coex := rfl
@[simp] theorem clearTot_tap (k : Nat) (s : State) : (applyUpd (.clearTot k) s).tap = s.tap := rfl
@[simp] theorem clearTot_pending (k : Nat) (s : State) : (applyUpd (.clearTot k) s).pending = s.pending := rfl
@[simp] theorem draw_cfg  (s : State) : (applyUpd (.draw) s).cfg = s.cfg := rfl
@[simp] theorem draw_regs  (s : State) : (applyUpd (.draw) s).regs = s.regs := rfl
@[simp] theorem draw_cnts  (s : State) : (applyUpd (.draw) s).cnts = s.cnts := rfl
@[simp] theorem draw_tots  (s : State) : (applyUpd (.draw) s).tots = s.tots := rfl
@[simp] theorem draw_free  (s : State) : (applyUpd (.draw) s).free = s.free + 1 := rfl
@[simp] theorem draw_tick  (s : State) : (applyUpd (.draw) s).tick = s.tick := rfl
@[simp] theorem draw_mem  (s : State) : (applyUpd (.draw) s).mem = s.mem := rfl
@[simp] theorem draw_ecc  (s : State) : (applyUpd (.draw) s).ecc = s.ecc := rfl
@[simp] theorem draw_host  (s : State) : (applyUpd (.draw) s).host = s.host := rfl
@[simp] theorem draw_mbx  (s : State) : (applyUpd (.draw) s).mbx = s.mbx := rfl
@[simp] theorem draw_log  (s : State) : (applyUpd (.draw) s).log = s.log := rfl
@[simp] theorem draw_evt  (s : State) : (applyUpd (.draw) s).evt = s.evt := rfl
@[simp] theorem draw_txn  (s : State) : (applyUpd (.draw) s).txn = s.txn := rfl
@[simp] theorem draw_clk  (s : State) : (applyUpd (.draw) s).clk = s.clk := rfl
@[simp] theorem draw_datum  (s : State) : (applyUpd (.draw) s).datum = s.datum := rfl
@[simp] theorem draw_pwr  (s : State) : (applyUpd (.draw) s).pwr = s.pwr := rfl
@[simp] theorem draw_kiln  (s : State) : (applyUpd (.draw) s).kiln = s.kiln := rfl
@[simp] theorem draw_boot  (s : State) : (applyUpd (.draw) s).boot = s.boot := rfl
@[simp] theorem draw_fuse  (s : State) : (applyUpd (.draw) s).fuse = s.fuse := rfl
@[simp] theorem draw_cap  (s : State) : (applyUpd (.draw) s).cap = s.cap := rfl
@[simp] theorem draw_sect  (s : State) : (applyUpd (.draw) s).sect = s.sect := rfl
@[simp] theorem draw_fh  (s : State) : (applyUpd (.draw) s).fh = s.fh := rfl
@[simp] theorem draw_grat  (s : State) : (applyUpd (.draw) s).grat = s.grat := rfl
@[simp] theorem draw_mash  (s : State) : (applyUpd (.draw) s).mash = s.mash := rfl
@[simp] theorem draw_tx  (s : State) : (applyUpd (.draw) s).tx = s.tx := rfl
@[simp] theorem draw_dpd  (s : State) : (applyUpd (.draw) s).dpd = s.dpd := rfl
@[simp] theorem draw_rx  (s : State) : (applyUpd (.draw) s).rx = s.rx := rfl
@[simp] theorem draw_conv  (s : State) : (applyUpd (.draw) s).conv = s.conv := rfl
@[simp] theorem draw_hk  (s : State) : (applyUpd (.draw) s).hk = s.hk := rfl
@[simp] theorem draw_radio  (s : State) : (applyUpd (.draw) s).radio = s.radio := rfl
@[simp] theorem draw_survey  (s : State) : (applyUpd (.draw) s).survey = s.survey := rfl
@[simp] theorem draw_bias  (s : State) : (applyUpd (.draw) s).bias = s.bias := rfl
@[simp] theorem draw_rffe  (s : State) : (applyUpd (.draw) s).rffe = s.rffe := rfl
@[simp] theorem draw_coex  (s : State) : (applyUpd (.draw) s).coex = s.coex := rfl
@[simp] theorem draw_tap  (s : State) : (applyUpd (.draw) s).tap = s.tap := rfl
@[simp] theorem draw_pending  (s : State) : (applyUpd (.draw) s).pending = s.pending := rfl
@[simp] theorem tick_cfg  (s : State) : (applyUpd (.tick) s).cfg = s.cfg := rfl
@[simp] theorem tick_regs  (s : State) : (applyUpd (.tick) s).regs = s.regs := rfl
@[simp] theorem tick_cnts  (s : State) : (applyUpd (.tick) s).cnts = s.cnts := rfl
@[simp] theorem tick_tots  (s : State) : (applyUpd (.tick) s).tots = s.tots := rfl
@[simp] theorem tick_free  (s : State) : (applyUpd (.tick) s).free = s.free := rfl
@[simp] theorem tick_tick  (s : State) : (applyUpd (.tick) s).tick = s.tick + 1 := rfl
@[simp] theorem tick_mem  (s : State) : (applyUpd (.tick) s).mem = s.mem := rfl
@[simp] theorem tick_ecc  (s : State) : (applyUpd (.tick) s).ecc = s.ecc := rfl
@[simp] theorem tick_host  (s : State) : (applyUpd (.tick) s).host = s.host := rfl
@[simp] theorem tick_mbx  (s : State) : (applyUpd (.tick) s).mbx = s.mbx := rfl
@[simp] theorem tick_log  (s : State) : (applyUpd (.tick) s).log = s.log := rfl
@[simp] theorem tick_evt  (s : State) : (applyUpd (.tick) s).evt = s.evt := rfl
@[simp] theorem tick_txn  (s : State) : (applyUpd (.tick) s).txn = s.txn := rfl
@[simp] theorem tick_clk  (s : State) : (applyUpd (.tick) s).clk = s.clk := rfl
@[simp] theorem tick_datum  (s : State) : (applyUpd (.tick) s).datum = s.datum := rfl
@[simp] theorem tick_pwr  (s : State) : (applyUpd (.tick) s).pwr = s.pwr := rfl
@[simp] theorem tick_kiln  (s : State) : (applyUpd (.tick) s).kiln = s.kiln := rfl
@[simp] theorem tick_boot  (s : State) : (applyUpd (.tick) s).boot = s.boot := rfl
@[simp] theorem tick_fuse  (s : State) : (applyUpd (.tick) s).fuse = s.fuse := rfl
@[simp] theorem tick_cap  (s : State) : (applyUpd (.tick) s).cap = s.cap := rfl
@[simp] theorem tick_sect  (s : State) : (applyUpd (.tick) s).sect = s.sect := rfl
@[simp] theorem tick_fh  (s : State) : (applyUpd (.tick) s).fh = s.fh := rfl
@[simp] theorem tick_grat  (s : State) : (applyUpd (.tick) s).grat = s.grat := rfl
@[simp] theorem tick_mash  (s : State) : (applyUpd (.tick) s).mash = s.mash := rfl
@[simp] theorem tick_tx  (s : State) : (applyUpd (.tick) s).tx = s.tx := rfl
@[simp] theorem tick_dpd  (s : State) : (applyUpd (.tick) s).dpd = s.dpd := rfl
@[simp] theorem tick_rx  (s : State) : (applyUpd (.tick) s).rx = s.rx := rfl
@[simp] theorem tick_conv  (s : State) : (applyUpd (.tick) s).conv = s.conv := rfl
@[simp] theorem tick_hk  (s : State) : (applyUpd (.tick) s).hk = s.hk := rfl
@[simp] theorem tick_radio  (s : State) : (applyUpd (.tick) s).radio = s.radio := rfl
@[simp] theorem tick_survey  (s : State) : (applyUpd (.tick) s).survey = s.survey := rfl
@[simp] theorem tick_bias  (s : State) : (applyUpd (.tick) s).bias = s.bias := rfl
@[simp] theorem tick_rffe  (s : State) : (applyUpd (.tick) s).rffe = s.rffe := rfl
@[simp] theorem tick_coex  (s : State) : (applyUpd (.tick) s).coex = s.coex := rfl
@[simp] theorem tick_tap  (s : State) : (applyUpd (.tick) s).tap = s.tap := rfl
@[simp] theorem tick_pending  (s : State) : (applyUpd (.tick) s).pending = s.pending := rfl
@[simp] theorem logAppend_cfg (r : LogRec) (s : State) : (applyUpd (.logAppend r) s).cfg = s.cfg := rfl
@[simp] theorem logAppend_regs (r : LogRec) (s : State) : (applyUpd (.logAppend r) s).regs = s.regs := rfl
@[simp] theorem logAppend_cnts (r : LogRec) (s : State) : (applyUpd (.logAppend r) s).cnts = s.cnts := rfl
@[simp] theorem logAppend_tots (r : LogRec) (s : State) : (applyUpd (.logAppend r) s).tots = s.tots := rfl
@[simp] theorem logAppend_free (r : LogRec) (s : State) : (applyUpd (.logAppend r) s).free = s.free := rfl
@[simp] theorem logAppend_tick (r : LogRec) (s : State) : (applyUpd (.logAppend r) s).tick = s.tick := rfl
@[simp] theorem logAppend_mem (r : LogRec) (s : State) : (applyUpd (.logAppend r) s).mem = s.mem := rfl
@[simp] theorem logAppend_ecc (r : LogRec) (s : State) : (applyUpd (.logAppend r) s).ecc = s.ecc := rfl
@[simp] theorem logAppend_host (r : LogRec) (s : State) : (applyUpd (.logAppend r) s).host = s.host := rfl
@[simp] theorem logAppend_mbx (r : LogRec) (s : State) : (applyUpd (.logAppend r) s).mbx = s.mbx := rfl
@[simp] theorem logAppend_log (r : LogRec) (s : State) : (applyUpd (.logAppend r) s).log = s.log.append r := rfl
@[simp] theorem logAppend_evt (r : LogRec) (s : State) : (applyUpd (.logAppend r) s).evt = s.evt := rfl
@[simp] theorem logAppend_txn (r : LogRec) (s : State) : (applyUpd (.logAppend r) s).txn = s.txn := rfl
@[simp] theorem logAppend_clk (r : LogRec) (s : State) : (applyUpd (.logAppend r) s).clk = s.clk := rfl
@[simp] theorem logAppend_datum (r : LogRec) (s : State) : (applyUpd (.logAppend r) s).datum = s.datum := rfl
@[simp] theorem logAppend_pwr (r : LogRec) (s : State) : (applyUpd (.logAppend r) s).pwr = s.pwr := rfl
@[simp] theorem logAppend_kiln (r : LogRec) (s : State) : (applyUpd (.logAppend r) s).kiln = s.kiln := rfl
@[simp] theorem logAppend_boot (r : LogRec) (s : State) : (applyUpd (.logAppend r) s).boot = s.boot := rfl
@[simp] theorem logAppend_fuse (r : LogRec) (s : State) : (applyUpd (.logAppend r) s).fuse = s.fuse := rfl
@[simp] theorem logAppend_cap (r : LogRec) (s : State) : (applyUpd (.logAppend r) s).cap = s.cap := rfl
@[simp] theorem logAppend_sect (r : LogRec) (s : State) : (applyUpd (.logAppend r) s).sect = s.sect := rfl
@[simp] theorem logAppend_fh (r : LogRec) (s : State) : (applyUpd (.logAppend r) s).fh = s.fh := rfl
@[simp] theorem logAppend_grat (r : LogRec) (s : State) : (applyUpd (.logAppend r) s).grat = s.grat := rfl
@[simp] theorem logAppend_mash (r : LogRec) (s : State) : (applyUpd (.logAppend r) s).mash = s.mash := rfl
@[simp] theorem logAppend_tx (r : LogRec) (s : State) : (applyUpd (.logAppend r) s).tx = s.tx := rfl
@[simp] theorem logAppend_dpd (r : LogRec) (s : State) : (applyUpd (.logAppend r) s).dpd = s.dpd := rfl
@[simp] theorem logAppend_rx (r : LogRec) (s : State) : (applyUpd (.logAppend r) s).rx = s.rx := rfl
@[simp] theorem logAppend_conv (r : LogRec) (s : State) : (applyUpd (.logAppend r) s).conv = s.conv := rfl
@[simp] theorem logAppend_hk (r : LogRec) (s : State) : (applyUpd (.logAppend r) s).hk = s.hk := rfl
@[simp] theorem logAppend_radio (r : LogRec) (s : State) : (applyUpd (.logAppend r) s).radio = s.radio := rfl
@[simp] theorem logAppend_survey (r : LogRec) (s : State) : (applyUpd (.logAppend r) s).survey = s.survey := rfl
@[simp] theorem logAppend_bias (r : LogRec) (s : State) : (applyUpd (.logAppend r) s).bias = s.bias := rfl
@[simp] theorem logAppend_rffe (r : LogRec) (s : State) : (applyUpd (.logAppend r) s).rffe = s.rffe := rfl
@[simp] theorem logAppend_coex (r : LogRec) (s : State) : (applyUpd (.logAppend r) s).coex = s.coex := rfl
@[simp] theorem logAppend_tap (r : LogRec) (s : State) : (applyUpd (.logAppend r) s).tap = s.tap := rfl
@[simp] theorem logAppend_pending (r : LogRec) (s : State) : (applyUpd (.logAppend r) s).pending = s.pending := rfl
@[simp] theorem logReset_cfg  (s : State) : (applyUpd (.logReset) s).cfg = s.cfg := rfl
@[simp] theorem logReset_regs  (s : State) : (applyUpd (.logReset) s).regs = s.regs := rfl
@[simp] theorem logReset_cnts  (s : State) : (applyUpd (.logReset) s).cnts = s.cnts := rfl
@[simp] theorem logReset_tots  (s : State) : (applyUpd (.logReset) s).tots = s.tots := rfl
@[simp] theorem logReset_free  (s : State) : (applyUpd (.logReset) s).free = s.free := rfl
@[simp] theorem logReset_tick  (s : State) : (applyUpd (.logReset) s).tick = s.tick := rfl
@[simp] theorem logReset_mem  (s : State) : (applyUpd (.logReset) s).mem = s.mem := rfl
@[simp] theorem logReset_ecc  (s : State) : (applyUpd (.logReset) s).ecc = s.ecc := rfl
@[simp] theorem logReset_host  (s : State) : (applyUpd (.logReset) s).host = s.host := rfl
@[simp] theorem logReset_mbx  (s : State) : (applyUpd (.logReset) s).mbx = s.mbx := rfl
@[simp] theorem logReset_log  (s : State) : (applyUpd (.logReset) s).log = { s.log with recs := [], next := 0, returned := 0, high := false } := rfl
@[simp] theorem logReset_evt  (s : State) : (applyUpd (.logReset) s).evt = s.evt := rfl
@[simp] theorem logReset_txn  (s : State) : (applyUpd (.logReset) s).txn = s.txn := rfl
@[simp] theorem logReset_clk  (s : State) : (applyUpd (.logReset) s).clk = s.clk := rfl
@[simp] theorem logReset_datum  (s : State) : (applyUpd (.logReset) s).datum = s.datum := rfl
@[simp] theorem logReset_pwr  (s : State) : (applyUpd (.logReset) s).pwr = s.pwr := rfl
@[simp] theorem logReset_kiln  (s : State) : (applyUpd (.logReset) s).kiln = s.kiln := rfl
@[simp] theorem logReset_boot  (s : State) : (applyUpd (.logReset) s).boot = s.boot := rfl
@[simp] theorem logReset_fuse  (s : State) : (applyUpd (.logReset) s).fuse = s.fuse := rfl
@[simp] theorem logReset_cap  (s : State) : (applyUpd (.logReset) s).cap = s.cap := rfl
@[simp] theorem logReset_sect  (s : State) : (applyUpd (.logReset) s).sect = s.sect := rfl
@[simp] theorem logReset_fh  (s : State) : (applyUpd (.logReset) s).fh = s.fh := rfl
@[simp] theorem logReset_grat  (s : State) : (applyUpd (.logReset) s).grat = s.grat := rfl
@[simp] theorem logReset_mash  (s : State) : (applyUpd (.logReset) s).mash = s.mash := rfl
@[simp] theorem logReset_tx  (s : State) : (applyUpd (.logReset) s).tx = s.tx := rfl
@[simp] theorem logReset_dpd  (s : State) : (applyUpd (.logReset) s).dpd = s.dpd := rfl
@[simp] theorem logReset_rx  (s : State) : (applyUpd (.logReset) s).rx = s.rx := rfl
@[simp] theorem logReset_conv  (s : State) : (applyUpd (.logReset) s).conv = s.conv := rfl
@[simp] theorem logReset_hk  (s : State) : (applyUpd (.logReset) s).hk = s.hk := rfl
@[simp] theorem logReset_radio  (s : State) : (applyUpd (.logReset) s).radio = s.radio := rfl
@[simp] theorem logReset_survey  (s : State) : (applyUpd (.logReset) s).survey = s.survey := rfl
@[simp] theorem logReset_bias  (s : State) : (applyUpd (.logReset) s).bias = s.bias := rfl
@[simp] theorem logReset_rffe  (s : State) : (applyUpd (.logReset) s).rffe = s.rffe := rfl
@[simp] theorem logReset_coex  (s : State) : (applyUpd (.logReset) s).coex = s.coex := rfl
@[simp] theorem logReset_tap  (s : State) : (applyUpd (.logReset) s).tap = s.tap := rfl
@[simp] theorem logReset_pending  (s : State) : (applyUpd (.logReset) s).pending = s.pending := rfl
@[simp] theorem logReturn_cfg (n : Nat) (h : Bool) (s : State) : (applyUpd (.logReturn n h) s).cfg = s.cfg := rfl
@[simp] theorem logReturn_regs (n : Nat) (h : Bool) (s : State) : (applyUpd (.logReturn n h) s).regs = s.regs := rfl
@[simp] theorem logReturn_cnts (n : Nat) (h : Bool) (s : State) : (applyUpd (.logReturn n h) s).cnts = s.cnts := rfl
@[simp] theorem logReturn_tots (n : Nat) (h : Bool) (s : State) : (applyUpd (.logReturn n h) s).tots = s.tots := rfl
@[simp] theorem logReturn_free (n : Nat) (h : Bool) (s : State) : (applyUpd (.logReturn n h) s).free = s.free := rfl
@[simp] theorem logReturn_tick (n : Nat) (h : Bool) (s : State) : (applyUpd (.logReturn n h) s).tick = s.tick := rfl
@[simp] theorem logReturn_mem (n : Nat) (h : Bool) (s : State) : (applyUpd (.logReturn n h) s).mem = s.mem := rfl
@[simp] theorem logReturn_ecc (n : Nat) (h : Bool) (s : State) : (applyUpd (.logReturn n h) s).ecc = s.ecc := rfl
@[simp] theorem logReturn_host (n : Nat) (h : Bool) (s : State) : (applyUpd (.logReturn n h) s).host = s.host := rfl
@[simp] theorem logReturn_mbx (n : Nat) (h : Bool) (s : State) : (applyUpd (.logReturn n h) s).mbx = s.mbx := rfl
@[simp] theorem logReturn_log (n : Nat) (h : Bool) (s : State) : (applyUpd (.logReturn n h) s).log = { s.log with returned := n, high := h } := rfl
@[simp] theorem logReturn_evt (n : Nat) (h : Bool) (s : State) : (applyUpd (.logReturn n h) s).evt = s.evt := rfl
@[simp] theorem logReturn_txn (n : Nat) (h : Bool) (s : State) : (applyUpd (.logReturn n h) s).txn = s.txn := rfl
@[simp] theorem logReturn_clk (n : Nat) (h : Bool) (s : State) : (applyUpd (.logReturn n h) s).clk = s.clk := rfl
@[simp] theorem logReturn_datum (n : Nat) (h : Bool) (s : State) : (applyUpd (.logReturn n h) s).datum = s.datum := rfl
@[simp] theorem logReturn_pwr (n : Nat) (h : Bool) (s : State) : (applyUpd (.logReturn n h) s).pwr = s.pwr := rfl
@[simp] theorem logReturn_kiln (n : Nat) (h : Bool) (s : State) : (applyUpd (.logReturn n h) s).kiln = s.kiln := rfl
@[simp] theorem logReturn_boot (n : Nat) (h : Bool) (s : State) : (applyUpd (.logReturn n h) s).boot = s.boot := rfl
@[simp] theorem logReturn_fuse (n : Nat) (h : Bool) (s : State) : (applyUpd (.logReturn n h) s).fuse = s.fuse := rfl
@[simp] theorem logReturn_cap (n : Nat) (h : Bool) (s : State) : (applyUpd (.logReturn n h) s).cap = s.cap := rfl
@[simp] theorem logReturn_sect (n : Nat) (h : Bool) (s : State) : (applyUpd (.logReturn n h) s).sect = s.sect := rfl
@[simp] theorem logReturn_fh (n : Nat) (h : Bool) (s : State) : (applyUpd (.logReturn n h) s).fh = s.fh := rfl
@[simp] theorem logReturn_grat (n : Nat) (h : Bool) (s : State) : (applyUpd (.logReturn n h) s).grat = s.grat := rfl
@[simp] theorem logReturn_mash (n : Nat) (h : Bool) (s : State) : (applyUpd (.logReturn n h) s).mash = s.mash := rfl
@[simp] theorem logReturn_tx (n : Nat) (h : Bool) (s : State) : (applyUpd (.logReturn n h) s).tx = s.tx := rfl
@[simp] theorem logReturn_dpd (n : Nat) (h : Bool) (s : State) : (applyUpd (.logReturn n h) s).dpd = s.dpd := rfl
@[simp] theorem logReturn_rx (n : Nat) (h : Bool) (s : State) : (applyUpd (.logReturn n h) s).rx = s.rx := rfl
@[simp] theorem logReturn_conv (n : Nat) (h : Bool) (s : State) : (applyUpd (.logReturn n h) s).conv = s.conv := rfl
@[simp] theorem logReturn_hk (n : Nat) (h : Bool) (s : State) : (applyUpd (.logReturn n h) s).hk = s.hk := rfl
@[simp] theorem logReturn_radio (n : Nat) (h : Bool) (s : State) : (applyUpd (.logReturn n h) s).radio = s.radio := rfl
@[simp] theorem logReturn_survey (n : Nat) (h : Bool) (s : State) : (applyUpd (.logReturn n h) s).survey = s.survey := rfl
@[simp] theorem logReturn_bias (n : Nat) (h : Bool) (s : State) : (applyUpd (.logReturn n h) s).bias = s.bias := rfl
@[simp] theorem logReturn_rffe (n : Nat) (h : Bool) (s : State) : (applyUpd (.logReturn n h) s).rffe = s.rffe := rfl
@[simp] theorem logReturn_coex (n : Nat) (h : Bool) (s : State) : (applyUpd (.logReturn n h) s).coex = s.coex := rfl
@[simp] theorem logReturn_tap (n : Nat) (h : Bool) (s : State) : (applyUpd (.logReturn n h) s).tap = s.tap := rfl
@[simp] theorem logReturn_pending (n : Nat) (h : Bool) (s : State) : (applyUpd (.logReturn n h) s).pending = s.pending := rfl
@[simp] theorem capture_cfg (l : List (Nat × Nat × Nat)) (s : State) : (applyUpd (.capture l) s).cfg = s.cfg := rfl
@[simp] theorem capture_regs (l : List (Nat × Nat × Nat)) (s : State) : (applyUpd (.capture l) s).regs = s.regs := rfl
@[simp] theorem capture_cnts (l : List (Nat × Nat × Nat)) (s : State) : (applyUpd (.capture l) s).cnts = s.cnts := rfl
@[simp] theorem capture_tots (l : List (Nat × Nat × Nat)) (s : State) : (applyUpd (.capture l) s).tots = s.tots := rfl
@[simp] theorem capture_free (l : List (Nat × Nat × Nat)) (s : State) : (applyUpd (.capture l) s).free = s.free := rfl
@[simp] theorem capture_tick (l : List (Nat × Nat × Nat)) (s : State) : (applyUpd (.capture l) s).tick = s.tick := rfl
@[simp] theorem capture_mem (l : List (Nat × Nat × Nat)) (s : State) : (applyUpd (.capture l) s).mem = s.mem := rfl
@[simp] theorem capture_ecc (l : List (Nat × Nat × Nat)) (s : State) : (applyUpd (.capture l) s).ecc = s.ecc := rfl
@[simp] theorem capture_host (l : List (Nat × Nat × Nat)) (s : State) : (applyUpd (.capture l) s).host = s.host := rfl
@[simp] theorem capture_mbx (l : List (Nat × Nat × Nat)) (s : State) : (applyUpd (.capture l) s).mbx = s.mbx := rfl
@[simp] theorem capture_log (l : List (Nat × Nat × Nat)) (s : State) : (applyUpd (.capture l) s).log = { s.log with capture := l } := rfl
@[simp] theorem capture_evt (l : List (Nat × Nat × Nat)) (s : State) : (applyUpd (.capture l) s).evt = s.evt := rfl
@[simp] theorem capture_txn (l : List (Nat × Nat × Nat)) (s : State) : (applyUpd (.capture l) s).txn = s.txn := rfl
@[simp] theorem capture_clk (l : List (Nat × Nat × Nat)) (s : State) : (applyUpd (.capture l) s).clk = s.clk := rfl
@[simp] theorem capture_datum (l : List (Nat × Nat × Nat)) (s : State) : (applyUpd (.capture l) s).datum = s.datum := rfl
@[simp] theorem capture_pwr (l : List (Nat × Nat × Nat)) (s : State) : (applyUpd (.capture l) s).pwr = s.pwr := rfl
@[simp] theorem capture_kiln (l : List (Nat × Nat × Nat)) (s : State) : (applyUpd (.capture l) s).kiln = s.kiln := rfl
@[simp] theorem capture_boot (l : List (Nat × Nat × Nat)) (s : State) : (applyUpd (.capture l) s).boot = s.boot := rfl
@[simp] theorem capture_fuse (l : List (Nat × Nat × Nat)) (s : State) : (applyUpd (.capture l) s).fuse = s.fuse := rfl
@[simp] theorem capture_cap (l : List (Nat × Nat × Nat)) (s : State) : (applyUpd (.capture l) s).cap = s.cap := rfl
@[simp] theorem capture_sect (l : List (Nat × Nat × Nat)) (s : State) : (applyUpd (.capture l) s).sect = s.sect := rfl
@[simp] theorem capture_fh (l : List (Nat × Nat × Nat)) (s : State) : (applyUpd (.capture l) s).fh = s.fh := rfl
@[simp] theorem capture_grat (l : List (Nat × Nat × Nat)) (s : State) : (applyUpd (.capture l) s).grat = s.grat := rfl
@[simp] theorem capture_mash (l : List (Nat × Nat × Nat)) (s : State) : (applyUpd (.capture l) s).mash = s.mash := rfl
@[simp] theorem capture_tx (l : List (Nat × Nat × Nat)) (s : State) : (applyUpd (.capture l) s).tx = s.tx := rfl
@[simp] theorem capture_dpd (l : List (Nat × Nat × Nat)) (s : State) : (applyUpd (.capture l) s).dpd = s.dpd := rfl
@[simp] theorem capture_rx (l : List (Nat × Nat × Nat)) (s : State) : (applyUpd (.capture l) s).rx = s.rx := rfl
@[simp] theorem capture_conv (l : List (Nat × Nat × Nat)) (s : State) : (applyUpd (.capture l) s).conv = s.conv := rfl
@[simp] theorem capture_hk (l : List (Nat × Nat × Nat)) (s : State) : (applyUpd (.capture l) s).hk = s.hk := rfl
@[simp] theorem capture_radio (l : List (Nat × Nat × Nat)) (s : State) : (applyUpd (.capture l) s).radio = s.radio := rfl
@[simp] theorem capture_survey (l : List (Nat × Nat × Nat)) (s : State) : (applyUpd (.capture l) s).survey = s.survey := rfl
@[simp] theorem capture_bias (l : List (Nat × Nat × Nat)) (s : State) : (applyUpd (.capture l) s).bias = s.bias := rfl
@[simp] theorem capture_rffe (l : List (Nat × Nat × Nat)) (s : State) : (applyUpd (.capture l) s).rffe = s.rffe := rfl
@[simp] theorem capture_coex (l : List (Nat × Nat × Nat)) (s : State) : (applyUpd (.capture l) s).coex = s.coex := rfl
@[simp] theorem capture_tap (l : List (Nat × Nat × Nat)) (s : State) : (applyUpd (.capture l) s).tap = s.tap := rfl
@[simp] theorem capture_pending (l : List (Nat × Nat × Nat)) (s : State) : (applyUpd (.capture l) s).pending = s.pending := rfl
@[simp] theorem evtAppend_cfg (r : EvtRec) (s : State) : (applyUpd (.evtAppend r) s).cfg = s.cfg := rfl
@[simp] theorem evtAppend_regs (r : EvtRec) (s : State) : (applyUpd (.evtAppend r) s).regs = s.regs := rfl
@[simp] theorem evtAppend_cnts (r : EvtRec) (s : State) : (applyUpd (.evtAppend r) s).cnts = s.cnts := rfl
@[simp] theorem evtAppend_tots (r : EvtRec) (s : State) : (applyUpd (.evtAppend r) s).tots = s.tots := rfl
@[simp] theorem evtAppend_free (r : EvtRec) (s : State) : (applyUpd (.evtAppend r) s).free = s.free := rfl
@[simp] theorem evtAppend_tick (r : EvtRec) (s : State) : (applyUpd (.evtAppend r) s).tick = s.tick := rfl
@[simp] theorem evtAppend_mem (r : EvtRec) (s : State) : (applyUpd (.evtAppend r) s).mem = s.mem := rfl
@[simp] theorem evtAppend_ecc (r : EvtRec) (s : State) : (applyUpd (.evtAppend r) s).ecc = s.ecc := rfl
@[simp] theorem evtAppend_host (r : EvtRec) (s : State) : (applyUpd (.evtAppend r) s).host = s.host := rfl
@[simp] theorem evtAppend_mbx (r : EvtRec) (s : State) : (applyUpd (.evtAppend r) s).mbx = s.mbx := rfl
@[simp] theorem evtAppend_log (r : EvtRec) (s : State) : (applyUpd (.evtAppend r) s).log = s.log := rfl
@[simp] theorem evtAppend_evt (r : EvtRec) (s : State) : (applyUpd (.evtAppend r) s).evt = s.evt.append r := rfl
@[simp] theorem evtAppend_txn (r : EvtRec) (s : State) : (applyUpd (.evtAppend r) s).txn = s.txn := rfl
@[simp] theorem evtAppend_clk (r : EvtRec) (s : State) : (applyUpd (.evtAppend r) s).clk = s.clk := rfl
@[simp] theorem evtAppend_datum (r : EvtRec) (s : State) : (applyUpd (.evtAppend r) s).datum = s.datum := rfl
@[simp] theorem evtAppend_pwr (r : EvtRec) (s : State) : (applyUpd (.evtAppend r) s).pwr = s.pwr := rfl
@[simp] theorem evtAppend_kiln (r : EvtRec) (s : State) : (applyUpd (.evtAppend r) s).kiln = s.kiln := rfl
@[simp] theorem evtAppend_boot (r : EvtRec) (s : State) : (applyUpd (.evtAppend r) s).boot = s.boot := rfl
@[simp] theorem evtAppend_fuse (r : EvtRec) (s : State) : (applyUpd (.evtAppend r) s).fuse = s.fuse := rfl
@[simp] theorem evtAppend_cap (r : EvtRec) (s : State) : (applyUpd (.evtAppend r) s).cap = s.cap := rfl
@[simp] theorem evtAppend_sect (r : EvtRec) (s : State) : (applyUpd (.evtAppend r) s).sect = s.sect := rfl
@[simp] theorem evtAppend_fh (r : EvtRec) (s : State) : (applyUpd (.evtAppend r) s).fh = s.fh := rfl
@[simp] theorem evtAppend_grat (r : EvtRec) (s : State) : (applyUpd (.evtAppend r) s).grat = s.grat := rfl
@[simp] theorem evtAppend_mash (r : EvtRec) (s : State) : (applyUpd (.evtAppend r) s).mash = s.mash := rfl
@[simp] theorem evtAppend_tx (r : EvtRec) (s : State) : (applyUpd (.evtAppend r) s).tx = s.tx := rfl
@[simp] theorem evtAppend_dpd (r : EvtRec) (s : State) : (applyUpd (.evtAppend r) s).dpd = s.dpd := rfl
@[simp] theorem evtAppend_rx (r : EvtRec) (s : State) : (applyUpd (.evtAppend r) s).rx = s.rx := rfl
@[simp] theorem evtAppend_conv (r : EvtRec) (s : State) : (applyUpd (.evtAppend r) s).conv = s.conv := rfl
@[simp] theorem evtAppend_hk (r : EvtRec) (s : State) : (applyUpd (.evtAppend r) s).hk = s.hk := rfl
@[simp] theorem evtAppend_radio (r : EvtRec) (s : State) : (applyUpd (.evtAppend r) s).radio = s.radio := rfl
@[simp] theorem evtAppend_survey (r : EvtRec) (s : State) : (applyUpd (.evtAppend r) s).survey = s.survey := rfl
@[simp] theorem evtAppend_bias (r : EvtRec) (s : State) : (applyUpd (.evtAppend r) s).bias = s.bias := rfl
@[simp] theorem evtAppend_rffe (r : EvtRec) (s : State) : (applyUpd (.evtAppend r) s).rffe = s.rffe := rfl
@[simp] theorem evtAppend_coex (r : EvtRec) (s : State) : (applyUpd (.evtAppend r) s).coex = s.coex := rfl
@[simp] theorem evtAppend_tap (r : EvtRec) (s : State) : (applyUpd (.evtAppend r) s).tap = s.tap := rfl
@[simp] theorem evtAppend_pending (r : EvtRec) (s : State) : (applyUpd (.evtAppend r) s).pending = s.pending := rfl
@[simp] theorem evtReset_cfg  (s : State) : (applyUpd (.evtReset) s).cfg = s.cfg := rfl
@[simp] theorem evtReset_regs  (s : State) : (applyUpd (.evtReset) s).regs = s.regs := rfl
@[simp] theorem evtReset_cnts  (s : State) : (applyUpd (.evtReset) s).cnts = s.cnts := rfl
@[simp] theorem evtReset_tots  (s : State) : (applyUpd (.evtReset) s).tots = s.tots := rfl
@[simp] theorem evtReset_free  (s : State) : (applyUpd (.evtReset) s).free = s.free := rfl
@[simp] theorem evtReset_tick  (s : State) : (applyUpd (.evtReset) s).tick = s.tick := rfl
@[simp] theorem evtReset_mem  (s : State) : (applyUpd (.evtReset) s).mem = s.mem := rfl
@[simp] theorem evtReset_ecc  (s : State) : (applyUpd (.evtReset) s).ecc = s.ecc := rfl
@[simp] theorem evtReset_host  (s : State) : (applyUpd (.evtReset) s).host = s.host := rfl
@[simp] theorem evtReset_mbx  (s : State) : (applyUpd (.evtReset) s).mbx = s.mbx := rfl
@[simp] theorem evtReset_log  (s : State) : (applyUpd (.evtReset) s).log = s.log := rfl
@[simp] theorem evtReset_evt  (s : State) : (applyUpd (.evtReset) s).evt = {} := rfl
@[simp] theorem evtReset_txn  (s : State) : (applyUpd (.evtReset) s).txn = s.txn := rfl
@[simp] theorem evtReset_clk  (s : State) : (applyUpd (.evtReset) s).clk = s.clk := rfl
@[simp] theorem evtReset_datum  (s : State) : (applyUpd (.evtReset) s).datum = s.datum := rfl
@[simp] theorem evtReset_pwr  (s : State) : (applyUpd (.evtReset) s).pwr = s.pwr := rfl
@[simp] theorem evtReset_kiln  (s : State) : (applyUpd (.evtReset) s).kiln = s.kiln := rfl
@[simp] theorem evtReset_boot  (s : State) : (applyUpd (.evtReset) s).boot = s.boot := rfl
@[simp] theorem evtReset_fuse  (s : State) : (applyUpd (.evtReset) s).fuse = s.fuse := rfl
@[simp] theorem evtReset_cap  (s : State) : (applyUpd (.evtReset) s).cap = s.cap := rfl
@[simp] theorem evtReset_sect  (s : State) : (applyUpd (.evtReset) s).sect = s.sect := rfl
@[simp] theorem evtReset_fh  (s : State) : (applyUpd (.evtReset) s).fh = s.fh := rfl
@[simp] theorem evtReset_grat  (s : State) : (applyUpd (.evtReset) s).grat = s.grat := rfl
@[simp] theorem evtReset_mash  (s : State) : (applyUpd (.evtReset) s).mash = s.mash := rfl
@[simp] theorem evtReset_tx  (s : State) : (applyUpd (.evtReset) s).tx = s.tx := rfl
@[simp] theorem evtReset_dpd  (s : State) : (applyUpd (.evtReset) s).dpd = s.dpd := rfl
@[simp] theorem evtReset_rx  (s : State) : (applyUpd (.evtReset) s).rx = s.rx := rfl
@[simp] theorem evtReset_conv  (s : State) : (applyUpd (.evtReset) s).conv = s.conv := rfl
@[simp] theorem evtReset_hk  (s : State) : (applyUpd (.evtReset) s).hk = s.hk := rfl
@[simp] theorem evtReset_radio  (s : State) : (applyUpd (.evtReset) s).radio = s.radio := rfl
@[simp] theorem evtReset_survey  (s : State) : (applyUpd (.evtReset) s).survey = s.survey := rfl
@[simp] theorem evtReset_bias  (s : State) : (applyUpd (.evtReset) s).bias = s.bias := rfl
@[simp] theorem evtReset_rffe  (s : State) : (applyUpd (.evtReset) s).rffe = s.rffe := rfl
@[simp] theorem evtReset_coex  (s : State) : (applyUpd (.evtReset) s).coex = s.coex := rfl
@[simp] theorem evtReset_tap  (s : State) : (applyUpd (.evtReset) s).tap = s.tap := rfl
@[simp] theorem evtReset_pending  (s : State) : (applyUpd (.evtReset) s).pending = s.pending := rfl
@[simp] theorem evtAck_cfg (n : Nat) (s : State) : (applyUpd (.evtAck n) s).cfg = s.cfg := rfl
@[simp] theorem evtAck_regs (n : Nat) (s : State) : (applyUpd (.evtAck n) s).regs = s.regs := rfl
@[simp] theorem evtAck_cnts (n : Nat) (s : State) : (applyUpd (.evtAck n) s).cnts = s.cnts := rfl
@[simp] theorem evtAck_tots (n : Nat) (s : State) : (applyUpd (.evtAck n) s).tots = s.tots := rfl
@[simp] theorem evtAck_free (n : Nat) (s : State) : (applyUpd (.evtAck n) s).free = s.free := rfl
@[simp] theorem evtAck_tick (n : Nat) (s : State) : (applyUpd (.evtAck n) s).tick = s.tick := rfl
@[simp] theorem evtAck_mem (n : Nat) (s : State) : (applyUpd (.evtAck n) s).mem = s.mem := rfl
@[simp] theorem evtAck_ecc (n : Nat) (s : State) : (applyUpd (.evtAck n) s).ecc = s.ecc := rfl
@[simp] theorem evtAck_host (n : Nat) (s : State) : (applyUpd (.evtAck n) s).host = s.host := rfl
@[simp] theorem evtAck_mbx (n : Nat) (s : State) : (applyUpd (.evtAck n) s).mbx = s.mbx := rfl
@[simp] theorem evtAck_log (n : Nat) (s : State) : (applyUpd (.evtAck n) s).log = s.log := rfl
@[simp] theorem evtAck_evt (n : Nat) (s : State) : (applyUpd (.evtAck n) s).evt = { s.evt with acked := n } := rfl
@[simp] theorem evtAck_txn (n : Nat) (s : State) : (applyUpd (.evtAck n) s).txn = s.txn := rfl
@[simp] theorem evtAck_clk (n : Nat) (s : State) : (applyUpd (.evtAck n) s).clk = s.clk := rfl
@[simp] theorem evtAck_datum (n : Nat) (s : State) : (applyUpd (.evtAck n) s).datum = s.datum := rfl
@[simp] theorem evtAck_pwr (n : Nat) (s : State) : (applyUpd (.evtAck n) s).pwr = s.pwr := rfl
@[simp] theorem evtAck_kiln (n : Nat) (s : State) : (applyUpd (.evtAck n) s).kiln = s.kiln := rfl
@[simp] theorem evtAck_boot (n : Nat) (s : State) : (applyUpd (.evtAck n) s).boot = s.boot := rfl
@[simp] theorem evtAck_fuse (n : Nat) (s : State) : (applyUpd (.evtAck n) s).fuse = s.fuse := rfl
@[simp] theorem evtAck_cap (n : Nat) (s : State) : (applyUpd (.evtAck n) s).cap = s.cap := rfl
@[simp] theorem evtAck_sect (n : Nat) (s : State) : (applyUpd (.evtAck n) s).sect = s.sect := rfl
@[simp] theorem evtAck_fh (n : Nat) (s : State) : (applyUpd (.evtAck n) s).fh = s.fh := rfl
@[simp] theorem evtAck_grat (n : Nat) (s : State) : (applyUpd (.evtAck n) s).grat = s.grat := rfl
@[simp] theorem evtAck_mash (n : Nat) (s : State) : (applyUpd (.evtAck n) s).mash = s.mash := rfl
@[simp] theorem evtAck_tx (n : Nat) (s : State) : (applyUpd (.evtAck n) s).tx = s.tx := rfl
@[simp] theorem evtAck_dpd (n : Nat) (s : State) : (applyUpd (.evtAck n) s).dpd = s.dpd := rfl
@[simp] theorem evtAck_rx (n : Nat) (s : State) : (applyUpd (.evtAck n) s).rx = s.rx := rfl
@[simp] theorem evtAck_conv (n : Nat) (s : State) : (applyUpd (.evtAck n) s).conv = s.conv := rfl
@[simp] theorem evtAck_hk (n : Nat) (s : State) : (applyUpd (.evtAck n) s).hk = s.hk := rfl
@[simp] theorem evtAck_radio (n : Nat) (s : State) : (applyUpd (.evtAck n) s).radio = s.radio := rfl
@[simp] theorem evtAck_survey (n : Nat) (s : State) : (applyUpd (.evtAck n) s).survey = s.survey := rfl
@[simp] theorem evtAck_bias (n : Nat) (s : State) : (applyUpd (.evtAck n) s).bias = s.bias := rfl
@[simp] theorem evtAck_rffe (n : Nat) (s : State) : (applyUpd (.evtAck n) s).rffe = s.rffe := rfl
@[simp] theorem evtAck_coex (n : Nat) (s : State) : (applyUpd (.evtAck n) s).coex = s.coex := rfl
@[simp] theorem evtAck_tap (n : Nat) (s : State) : (applyUpd (.evtAck n) s).tap = s.tap := rfl
@[simp] theorem evtAck_pending (n : Nat) (s : State) : (applyUpd (.evtAck n) s).pending = s.pending := rfl
@[simp] theorem burnKey_cfg (i : Nat) (h : Rec) (s : State) : (applyUpd (.burnKey i h) s).cfg = s.cfg := rfl
@[simp] theorem burnKey_regs (i : Nat) (h : Rec) (s : State) : (applyUpd (.burnKey i h) s).regs = s.regs := rfl
@[simp] theorem burnKey_cnts (i : Nat) (h : Rec) (s : State) : (applyUpd (.burnKey i h) s).cnts = s.cnts := rfl
@[simp] theorem burnKey_tots (i : Nat) (h : Rec) (s : State) : (applyUpd (.burnKey i h) s).tots = s.tots := rfl
@[simp] theorem burnKey_free (i : Nat) (h : Rec) (s : State) : (applyUpd (.burnKey i h) s).free = s.free := rfl
@[simp] theorem burnKey_tick (i : Nat) (h : Rec) (s : State) : (applyUpd (.burnKey i h) s).tick = s.tick := rfl
@[simp] theorem burnKey_mem (i : Nat) (h : Rec) (s : State) : (applyUpd (.burnKey i h) s).mem = s.mem := rfl
@[simp] theorem burnKey_ecc (i : Nat) (h : Rec) (s : State) : (applyUpd (.burnKey i h) s).ecc = s.ecc := rfl
@[simp] theorem burnKey_host (i : Nat) (h : Rec) (s : State) : (applyUpd (.burnKey i h) s).host = s.host := rfl
@[simp] theorem burnKey_mbx (i : Nat) (h : Rec) (s : State) : (applyUpd (.burnKey i h) s).mbx = s.mbx := rfl
@[simp] theorem burnKey_log (i : Nat) (h : Rec) (s : State) : (applyUpd (.burnKey i h) s).log = s.log := rfl
@[simp] theorem burnKey_evt (i : Nat) (h : Rec) (s : State) : (applyUpd (.burnKey i h) s).evt = s.evt := rfl
@[simp] theorem burnKey_txn (i : Nat) (h : Rec) (s : State) : (applyUpd (.burnKey i h) s).txn = s.txn := rfl
@[simp] theorem burnKey_clk (i : Nat) (h : Rec) (s : State) : (applyUpd (.burnKey i h) s).clk = s.clk := rfl
@[simp] theorem burnKey_datum (i : Nat) (h : Rec) (s : State) : (applyUpd (.burnKey i h) s).datum = s.datum := rfl
@[simp] theorem burnKey_pwr (i : Nat) (h : Rec) (s : State) : (applyUpd (.burnKey i h) s).pwr = s.pwr := rfl
@[simp] theorem burnKey_kiln (i : Nat) (h : Rec) (s : State) : (applyUpd (.burnKey i h) s).kiln = s.kiln := rfl
@[simp] theorem burnKey_boot (i : Nat) (h : Rec) (s : State) : (applyUpd (.burnKey i h) s).boot = s.boot := rfl
@[simp] theorem burnKey_fuse (i : Nat) (h : Rec) (s : State) : (applyUpd (.burnKey i h) s).fuse = s.fuse.burn i h := rfl
@[simp] theorem burnKey_cap (i : Nat) (h : Rec) (s : State) : (applyUpd (.burnKey i h) s).cap = s.cap := rfl
@[simp] theorem burnKey_sect (i : Nat) (h : Rec) (s : State) : (applyUpd (.burnKey i h) s).sect = s.sect := rfl
@[simp] theorem burnKey_fh (i : Nat) (h : Rec) (s : State) : (applyUpd (.burnKey i h) s).fh = s.fh := rfl
@[simp] theorem burnKey_grat (i : Nat) (h : Rec) (s : State) : (applyUpd (.burnKey i h) s).grat = s.grat := rfl
@[simp] theorem burnKey_mash (i : Nat) (h : Rec) (s : State) : (applyUpd (.burnKey i h) s).mash = s.mash := rfl
@[simp] theorem burnKey_tx (i : Nat) (h : Rec) (s : State) : (applyUpd (.burnKey i h) s).tx = s.tx := rfl
@[simp] theorem burnKey_dpd (i : Nat) (h : Rec) (s : State) : (applyUpd (.burnKey i h) s).dpd = s.dpd := rfl
@[simp] theorem burnKey_rx (i : Nat) (h : Rec) (s : State) : (applyUpd (.burnKey i h) s).rx = s.rx := rfl
@[simp] theorem burnKey_conv (i : Nat) (h : Rec) (s : State) : (applyUpd (.burnKey i h) s).conv = s.conv := rfl
@[simp] theorem burnKey_hk (i : Nat) (h : Rec) (s : State) : (applyUpd (.burnKey i h) s).hk = s.hk := rfl
@[simp] theorem burnKey_radio (i : Nat) (h : Rec) (s : State) : (applyUpd (.burnKey i h) s).radio = s.radio := rfl
@[simp] theorem burnKey_survey (i : Nat) (h : Rec) (s : State) : (applyUpd (.burnKey i h) s).survey = s.survey := rfl
@[simp] theorem burnKey_bias (i : Nat) (h : Rec) (s : State) : (applyUpd (.burnKey i h) s).bias = s.bias := rfl
@[simp] theorem burnKey_rffe (i : Nat) (h : Rec) (s : State) : (applyUpd (.burnKey i h) s).rffe = s.rffe := rfl
@[simp] theorem burnKey_coex (i : Nat) (h : Rec) (s : State) : (applyUpd (.burnKey i h) s).coex = s.coex := rfl
@[simp] theorem burnKey_tap (i : Nat) (h : Rec) (s : State) : (applyUpd (.burnKey i h) s).tap = s.tap := rfl
@[simp] theorem burnKey_pending (i : Nat) (h : Rec) (s : State) : (applyUpd (.burnKey i h) s).pending = s.pending := rfl
@[simp] theorem revokeKey_cfg (i : Nat) (s : State) : (applyUpd (.revokeKey i) s).cfg = s.cfg := rfl
@[simp] theorem revokeKey_regs (i : Nat) (s : State) : (applyUpd (.revokeKey i) s).regs = s.regs := rfl
@[simp] theorem revokeKey_cnts (i : Nat) (s : State) : (applyUpd (.revokeKey i) s).cnts = s.cnts := rfl
@[simp] theorem revokeKey_tots (i : Nat) (s : State) : (applyUpd (.revokeKey i) s).tots = s.tots := rfl
@[simp] theorem revokeKey_free (i : Nat) (s : State) : (applyUpd (.revokeKey i) s).free = s.free := rfl
@[simp] theorem revokeKey_tick (i : Nat) (s : State) : (applyUpd (.revokeKey i) s).tick = s.tick := rfl
@[simp] theorem revokeKey_mem (i : Nat) (s : State) : (applyUpd (.revokeKey i) s).mem = s.mem := rfl
@[simp] theorem revokeKey_ecc (i : Nat) (s : State) : (applyUpd (.revokeKey i) s).ecc = s.ecc := rfl
@[simp] theorem revokeKey_host (i : Nat) (s : State) : (applyUpd (.revokeKey i) s).host = s.host := rfl
@[simp] theorem revokeKey_mbx (i : Nat) (s : State) : (applyUpd (.revokeKey i) s).mbx = s.mbx := rfl
@[simp] theorem revokeKey_log (i : Nat) (s : State) : (applyUpd (.revokeKey i) s).log = s.log := rfl
@[simp] theorem revokeKey_evt (i : Nat) (s : State) : (applyUpd (.revokeKey i) s).evt = s.evt := rfl
@[simp] theorem revokeKey_txn (i : Nat) (s : State) : (applyUpd (.revokeKey i) s).txn = s.txn := rfl
@[simp] theorem revokeKey_clk (i : Nat) (s : State) : (applyUpd (.revokeKey i) s).clk = s.clk := rfl
@[simp] theorem revokeKey_datum (i : Nat) (s : State) : (applyUpd (.revokeKey i) s).datum = s.datum := rfl
@[simp] theorem revokeKey_pwr (i : Nat) (s : State) : (applyUpd (.revokeKey i) s).pwr = s.pwr := rfl
@[simp] theorem revokeKey_kiln (i : Nat) (s : State) : (applyUpd (.revokeKey i) s).kiln = s.kiln := rfl
@[simp] theorem revokeKey_boot (i : Nat) (s : State) : (applyUpd (.revokeKey i) s).boot = s.boot := rfl
@[simp] theorem revokeKey_fuse (i : Nat) (s : State) : (applyUpd (.revokeKey i) s).fuse = { s.fuse with ownerRev := s.fuse.ownerRev ||| 2 ^ i } := rfl
@[simp] theorem revokeKey_cap (i : Nat) (s : State) : (applyUpd (.revokeKey i) s).cap = s.cap := rfl
@[simp] theorem revokeKey_sect (i : Nat) (s : State) : (applyUpd (.revokeKey i) s).sect = s.sect := rfl
@[simp] theorem revokeKey_fh (i : Nat) (s : State) : (applyUpd (.revokeKey i) s).fh = s.fh := rfl
@[simp] theorem revokeKey_grat (i : Nat) (s : State) : (applyUpd (.revokeKey i) s).grat = s.grat := rfl
@[simp] theorem revokeKey_mash (i : Nat) (s : State) : (applyUpd (.revokeKey i) s).mash = s.mash := rfl
@[simp] theorem revokeKey_tx (i : Nat) (s : State) : (applyUpd (.revokeKey i) s).tx = s.tx := rfl
@[simp] theorem revokeKey_dpd (i : Nat) (s : State) : (applyUpd (.revokeKey i) s).dpd = s.dpd := rfl
@[simp] theorem revokeKey_rx (i : Nat) (s : State) : (applyUpd (.revokeKey i) s).rx = s.rx := rfl
@[simp] theorem revokeKey_conv (i : Nat) (s : State) : (applyUpd (.revokeKey i) s).conv = s.conv := rfl
@[simp] theorem revokeKey_hk (i : Nat) (s : State) : (applyUpd (.revokeKey i) s).hk = s.hk := rfl
@[simp] theorem revokeKey_radio (i : Nat) (s : State) : (applyUpd (.revokeKey i) s).radio = s.radio := rfl
@[simp] theorem revokeKey_survey (i : Nat) (s : State) : (applyUpd (.revokeKey i) s).survey = s.survey := rfl
@[simp] theorem revokeKey_bias (i : Nat) (s : State) : (applyUpd (.revokeKey i) s).bias = s.bias := rfl
@[simp] theorem revokeKey_rffe (i : Nat) (s : State) : (applyUpd (.revokeKey i) s).rffe = s.rffe := rfl
@[simp] theorem revokeKey_coex (i : Nat) (s : State) : (applyUpd (.revokeKey i) s).coex = s.coex := rfl
@[simp] theorem revokeKey_tap (i : Nat) (s : State) : (applyUpd (.revokeKey i) s).tap = s.tap := rfl
@[simp] theorem revokeKey_pending (i : Nat) (s : State) : (applyUpd (.revokeKey i) s).pending = s.pending := rfl
@[simp] theorem advanceFw_cfg (n : Nat) (s : State) : (applyUpd (.advanceFw n) s).cfg = s.cfg := rfl
@[simp] theorem advanceFw_regs (n : Nat) (s : State) : (applyUpd (.advanceFw n) s).regs = s.regs := rfl
@[simp] theorem advanceFw_cnts (n : Nat) (s : State) : (applyUpd (.advanceFw n) s).cnts = s.cnts := rfl
@[simp] theorem advanceFw_tots (n : Nat) (s : State) : (applyUpd (.advanceFw n) s).tots = s.tots := rfl
@[simp] theorem advanceFw_free (n : Nat) (s : State) : (applyUpd (.advanceFw n) s).free = s.free := rfl
@[simp] theorem advanceFw_tick (n : Nat) (s : State) : (applyUpd (.advanceFw n) s).tick = s.tick := rfl
@[simp] theorem advanceFw_mem (n : Nat) (s : State) : (applyUpd (.advanceFw n) s).mem = s.mem := rfl
@[simp] theorem advanceFw_ecc (n : Nat) (s : State) : (applyUpd (.advanceFw n) s).ecc = s.ecc := rfl
@[simp] theorem advanceFw_host (n : Nat) (s : State) : (applyUpd (.advanceFw n) s).host = s.host := rfl
@[simp] theorem advanceFw_mbx (n : Nat) (s : State) : (applyUpd (.advanceFw n) s).mbx = s.mbx := rfl
@[simp] theorem advanceFw_log (n : Nat) (s : State) : (applyUpd (.advanceFw n) s).log = s.log := rfl
@[simp] theorem advanceFw_evt (n : Nat) (s : State) : (applyUpd (.advanceFw n) s).evt = s.evt := rfl
@[simp] theorem advanceFw_txn (n : Nat) (s : State) : (applyUpd (.advanceFw n) s).txn = s.txn := rfl
@[simp] theorem advanceFw_clk (n : Nat) (s : State) : (applyUpd (.advanceFw n) s).clk = s.clk := rfl
@[simp] theorem advanceFw_datum (n : Nat) (s : State) : (applyUpd (.advanceFw n) s).datum = s.datum := rfl
@[simp] theorem advanceFw_pwr (n : Nat) (s : State) : (applyUpd (.advanceFw n) s).pwr = s.pwr := rfl
@[simp] theorem advanceFw_kiln (n : Nat) (s : State) : (applyUpd (.advanceFw n) s).kiln = s.kiln := rfl
@[simp] theorem advanceFw_boot (n : Nat) (s : State) : (applyUpd (.advanceFw n) s).boot = s.boot := rfl
@[simp] theorem advanceFw_fuse (n : Nat) (s : State) : (applyUpd (.advanceFw n) s).fuse = { s.fuse with fwCounter := max s.fuse.fwCounter n } := rfl
@[simp] theorem advanceFw_cap (n : Nat) (s : State) : (applyUpd (.advanceFw n) s).cap = s.cap := rfl
@[simp] theorem advanceFw_sect (n : Nat) (s : State) : (applyUpd (.advanceFw n) s).sect = s.sect := rfl
@[simp] theorem advanceFw_fh (n : Nat) (s : State) : (applyUpd (.advanceFw n) s).fh = s.fh := rfl
@[simp] theorem advanceFw_grat (n : Nat) (s : State) : (applyUpd (.advanceFw n) s).grat = s.grat := rfl
@[simp] theorem advanceFw_mash (n : Nat) (s : State) : (applyUpd (.advanceFw n) s).mash = s.mash := rfl
@[simp] theorem advanceFw_tx (n : Nat) (s : State) : (applyUpd (.advanceFw n) s).tx = s.tx := rfl
@[simp] theorem advanceFw_dpd (n : Nat) (s : State) : (applyUpd (.advanceFw n) s).dpd = s.dpd := rfl
@[simp] theorem advanceFw_rx (n : Nat) (s : State) : (applyUpd (.advanceFw n) s).rx = s.rx := rfl
@[simp] theorem advanceFw_conv (n : Nat) (s : State) : (applyUpd (.advanceFw n) s).conv = s.conv := rfl
@[simp] theorem advanceFw_hk (n : Nat) (s : State) : (applyUpd (.advanceFw n) s).hk = s.hk := rfl
@[simp] theorem advanceFw_radio (n : Nat) (s : State) : (applyUpd (.advanceFw n) s).radio = s.radio := rfl
@[simp] theorem advanceFw_survey (n : Nat) (s : State) : (applyUpd (.advanceFw n) s).survey = s.survey := rfl
@[simp] theorem advanceFw_bias (n : Nat) (s : State) : (applyUpd (.advanceFw n) s).bias = s.bias := rfl
@[simp] theorem advanceFw_rffe (n : Nat) (s : State) : (applyUpd (.advanceFw n) s).rffe = s.rffe := rfl
@[simp] theorem advanceFw_coex (n : Nat) (s : State) : (applyUpd (.advanceFw n) s).coex = s.coex := rfl
@[simp] theorem advanceFw_tap (n : Nat) (s : State) : (applyUpd (.advanceFw n) s).tap = s.tap := rfl
@[simp] theorem advanceFw_pending (n : Nat) (s : State) : (applyUpd (.advanceFw n) s).pending = s.pending := rfl
@[simp] theorem advanceProf_cfg (n : Nat) (s : State) : (applyUpd (.advanceProf n) s).cfg = s.cfg := rfl
@[simp] theorem advanceProf_regs (n : Nat) (s : State) : (applyUpd (.advanceProf n) s).regs = s.regs := rfl
@[simp] theorem advanceProf_cnts (n : Nat) (s : State) : (applyUpd (.advanceProf n) s).cnts = s.cnts := rfl
@[simp] theorem advanceProf_tots (n : Nat) (s : State) : (applyUpd (.advanceProf n) s).tots = s.tots := rfl
@[simp] theorem advanceProf_free (n : Nat) (s : State) : (applyUpd (.advanceProf n) s).free = s.free := rfl
@[simp] theorem advanceProf_tick (n : Nat) (s : State) : (applyUpd (.advanceProf n) s).tick = s.tick := rfl
@[simp] theorem advanceProf_mem (n : Nat) (s : State) : (applyUpd (.advanceProf n) s).mem = s.mem := rfl
@[simp] theorem advanceProf_ecc (n : Nat) (s : State) : (applyUpd (.advanceProf n) s).ecc = s.ecc := rfl
@[simp] theorem advanceProf_host (n : Nat) (s : State) : (applyUpd (.advanceProf n) s).host = s.host := rfl
@[simp] theorem advanceProf_mbx (n : Nat) (s : State) : (applyUpd (.advanceProf n) s).mbx = s.mbx := rfl
@[simp] theorem advanceProf_log (n : Nat) (s : State) : (applyUpd (.advanceProf n) s).log = s.log := rfl
@[simp] theorem advanceProf_evt (n : Nat) (s : State) : (applyUpd (.advanceProf n) s).evt = s.evt := rfl
@[simp] theorem advanceProf_txn (n : Nat) (s : State) : (applyUpd (.advanceProf n) s).txn = s.txn := rfl
@[simp] theorem advanceProf_clk (n : Nat) (s : State) : (applyUpd (.advanceProf n) s).clk = s.clk := rfl
@[simp] theorem advanceProf_datum (n : Nat) (s : State) : (applyUpd (.advanceProf n) s).datum = s.datum := rfl
@[simp] theorem advanceProf_pwr (n : Nat) (s : State) : (applyUpd (.advanceProf n) s).pwr = s.pwr := rfl
@[simp] theorem advanceProf_kiln (n : Nat) (s : State) : (applyUpd (.advanceProf n) s).kiln = s.kiln := rfl
@[simp] theorem advanceProf_boot (n : Nat) (s : State) : (applyUpd (.advanceProf n) s).boot = s.boot := rfl
@[simp] theorem advanceProf_fuse (n : Nat) (s : State) : (applyUpd (.advanceProf n) s).fuse = { s.fuse with profCounter := max s.fuse.profCounter n } := rfl
@[simp] theorem advanceProf_cap (n : Nat) (s : State) : (applyUpd (.advanceProf n) s).cap = s.cap := rfl
@[simp] theorem advanceProf_sect (n : Nat) (s : State) : (applyUpd (.advanceProf n) s).sect = s.sect := rfl
@[simp] theorem advanceProf_fh (n : Nat) (s : State) : (applyUpd (.advanceProf n) s).fh = s.fh := rfl
@[simp] theorem advanceProf_grat (n : Nat) (s : State) : (applyUpd (.advanceProf n) s).grat = s.grat := rfl
@[simp] theorem advanceProf_mash (n : Nat) (s : State) : (applyUpd (.advanceProf n) s).mash = s.mash := rfl
@[simp] theorem advanceProf_tx (n : Nat) (s : State) : (applyUpd (.advanceProf n) s).tx = s.tx := rfl
@[simp] theorem advanceProf_dpd (n : Nat) (s : State) : (applyUpd (.advanceProf n) s).dpd = s.dpd := rfl
@[simp] theorem advanceProf_rx (n : Nat) (s : State) : (applyUpd (.advanceProf n) s).rx = s.rx := rfl
@[simp] theorem advanceProf_conv (n : Nat) (s : State) : (applyUpd (.advanceProf n) s).conv = s.conv := rfl
@[simp] theorem advanceProf_hk (n : Nat) (s : State) : (applyUpd (.advanceProf n) s).hk = s.hk := rfl
@[simp] theorem advanceProf_radio (n : Nat) (s : State) : (applyUpd (.advanceProf n) s).radio = s.radio := rfl
@[simp] theorem advanceProf_survey (n : Nat) (s : State) : (applyUpd (.advanceProf n) s).survey = s.survey := rfl
@[simp] theorem advanceProf_bias (n : Nat) (s : State) : (applyUpd (.advanceProf n) s).bias = s.bias := rfl
@[simp] theorem advanceProf_rffe (n : Nat) (s : State) : (applyUpd (.advanceProf n) s).rffe = s.rffe := rfl
@[simp] theorem advanceProf_coex (n : Nat) (s : State) : (applyUpd (.advanceProf n) s).coex = s.coex := rfl
@[simp] theorem advanceProf_tap (n : Nat) (s : State) : (applyUpd (.advanceProf n) s).tap = s.tap := rfl
@[simp] theorem advanceProf_pending (n : Nat) (s : State) : (applyUpd (.advanceProf n) s).pending = s.pending := rfl

end Sys2Proof.Laws
end

