-- ==== Sys2Proof/Laws/Prog.lean ====
section
/-! SUPPORT. Programs of elementary writes: what each construct does, and that every command is such a program, so that what every
elementary write keeps, every command keeps. -/

namespace Sys2Proof.Laws

open Sys2Proof Sys2Proof.Machine

@[simp] theorem runP_skip (s : State) : runP .skip s = s := rfl
theorem runP_upd (u : Upd) (s : State) : runP (.upd u) s = applyUpd u s := rfl
@[simp] theorem runP_seq (p q : Prog) (s : State) : runP (.seq p q) s = runP q (runP p s) := rfl
@[simp] theorem runP_ask (f : State → Prog) (s : State) : runP (.ask f) s = runP (f s) s := rfl
@[simp] theorem runP_seqs_nil (s : State) : runP (seqs []) s = s := rfl
@[simp] theorem runP_seqs_cons (p : Prog) (ps : List Prog) (s : State) : runP (seqs (p :: ps)) s = runP (seqs ps) (runP p s) := rfl
@[simp] theorem runP_each_nil {α : Type} (f : α → Prog) (s : State) : runP (each [] f) s = s := rfl
@[simp] theorem runP_each_cons {α : Type} (x : α) (l : List α) (f : α → Prog) (s : State) :
    runP (each (x :: l) f) s = runP (each l f) (runP (f x) s) := rfl
@[simp] theorem runP_whenP (b : Bool) (p : Prog) (s : State) : runP (whenP b p) s = if b = true then runP p s else s := by
  cases b <;> rfl
@[simp] theorem runP_ite (c : Prop) [Decidable c] (p q : Prog) (s : State) :
    runP (if c then p else q) s = if c then runP p s else runP q s := by
  split <;> rfl

/-- What every elementary write keeps, every program keeps. -/
theorem runP_keeps (P : State → Prop) (h : ∀ u s, P s → P (applyUpd u s)) : ∀ (p : Prog) (s : State), P s → P (runP p s)
  | .skip, _, hs => hs
  | .upd u, s, hs => h u s hs
  | .seq p q, s, hs => runP_keeps P h q _ (runP_keeps P h p s hs)
  | .ask f, s, hs => runP_keeps P h (f s) s hs

/-- What every elementary write of a list keeps, a relation to the state before included. -/
theorem runP_rel (R : State → State → Prop) (refl : ∀ s, R s s) (trans : ∀ a b c, R a b → R b c → R a c)
    (h : ∀ u s, R s (applyUpd u s)) : ∀ (p : Prog) (s : State), R s (runP p s)
  | .skip, s => refl s
  | .upd u, s => h u s
  | .seq p q, s => trans _ _ _ (runP_rel R refl trans h p s) (runP_rel R refl trans h q _)
  | .ask f, s => runP_rel R refl trans h (f s) s

/-- A mailbox command is its submission. -/
theorem exec_call (i : Instr) (op : Nat) (c : Call) (s : State) (h : i.call = some (op, c)) : exec i s = done (submit op c) s := by
  cases i <;> cases h <;> rfl

/-- Every command is the run of a program of elementary writes. -/
theorem exec_runs (i : Instr) (s : State) : ∃ p, exec i s = .next (runP p s) := by
  cases i
  case srsOccasionEnd => simp only [exec, execSrsOccasionEnd]; split <;> exact ⟨_, rfl⟩
  case mashCut => simp only [exec, execMashCut]; split <;> exact ⟨_, rfl⟩
  case mashSetReady => simp only [exec, execMashSetReady]; split <;> exact ⟨_, rfl⟩
  all_goals exact ⟨_, rfl⟩

/-- Every step is a run of elementary writes, on the state without the command it takes. -/
theorem step_runs (s : State) : ∃ p, step s = .next (runP p { s with pending := s.pending.tail }) := by
  cases h : s.pending with
  | nil => exact ⟨idleCycle, by simp [step, h, done]; rw [← h]⟩
  | cons c l =>
    obtain ⟨p, hp⟩ := exec_runs c { s with pending := l }
    exact ⟨p, by simp [step, h, hp]⟩

/-- No elementary write reaches the queue. -/
theorem applyUpd_pending (u : Upd) (s : State) : (applyUpd u s).pending = s.pending := by cases u <;> rfl

/-- No program reaches the queue. -/
@[simp] theorem runP_pending (p : Prog) (s : State) : (runP p s).pending = s.pending :=
  runP_rel (fun a b => b.pending = a.pending) (fun _ => rfl) (fun _ _ _ h1 h2 => h2.trans h1) (fun u s => applyUpd_pending u s) p s

end Sys2Proof.Laws
end

