-- ==== Sys2Proof/Laws/Within.lean ====
section
/-! SUPPORT. Which groups of the state a program of elementary writes can reach: `Within l p` says that every write of `p` is to a
group of `l`, `Avoids g p` that none is to `g`, and a group that a program avoids it leaves as it was. -/

namespace Sys2Proof.Laws

open Sys2Proof Sys2Proof.Machine

/-- The group an elementary write is to. -/
@[simp] def updGrp : Upd → Grp
  | .ecc _ => .ecc
  | .host _ => .host
  | .mbx _ => .mbx
  | .txn _ => .txn
  | .clk _ => .clk
  | .datum _ => .datum
  | .pwr _ => .pwr
  | .kiln _ => .kiln
  | .boot _ => .boot
  | .cap _ => .cap
  | .sect _ => .sect
  | .fh _ => .fh
  | .grat _ => .grat
  | .mash _ => .mash
  | .tx _ => .tx
  | .dpd _ => .dpd
  | .rx _ => .rx
  | .conv _ => .conv
  | .hk _ => .hk
  | .radio _ => .radio
  | .survey _ => .survey
  | .bias _ => .bias
  | .rffe _ => .rffe
  | .coex _ => .coex
  | .tap _ => .tap
  | .poke _ _ _ => .mem
  | .fill _ _ _ => .mem
  | .copy _ _ _ _ => .mem
  | .setCfg _ _ => .cfg
  | .clearCfg => .cfg
  | .setReg _ _ => .regs
  | .dropRegs _ _ => .regs
  | .bump _ _ => .cnts
  | .clearCnt _ => .cnts
  | .dropCnts _ _ => .cnts
  | .dropTots _ _ => .tots
  | .addTot _ _ => .tots
  | .clearTot _ => .tots
  | .draw => .free
  | .tick => .tick
  | .logAppend _ => .log
  | .logReset => .log
  | .logReturn _ _ => .log
  | .capture _ => .log
  | .evtAppend _ => .evt
  | .evtReset => .evt
  | .evtAck _ => .evt
  | .burnKey _ _ => .fuse
  | .revokeKey _ => .fuse
  | .advanceFw _ => .fuse
  | .advanceProf _ => .fuse

/-- No write of the program is to the group. -/
inductive Avoids (g : Grp) : Prog → Prop where
  | skip : Avoids g .skip
  | upd {u : Upd} (h : updGrp u ≠ g) : Avoids g (.upd u)
  | seq {p q : Prog} (hp : Avoids g p) (hq : Avoids g q) : Avoids g (.seq p q)
  | ask {f : State → Prog} (h : ∀ s, Avoids g (f s)) : Avoids g (.ask f)

/-- Every write of the program is to a group of the list. -/
inductive Within (l : List Grp) : Prog → Prop where
  | skip : Within l .skip
  | upd {u : Upd} (h : l.contains (updGrp u) = true) : Within l (.upd u)
  | seq {p q : Prog} (hp : Within l p) (hq : Within l q) : Within l (.seq p q)
  | ask {f : State → Prog} (h : ∀ s, Within l (f s)) : Within l (.ask f)

/-- One list of groups is part of another. -/
def within (a b : List Grp) : Bool := a.all fun g => b.contains g

theorem applyUpd_same (g : Grp) (u : Upd) (s : State) (h : updGrp u ≠ g) : Same g (applyUpd u s) s := by
  cases u <;> cases g <;> first | rfl | exact absurd rfl h

/-- What a program avoids it leaves as it was. -/
theorem avoids_same {g : Grp} {p : Prog} (h : Avoids g p) (s : State) : Same g (runP p s) s := by
  induction h generalizing s with
  | skip => cases g <;> rfl
  | upd h => exact applyUpd_same g _ s h
  | @seq p q _ _ h1 h2 =>
    have h1 := h1 s
    have h2 := h2 (runP p s)
    cases g <;> exact Eq.trans h2 h1
  | ask _ h => exact h s s

theorem Within.lift {a b : List Grp} {p : Prog} (h : within a b = true) (hp : Within a p) : Within b p := by
  induction hp with
  | skip => exact .skip
  | upd hu => exact .upd (List.all_eq_true.1 h _ (List.contains_iff_mem.1 hu))
  | seq _ _ h1 h2 => exact .seq h1 h2
  | ask _ ih => exact .ask ih

theorem Within.free {l : List Grp} {g : Grp} {p : Prog} (hp : Within l p) (hg : g ∉ l) : Avoids g p := by
  induction hp with
  | skip => exact .skip
  | upd hu => exact .upd fun e => hg (e ▸ List.contains_iff_mem.1 hu)
  | seq _ _ h1 h2 => exact .seq h1 h2
  | ask _ ih => exact .ask ih

/-- What a program leaves unchanged. -/
theorem Within.keepsBut {l : List Grp} {p : Prog} (h : Within l p) (s : State) : KeepsBut l s (runP p s) :=
  ⟨runP_pending p s, fun _ hg => avoids_same (h.free hg) s⟩

/-! ### What a program avoids -/

@[simp] theorem keeps_cfg {p : Prog} {s : State} (h : Avoids .cfg p) : (runP p s).cfg = s.cfg := avoids_same h s
@[simp] theorem keeps_regs {p : Prog} {s : State} (h : Avoids .regs p) : (runP p s).regs = s.regs := avoids_same h s
@[simp] theorem keeps_cnts {p : Prog} {s : State} (h : Avoids .cnts p) : (runP p s).cnts = s.cnts := avoids_same h s
@[simp] theorem keeps_tots {p : Prog} {s : State} (h : Avoids .tots p) : (runP p s).tots = s.tots := avoids_same h s
@[simp] theorem keeps_free {p : Prog} {s : State} (h : Avoids .free p) : (runP p s).free = s.free := avoids_same h s
@[simp] theorem keeps_tick {p : Prog} {s : State} (h : Avoids .tick p) : (runP p s).tick = s.tick := avoids_same h s
@[simp] theorem keeps_mem {p : Prog} {s : State} (h : Avoids .mem p) : (runP p s).mem = s.mem := avoids_same h s
@[simp] theorem keeps_ecc {p : Prog} {s : State} (h : Avoids .ecc p) : (runP p s).ecc = s.ecc := avoids_same h s
@[simp] theorem keeps_host {p : Prog} {s : State} (h : Avoids .host p) : (runP p s).host = s.host := avoids_same h s
@[simp] theorem keeps_mbx {p : Prog} {s : State} (h : Avoids .mbx p) : (runP p s).mbx = s.mbx := avoids_same h s
@[simp] theorem keeps_log {p : Prog} {s : State} (h : Avoids .log p) : (runP p s).log = s.log := avoids_same h s
@[simp] theorem keeps_evt {p : Prog} {s : State} (h : Avoids .evt p) : (runP p s).evt = s.evt := avoids_same h s
@[simp] theorem keeps_txn {p : Prog} {s : State} (h : Avoids .txn p) : (runP p s).txn = s.txn := avoids_same h s
@[simp] theorem keeps_clk {p : Prog} {s : State} (h : Avoids .clk p) : (runP p s).clk = s.clk := avoids_same h s
@[simp] theorem keeps_datum {p : Prog} {s : State} (h : Avoids .datum p) : (runP p s).datum = s.datum := avoids_same h s
@[simp] theorem keeps_pwr {p : Prog} {s : State} (h : Avoids .pwr p) : (runP p s).pwr = s.pwr := avoids_same h s
@[simp] theorem keeps_kiln {p : Prog} {s : State} (h : Avoids .kiln p) : (runP p s).kiln = s.kiln := avoids_same h s
@[simp] theorem keeps_boot {p : Prog} {s : State} (h : Avoids .boot p) : (runP p s).boot = s.boot := avoids_same h s
@[simp] theorem keeps_fuse {p : Prog} {s : State} (h : Avoids .fuse p) : (runP p s).fuse = s.fuse := avoids_same h s
@[simp] theorem keeps_cap {p : Prog} {s : State} (h : Avoids .cap p) : (runP p s).cap = s.cap := avoids_same h s
@[simp] theorem keeps_sect {p : Prog} {s : State} (h : Avoids .sect p) : (runP p s).sect = s.sect := avoids_same h s
@[simp] theorem keeps_fh {p : Prog} {s : State} (h : Avoids .fh p) : (runP p s).fh = s.fh := avoids_same h s
@[simp] theorem keeps_grat {p : Prog} {s : State} (h : Avoids .grat p) : (runP p s).grat = s.grat := avoids_same h s
@[simp] theorem keeps_mash {p : Prog} {s : State} (h : Avoids .mash p) : (runP p s).mash = s.mash := avoids_same h s
@[simp] theorem keeps_tx {p : Prog} {s : State} (h : Avoids .tx p) : (runP p s).tx = s.tx := avoids_same h s
@[simp] theorem keeps_dpd {p : Prog} {s : State} (h : Avoids .dpd p) : (runP p s).dpd = s.dpd := avoids_same h s
@[simp] theorem keeps_rx {p : Prog} {s : State} (h : Avoids .rx p) : (runP p s).rx = s.rx := avoids_same h s
@[simp] theorem keeps_conv {p : Prog} {s : State} (h : Avoids .conv p) : (runP p s).conv = s.conv := avoids_same h s
@[simp] theorem keeps_hk {p : Prog} {s : State} (h : Avoids .hk p) : (runP p s).hk = s.hk := avoids_same h s
@[simp] theorem keeps_radio {p : Prog} {s : State} (h : Avoids .radio p) : (runP p s).radio = s.radio := avoids_same h s
@[simp] theorem keeps_survey {p : Prog} {s : State} (h : Avoids .survey p) : (runP p s).survey = s.survey := avoids_same h s
@[simp] theorem keeps_bias {p : Prog} {s : State} (h : Avoids .bias p) : (runP p s).bias = s.bias := avoids_same h s
@[simp] theorem keeps_rffe {p : Prog} {s : State} (h : Avoids .rffe p) : (runP p s).rffe = s.rffe := avoids_same h s
@[simp] theorem keeps_coex {p : Prog} {s : State} (h : Avoids .coex p) : (runP p s).coex = s.coex := avoids_same h s
@[simp] theorem keeps_tap {p : Prog} {s : State} (h : Avoids .tap p) : (runP p s).tap = s.tap := avoids_same h s

@[simp] theorem avoids_skip (g : Grp) : Avoids g .skip := .skip
@[simp] theorem avoids_upd (g : Grp) (u : Upd) : Avoids g (.upd u) ↔ updGrp u ≠ g := ⟨fun h => by cases h; assumption, .upd⟩
@[simp] theorem avoids_seq (g : Grp) (p q : Prog) : Avoids g (.seq p q) ↔ Avoids g p ∧ Avoids g q :=
  ⟨fun h => by cases h; exact ⟨by assumption, by assumption⟩, fun h => .seq h.1 h.2⟩
@[simp] theorem avoids_ask (g : Grp) (f : State → Prog) : Avoids g (.ask f) ↔ ∀ s, Avoids g (f s) :=
  ⟨fun h => by cases h; assumption, .ask⟩
@[simp] theorem avoids_seqs_nil (g : Grp) : Avoids g (seqs []) := .skip
@[simp] theorem avoids_seqs_cons (g : Grp) (p : Prog) (l : List Prog) : Avoids g (seqs (p :: l)) ↔ Avoids g p ∧ Avoids g (seqs l) :=
  avoids_seq g p (seqs l)
@[simp] theorem avoids_whenP (g : Grp) (b : Bool) (p : Prog) : Avoids g (whenP b p) ↔ (b = true → Avoids g p) := by
  cases b <;> simp [whenP]
@[simp] theorem avoids_ite (g : Grp) (c : Prop) [Decidable c] (p q : Prog) :
    Avoids g (if c then p else q) ↔ (c → Avoids g p) ∧ (¬ c → Avoids g q) := by
  by_cases h : c <;> simp [h]
@[simp] theorem avoids_seqs (g : Grp) (l : List Prog) : Avoids g (seqs l) ↔ ∀ p ∈ l, Avoids g p := by
  induction l with
  | nil => simp
  | cons p l ih => simp [ih]
@[simp] theorem avoids_each {α : Type} (g : Grp) (l : List α) (f : α → Prog) : Avoids g (each l f) ↔ ∀ x ∈ l, Avoids g (f x) := by
  simp [each]

/-! ### The groups that a program is to -/

theorem within_skip (l : List Grp) : Within l .skip := .skip
theorem within_upd {l : List Grp} {u : Upd} (h : l.contains (updGrp u) = true) : Within l (.upd u) := .upd h
theorem within_seq {l : List Grp} {p q : Prog} (hp : Within l p) (hq : Within l q) : Within l (.seq p q) := .seq hp hq
theorem within_ask {l : List Grp} {f : State → Prog} (h : ∀ s, Within l (f s)) : Within l (.ask f) := .ask h
theorem within_nil (l : List Grp) : Within l (seqs []) := .skip
theorem within_cons {l : List Grp} {p : Prog} {ps : List Prog} (hp : Within l p) (hq : Within l (seqs ps)) : Within l (seqs (p :: ps)) :=
  .seq hp hq
theorem within_seqs {l : List Grp} {ps : List Prog} (h : ∀ p ∈ ps, Within l p) : Within l (seqs ps) := by
  induction ps with
  | nil => exact .skip
  | cons p ps ih => exact .seq (h p (by simp)) (ih fun q hq => h q (by simp [hq]))
theorem within_each {α : Type} {l : List Grp} {xs : List α} {f : α → Prog} (h : ∀ x, Within l (f x)) : Within l (each xs f) :=
  within_seqs fun p hp => by obtain ⟨x, -, rfl⟩ := List.mem_map.1 hp; exact h x
theorem within_whenP {l : List Grp} {b : Bool} {p : Prog} (h : Within l p) : Within l (whenP b p) := by
  cases b
  · exact .skip
  · exact h
theorem within_ite {l : List Grp} {c : Prop} [Decidable c] {p q : Prog} (hp : Within l p) (hq : Within l q) :
    Within l (if c then p else q) := by
  by_cases h : c
  · simpa [h] using hp
  · simpa [h] using hq
theorem within_replicate {l : List Grp} {n : Nat} {p : Prog} (h : Within l p) : Within l (seqs (List.replicate n p)) :=
  within_seqs fun _ hq => (List.mem_replicate.1 hq).2 ▸ h
theorem within_foldl {α : Type} {l : List Grp} {xs : List α} {f : Prog → α → Prog} {p : Prog} (hp : Within l p)
    (h : ∀ q x, Within l q → Within l (f q x)) : Within l (xs.foldl f p) := by
  induction xs generalizing p with
  | nil => exact hp
  | cons x xs ih => exact ih (h p x hp)

/-! ### A change of one group -/

theorem modEcc_within {l : List Grp} {f : EccSt → EccSt} (h : l.contains .ecc = true) : Within l (modEcc f) := .ask fun _ => .upd h
@[simp] theorem modEcc_avoids {g : Grp} {f : EccSt → EccSt} : Avoids g (modEcc f) ↔ .ecc ≠ g :=
  (avoids_ask g _).trans ⟨fun h => (avoids_upd g _).1 (h State.reset), fun h _ => .upd h⟩
theorem modEcc_run (f : EccSt → EccSt) (s : State) : runP (modEcc f) s = { s with ecc := f s.ecc } := rfl
@[simp] theorem modEcc_self (f : EccSt → EccSt) (s : State) : (runP (modEcc f) s).ecc = f s.ecc := rfl
theorem modHost_within {l : List Grp} {f : HostSt → HostSt} (h : l.contains .host = true) : Within l (modHost f) := .ask fun _ => .upd h
@[simp] theorem modHost_avoids {g : Grp} {f : HostSt → HostSt} : Avoids g (modHost f) ↔ .host ≠ g :=
  (avoids_ask g _).trans ⟨fun h => (avoids_upd g _).1 (h State.reset), fun h _ => .upd h⟩
theorem modHost_run (f : HostSt → HostSt) (s : State) : runP (modHost f) s = { s with host := f s.host } := rfl
@[simp] theorem modHost_self (f : HostSt → HostSt) (s : State) : (runP (modHost f) s).host = f s.host := rfl
theorem modMbx_within {l : List Grp} {f : MbxSt → MbxSt} (h : l.contains .mbx = true) : Within l (modMbx f) := .ask fun _ => .upd h
@[simp] theorem modMbx_avoids {g : Grp} {f : MbxSt → MbxSt} : Avoids g (modMbx f) ↔ .mbx ≠ g :=
  (avoids_ask g _).trans ⟨fun h => (avoids_upd g _).1 (h State.reset), fun h _ => .upd h⟩
theorem modMbx_run (f : MbxSt → MbxSt) (s : State) : runP (modMbx f) s = { s with mbx := f s.mbx } := rfl
@[simp] theorem modMbx_self (f : MbxSt → MbxSt) (s : State) : (runP (modMbx f) s).mbx = f s.mbx := rfl
theorem modTxn_within {l : List Grp} {f : TxnSt → TxnSt} (h : l.contains .txn = true) : Within l (modTxn f) := .ask fun _ => .upd h
@[simp] theorem modTxn_avoids {g : Grp} {f : TxnSt → TxnSt} : Avoids g (modTxn f) ↔ .txn ≠ g :=
  (avoids_ask g _).trans ⟨fun h => (avoids_upd g _).1 (h State.reset), fun h _ => .upd h⟩
theorem modTxn_run (f : TxnSt → TxnSt) (s : State) : runP (modTxn f) s = { s with txn := f s.txn } := rfl
@[simp] theorem modTxn_self (f : TxnSt → TxnSt) (s : State) : (runP (modTxn f) s).txn = f s.txn := rfl
theorem modClk_within {l : List Grp} {f : ClkSt → ClkSt} (h : l.contains .clk = true) : Within l (modClk f) := .ask fun _ => .upd h
@[simp] theorem modClk_avoids {g : Grp} {f : ClkSt → ClkSt} : Avoids g (modClk f) ↔ .clk ≠ g :=
  (avoids_ask g _).trans ⟨fun h => (avoids_upd g _).1 (h State.reset), fun h _ => .upd h⟩
theorem modClk_run (f : ClkSt → ClkSt) (s : State) : runP (modClk f) s = { s with clk := f s.clk } := rfl
@[simp] theorem modClk_self (f : ClkSt → ClkSt) (s : State) : (runP (modClk f) s).clk = f s.clk := rfl
theorem modDatum_within {l : List Grp} {f : DatumSt → DatumSt} (h : l.contains .datum = true) : Within l (modDatum f) := .ask fun _ => .upd h
@[simp] theorem modDatum_avoids {g : Grp} {f : DatumSt → DatumSt} : Avoids g (modDatum f) ↔ .datum ≠ g :=
  (avoids_ask g _).trans ⟨fun h => (avoids_upd g _).1 (h State.reset), fun h _ => .upd h⟩
theorem modDatum_run (f : DatumSt → DatumSt) (s : State) : runP (modDatum f) s = { s with datum := f s.datum } := rfl
@[simp] theorem modDatum_self (f : DatumSt → DatumSt) (s : State) : (runP (modDatum f) s).datum = f s.datum := rfl
theorem modPwr_within {l : List Grp} {f : PwrSt → PwrSt} (h : l.contains .pwr = true) : Within l (modPwr f) := .ask fun _ => .upd h
@[simp] theorem modPwr_avoids {g : Grp} {f : PwrSt → PwrSt} : Avoids g (modPwr f) ↔ .pwr ≠ g :=
  (avoids_ask g _).trans ⟨fun h => (avoids_upd g _).1 (h State.reset), fun h _ => .upd h⟩
theorem modPwr_run (f : PwrSt → PwrSt) (s : State) : runP (modPwr f) s = { s with pwr := f s.pwr } := rfl
@[simp] theorem modPwr_self (f : PwrSt → PwrSt) (s : State) : (runP (modPwr f) s).pwr = f s.pwr := rfl
theorem modKiln_within {l : List Grp} {f : KilnSt → KilnSt} (h : l.contains .kiln = true) : Within l (modKiln f) := .ask fun _ => .upd h
@[simp] theorem modKiln_avoids {g : Grp} {f : KilnSt → KilnSt} : Avoids g (modKiln f) ↔ .kiln ≠ g :=
  (avoids_ask g _).trans ⟨fun h => (avoids_upd g _).1 (h State.reset), fun h _ => .upd h⟩
theorem modKiln_run (f : KilnSt → KilnSt) (s : State) : runP (modKiln f) s = { s with kiln := f s.kiln } := rfl
@[simp] theorem modKiln_self (f : KilnSt → KilnSt) (s : State) : (runP (modKiln f) s).kiln = f s.kiln := rfl
theorem modBoot_within {l : List Grp} {f : BootSt → BootSt} (h : l.contains .boot = true) : Within l (modBoot f) := .ask fun _ => .upd h
@[simp] theorem modBoot_avoids {g : Grp} {f : BootSt → BootSt} : Avoids g (modBoot f) ↔ .boot ≠ g :=
  (avoids_ask g _).trans ⟨fun h => (avoids_upd g _).1 (h State.reset), fun h _ => .upd h⟩
theorem modBoot_run (f : BootSt → BootSt) (s : State) : runP (modBoot f) s = { s with boot := f s.boot } := rfl
@[simp] theorem modBoot_self (f : BootSt → BootSt) (s : State) : (runP (modBoot f) s).boot = f s.boot := rfl
theorem modCap_within {l : List Grp} {f : CapSt → CapSt} (h : l.contains .cap = true) : Within l (modCap f) := .ask fun _ => .upd h
@[simp] theorem modCap_avoids {g : Grp} {f : CapSt → CapSt} : Avoids g (modCap f) ↔ .cap ≠ g :=
  (avoids_ask g _).trans ⟨fun h => (avoids_upd g _).1 (h State.reset), fun h _ => .upd h⟩
theorem modCap_run (f : CapSt → CapSt) (s : State) : runP (modCap f) s = { s with cap := f s.cap } := rfl
@[simp] theorem modCap_self (f : CapSt → CapSt) (s : State) : (runP (modCap f) s).cap = f s.cap := rfl
theorem modSect_within {l : List Grp} {f : SectSt → SectSt} (h : l.contains .sect = true) : Within l (modSect f) := .ask fun _ => .upd h
@[simp] theorem modSect_avoids {g : Grp} {f : SectSt → SectSt} : Avoids g (modSect f) ↔ .sect ≠ g :=
  (avoids_ask g _).trans ⟨fun h => (avoids_upd g _).1 (h State.reset), fun h _ => .upd h⟩
theorem modSect_run (f : SectSt → SectSt) (s : State) : runP (modSect f) s = { s with sect := f s.sect } := rfl
@[simp] theorem modSect_self (f : SectSt → SectSt) (s : State) : (runP (modSect f) s).sect = f s.sect := rfl
theorem modFh_within {l : List Grp} {f : FhSt → FhSt} (h : l.contains .fh = true) : Within l (modFh f) := .ask fun _ => .upd h
@[simp] theorem modFh_avoids {g : Grp} {f : FhSt → FhSt} : Avoids g (modFh f) ↔ .fh ≠ g :=
  (avoids_ask g _).trans ⟨fun h => (avoids_upd g _).1 (h State.reset), fun h _ => .upd h⟩
theorem modFh_run (f : FhSt → FhSt) (s : State) : runP (modFh f) s = { s with fh := f s.fh } := rfl
@[simp] theorem modFh_self (f : FhSt → FhSt) (s : State) : (runP (modFh f) s).fh = f s.fh := rfl
theorem modGrat_within {l : List Grp} {f : GratSt → GratSt} (h : l.contains .grat = true) : Within l (modGrat f) := .ask fun _ => .upd h
@[simp] theorem modGrat_avoids {g : Grp} {f : GratSt → GratSt} : Avoids g (modGrat f) ↔ .grat ≠ g :=
  (avoids_ask g _).trans ⟨fun h => (avoids_upd g _).1 (h State.reset), fun h _ => .upd h⟩
theorem modGrat_run (f : GratSt → GratSt) (s : State) : runP (modGrat f) s = { s with grat := f s.grat } := rfl
@[simp] theorem modGrat_self (f : GratSt → GratSt) (s : State) : (runP (modGrat f) s).grat = f s.grat := rfl
theorem modMash_within {l : List Grp} {f : MashSt → MashSt} (h : l.contains .mash = true) : Within l (modMash f) := .ask fun _ => .upd h
@[simp] theorem modMash_avoids {g : Grp} {f : MashSt → MashSt} : Avoids g (modMash f) ↔ .mash ≠ g :=
  (avoids_ask g _).trans ⟨fun h => (avoids_upd g _).1 (h State.reset), fun h _ => .upd h⟩
theorem modMash_run (f : MashSt → MashSt) (s : State) : runP (modMash f) s = { s with mash := f s.mash } := rfl
@[simp] theorem modMash_self (f : MashSt → MashSt) (s : State) : (runP (modMash f) s).mash = f s.mash := rfl
theorem modTx_within {l : List Grp} {f : TxSt → TxSt} (h : l.contains .tx = true) : Within l (modTx f) := .ask fun _ => .upd h
@[simp] theorem modTx_avoids {g : Grp} {f : TxSt → TxSt} : Avoids g (modTx f) ↔ .tx ≠ g :=
  (avoids_ask g _).trans ⟨fun h => (avoids_upd g _).1 (h State.reset), fun h _ => .upd h⟩
theorem modTx_run (f : TxSt → TxSt) (s : State) : runP (modTx f) s = { s with tx := f s.tx } := rfl
@[simp] theorem modTx_self (f : TxSt → TxSt) (s : State) : (runP (modTx f) s).tx = f s.tx := rfl
theorem modDpd_within {l : List Grp} {f : DpdSt → DpdSt} (h : l.contains .dpd = true) : Within l (modDpd f) := .ask fun _ => .upd h
@[simp] theorem modDpd_avoids {g : Grp} {f : DpdSt → DpdSt} : Avoids g (modDpd f) ↔ .dpd ≠ g :=
  (avoids_ask g _).trans ⟨fun h => (avoids_upd g _).1 (h State.reset), fun h _ => .upd h⟩
theorem modDpd_run (f : DpdSt → DpdSt) (s : State) : runP (modDpd f) s = { s with dpd := f s.dpd } := rfl
@[simp] theorem modDpd_self (f : DpdSt → DpdSt) (s : State) : (runP (modDpd f) s).dpd = f s.dpd := rfl
theorem modRx_within {l : List Grp} {f : RxSt → RxSt} (h : l.contains .rx = true) : Within l (modRx f) := .ask fun _ => .upd h
@[simp] theorem modRx_avoids {g : Grp} {f : RxSt → RxSt} : Avoids g (modRx f) ↔ .rx ≠ g :=
  (avoids_ask g _).trans ⟨fun h => (avoids_upd g _).1 (h State.reset), fun h _ => .upd h⟩
theorem modRx_run (f : RxSt → RxSt) (s : State) : runP (modRx f) s = { s with rx := f s.rx } := rfl
@[simp] theorem modRx_self (f : RxSt → RxSt) (s : State) : (runP (modRx f) s).rx = f s.rx := rfl
theorem modConv_within {l : List Grp} {f : ConvSt → ConvSt} (h : l.contains .conv = true) : Within l (modConv f) := .ask fun _ => .upd h
@[simp] theorem modConv_avoids {g : Grp} {f : ConvSt → ConvSt} : Avoids g (modConv f) ↔ .conv ≠ g :=
  (avoids_ask g _).trans ⟨fun h => (avoids_upd g _).1 (h State.reset), fun h _ => .upd h⟩
theorem modConv_run (f : ConvSt → ConvSt) (s : State) : runP (modConv f) s = { s with conv := f s.conv } := rfl
@[simp] theorem modConv_self (f : ConvSt → ConvSt) (s : State) : (runP (modConv f) s).conv = f s.conv := rfl
theorem modHk_within {l : List Grp} {f : HkSt → HkSt} (h : l.contains .hk = true) : Within l (modHk f) := .ask fun _ => .upd h
@[simp] theorem modHk_avoids {g : Grp} {f : HkSt → HkSt} : Avoids g (modHk f) ↔ .hk ≠ g :=
  (avoids_ask g _).trans ⟨fun h => (avoids_upd g _).1 (h State.reset), fun h _ => .upd h⟩
theorem modHk_run (f : HkSt → HkSt) (s : State) : runP (modHk f) s = { s with hk := f s.hk } := rfl
@[simp] theorem modHk_self (f : HkSt → HkSt) (s : State) : (runP (modHk f) s).hk = f s.hk := rfl
theorem modRadio_within {l : List Grp} {f : RadioSt → RadioSt} (h : l.contains .radio = true) : Within l (modRadio f) := .ask fun _ => .upd h
@[simp] theorem modRadio_avoids {g : Grp} {f : RadioSt → RadioSt} : Avoids g (modRadio f) ↔ .radio ≠ g :=
  (avoids_ask g _).trans ⟨fun h => (avoids_upd g _).1 (h State.reset), fun h _ => .upd h⟩
theorem modRadio_run (f : RadioSt → RadioSt) (s : State) : runP (modRadio f) s = { s with radio := f s.radio } := rfl
@[simp] theorem modRadio_self (f : RadioSt → RadioSt) (s : State) : (runP (modRadio f) s).radio = f s.radio := rfl
theorem modSurvey_within {l : List Grp} {f : SurveySt → SurveySt} (h : l.contains .survey = true) : Within l (modSurvey f) := .ask fun _ => .upd h
@[simp] theorem modSurvey_avoids {g : Grp} {f : SurveySt → SurveySt} : Avoids g (modSurvey f) ↔ .survey ≠ g :=
  (avoids_ask g _).trans ⟨fun h => (avoids_upd g _).1 (h State.reset), fun h _ => .upd h⟩
theorem modSurvey_run (f : SurveySt → SurveySt) (s : State) : runP (modSurvey f) s = { s with survey := f s.survey } := rfl
@[simp] theorem modSurvey_self (f : SurveySt → SurveySt) (s : State) : (runP (modSurvey f) s).survey = f s.survey := rfl
theorem modBias_within {l : List Grp} {f : BiasSt → BiasSt} (h : l.contains .bias = true) : Within l (modBias f) := .ask fun _ => .upd h
@[simp] theorem modBias_avoids {g : Grp} {f : BiasSt → BiasSt} : Avoids g (modBias f) ↔ .bias ≠ g :=
  (avoids_ask g _).trans ⟨fun h => (avoids_upd g _).1 (h State.reset), fun h _ => .upd h⟩
theorem modBias_run (f : BiasSt → BiasSt) (s : State) : runP (modBias f) s = { s with bias := f s.bias } := rfl
@[simp] theorem modBias_self (f : BiasSt → BiasSt) (s : State) : (runP (modBias f) s).bias = f s.bias := rfl
theorem modRffe_within {l : List Grp} {f : RffeSt → RffeSt} (h : l.contains .rffe = true) : Within l (modRffe f) := .ask fun _ => .upd h
@[simp] theorem modRffe_avoids {g : Grp} {f : RffeSt → RffeSt} : Avoids g (modRffe f) ↔ .rffe ≠ g :=
  (avoids_ask g _).trans ⟨fun h => (avoids_upd g _).1 (h State.reset), fun h _ => .upd h⟩
theorem modRffe_run (f : RffeSt → RffeSt) (s : State) : runP (modRffe f) s = { s with rffe := f s.rffe } := rfl
@[simp] theorem modRffe_self (f : RffeSt → RffeSt) (s : State) : (runP (modRffe f) s).rffe = f s.rffe := rfl
theorem modCoex_within {l : List Grp} {f : CoexSt → CoexSt} (h : l.contains .coex = true) : Within l (modCoex f) := .ask fun _ => .upd h
@[simp] theorem modCoex_avoids {g : Grp} {f : CoexSt → CoexSt} : Avoids g (modCoex f) ↔ .coex ≠ g :=
  (avoids_ask g _).trans ⟨fun h => (avoids_upd g _).1 (h State.reset), fun h _ => .upd h⟩
theorem modCoex_run (f : CoexSt → CoexSt) (s : State) : runP (modCoex f) s = { s with coex := f s.coex } := rfl
@[simp] theorem modCoex_self (f : CoexSt → CoexSt) (s : State) : (runP (modCoex f) s).coex = f s.coex := rfl
theorem modTap_within {l : List Grp} {f : TapSt → TapSt} (h : l.contains .tap = true) : Within l (modTap f) := .ask fun _ => .upd h
@[simp] theorem modTap_avoids {g : Grp} {f : TapSt → TapSt} : Avoids g (modTap f) ↔ .tap ≠ g :=
  (avoids_ask g _).trans ⟨fun h => (avoids_upd g _).1 (h State.reset), fun h _ => .upd h⟩
theorem modTap_run (f : TapSt → TapSt) (s : State) : runP (modTap f) s = { s with tap := f s.tap } := rfl
@[simp] theorem modTap_self (f : TapSt → TapSt) (s : State) : (runP (modTap f) s).tap = f s.tap := rfl

/-! ### What an elementary write does to its own group -/

@[simp] theorem upd_ecc (x : EccSt) (s : State) : (runP (.upd (.ecc x)) s).ecc = x := rfl
@[simp] theorem upd_host (x : HostSt) (s : State) : (runP (.upd (.host x)) s).host = x := rfl
@[simp] theorem upd_mbx (x : MbxSt) (s : State) : (runP (.upd (.mbx x)) s).mbx = x := rfl
@[simp] theorem upd_txn (x : TxnSt) (s : State) : (runP (.upd (.txn x)) s).txn = x := rfl
@[simp] theorem upd_clk (x : ClkSt) (s : State) : (runP (.upd (.clk x)) s).clk = x := rfl
@[simp] theorem upd_datum (x : DatumSt) (s : State) : (runP (.upd (.datum x)) s).datum = x := rfl
@[simp] theorem upd_pwr (x : PwrSt) (s : State) : (runP (.upd (.pwr x)) s).pwr = x := rfl
@[simp] theorem upd_kiln (x : KilnSt) (s : State) : (runP (.upd (.kiln x)) s).kiln = x := rfl
@[simp] theorem upd_boot (x : BootSt) (s : State) : (runP (.upd (.boot x)) s).boot = x := rfl
@[simp] theorem upd_cap (x : CapSt) (s : State) : (runP (.upd (.cap x)) s).cap = x := rfl
@[simp] theorem upd_sect (x : SectSt) (s : State) : (runP (.upd (.sect x)) s).sect = x := rfl
@[simp] theorem upd_fh (x : FhSt) (s : State) : (runP (.upd (.fh x)) s).fh = x := rfl
@[simp] theorem upd_grat (x : GratSt) (s : State) : (runP (.upd (.grat x)) s).grat = x := rfl
@[simp] theorem upd_mash (x : MashSt) (s : State) : (runP (.upd (.mash x)) s).mash = x := rfl
@[simp] theorem upd_tx (x : TxSt) (s : State) : (runP (.upd (.tx x)) s).tx = x := rfl
@[simp] theorem upd_dpd (x : DpdSt) (s : State) : (runP (.upd (.dpd x)) s).dpd = x := rfl
@[simp] theorem upd_rx (x : RxSt) (s : State) : (runP (.upd (.rx x)) s).rx = x := rfl
@[simp] theorem upd_conv (x : ConvSt) (s : State) : (runP (.upd (.conv x)) s).conv = x := rfl
@[simp] theorem upd_hk (x : HkSt) (s : State) : (runP (.upd (.hk x)) s).hk = x := rfl
@[simp] theorem upd_radio (x : RadioSt) (s : State) : (runP (.upd (.radio x)) s).radio = x := rfl
@[simp] theorem upd_survey (x : SurveySt) (s : State) : (runP (.upd (.survey x)) s).survey = x := rfl
@[simp] theorem upd_bias (x : BiasSt) (s : State) : (runP (.upd (.bias x)) s).bias = x := rfl
@[simp] theorem upd_rffe (x : RffeSt) (s : State) : (runP (.upd (.rffe x)) s).rffe = x := rfl
@[simp] theorem upd_coex (x : CoexSt) (s : State) : (runP (.upd (.coex x)) s).coex = x := rfl
@[simp] theorem upd_tap (x : TapSt) (s : State) : (runP (.upd (.tap x)) s).tap = x := rfl
@[simp] theorem upd_poke (i : MemId) (a : Nat) (b : Byte) (s : State) : (runP (.upd (.poke i a b)) s).mem = s.mem.poke i a b := rfl
@[simp] theorem upd_fill (i : MemId) (lo hi : Nat) (s : State) : (runP (.upd (.fill i lo hi)) s).mem = s.mem.fill i lo hi := rfl
@[simp] theorem upd_copy (i : MemId) (src dst n : Nat) (s : State) : (runP (.upd (.copy i src dst n)) s).mem = s.mem.copy i src dst n := rfl
@[simp] theorem upd_setCfg (k : Nat) (r : Rec) (s : State) : (runP (.upd (.setCfg k r)) s).cfg = tset s.cfg k r := rfl
@[simp] theorem upd_clearCfg (s : State) : (runP (.upd (.clearCfg)) s).cfg = [] := rfl
@[simp] theorem upd_setReg (a v : Nat) (s : State) : (runP (.upd (.setReg a v)) s).regs = tset s.regs a v := rfl
@[simp] theorem upd_dropRegs (lo hi : Nat) (s : State) : (runP (.upd (.dropRegs lo hi)) s).regs = s.regs.filter fun p => !(decide (lo ≤ p.1) && decide (p.1 < hi)) := rfl
@[simp] theorem upd_bump (k n : Nat) (s : State) : (runP (.upd (.bump k n)) s).cnts = tset s.cnts k (satAdd (tget 0 s.cnts k) n) := rfl
@[simp] theorem upd_clearCnt (k : Nat) (s : State) : (runP (.upd (.clearCnt k)) s).cnts = tdel s.cnts k := rfl
@[simp] theorem upd_dropCnts (lo hi : Nat) (s : State) : (runP (.upd (.dropCnts lo hi)) s).cnts = s.cnts.filter fun p => !(decide (lo ≤ p.1) && decide (p.1 < hi)) := rfl
@[simp] theorem upd_dropTots (lo hi : Nat) (s : State) : (runP (.upd (.dropTots lo hi)) s).tots = s.tots.filter fun p => !(decide (lo ≤ p.1) && decide (p.1 < hi)) := rfl
@[simp] theorem upd_addTot (k n : Nat) (s : State) : (runP (.upd (.addTot k n)) s).tots = tset s.tots k ((tget 0 s.tots k + n) % 2 ^ 64) := rfl
@[simp] theorem upd_clearTot (k : Nat) (s : State) : (runP (.upd (.clearTot k)) s).tots = tdel s.tots k := rfl
@[simp] theorem upd_draw (s : State) : (runP (.upd (.draw)) s).free = s.free + 1 := rfl
@[simp] theorem upd_tick (s : State) : (runP (.upd (.tick)) s).tick = s.tick + 1 := rfl
@[simp] theorem upd_logAppend (r : LogRec) (s : State) : (runP (.upd (.logAppend r)) s).log = s.log.append r := rfl
@[simp] theorem upd_logReset (s : State) : (runP (.upd (.logReset)) s).log = { s.log with recs := [], next := 0, returned := 0, high := false } := rfl
@[simp] theorem upd_logReturn (n : Nat) (h : Bool) (s : State) : (runP (.upd (.logReturn n h)) s).log = { s.log with returned := n, high := h } := rfl
@[simp] theorem upd_capture (l : List (Nat × Nat × Nat)) (s : State) : (runP (.upd (.capture l)) s).log = { s.log with capture := l } := rfl
@[simp] theorem upd_evtAppend (r : EvtRec) (s : State) : (runP (.upd (.evtAppend r)) s).evt = s.evt.append r := rfl
@[simp] theorem upd_evtReset (s : State) : (runP (.upd (.evtReset)) s).evt = {} := rfl
@[simp] theorem upd_evtAck (n : Nat) (s : State) : (runP (.upd (.evtAck n)) s).evt = { s.evt with acked := n } := rfl
@[simp] theorem upd_burnKey (i : Nat) (h : Rec) (s : State) : (runP (.upd (.burnKey i h)) s).fuse = s.fuse.burn i h := rfl
@[simp] theorem upd_revokeKey (i : Nat) (s : State) : (runP (.upd (.revokeKey i)) s).fuse = { s.fuse with ownerRev := s.fuse.ownerRev ||| 2 ^ i } := rfl
@[simp] theorem upd_advanceFw (n : Nat) (s : State) : (runP (.upd (.advanceFw n)) s).fuse = { s.fuse with fwCounter := max s.fuse.fwCounter n } := rfl
@[simp] theorem upd_advanceProf (n : Nat) (s : State) : (runP (.upd (.advanceProf n)) s).fuse = { s.fuse with profCounter := max s.fuse.profCounter n } := rfl

/-! ### A field of a state chosen by a condition -/

@[simp] theorem ite_cfg (c : Prop) [Decidable c] (a b : State) : (if c then a else b).cfg = if c then a.cfg else b.cfg := by split <;> rfl
@[simp] theorem ite_regs (c : Prop) [Decidable c] (a b : State) : (if c then a else b).regs = if c then a.regs else b.regs := by split <;> rfl
@[simp] theorem ite_cnts (c : Prop) [Decidable c] (a b : State) : (if c then a else b).cnts = if c then a.cnts else b.cnts := by split <;> rfl
@[simp] theorem ite_tots (c : Prop) [Decidable c] (a b : State) : (if c then a else b).tots = if c then a.tots else b.tots := by split <;> rfl
@[simp] theorem ite_free (c : Prop) [Decidable c] (a b : State) : (if c then a else b).free = if c then a.free else b.free := by split <;> rfl
@[simp] theorem ite_tick (c : Prop) [Decidable c] (a b : State) : (if c then a else b).tick = if c then a.tick else b.tick := by split <;> rfl
@[simp] theorem ite_mem (c : Prop) [Decidable c] (a b : State) : (if c then a else b).mem = if c then a.mem else b.mem := by split <;> rfl
@[simp] theorem ite_ecc (c : Prop) [Decidable c] (a b : State) : (if c then a else b).ecc = if c then a.ecc else b.ecc := by split <;> rfl
@[simp] theorem ite_host (c : Prop) [Decidable c] (a b : State) : (if c then a else b).host = if c then a.host else b.host := by split <;> rfl
@[simp] theorem ite_mbx (c : Prop) [Decidable c] (a b : State) : (if c then a else b).mbx = if c then a.mbx else b.mbx := by split <;> rfl
@[simp] theorem ite_log (c : Prop) [Decidable c] (a b : State) : (if c then a else b).log = if c then a.log else b.log := by split <;> rfl
@[simp] theorem ite_evt (c : Prop) [Decidable c] (a b : State) : (if c then a else b).evt = if c then a.evt else b.evt := by split <;> rfl
@[simp] theorem ite_txn (c : Prop) [Decidable c] (a b : State) : (if c then a else b).txn = if c then a.txn else b.txn := by split <;> rfl
@[simp] theorem ite_clk (c : Prop) [Decidable c] (a b : State) : (if c then a else b).clk = if c then a.clk else b.clk := by split <;> rfl
@[simp] theorem ite_datum (c : Prop) [Decidable c] (a b : State) : (if c then a else b).datum = if c then a.datum else b.datum := by split <;> rfl
@[simp] theorem ite_pwr (c : Prop) [Decidable c] (a b : State) : (if c then a else b).pwr = if c then a.pwr else b.pwr := by split <;> rfl
@[simp] theorem ite_kiln (c : Prop) [Decidable c] (a b : State) : (if c then a else b).kiln = if c then a.kiln else b.kiln := by split <;> rfl
@[simp] theorem ite_boot (c : Prop) [Decidable c] (a b : State) : (if c then a else b).boot = if c then a.boot else b.boot := by split <;> rfl
@[simp] theorem ite_fuse (c : Prop) [Decidable c] (a b : State) : (if c then a else b).fuse = if c then a.fuse else b.fuse := by split <;> rfl
@[simp] theorem ite_cap (c : Prop) [Decidable c] (a b : State) : (if c then a else b).cap = if c then a.cap else b.cap := by split <;> rfl
@[simp] theorem ite_sect (c : Prop) [Decidable c] (a b : State) : (if c then a else b).sect = if c then a.sect else b.sect := by split <;> rfl
@[simp] theorem ite_fh (c : Prop) [Decidable c] (a b : State) : (if c then a else b).fh = if c then a.fh else b.fh := by split <;> rfl
@[simp] theorem ite_grat (c : Prop) [Decidable c] (a b : State) : (if c then a else b).grat = if c then a.grat else b.grat := by split <;> rfl
@[simp] theorem ite_mash (c : Prop) [Decidable c] (a b : State) : (if c then a else b).mash = if c then a.mash else b.mash := by split <;> rfl
@[simp] theorem ite_tx (c : Prop) [Decidable c] (a b : State) : (if c then a else b).tx = if c then a.tx else b.tx := by split <;> rfl
@[simp] theorem ite_dpd (c : Prop) [Decidable c] (a b : State) : (if c then a else b).dpd = if c then a.dpd else b.dpd := by split <;> rfl
@[simp] theorem ite_rx (c : Prop) [Decidable c] (a b : State) : (if c then a else b).rx = if c then a.rx else b.rx := by split <;> rfl
@[simp] theorem ite_conv (c : Prop) [Decidable c] (a b : State) : (if c then a else b).conv = if c then a.conv else b.conv := by split <;> rfl
@[simp] theorem ite_hk (c : Prop) [Decidable c] (a b : State) : (if c then a else b).hk = if c then a.hk else b.hk := by split <;> rfl
@[simp] theorem ite_radio (c : Prop) [Decidable c] (a b : State) : (if c then a else b).radio = if c then a.radio else b.radio := by split <;> rfl
@[simp] theorem ite_survey (c : Prop) [Decidable c] (a b : State) : (if c then a else b).survey = if c then a.survey else b.survey := by split <;> rfl
@[simp] theorem ite_bias (c : Prop) [Decidable c] (a b : State) : (if c then a else b).bias = if c then a.bias else b.bias := by split <;> rfl
@[simp] theorem ite_rffe (c : Prop) [Decidable c] (a b : State) : (if c then a else b).rffe = if c then a.rffe else b.rffe := by split <;> rfl
@[simp] theorem ite_coex (c : Prop) [Decidable c] (a b : State) : (if c then a else b).coex = if c then a.coex else b.coex := by split <;> rfl
@[simp] theorem ite_tap (c : Prop) [Decidable c] (a b : State) : (if c then a else b).tap = if c then a.tap else b.tap := by split <;> rfl
@[simp] theorem ite_pending (c : Prop) [Decidable c] (a b : State) : (if c then a else b).pending = if c then a.pending else b.pending := by split <;> rfl

/-! ### Readings of a state that a program does not reach -/

@[simp] theorem domSt_run {p : Prog} {s : State} (d : Nat) (h0 : Avoids .pwr p) : domSt (runP p s) d = domSt s d := by
  simp only [domSt, keeps_pwr h0]
@[simp] theorem domOn_run {p : Prog} {s : State} (d : Nat) (h0 : Avoids .pwr p) : domOn (runP p s) d = domOn s d := by
  simp only [domOn, domSt, keeps_pwr h0]
@[simp] theorem domMoving_run {p : Prog} {s : State} (d : Nat) (h0 : Avoids .pwr p) : domMoving (runP p s) d = domMoving s d := by
  simp only [domMoving, domSt, keeps_pwr h0]
@[simp] theorem fwRuns_run {p : Prog} {s : State} (h0 : Avoids .pwr p) (h1 : Avoids .boot p) : fwRuns (runP p s) = fwRuns s := by
  simp only [fwRuns, domSt, domOn, keeps_pwr h0, keeps_boot h1]
@[simp] theorem romSafeRuns_run {p : Prog} {s : State} (h0 : Avoids .pwr p) (h1 : Avoids .boot p) : romSafeRuns (runP p s) = romSafeRuns s := by
  simp only [romSafeRuns, domSt, domOn, keeps_pwr h0, keeps_boot h1]
@[simp] theorem now_run {p : Prog} {s : State} (h0 : Avoids .datum p) : now (runP p s) = now s := by
  simp only [now, keeps_datum h0]
@[simp] theorem reached_run {p : Prog} {s : State} (t : Nat) (h0 : Avoids .datum p) : reached (runP p s) t = reached s t := by
  unfold reached now
  rw [keeps_datum h0]
@[simp] theorem sheetFit_run {p : Prog} {s : State} (n : Nat) (h0 : Avoids .fuse p) : sheetFit (runP p s) n = sheetFit s n := by
  unfold sheetFit nSheets
  rw [keeps_fuse h0]
@[simp] theorem pathFit_run {p : Prog} {s : State} (n : Nat) (h0 : Avoids .fuse p) : pathFit (runP p s) n = pathFit s n := by
  unfold pathFit sheetFit nSheets
  rw [keeps_fuse h0]
@[simp] theorem sheets_run {p : Prog} {s : State} (h0 : Avoids .fuse p) : sheets (runP p s) = sheets s := by
  simp only [sheets, nSheets, keeps_fuse h0]
@[simp] theorem paths_run {p : Prog} {s : State} (h0 : Avoids .fuse p) : paths (runP p s) = paths s := by
  simp only [paths, nPaths, nSheets, keeps_fuse h0]
@[simp] theorem setting_run {p : Prog} {s : State} (o : Nat) (u : Nat) (x : Rec) (h0 : Avoids .cfg p) : setting (runP p s) o u x = setting s o u x := by
  simp only [setting, keeps_cfg h0]
@[simp] theorem upNs_run {p : Prog} {s : State} (h0 : Avoids .tick p) : upNs (runP p s) = upNs s := by
  simp only [upNs, keeps_tick h0]
@[simp] theorem freeNow_run {p : Prog} {s : State} (h0 : Avoids .free p) : freeNow (runP p s) = freeNow s := by
  simp only [freeNow, keeps_free h0]
@[simp] theorem sh_run {p : Prog} {s : State} (n : Nat) (h0 : Avoids .radio p) : sh (runP p s) n = sh s n := by
  simp only [sh, keeps_radio h0]
@[simp] theorem orxOf_run {p : Prog} {s : State} (n : Nat) (h0 : Avoids .dpd p) : orxOf (runP p s) n = orxOf s n := by
  simp only [orxOf, keeps_dpd h0]
@[simp] theorem dpdOf_run {p : Prog} {s : State} (n : Nat) (h0 : Avoids .dpd p) : dpdOf (runP p s) n = dpdOf s n := by
  simp only [dpdOf, keeps_dpd h0]
@[simp] theorem cntVal_run {p : Prog} {s : State} (b : Nat) (u : Nat) (i : Nat) (h0 : Avoids .cnts p) : cntVal (runP p s) b u i = cntVal s b u i := by
  simp only [cntVal, keeps_cnts h0]
@[simp] theorem totVal_run {p : Prog} {s : State} (b : Nat) (u : Nat) (i : Nat) (h0 : Avoids .tots p) : totVal (runP p s) b u i = totVal s b u i := by
  simp only [totVal, keeps_tots h0]
@[simp] theorem tmrWord_run {p : Prog} {s : State} (i : Nat) (h0 : Avoids .ecc p) : tmrWord (runP p s) i = tmrWord s i := by
  simp only [tmrWord, keeps_ecc h0]
@[simp] theorem domFit_run {p : Prog} {s : State} (d : Nat) (h0 : Avoids .fuse p) : domFit (runP p s) d = domFit s d := by
  unfold domFit sheetFit nSheets mashFit
  rw [keeps_fuse h0]

/-! ### What a program leaves as it was, read off the state by any function -/

/-- The program leaves what `f` reads off the state as it was. -/
def Leaves {α : Type} (f : State → α) (p : Prog) : Prop := ∀ s, f (runP p s) = f s

theorem leaves_skip {α : Type} (f : State → α) : Leaves f .skip := fun _ => rfl
theorem leaves_upd {α : Type} {f : State → α} {u : Upd} (h : ∀ s, f (applyUpd u s) = f s) : Leaves f (.upd u) := h
theorem leaves_seq {α : Type} {f : State → α} {p q : Prog} (hp : Leaves f p) (hq : Leaves f q) : Leaves f (.seq p q) :=
  fun s => (hq (runP p s)).trans (hp s)
theorem leaves_ask {α : Type} {f : State → α} {g : State → Prog} (h : ∀ s, Leaves f (g s)) : Leaves f (.ask g) := fun s => h s s
theorem leaves_nil {α : Type} (f : State → α) : Leaves f (seqs []) := fun _ => rfl
theorem leaves_cons {α : Type} {f : State → α} {p : Prog} {l : List Prog} (hp : Leaves f p) (hq : Leaves f (seqs l)) :
    Leaves f (seqs (p :: l)) := leaves_seq hp hq
theorem leaves_each {α β : Type} {f : State → α} {l : List β} {g : β → Prog} (h : ∀ x, Leaves f (g x)) : Leaves f (each l g) := by
  induction l with
  | nil => exact leaves_nil f
  | cons x l ih => exact leaves_seq (h x) ih
theorem leaves_whenP {α : Type} {f : State → α} {b : Bool} {p : Prog} (h : Leaves f p) : Leaves f (whenP b p) := by
  cases b
  · exact leaves_skip f
  · exact h
theorem leaves_ite {α : Type} {f : State → α} {c : Prop} [Decidable c] {p q : Prog} (hp : Leaves f p) (hq : Leaves f q) :
    Leaves f (if c then p else q) := by
  split
  · exact hp
  · exact hq

theorem leaves_cfg {α : Type} {f : State → α} {p : Prog} {h : Tab Rec → α} (hf : ∀ s, f s = h s.cfg) (hp : Avoids .cfg p) : Leaves f p :=
  fun s => by rw [hf, hf, keeps_cfg hp]
theorem leaves_regs {α : Type} {f : State → α} {p : Prog} {h : Tab Nat → α} (hf : ∀ s, f s = h s.regs) (hp : Avoids .regs p) : Leaves f p :=
  fun s => by rw [hf, hf, keeps_regs hp]
theorem leaves_cnts {α : Type} {f : State → α} {p : Prog} {h : Tab Nat → α} (hf : ∀ s, f s = h s.cnts) (hp : Avoids .cnts p) : Leaves f p :=
  fun s => by rw [hf, hf, keeps_cnts hp]
theorem leaves_tots {α : Type} {f : State → α} {p : Prog} {h : Tab Nat → α} (hf : ∀ s, f s = h s.tots) (hp : Avoids .tots p) : Leaves f p :=
  fun s => by rw [hf, hf, keeps_tots hp]
theorem leaves_free {α : Type} {f : State → α} {p : Prog} {h : Nat → α} (hf : ∀ s, f s = h s.free) (hp : Avoids .free p) : Leaves f p :=
  fun s => by rw [hf, hf, keeps_free hp]
theorem leaves_tick {α : Type} {f : State → α} {p : Prog} {h : Nat → α} (hf : ∀ s, f s = h s.tick) (hp : Avoids .tick p) : Leaves f p :=
  fun s => by rw [hf, hf, keeps_tick hp]
theorem leaves_mem {α : Type} {f : State → α} {p : Prog} {h : MemSt → α} (hf : ∀ s, f s = h s.mem) (hp : Avoids .mem p) : Leaves f p :=
  fun s => by rw [hf, hf, keeps_mem hp]
theorem leaves_ecc {α : Type} {f : State → α} {p : Prog} {h : EccSt → α} (hf : ∀ s, f s = h s.ecc) (hp : Avoids .ecc p) : Leaves f p :=
  fun s => by rw [hf, hf, keeps_ecc hp]
theorem leaves_host {α : Type} {f : State → α} {p : Prog} {h : HostSt → α} (hf : ∀ s, f s = h s.host) (hp : Avoids .host p) : Leaves f p :=
  fun s => by rw [hf, hf, keeps_host hp]
theorem leaves_mbx {α : Type} {f : State → α} {p : Prog} {h : MbxSt → α} (hf : ∀ s, f s = h s.mbx) (hp : Avoids .mbx p) : Leaves f p :=
  fun s => by rw [hf, hf, keeps_mbx hp]
theorem leaves_log {α : Type} {f : State → α} {p : Prog} {h : LogSt → α} (hf : ∀ s, f s = h s.log) (hp : Avoids .log p) : Leaves f p :=
  fun s => by rw [hf, hf, keeps_log hp]
theorem leaves_evt {α : Type} {f : State → α} {p : Prog} {h : EvtSt → α} (hf : ∀ s, f s = h s.evt) (hp : Avoids .evt p) : Leaves f p :=
  fun s => by rw [hf, hf, keeps_evt hp]
theorem leaves_txn {α : Type} {f : State → α} {p : Prog} {h : TxnSt → α} (hf : ∀ s, f s = h s.txn) (hp : Avoids .txn p) : Leaves f p :=
  fun s => by rw [hf, hf, keeps_txn hp]
theorem leaves_clk {α : Type} {f : State → α} {p : Prog} {h : ClkSt → α} (hf : ∀ s, f s = h s.clk) (hp : Avoids .clk p) : Leaves f p :=
  fun s => by rw [hf, hf, keeps_clk hp]
theorem leaves_datum {α : Type} {f : State → α} {p : Prog} {h : DatumSt → α} (hf : ∀ s, f s = h s.datum) (hp : Avoids .datum p) : Leaves f p :=
  fun s => by rw [hf, hf, keeps_datum hp]
theorem leaves_pwr {α : Type} {f : State → α} {p : Prog} {h : PwrSt → α} (hf : ∀ s, f s = h s.pwr) (hp : Avoids .pwr p) : Leaves f p :=
  fun s => by rw [hf, hf, keeps_pwr hp]
theorem leaves_kiln {α : Type} {f : State → α} {p : Prog} {h : KilnSt → α} (hf : ∀ s, f s = h s.kiln) (hp : Avoids .kiln p) : Leaves f p :=
  fun s => by rw [hf, hf, keeps_kiln hp]
theorem leaves_boot {α : Type} {f : State → α} {p : Prog} {h : BootSt → α} (hf : ∀ s, f s = h s.boot) (hp : Avoids .boot p) : Leaves f p :=
  fun s => by rw [hf, hf, keeps_boot hp]
theorem leaves_fuse {α : Type} {f : State → α} {p : Prog} {h : FuseSt → α} (hf : ∀ s, f s = h s.fuse) (hp : Avoids .fuse p) : Leaves f p :=
  fun s => by rw [hf, hf, keeps_fuse hp]
theorem leaves_cap {α : Type} {f : State → α} {p : Prog} {h : CapSt → α} (hf : ∀ s, f s = h s.cap) (hp : Avoids .cap p) : Leaves f p :=
  fun s => by rw [hf, hf, keeps_cap hp]
theorem leaves_sect {α : Type} {f : State → α} {p : Prog} {h : SectSt → α} (hf : ∀ s, f s = h s.sect) (hp : Avoids .sect p) : Leaves f p :=
  fun s => by rw [hf, hf, keeps_sect hp]
theorem leaves_fh {α : Type} {f : State → α} {p : Prog} {h : FhSt → α} (hf : ∀ s, f s = h s.fh) (hp : Avoids .fh p) : Leaves f p :=
  fun s => by rw [hf, hf, keeps_fh hp]
theorem leaves_grat {α : Type} {f : State → α} {p : Prog} {h : GratSt → α} (hf : ∀ s, f s = h s.grat) (hp : Avoids .grat p) : Leaves f p :=
  fun s => by rw [hf, hf, keeps_grat hp]
theorem leaves_mash {α : Type} {f : State → α} {p : Prog} {h : MashSt → α} (hf : ∀ s, f s = h s.mash) (hp : Avoids .mash p) : Leaves f p :=
  fun s => by rw [hf, hf, keeps_mash hp]
theorem leaves_tx {α : Type} {f : State → α} {p : Prog} {h : TxSt → α} (hf : ∀ s, f s = h s.tx) (hp : Avoids .tx p) : Leaves f p :=
  fun s => by rw [hf, hf, keeps_tx hp]
theorem leaves_dpd {α : Type} {f : State → α} {p : Prog} {h : DpdSt → α} (hf : ∀ s, f s = h s.dpd) (hp : Avoids .dpd p) : Leaves f p :=
  fun s => by rw [hf, hf, keeps_dpd hp]
theorem leaves_rx {α : Type} {f : State → α} {p : Prog} {h : RxSt → α} (hf : ∀ s, f s = h s.rx) (hp : Avoids .rx p) : Leaves f p :=
  fun s => by rw [hf, hf, keeps_rx hp]
theorem leaves_conv {α : Type} {f : State → α} {p : Prog} {h : ConvSt → α} (hf : ∀ s, f s = h s.conv) (hp : Avoids .conv p) : Leaves f p :=
  fun s => by rw [hf, hf, keeps_conv hp]
theorem leaves_hk {α : Type} {f : State → α} {p : Prog} {h : HkSt → α} (hf : ∀ s, f s = h s.hk) (hp : Avoids .hk p) : Leaves f p :=
  fun s => by rw [hf, hf, keeps_hk hp]
theorem leaves_radio {α : Type} {f : State → α} {p : Prog} {h : RadioSt → α} (hf : ∀ s, f s = h s.radio) (hp : Avoids .radio p) : Leaves f p :=
  fun s => by rw [hf, hf, keeps_radio hp]
theorem leaves_survey {α : Type} {f : State → α} {p : Prog} {h : SurveySt → α} (hf : ∀ s, f s = h s.survey) (hp : Avoids .survey p) : Leaves f p :=
  fun s => by rw [hf, hf, keeps_survey hp]
theorem leaves_bias {α : Type} {f : State → α} {p : Prog} {h : BiasSt → α} (hf : ∀ s, f s = h s.bias) (hp : Avoids .bias p) : Leaves f p :=
  fun s => by rw [hf, hf, keeps_bias hp]
theorem leaves_rffe {α : Type} {f : State → α} {p : Prog} {h : RffeSt → α} (hf : ∀ s, f s = h s.rffe) (hp : Avoids .rffe p) : Leaves f p :=
  fun s => by rw [hf, hf, keeps_rffe hp]
theorem leaves_coex {α : Type} {f : State → α} {p : Prog} {h : CoexSt → α} (hf : ∀ s, f s = h s.coex) (hp : Avoids .coex p) : Leaves f p :=
  fun s => by rw [hf, hf, keeps_coex hp]
theorem leaves_tap {α : Type} {f : State → α} {p : Prog} {h : TapSt → α} (hf : ∀ s, f s = h s.tap) (hp : Avoids .tap p) : Leaves f p :=
  fun s => by rw [hf, hf, keeps_tap hp]

end Sys2Proof.Laws
end

