-- ==== Sys2Proof/Laws/Reach1.lean ====
section
/-! SUPPORT. The groups of the state that each shared operation can reach: `x_within` for every list that holds them, `x_avoids` for
every other group, so that simp reads an untouched field through any program. -/

namespace Sys2Proof.Laws

open Sys2Proof Sys2Proof.Machine

theorem count_within {b u i : Nat} {gs : List Grp} (hgs : within [.cnts] gs = true) : Within gs (count b u i) := by
  refine Within.lift hgs ?_
  clear hgs
  unfold count
  repeat' first
    | with_reducible exact within_skip _
    | with_reducible exact within_nil _
    | with_reducible refine within_cons ?_ ?_
    | with_reducible refine within_seq ?_ ?_
    | with_reducible refine within_ask fun _ => ?_
    | with_reducible refine within_each fun _ => ?_
    | with_reducible refine within_whenP ?_
    | with_reducible refine within_upd ?_
    | with_reducible refine within_ite ?_ ?_
    | with_reducible refine within_replicate ?_
    | split
    | dsimp only
  all_goals rfl
@[simp] theorem count_avoids {b u i : Nat} {g : Grp} (hg : g ∉ ([.cnts] : List Grp)) : Avoids g (count b u i) := (count_within (gs := [.cnts]) rfl).free hg

theorem countN_within {b u i n : Nat} {gs : List Grp} (hgs : within [.cnts] gs = true) : Within gs (countN b u i n) := by
  refine Within.lift hgs ?_
  clear hgs
  unfold countN
  repeat' first
    | with_reducible exact within_skip _
    | with_reducible exact within_nil _
    | with_reducible refine within_cons ?_ ?_
    | with_reducible refine within_seq ?_ ?_
    | with_reducible refine within_ask fun _ => ?_
    | with_reducible refine within_each fun _ => ?_
    | with_reducible refine within_whenP ?_
    | with_reducible refine within_upd ?_
    | with_reducible refine within_ite ?_ ?_
    | with_reducible refine within_replicate ?_
    | split
    | dsimp only
  all_goals rfl
@[simp] theorem countN_avoids {b u i n : Nat} {g : Grp} (hg : g ∉ ([.cnts] : List Grp)) : Avoids g (countN b u i n) := (countN_within (gs := [.cnts]) rfl).free hg

theorem clearCnts_within {b u n : Nat} {gs : List Grp} (hgs : within [.cnts] gs = true) : Within gs (clearCnts b u n) := by
  refine Within.lift hgs ?_
  clear hgs
  unfold clearCnts
  repeat' first
    | with_reducible exact within_skip _
    | with_reducible exact within_nil _
    | with_reducible refine within_cons ?_ ?_
    | with_reducible refine within_seq ?_ ?_
    | with_reducible refine within_ask fun _ => ?_
    | with_reducible refine within_each fun _ => ?_
    | with_reducible refine within_whenP ?_
    | with_reducible refine within_upd ?_
    | with_reducible refine within_ite ?_ ?_
    | with_reducible refine within_replicate ?_
    | split
    | dsimp only
  all_goals rfl
@[simp] theorem clearCnts_avoids {b u n : Nat} {g : Grp} (hg : g ∉ ([.cnts] : List Grp)) : Avoids g (clearCnts b u n) := (clearCnts_within (gs := [.cnts]) rfl).free hg

theorem wipeCnts_within {b : Nat} {gs : List Grp} (hgs : within [.cnts, .tots] gs = true) : Within gs (wipeCnts b) := by
  refine Within.lift hgs ?_
  clear hgs
  unfold wipeCnts
  repeat' first
    | with_reducible exact within_skip _
    | with_reducible exact within_nil _
    | with_reducible refine within_cons ?_ ?_
    | with_reducible refine within_seq ?_ ?_
    | with_reducible refine within_ask fun _ => ?_
    | with_reducible refine within_each fun _ => ?_
    | with_reducible refine within_whenP ?_
    | with_reducible refine within_upd ?_
    | with_reducible refine within_ite ?_ ?_
    | with_reducible refine within_replicate ?_
    | split
    | dsimp only
  all_goals rfl
@[simp] theorem wipeCnts_avoids {b : Nat} {g : Grp} (hg : g ∉ ([.cnts, .tots] : List Grp)) : Avoids g (wipeCnts b) := (wipeCnts_within (gs := [.cnts, .tots]) rfl).free hg

theorem wipeUnit_within {b u : Nat} {gs : List Grp} (hgs : within [.cnts, .tots] gs = true) : Within gs (wipeUnit b u) := by
  refine Within.lift hgs ?_
  clear hgs
  unfold wipeUnit
  repeat' first
    | with_reducible exact within_skip _
    | with_reducible exact within_nil _
    | with_reducible refine within_cons ?_ ?_
    | with_reducible refine within_seq ?_ ?_
    | with_reducible refine within_ask fun _ => ?_
    | with_reducible refine within_each fun _ => ?_
    | with_reducible refine within_whenP ?_
    | with_reducible refine within_upd ?_
    | with_reducible refine within_ite ?_ ?_
    | with_reducible refine within_replicate ?_
    | split
    | dsimp only
  all_goals rfl
@[simp] theorem wipeUnit_avoids {b u : Nat} {g : Grp} (hg : g ∉ ([.cnts, .tots] : List Grp)) : Avoids g (wipeUnit b u) := (wipeUnit_within (gs := [.cnts, .tots]) rfl).free hg

theorem total_within {b u i n : Nat} {gs : List Grp} (hgs : within [.tots] gs = true) : Within gs (total b u i n) := by
  refine Within.lift hgs ?_
  clear hgs
  unfold total
  repeat' first
    | with_reducible exact within_skip _
    | with_reducible exact within_nil _
    | with_reducible refine within_cons ?_ ?_
    | with_reducible refine within_seq ?_ ?_
    | with_reducible refine within_ask fun _ => ?_
    | with_reducible refine within_each fun _ => ?_
    | with_reducible refine within_whenP ?_
    | with_reducible refine within_upd ?_
    | with_reducible refine within_ite ?_ ?_
    | with_reducible refine within_replicate ?_
    | split
    | dsimp only
  all_goals rfl
@[simp] theorem total_avoids {b u i n : Nat} {g : Grp} (hg : g ∉ ([.tots] : List Grp)) : Avoids g (total b u i n) := (total_within (gs := [.tots]) rfl).free hg

theorem setDom_within {d : Nat} {v : DomState} {gs : List Grp} (hgs : within [.pwr] gs = true) : Within gs (setDom d v) := by
  refine Within.lift hgs ?_
  clear hgs
  unfold setDom
  repeat' first
    | with_reducible exact within_skip _
    | with_reducible exact within_nil _
    | with_reducible refine within_cons ?_ ?_
    | with_reducible refine within_seq ?_ ?_
    | with_reducible refine within_ask fun _ => ?_
    | with_reducible refine within_each fun _ => ?_
    | with_reducible refine within_whenP ?_
    | with_reducible refine within_upd ?_
    | with_reducible refine within_ite ?_ ?_
    | with_reducible refine within_replicate ?_
    | with_reducible refine modPwr_within ?_
    | split
    | dsimp only
  all_goals rfl
@[simp] theorem setDom_avoids {d : Nat} {v : DomState} {g : Grp} (hg : g ∉ ([.pwr] : List Grp)) : Avoids g (setDom d v) := (setDom_within (gs := [.pwr]) rfl).free hg

theorem beginWake_within {d : Nat} {gs : List Grp} (hgs : within [.pwr] gs = true) : Within gs (beginWake d) := by
  refine Within.lift hgs ?_
  clear hgs
  unfold beginWake
  repeat' first
    | with_reducible exact within_skip _
    | with_reducible exact within_nil _
    | with_reducible refine within_cons ?_ ?_
    | with_reducible refine within_seq ?_ ?_
    | with_reducible refine within_ask fun _ => ?_
    | with_reducible refine within_each fun _ => ?_
    | with_reducible refine within_whenP ?_
    | with_reducible refine within_upd ?_
    | with_reducible refine within_ite ?_ ?_
    | with_reducible refine within_replicate ?_
    | with_reducible refine modPwr_within ?_
    | split
    | dsimp only
  all_goals rfl
@[simp] theorem beginWake_avoids {d : Nat} {g : Grp} (hg : g ∉ ([.pwr] : List Grp)) : Avoids g (beginWake d) := (beginWake_within (gs := [.pwr]) rfl).free hg

theorem stamp_within {k : Nat} {gs : List Grp} (hgs : within [.clk] gs = true) : Within gs (stamp k) := by
  refine Within.lift hgs ?_
  clear hgs
  unfold stamp
  repeat' first
    | with_reducible exact within_skip _
    | with_reducible exact within_nil _
    | with_reducible refine within_cons ?_ ?_
    | with_reducible refine within_seq ?_ ?_
    | with_reducible refine within_ask fun _ => ?_
    | with_reducible refine within_each fun _ => ?_
    | with_reducible refine within_whenP ?_
    | with_reducible refine within_upd ?_
    | with_reducible refine within_ite ?_ ?_
    | with_reducible refine within_replicate ?_
    | with_reducible refine modClk_within ?_
    | split
    | dsimp only
  all_goals rfl
@[simp] theorem stamp_avoids {k : Nat} {g : Grp} (hg : g ∉ ([.clk] : List Grp)) : Avoids g (stamp k) := (stamp_within (gs := [.clk]) rfl).free hg

theorem setSetting_within {op unit : Nat} {r : Rec} {gs : List Grp} (hgs : within [.cfg] gs = true) : Within gs (setSetting op unit r) := by
  refine Within.lift hgs ?_
  clear hgs
  unfold setSetting
  repeat' first
    | with_reducible exact within_skip _
    | with_reducible exact within_nil _
    | with_reducible refine within_cons ?_ ?_
    | with_reducible refine within_seq ?_ ?_
    | with_reducible refine within_ask fun _ => ?_
    | with_reducible refine within_each fun _ => ?_
    | with_reducible refine within_whenP ?_
    | with_reducible refine within_upd ?_
    | with_reducible refine within_ite ?_ ?_
    | with_reducible refine within_replicate ?_
    | split
    | dsimp only
  all_goals rfl
@[simp] theorem setSetting_avoids {op unit : Nat} {r : Rec} {g : Grp} (hg : g ∉ ([.cfg] : List Grp)) : Avoids g (setSetting op unit r) := (setSetting_within (gs := [.cfg]) rfl).free hg

theorem pokes_within {i : MemId} {a : Nat} {x0 : Rec} {gs : List Grp} (hgs : within [.mem] gs = true) : Within gs (pokes i a x0) := by
  refine Within.lift hgs ?_
  clear hgs
  induction x0 generalizing a with
  | nil => exact within_skip _
  | cons b bs ih => exact within_seq (within_upd rfl) ih
@[simp] theorem pokes_avoids {i : MemId} {a : Nat} {x0 : Rec} {g : Grp} (hg : g ∉ ([.mem] : List Grp)) : Avoids g (pokes i a x0) := (pokes_within (gs := [.mem]) rfl).free hg

theorem drawFree_within {gs : List Grp} (hgs : within [.free] gs = true) : Within gs drawFree := by
  refine Within.lift hgs ?_
  clear hgs
  unfold drawFree
  repeat' first
    | with_reducible exact within_skip _
    | with_reducible exact within_nil _
    | with_reducible refine within_cons ?_ ?_
    | with_reducible refine within_seq ?_ ?_
    | with_reducible refine within_ask fun _ => ?_
    | with_reducible refine within_each fun _ => ?_
    | with_reducible refine within_whenP ?_
    | with_reducible refine within_upd ?_
    | with_reducible refine within_ite ?_ ?_
    | with_reducible refine within_replicate ?_
    | split
    | dsimp only
  all_goals rfl
@[simp] theorem drawFree_avoids {g : Grp} (hg : g ∉ ([.free] : List Grp)) : Avoids g drawFree := (drawFree_within (gs := [.free]) rfl).free hg

theorem raiseFl_within {extra code unit : Nat} {data : List Int} {gs : List Grp} (hgs : within [.cnts, .mbx, .evt] gs = true) : Within gs (raiseFl extra code unit data) := by
  refine Within.lift hgs ?_
  clear hgs
  unfold raiseFl
  repeat' first
    | with_reducible exact within_skip _
    | with_reducible exact within_nil _
    | with_reducible refine within_cons ?_ ?_
    | with_reducible refine within_seq ?_ ?_
    | with_reducible refine within_ask fun _ => ?_
    | with_reducible refine within_each fun _ => ?_
    | with_reducible refine within_whenP ?_
    | with_reducible refine within_upd ?_
    | with_reducible refine within_ite ?_ ?_
    | with_reducible refine within_replicate ?_
    | with_reducible refine modMbx_within ?_
    | with_reducible refine count_within ?_
    | split
    | dsimp only
  all_goals rfl
@[simp] theorem raiseFl_avoids {extra code unit : Nat} {data : List Int} {g : Grp} (hg : g ∉ ([.cnts, .mbx, .evt] : List Grp)) : Avoids g (raiseFl extra code unit data) := (raiseFl_within (gs := [.cnts, .mbx, .evt]) rfl).free hg

theorem raise_within {code unit : Nat} {data : List Int} {gs : List Grp} (hgs : within [.cnts, .mbx, .evt] gs = true) : Within gs (raise code unit data) := by
  refine Within.lift hgs ?_
  clear hgs
  unfold raise
  repeat' first
    | with_reducible exact within_skip _
    | with_reducible exact within_nil _
    | with_reducible refine within_cons ?_ ?_
    | with_reducible refine within_seq ?_ ?_
    | with_reducible refine within_ask fun _ => ?_
    | with_reducible refine within_each fun _ => ?_
    | with_reducible refine within_whenP ?_
    | with_reducible refine within_upd ?_
    | with_reducible refine within_ite ?_ ?_
    | with_reducible refine within_replicate ?_
    | with_reducible refine raiseFl_within ?_
    | split
    | dsimp only
  all_goals rfl
@[simp] theorem raise_avoids {code unit : Nat} {data : List Int} {g : Grp} (hg : g ∉ ([.cnts, .mbx, .evt] : List Grp)) : Avoids g (raise code unit data) := (raise_within (gs := [.cnts, .mbx, .evt]) rfl).free hg

theorem setFault_within {b : Nat} {gs : List Grp} (hgs : within [.host, .pwr] gs = true) : Within gs (setFault b) := by
  refine Within.lift hgs ?_
  clear hgs
  unfold setFault
  repeat' first
    | with_reducible exact within_skip _
    | with_reducible exact within_nil _
    | with_reducible refine within_cons ?_ ?_
    | with_reducible refine within_seq ?_ ?_
    | with_reducible refine within_ask fun _ => ?_
    | with_reducible refine within_each fun _ => ?_
    | with_reducible refine within_whenP ?_
    | with_reducible refine within_upd ?_
    | with_reducible refine within_ite ?_ ?_
    | with_reducible refine within_replicate ?_
    | with_reducible refine modHost_within ?_
    | with_reducible refine beginWake_within ?_
    | split
    | dsimp only
  all_goals rfl
@[simp] theorem setFault_avoids {b : Nat} {g : Grp} (hg : g ∉ ([.host, .pwr] : List Grp)) : Avoids g (setFault b) := (setFault_within (gs := [.host, .pwr]) rfl).free hg

theorem logHigh_within {gs : List Grp} (hgs : within [.cnts, .mbx, .log, .evt] gs = true) : Within gs logHigh := by
  refine Within.lift hgs ?_
  clear hgs
  unfold logHigh
  repeat' first
    | with_reducible exact within_skip _
    | with_reducible exact within_nil _
    | with_reducible refine within_cons ?_ ?_
    | with_reducible refine within_seq ?_ ?_
    | with_reducible refine within_ask fun _ => ?_
    | with_reducible refine within_each fun _ => ?_
    | with_reducible refine within_whenP ?_
    | with_reducible refine within_upd ?_
    | with_reducible refine within_ite ?_ ?_
    | with_reducible refine within_replicate ?_
    | with_reducible refine raise_within ?_
    | split
    | dsimp only
  all_goals rfl
@[simp] theorem logHigh_avoids {g : Grp} (hg : g ∉ ([.cnts, .mbx, .log, .evt] : List Grp)) : Avoids g logHigh := (logHigh_within (gs := [.cnts, .mbx, .log, .evt]) rfl).free hg

theorem logCommit_within {t kind boundary unit origin txnId : Nat} {content : Rec} {detail : Nat} {gs : List Grp} (hgs : within [.cnts, .mbx, .log, .evt] gs = true) : Within gs (logCommit t kind boundary unit origin txnId content detail) := by
  refine Within.lift hgs ?_
  clear hgs
  unfold logCommit
  repeat' first
    | with_reducible exact within_skip _
    | with_reducible exact within_nil _
    | with_reducible refine within_cons ?_ ?_
    | with_reducible refine within_seq ?_ ?_
    | with_reducible refine within_ask fun _ => ?_
    | with_reducible refine within_each fun _ => ?_
    | with_reducible refine within_whenP ?_
    | with_reducible refine within_upd ?_
    | with_reducible refine within_ite ?_ ?_
    | with_reducible refine within_replicate ?_
    | with_reducible refine count_within ?_
    | with_reducible refine logHigh_within ?_
    | split
    | dsimp only
  all_goals rfl
@[simp] theorem logCommit_avoids {t kind boundary unit origin txnId : Nat} {content : Rec} {detail : Nat} {g : Grp} (hg : g ∉ ([.cnts, .mbx, .log, .evt] : List Grp)) : Avoids g (logCommit t kind boundary unit origin txnId content detail) := (logCommit_within (gs := [.cnts, .mbx, .log, .evt]) rfl).free hg

theorem setReason_within {u r : Nat} {gs : List Grp} (hgs : within [.clk] gs = true) : Within gs (setReason u r) := by
  refine Within.lift hgs ?_
  clear hgs
  unfold setReason
  repeat' first
    | with_reducible exact within_skip _
    | with_reducible exact within_nil _
    | with_reducible refine within_cons ?_ ?_
    | with_reducible refine within_seq ?_ ?_
    | with_reducible refine within_ask fun _ => ?_
    | with_reducible refine within_each fun _ => ?_
    | with_reducible refine within_whenP ?_
    | with_reducible refine within_upd ?_
    | with_reducible refine within_ite ?_ ?_
    | with_reducible refine within_replicate ?_
    | with_reducible refine modClk_within ?_
    | split
    | dsimp only
  all_goals rfl
@[simp] theorem setReason_avoids {u r : Nat} {g : Grp} (hg : g ∉ ([.clk] : List Grp)) : Avoids g (setReason u r) := (setReason_within (gs := [.clk]) rfl).free hg

theorem modSheet_within {n : Nat} {f : Sheet → Sheet} {gs : List Grp} (hgs : within [.radio] gs = true) : Within gs (modSheet n f) := by
  refine Within.lift hgs ?_
  clear hgs
  unfold modSheet
  repeat' first
    | with_reducible exact within_skip _
    | with_reducible exact within_nil _
    | with_reducible refine within_cons ?_ ?_
    | with_reducible refine within_seq ?_ ?_
    | with_reducible refine within_ask fun _ => ?_
    | with_reducible refine within_each fun _ => ?_
    | with_reducible refine within_whenP ?_
    | with_reducible refine within_upd ?_
    | with_reducible refine within_ite ?_ ?_
    | with_reducible refine within_replicate ?_
    | with_reducible refine modRadio_within ?_
    | split
    | dsimp only
  all_goals rfl
@[simp] theorem modSheet_avoids {n : Nat} {f : Sheet → Sheet} {g : Grp} (hg : g ∉ ([.radio] : List Grp)) : Avoids g (modSheet n f) := (modSheet_within (gs := [.radio]) rfl).free hg

theorem modOrx_within {k : Nat} {f : Orx → Orx} {gs : List Grp} (hgs : within [.dpd] gs = true) : Within gs (modOrx k f) := by
  refine Within.lift hgs ?_
  clear hgs
  unfold modOrx
  repeat' first
    | with_reducible exact within_skip _
    | with_reducible exact within_nil _
    | with_reducible refine within_cons ?_ ?_
    | with_reducible refine within_seq ?_ ?_
    | with_reducible refine within_ask fun _ => ?_
    | with_reducible refine within_each fun _ => ?_
    | with_reducible refine within_whenP ?_
    | with_reducible refine within_upd ?_
    | with_reducible refine within_ite ?_ ?_
    | with_reducible refine within_replicate ?_
    | with_reducible refine modDpd_within ?_
    | split
    | dsimp only
  all_goals rfl
@[simp] theorem modOrx_avoids {k : Nat} {f : Orx → Orx} {g : Grp} (hg : g ∉ ([.dpd] : List Grp)) : Avoids g (modOrx k f) := (modOrx_within (gs := [.dpd]) rfl).free hg

theorem modPath_within {p : Nat} {f : DpdPath → DpdPath} {gs : List Grp} (hgs : within [.dpd] gs = true) : Within gs (modPath p f) := by
  refine Within.lift hgs ?_
  clear hgs
  unfold modPath
  repeat' first
    | with_reducible exact within_skip _
    | with_reducible exact within_nil _
    | with_reducible refine within_cons ?_ ?_
    | with_reducible refine within_seq ?_ ?_
    | with_reducible refine within_ask fun _ => ?_
    | with_reducible refine within_each fun _ => ?_
    | with_reducible refine within_whenP ?_
    | with_reducible refine within_upd ?_
    | with_reducible refine within_ite ?_ ?_
    | with_reducible refine within_replicate ?_
    | with_reducible refine modDpd_within ?_
    | split
    | dsimp only
  all_goals rfl
@[simp] theorem modPath_avoids {p : Nat} {f : DpdPath → DpdPath} {g : Grp} (hg : g ∉ ([.dpd] : List Grp)) : Avoids g (modPath p f) := (modPath_within (gs := [.dpd]) rfl).free hg

theorem queueIso_within {kind cls part : Nat} {gs : List Grp} (hgs : within [.clk] gs = true) : Within gs (queueIso kind cls part) := by
  refine Within.lift hgs ?_
  clear hgs
  unfold queueIso
  repeat' first
    | with_reducible exact within_skip _
    | with_reducible exact within_nil _
    | with_reducible refine within_cons ?_ ?_
    | with_reducible refine within_seq ?_ ?_
    | with_reducible refine within_ask fun _ => ?_
    | with_reducible refine within_each fun _ => ?_
    | with_reducible refine within_whenP ?_
    | with_reducible refine within_upd ?_
    | with_reducible refine within_ite ?_ ?_
    | with_reducible refine within_replicate ?_
    | with_reducible refine modClk_within ?_
    | split
    | dsimp only
  all_goals rfl
@[simp] theorem queueIso_avoids {kind cls part : Nat} {g : Grp} (hg : g ∉ ([.clk] : List Grp)) : Avoids g (queueIso kind cls part) := (queueIso_within (gs := [.clk]) rfl).free hg

theorem regPoke_within {a v mask : Nat} {gs : List Grp} (hgs : within [.cfg, .regs, .host, .mbx, .clk, .datum, .survey] gs = true) : Within gs (regPoke a v mask) := by
  refine Within.lift hgs ?_
  clear hgs
  unfold regPoke
  repeat' first
    | with_reducible exact within_skip _
    | with_reducible exact within_nil _
    | with_reducible refine within_cons ?_ ?_
    | with_reducible refine within_seq ?_ ?_
    | with_reducible refine within_ask fun _ => ?_
    | with_reducible refine within_each fun _ => ?_
    | with_reducible refine within_whenP ?_
    | with_reducible refine within_upd ?_
    | with_reducible refine within_ite ?_ ?_
    | with_reducible refine within_replicate ?_
    | with_reducible refine modHost_within ?_
    | with_reducible refine modMbx_within ?_
    | with_reducible refine modClk_within ?_
    | with_reducible refine modDatum_within ?_
    | with_reducible refine modSurvey_within ?_
    | with_reducible refine setSetting_within ?_
    | split
    | dsimp only
  all_goals rfl
@[simp] theorem regPoke_avoids {a v mask : Nat} {g : Grp} (hg : g ∉ ([.cfg, .regs, .host, .mbx, .clk, .datum, .survey] : List Grp)) : Avoids g (regPoke a v mask) := (regPoke_within (gs := [.cfg, .regs, .host, .mbx, .clk, .datum, .survey]) rfl).free hg

theorem datumCycle_within {gs : List Grp} (hgs : within [.tick, .datum] gs = true) : Within gs datumCycle := by
  refine Within.lift hgs ?_
  clear hgs
  unfold datumCycle
  repeat' first
    | with_reducible exact within_skip _
    | with_reducible exact within_nil _
    | with_reducible refine within_cons ?_ ?_
    | with_reducible refine within_seq ?_ ?_
    | with_reducible refine within_ask fun _ => ?_
    | with_reducible refine within_each fun _ => ?_
    | with_reducible refine within_whenP ?_
    | with_reducible refine within_upd ?_
    | with_reducible refine within_ite ?_ ?_
    | with_reducible refine within_replicate ?_
    | with_reducible refine modDatum_within ?_
    | split
    | dsimp only
  all_goals rfl
@[simp] theorem datumCycle_avoids {g : Grp} (hg : g ∉ ([.tick, .datum] : List Grp)) : Avoids g datumCycle := (datumCycle_within (gs := [.tick, .datum]) rfl).free hg

theorem alignCross_within {gs : List Grp} (hgs : within [.clk] gs = true) : Within gs alignCross := by
  refine Within.lift hgs ?_
  clear hgs
  unfold alignCross
  repeat' first
    | with_reducible exact within_skip _
    | with_reducible exact within_nil _
    | with_reducible refine within_cons ?_ ?_
    | with_reducible refine within_seq ?_ ?_
    | with_reducible refine within_ask fun _ => ?_
    | with_reducible refine within_each fun _ => ?_
    | with_reducible refine within_whenP ?_
    | with_reducible refine within_upd ?_
    | with_reducible refine within_ite ?_ ?_
    | with_reducible refine within_replicate ?_
    | with_reducible refine modClk_within ?_
    | split
    | dsimp only
  all_goals rfl
@[simp] theorem alignCross_avoids {g : Grp} (hg : g ∉ ([.clk] : List Grp)) : Avoids g alignCross := (alignCross_within (gs := [.clk]) rfl).free hg

theorem incrWrite_within {value : Nat} {gs : List Grp} (hgs : within [.free, .datum] gs = true) : Within gs (incrWrite value) := by
  refine Within.lift hgs ?_
  clear hgs
  unfold incrWrite
  repeat' first
    | with_reducible exact within_skip _
    | with_reducible exact within_nil _
    | with_reducible refine within_cons ?_ ?_
    | with_reducible refine within_seq ?_ ?_
    | with_reducible refine within_ask fun _ => ?_
    | with_reducible refine within_each fun _ => ?_
    | with_reducible refine within_whenP ?_
    | with_reducible refine within_upd ?_
    | with_reducible refine within_ite ?_ ?_
    | with_reducible refine within_replicate ?_
    | with_reducible refine modDatum_within ?_
    | with_reducible refine drawFree_within ?_
    | split
    | dsimp only
  all_goals rfl
@[simp] theorem incrWrite_avoids {value : Nat} {g : Grp} (hg : g ∉ ([.free, .datum] : List Grp)) : Avoids g (incrWrite value) := (incrWrite_within (gs := [.free, .datum]) rfl).free hg

theorem setInc_within {v : Nat} {gs : List Grp} (hgs : within [.datum] gs = true) : Within gs (setInc v) := by
  refine Within.lift hgs ?_
  clear hgs
  unfold setInc
  repeat' first
    | with_reducible exact within_skip _
    | with_reducible exact within_nil _
    | with_reducible refine within_cons ?_ ?_
    | with_reducible refine within_seq ?_ ?_
    | with_reducible refine within_ask fun _ => ?_
    | with_reducible refine within_each fun _ => ?_
    | with_reducible refine within_whenP ?_
    | with_reducible refine within_upd ?_
    | with_reducible refine within_ite ?_ ?_
    | with_reducible refine within_replicate ?_
    | with_reducible refine modDatum_within ?_
    | split
    | dsimp only
  all_goals rfl
@[simp] theorem setInc_avoids {v : Nat} {g : Grp} (hg : g ∉ ([.datum] : List Grp)) : Avoids g (setInc v) := (setInc_within (gs := [.datum]) rfl).free hg

theorem todWrite_within {value : Nat} {gs : List Grp} (hgs : within [.datum] gs = true) : Within gs (todWrite value) := by
  refine Within.lift hgs ?_
  clear hgs
  unfold todWrite
  repeat' first
    | with_reducible exact within_skip _
    | with_reducible exact within_nil _
    | with_reducible refine within_cons ?_ ?_
    | with_reducible refine within_seq ?_ ?_
    | with_reducible refine within_ask fun _ => ?_
    | with_reducible refine within_each fun _ => ?_
    | with_reducible refine within_whenP ?_
    | with_reducible refine within_upd ?_
    | with_reducible refine within_ite ?_ ?_
    | with_reducible refine within_replicate ?_
    | with_reducible refine modDatum_within ?_
    | split
    | dsimp only
  all_goals rfl
@[simp] theorem todWrite_avoids {value : Nat} {g : Grp} (hg : g ∉ ([.datum] : List Grp)) : Avoids g (todWrite value) := (todWrite_within (gs := [.datum]) rfl).free hg

theorem setRef_within {r : Nat × Nat × Nat} {gs : List Grp} (hgs : within [.datum] gs = true) : Within gs (setRef r) := by
  refine Within.lift hgs ?_
  clear hgs
  unfold setRef
  repeat' first
    | with_reducible exact within_skip _
    | with_reducible exact within_nil _
    | with_reducible refine within_cons ?_ ?_
    | with_reducible refine within_seq ?_ ?_
    | with_reducible refine within_ask fun _ => ?_
    | with_reducible refine within_each fun _ => ?_
    | with_reducible refine within_whenP ?_
    | with_reducible refine within_upd ?_
    | with_reducible refine within_ite ?_ ?_
    | with_reducible refine within_replicate ?_
    | with_reducible refine modDatum_within ?_
    | split
    | dsimp only
  all_goals rfl
@[simp] theorem setRef_avoids {r : Nat × Nat × Nat} {g : Grp} (hg : g ∉ ([.datum] : List Grp)) : Avoids g (setRef r) := (setRef_within (gs := [.datum]) rfl).free hg

theorem setServo_within {v : Nat} {gs : List Grp} (hgs : within [.cnts, .mbx, .evt, .clk, .datum] gs = true) : Within gs (setServo v) := by
  refine Within.lift hgs ?_
  clear hgs
  unfold setServo
  repeat' first
    | with_reducible exact within_skip _
    | with_reducible exact within_nil _
    | with_reducible refine within_cons ?_ ?_
    | with_reducible refine within_seq ?_ ?_
    | with_reducible refine within_ask fun _ => ?_
    | with_reducible refine within_each fun _ => ?_
    | with_reducible refine within_whenP ?_
    | with_reducible refine within_upd ?_
    | with_reducible refine within_ite ?_ ?_
    | with_reducible refine within_replicate ?_
    | with_reducible refine modDatum_within ?_
    | with_reducible refine raise_within ?_
    | with_reducible refine stamp_within ?_
    | split
    | dsimp only
  all_goals rfl
@[simp] theorem setServo_avoids {v : Nat} {g : Grp} (hg : g ∉ ([.cnts, .mbx, .evt, .clk, .datum] : List Grp)) : Avoids g (setServo v) := (setServo_within (gs := [.cnts, .mbx, .evt, .clk, .datum]) rfl).free hg

theorem armAlign_within {gs : List Grp} (hgs : within [.clk] gs = true) : Within gs armAlign := by
  refine Within.lift hgs ?_
  clear hgs
  unfold armAlign
  repeat' first
    | with_reducible exact within_skip _
    | with_reducible exact within_nil _
    | with_reducible refine within_cons ?_ ?_
    | with_reducible refine within_seq ?_ ?_
    | with_reducible refine within_ask fun _ => ?_
    | with_reducible refine within_each fun _ => ?_
    | with_reducible refine within_whenP ?_
    | with_reducible refine within_upd ?_
    | with_reducible refine within_ite ?_ ?_
    | with_reducible refine within_replicate ?_
    | with_reducible refine modClk_within ?_
    | split
    | dsimp only
  all_goals rfl
@[simp] theorem armAlign_avoids {g : Grp} (hg : g ∉ ([.clk] : List Grp)) : Avoids g armAlign := (armAlign_within (gs := [.clk]) rfl).free hg

theorem firmwareArm_within {gs : List Grp} (hgs : within [.clk] gs = true) : Within gs firmwareArm := by
  refine Within.lift hgs ?_
  clear hgs
  unfold firmwareArm
  repeat' first
    | with_reducible exact within_skip _
    | with_reducible exact within_nil _
    | with_reducible refine within_cons ?_ ?_
    | with_reducible refine within_seq ?_ ?_
    | with_reducible refine within_ask fun _ => ?_
    | with_reducible refine within_each fun _ => ?_
    | with_reducible refine within_whenP ?_
    | with_reducible refine within_upd ?_
    | with_reducible refine within_ite ?_ ?_
    | with_reducible refine within_replicate ?_
    | with_reducible refine modClk_within ?_
    | with_reducible refine armAlign_within ?_
    | split
    | dsimp only
  all_goals rfl
@[simp] theorem firmwareArm_avoids {g : Grp} (hg : g ∉ ([.clk] : List Grp)) : Avoids g firmwareArm := (firmwareArm_within (gs := [.clk]) rfl).free hg

theorem stepConsequences_within {d : Int} {gs : List Grp} (hgs : within [.cnts, .mbx, .clk, .datum, .sect, .fh, .tx, .radio, .rffe] gs = true) : Within gs (stepConsequences d) := by
  refine Within.lift hgs ?_
  clear hgs
  unfold stepConsequences
  repeat' first
    | with_reducible exact within_skip _
    | with_reducible exact within_nil _
    | with_reducible refine within_cons ?_ ?_
    | with_reducible refine within_seq ?_ ?_
    | with_reducible refine within_ask fun _ => ?_
    | with_reducible refine within_each fun _ => ?_
    | with_reducible refine within_whenP ?_
    | with_reducible refine within_upd ?_
    | with_reducible refine within_ite ?_ ?_
    | with_reducible refine within_replicate ?_
    | with_reducible refine modMbx_within ?_
    | with_reducible refine modClk_within ?_
    | with_reducible refine modDatum_within ?_
    | with_reducible refine modSect_within ?_
    | with_reducible refine modFh_within ?_
    | with_reducible refine modTx_within ?_
    | with_reducible refine modRadio_within ?_
    | with_reducible refine modRffe_within ?_
    | with_reducible refine countN_within ?_
    | with_reducible refine firmwareArm_within ?_
    | split
    | dsimp only
  all_goals rfl
@[simp] theorem stepConsequences_avoids {d : Int} {g : Grp} (hg : g ∉ ([.cnts, .mbx, .clk, .datum, .sect, .fh, .tx, .radio, .rffe] : List Grp)) : Avoids g (stepConsequences d) := (stepConsequences_within (gs := [.cnts, .mbx, .clk, .datum, .sect, .fh, .tx, .radio, .rffe]) rfl).free hg

theorem writePpsNext_within {gs : List Grp} (hgs : within [.datum] gs = true) : Within gs writePpsNext := by
  refine Within.lift hgs ?_
  clear hgs
  unfold writePpsNext
  repeat' first
    | with_reducible exact within_skip _
    | with_reducible exact within_nil _
    | with_reducible refine within_cons ?_ ?_
    | with_reducible refine within_seq ?_ ?_
    | with_reducible refine within_ask fun _ => ?_
    | with_reducible refine within_each fun _ => ?_
    | with_reducible refine within_whenP ?_
    | with_reducible refine within_upd ?_
    | with_reducible refine within_ite ?_ ?_
    | with_reducible refine within_replicate ?_
    | with_reducible refine modDatum_within ?_
    | split
    | dsimp only
  all_goals rfl
@[simp] theorem writePpsNext_avoids {g : Grp} (hg : g ∉ ([.datum] : List Grp)) : Avoids g writePpsNext := (writePpsNext_within (gs := [.datum]) rfl).free hg

theorem raiseStepped_within {step shift : Int} {gs : List Grp} (hgs : within [.cnts, .mbx, .evt] gs = true) : Within gs (raiseStepped step shift) := by
  refine Within.lift hgs ?_
  clear hgs
  unfold raiseStepped
  repeat' first
    | with_reducible exact within_skip _
    | with_reducible exact within_nil _
    | with_reducible refine within_cons ?_ ?_
    | with_reducible refine within_seq ?_ ?_
    | with_reducible refine within_ask fun _ => ?_
    | with_reducible refine within_each fun _ => ?_
    | with_reducible refine within_whenP ?_
    | with_reducible refine within_upd ?_
    | with_reducible refine within_ite ?_ ?_
    | with_reducible refine within_replicate ?_
    | with_reducible refine raise_within ?_
    | split
    | dsimp only
  all_goals rfl
@[simp] theorem raiseStepped_avoids {step shift : Int} {g : Grp} (hg : g ∉ ([.cnts, .mbx, .evt] : List Grp)) : Avoids g (raiseStepped step shift) := (raiseStepped_within (gs := [.cnts, .mbx, .evt]) rfl).free hg

theorem applyStep_within {t : Int} {gs : List Grp} (hgs : within [.cnts, .mbx, .evt, .clk, .datum, .sect, .fh, .tx, .radio, .rffe] gs = true) : Within gs (applyStep t) := by
  refine Within.lift hgs ?_
  clear hgs
  unfold applyStep
  repeat' first
    | with_reducible exact within_skip _
    | with_reducible exact within_nil _
    | with_reducible refine within_cons ?_ ?_
    | with_reducible refine within_seq ?_ ?_
    | with_reducible refine within_ask fun _ => ?_
    | with_reducible refine within_each fun _ => ?_
    | with_reducible refine within_whenP ?_
    | with_reducible refine within_upd ?_
    | with_reducible refine within_ite ?_ ?_
    | with_reducible refine within_replicate ?_
    | with_reducible refine modDatum_within ?_
    | with_reducible refine raiseStepped_within ?_
    | with_reducible refine setRef_within ?_
    | with_reducible refine stepConsequences_within ?_
    | with_reducible refine writePpsNext_within ?_
    | split
    | dsimp only
  all_goals rfl
@[simp] theorem applyStep_avoids {t : Int} {g : Grp} (hg : g ∉ ([.cnts, .mbx, .evt, .clk, .datum, .sect, .fh, .tx, .radio, .rffe] : List Grp)) : Avoids g (applyStep t) := (applyStep_within (gs := [.cnts, .mbx, .evt, .clk, .datum, .sect, .fh, .tx, .radio, .rffe]) rfl).free hg

theorem ctrlStep_within {gs : List Grp} (hgs : within [.cnts, .mbx, .evt, .clk, .datum, .sect, .fh, .tx, .radio, .rffe] gs = true) : Within gs ctrlStep := by
  refine Within.lift hgs ?_
  clear hgs
  unfold ctrlStep
  repeat' first
    | with_reducible exact within_skip _
    | with_reducible exact within_nil _
    | with_reducible refine within_cons ?_ ?_
    | with_reducible refine within_seq ?_ ?_
    | with_reducible refine within_ask fun _ => ?_
    | with_reducible refine within_each fun _ => ?_
    | with_reducible refine within_whenP ?_
    | with_reducible refine within_upd ?_
    | with_reducible refine within_ite ?_ ?_
    | with_reducible refine within_replicate ?_
    | with_reducible refine modDatum_within ?_
    | with_reducible refine raiseStepped_within ?_
    | with_reducible refine setRef_within ?_
    | with_reducible refine stepConsequences_within ?_
    | with_reducible refine writePpsNext_within ?_
    | split
    | dsimp only
  all_goals rfl
@[simp] theorem ctrlStep_avoids {g : Grp} (hg : g ∉ ([.cnts, .mbx, .evt, .clk, .datum, .sect, .fh, .tx, .radio, .rffe] : List Grp)) : Avoids g ctrlStep := (ctrlStep_within (gs := [.cnts, .mbx, .evt, .clk, .datum, .sect, .fh, .tx, .radio, .rffe]) rfl).free hg

theorem refuseStep_within {off : Int} {gs : List Grp} (hgs : within [.cnts, .mbx, .evt, .clk, .datum] gs = true) : Within gs (refuseStep off) := by
  refine Within.lift hgs ?_
  clear hgs
  unfold refuseStep
  repeat' first
    | with_reducible exact within_skip _
    | with_reducible exact within_nil _
    | with_reducible refine within_cons ?_ ?_
    | with_reducible refine within_seq ?_ ?_
    | with_reducible refine within_ask fun _ => ?_
    | with_reducible refine within_each fun _ => ?_
    | with_reducible refine within_whenP ?_
    | with_reducible refine within_upd ?_
    | with_reducible refine within_ite ?_ ?_
    | with_reducible refine within_replicate ?_
    | with_reducible refine modDatum_within ?_
    | with_reducible refine count_within ?_
    | with_reducible refine raise_within ?_
    | with_reducible refine setServo_within ?_
    | split
    | dsimp only
  all_goals rfl
@[simp] theorem refuseStep_avoids {off : Int} {g : Grp} (hg : g ∉ ([.cnts, .mbx, .evt, .clk, .datum] : List Grp)) : Avoids g (refuseStep off) := (refuseStep_within (gs := [.cnts, .mbx, .evt, .clk, .datum]) rfl).free hg

theorem steer_within {filtered : Int} {gs : List Grp} (hgs : within [.datum] gs = true) : Within gs (steer filtered) := by
  refine Within.lift hgs ?_
  clear hgs
  unfold steer
  repeat' first
    | with_reducible exact within_skip _
    | with_reducible exact within_nil _
    | with_reducible refine within_cons ?_ ?_
    | with_reducible refine within_seq ?_ ?_
    | with_reducible refine within_ask fun _ => ?_
    | with_reducible refine within_each fun _ => ?_
    | with_reducible refine within_whenP ?_
    | with_reducible refine within_upd ?_
    | with_reducible refine within_ite ?_ ?_
    | with_reducible refine within_replicate ?_
    | with_reducible refine modDatum_within ?_
    | with_reducible refine setInc_within ?_
    | split
    | dsimp only
  all_goals rfl
@[simp] theorem steer_avoids {filtered : Int} {g : Grp} (hg : g ∉ ([.datum] : List Grp)) : Avoids g (steer filtered) := (steer_within (gs := [.datum]) rfl).free hg

theorem followOffset_within {f : Int} {gs : List Grp} (hgs : within [.cnts, .mbx, .evt, .clk, .datum] gs = true) : Within gs (followOffset f) := by
  refine Within.lift hgs ?_
  clear hgs
  unfold followOffset
  repeat' first
    | with_reducible exact within_skip _
    | with_reducible exact within_nil _
    | with_reducible refine within_cons ?_ ?_
    | with_reducible refine within_seq ?_ ?_
    | with_reducible refine within_ask fun _ => ?_
    | with_reducible refine within_each fun _ => ?_
    | with_reducible refine within_whenP ?_
    | with_reducible refine within_upd ?_
    | with_reducible refine within_ite ?_ ?_
    | with_reducible refine within_replicate ?_
    | with_reducible refine modDatum_within ?_
    | with_reducible refine setServo_within ?_
    | with_reducible refine steer_within ?_
    | split
    | dsimp only
  all_goals rfl
@[simp] theorem followOffset_avoids {f : Int} {g : Grp} (hg : g ∉ ([.cnts, .mbx, .evt, .clk, .datum] : List Grp)) : Avoids g (followOffset f) := (followOffset_within (gs := [.cnts, .mbx, .evt, .clk, .datum]) rfl).free hg

theorem servoMeasure_within {off : Int} {gs : List Grp} (hgs : within [.cnts, .mbx, .evt, .clk, .datum, .sect, .fh, .tx, .radio, .rffe] gs = true) : Within gs (servoMeasure off) := by
  refine Within.lift hgs ?_
  clear hgs
  unfold servoMeasure
  repeat' first
    | with_reducible exact within_skip _
    | with_reducible exact within_nil _
    | with_reducible refine within_cons ?_ ?_
    | with_reducible refine within_seq ?_ ?_
    | with_reducible refine within_ask fun _ => ?_
    | with_reducible refine within_each fun _ => ?_
    | with_reducible refine within_whenP ?_
    | with_reducible refine within_upd ?_
    | with_reducible refine within_ite ?_ ?_
    | with_reducible refine within_replicate ?_
    | with_reducible refine modDatum_within ?_
    | with_reducible refine applyStep_within ?_
    | with_reducible refine followOffset_within ?_
    | with_reducible refine refuseStep_within ?_
    | split
    | dsimp only
  all_goals rfl
@[simp] theorem servoMeasure_avoids {off : Int} {g : Grp} (hg : g ∉ ([.cnts, .mbx, .evt, .clk, .datum, .sect, .fh, .tx, .radio, .rffe] : List Grp)) : Avoids g (servoMeasure off) := (servoMeasure_within (gs := [.cnts, .mbx, .evt, .clk, .datum, .sect, .fh, .tx, .radio, .rffe]) rfl).free hg

theorem ringSend_within {f : Rec} {gs : List Grp} (hgs : within [.datum] gs = true) : Within gs (ringSend f) := by
  refine Within.lift hgs ?_
  clear hgs
  unfold ringSend
  repeat' first
    | with_reducible exact within_skip _
    | with_reducible exact within_nil _
    | with_reducible refine within_cons ?_ ?_
    | with_reducible refine within_seq ?_ ?_
    | with_reducible refine within_ask fun _ => ?_
    | with_reducible refine within_each fun _ => ?_
    | with_reducible refine within_whenP ?_
    | with_reducible refine within_upd ?_
    | with_reducible refine within_ite ?_ ?_
    | with_reducible refine within_replicate ?_
    | with_reducible refine modDatum_within ?_
    | split
    | dsimp only
  all_goals rfl
@[simp] theorem ringSend_avoids {f : Rec} {g : Grp} (hg : g ∉ ([.datum] : List Grp)) : Avoids g (ringSend f) := (ringSend_within (gs := [.datum]) rfl).free hg

theorem ptpAnnounce_within {at_ : Int} {m : Rec} {gs : List Grp} (hgs : within [.cnts, .mbx, .evt, .clk, .datum] gs = true) : Within gs (ptpAnnounce at_ m) := by
  refine Within.lift hgs ?_
  clear hgs
  unfold ptpAnnounce
  repeat' first
    | with_reducible exact within_skip _
    | with_reducible exact within_nil _
    | with_reducible refine within_cons ?_ ?_
    | with_reducible refine within_seq ?_ ?_
    | with_reducible refine within_ask fun _ => ?_
    | with_reducible refine within_each fun _ => ?_
    | with_reducible refine within_whenP ?_
    | with_reducible refine within_upd ?_
    | with_reducible refine within_ite ?_ ?_
    | with_reducible refine within_replicate ?_
    | with_reducible refine modDatum_within ?_
    | with_reducible refine setServo_within ?_
    | with_reducible refine stamp_within ?_
    | split
    | dsimp only
  all_goals rfl
@[simp] theorem ptpAnnounce_avoids {at_ : Int} {m : Rec} {g : Grp} (hg : g ∉ ([.cnts, .mbx, .evt, .clk, .datum] : List Grp)) : Avoids g (ptpAnnounce at_ m) := (ptpAnnounce_within (gs := [.cnts, .mbx, .evt, .clk, .datum]) rfl).free hg

theorem ptpMessage_within {ts : Nat} {m : Rec} {gs : List Grp} (hgs : within [.cnts, .mbx, .evt, .clk, .datum, .sect, .fh, .tx, .radio, .rffe] gs = true) : Within gs (ptpMessage ts m) := by
  refine Within.lift hgs ?_
  clear hgs
  unfold ptpMessage
  repeat' first
    | with_reducible exact within_skip _
    | with_reducible exact within_nil _
    | with_reducible refine within_cons ?_ ?_
    | with_reducible refine within_seq ?_ ?_
    | with_reducible refine within_ask fun _ => ?_
    | with_reducible refine within_each fun _ => ?_
    | with_reducible refine within_whenP ?_
    | with_reducible refine within_upd ?_
    | with_reducible refine within_ite ?_ ?_
    | with_reducible refine within_replicate ?_
    | with_reducible refine modDatum_within ?_
    | with_reducible refine ptpAnnounce_within ?_
    | with_reducible refine servoMeasure_within ?_
    | with_reducible refine stamp_within ?_
    | split
    | dsimp only
  all_goals rfl
@[simp] theorem ptpMessage_avoids {ts : Nat} {m : Rec} {g : Grp} (hg : g ∉ ([.cnts, .mbx, .evt, .clk, .datum, .sect, .fh, .tx, .radio, .rffe] : List Grp)) : Avoids g (ptpMessage ts m) := (ptpMessage_within (gs := [.cnts, .mbx, .evt, .clk, .datum, .sect, .fh, .tx, .radio, .rffe]) rfl).free hg

theorem owdRequest_within {ts : Nat} {f : Rec} {gs : List Grp} (hgs : within [.datum] gs = true) : Within gs (owdRequest ts f) := by
  refine Within.lift hgs ?_
  clear hgs
  unfold owdRequest
  repeat' first
    | with_reducible exact within_skip _
    | with_reducible exact within_nil _
    | with_reducible refine within_cons ?_ ?_
    | with_reducible refine within_seq ?_ ?_
    | with_reducible refine within_ask fun _ => ?_
    | with_reducible refine within_each fun _ => ?_
    | with_reducible refine within_whenP ?_
    | with_reducible refine within_upd ?_
    | with_reducible refine within_ite ?_ ?_
    | with_reducible refine within_replicate ?_
    | with_reducible refine modDatum_within ?_
    | with_reducible refine ringSend_within ?_
    | split
    | dsimp only
  all_goals rfl
@[simp] theorem owdRequest_avoids {ts : Nat} {f : Rec} {g : Grp} (hg : g ∉ ([.datum] : List Grp)) : Avoids g (owdRequest ts f) := (owdRequest_within (gs := [.datum]) rfl).free hg

theorem onWire_within {f : Rec} {gs : List Grp} (hgs : within [.tots, .fh] gs = true) : Within gs (onWire f) := by
  refine Within.lift hgs ?_
  clear hgs
  unfold onWire
  repeat' first
    | with_reducible exact within_skip _
    | with_reducible exact within_nil _
    | with_reducible refine within_cons ?_ ?_
    | with_reducible refine within_seq ?_ ?_
    | with_reducible refine within_ask fun _ => ?_
    | with_reducible refine within_each fun _ => ?_
    | with_reducible refine within_whenP ?_
    | with_reducible refine within_upd ?_
    | with_reducible refine within_ite ?_ ?_
    | with_reducible refine within_replicate ?_
    | with_reducible refine modFh_within ?_
    | with_reducible refine total_within ?_
    | split
    | dsimp only
  all_goals rfl
@[simp] theorem onWire_avoids {f : Rec} {g : Grp} (hg : g ∉ ([.tots, .fh] : List Grp)) : Avoids g (onWire f) := (onWire_within (gs := [.tots, .fh]) rfl).free hg

theorem modDac_within {n : Nat} {f : Bias → Bias} {gs : List Grp} (hgs : within [.bias] gs = true) : Within gs (modDac n f) := by
  refine Within.lift hgs ?_
  clear hgs
  unfold modDac
  repeat' first
    | with_reducible exact within_skip _
    | with_reducible exact within_nil _
    | with_reducible refine within_cons ?_ ?_
    | with_reducible refine within_seq ?_ ?_
    | with_reducible refine within_ask fun _ => ?_
    | with_reducible refine within_each fun _ => ?_
    | with_reducible refine within_whenP ?_
    | with_reducible refine within_upd ?_
    | with_reducible refine within_ite ?_ ?_
    | with_reducible refine within_replicate ?_
    | with_reducible refine modBias_within ?_
    | split
    | dsimp only
  all_goals rfl
@[simp] theorem modDac_avoids {n : Nat} {f : Bias → Bias} {g : Grp} (hg : g ∉ ([.bias] : List Grp)) : Avoids g (modDac n f) := (modDac_within (gs := [.bias]) rfl).free hg

theorem biasAllClear_within {gs : List Grp} (hgs : within [.bias] gs = true) : Within gs biasAllClear := by
  refine Within.lift hgs ?_
  clear hgs
  unfold biasAllClear
  repeat' first
    | with_reducible exact within_skip _
    | with_reducible exact within_nil _
    | with_reducible refine within_cons ?_ ?_
    | with_reducible refine within_seq ?_ ?_
    | with_reducible refine within_ask fun _ => ?_
    | with_reducible refine within_each fun _ => ?_
    | with_reducible refine within_whenP ?_
    | with_reducible refine within_upd ?_
    | with_reducible refine within_ite ?_ ?_
    | with_reducible refine within_replicate ?_
    | with_reducible refine modBias_within ?_
    | split
    | dsimp only
  all_goals rfl
@[simp] theorem biasAllClear_avoids {g : Grp} (hg : g ∉ ([.bias] : List Grp)) : Avoids g biasAllClear := (biasAllClear_within (gs := [.bias]) rfl).free hg

theorem biasSheetClear_within {n : Nat} {gs : List Grp} (hgs : within [.bias] gs = true) : Within gs (biasSheetClear n) := by
  refine Within.lift hgs ?_
  clear hgs
  unfold biasSheetClear
  repeat' first
    | with_reducible exact within_skip _
    | with_reducible exact within_nil _
    | with_reducible refine within_cons ?_ ?_
    | with_reducible refine within_seq ?_ ?_
    | with_reducible refine within_ask fun _ => ?_
    | with_reducible refine within_each fun _ => ?_
    | with_reducible refine within_whenP ?_
    | with_reducible refine within_upd ?_
    | with_reducible refine within_ite ?_ ?_
    | with_reducible refine within_replicate ?_
    | with_reducible refine modBias_within ?_
    | split
    | dsimp only
  all_goals rfl
@[simp] theorem biasSheetClear_avoids {n : Nat} {g : Grp} (hg : g ∉ ([.bias] : List Grp)) : Avoids g (biasSheetClear n) := (biasSheetClear_within (gs := [.bias]) rfl).free hg

theorem modConverter_within {n : Nat} {f : Conv → Conv} {gs : List Grp} (hgs : within [.conv] gs = true) : Within gs (modConverter n f) := by
  refine Within.lift hgs ?_
  clear hgs
  unfold modConverter
  repeat' first
    | with_reducible exact within_skip _
    | with_reducible exact within_nil _
    | with_reducible refine within_cons ?_ ?_
    | with_reducible refine within_seq ?_ ?_
    | with_reducible refine within_ask fun _ => ?_
    | with_reducible refine within_each fun _ => ?_
    | with_reducible refine within_whenP ?_
    | with_reducible refine within_upd ?_
    | with_reducible refine within_ite ?_ ?_
    | with_reducible refine within_replicate ?_
    | with_reducible refine modConv_within ?_
    | split
    | dsimp only
  all_goals rfl
@[simp] theorem modConverter_avoids {n : Nat} {f : Conv → Conv} {g : Grp} (hg : g ∉ ([.conv] : List Grp)) : Avoids g (modConverter n f) := (modConverter_within (gs := [.conv]) rfl).free hg

theorem convStart_within {sheet : Nat} {gs : List Grp} (hgs : within [.conv] gs = true) : Within gs (convStart sheet) := by
  refine Within.lift hgs ?_
  clear hgs
  unfold convStart
  repeat' first
    | with_reducible exact within_skip _
    | with_reducible exact within_nil _
    | with_reducible refine within_cons ?_ ?_
    | with_reducible refine within_seq ?_ ?_
    | with_reducible refine within_ask fun _ => ?_
    | with_reducible refine within_each fun _ => ?_
    | with_reducible refine within_whenP ?_
    | with_reducible refine within_upd ?_
    | with_reducible refine within_ite ?_ ?_
    | with_reducible refine within_replicate ?_
    | with_reducible refine modConverter_within ?_
    | split
    | dsimp only
  all_goals rfl
@[simp] theorem convStart_avoids {sheet : Nat} {g : Grp} (hg : g ∉ ([.conv] : List Grp)) : Avoids g (convStart sheet) := (convStart_within (gs := [.conv]) rfl).free hg

theorem convStop_within {sheet : Nat} {gs : List Grp} (hgs : within [.conv] gs = true) : Within gs (convStop sheet) := by
  refine Within.lift hgs ?_
  clear hgs
  unfold convStop
  repeat' first
    | with_reducible exact within_skip _
    | with_reducible exact within_nil _
    | with_reducible refine within_cons ?_ ?_
    | with_reducible refine within_seq ?_ ?_
    | with_reducible refine within_ask fun _ => ?_
    | with_reducible refine within_each fun _ => ?_
    | with_reducible refine within_whenP ?_
    | with_reducible refine within_upd ?_
    | with_reducible refine within_ite ?_ ?_
    | with_reducible refine within_replicate ?_
    | with_reducible refine modConv_within ?_
    | split
    | dsimp only
  all_goals rfl
@[simp] theorem convStop_avoids {sheet : Nat} {g : Grp} (hg : g ∉ ([.conv] : List Grp)) : Avoids g (convStop sheet) := (convStop_within (gs := [.conv]) rfl).free hg

theorem hkConvTo_within {state : Nat} {gs : List Grp} (hgs : within [.conv] gs = true) : Within gs (hkConvTo state) := by
  refine Within.lift hgs ?_
  clear hgs
  unfold hkConvTo
  repeat' first
    | with_reducible exact within_skip _
    | with_reducible exact within_nil _
    | with_reducible refine within_cons ?_ ?_
    | with_reducible refine within_seq ?_ ?_
    | with_reducible refine within_ask fun _ => ?_
    | with_reducible refine within_each fun _ => ?_
    | with_reducible refine within_whenP ?_
    | with_reducible refine within_upd ?_
    | with_reducible refine within_ite ?_ ?_
    | with_reducible refine within_replicate ?_
    | with_reducible refine modConverter_within ?_
    | split
    | dsimp only
  all_goals rfl
@[simp] theorem hkConvTo_avoids {state : Nat} {g : Grp} (hg : g ∉ ([.conv] : List Grp)) : Avoids g (hkConvTo state) := (hkConvTo_within (gs := [.conv]) rfl).free hg

theorem dpdLost_within {gs : List Grp} (hgs : within [.dpd] gs = true) : Within gs dpdLost := by
  refine Within.lift hgs ?_
  clear hgs
  unfold dpdLost
  repeat' first
    | with_reducible exact within_skip _
    | with_reducible exact within_nil _
    | with_reducible refine within_cons ?_ ?_
    | with_reducible refine within_seq ?_ ?_
    | with_reducible refine within_ask fun _ => ?_
    | with_reducible refine within_each fun _ => ?_
    | with_reducible refine within_whenP ?_
    | with_reducible refine within_upd ?_
    | with_reducible refine within_ite ?_ ?_
    | with_reducible refine within_replicate ?_
    | with_reducible refine modDpd_within ?_
    | split
    | dsimp only
  all_goals rfl
@[simp] theorem dpdLost_avoids {g : Grp} (hg : g ∉ ([.dpd] : List Grp)) : Avoids g dpdLost := (dpdLost_within (gs := [.dpd]) rfl).free hg

theorem flushEligible_within {gs : List Grp} (hgs : within [.cnts, .mbx, .fh] gs = true) : Within gs flushEligible := by
  refine Within.lift hgs ?_
  clear hgs
  unfold flushEligible
  repeat' first
    | with_reducible exact within_skip _
    | with_reducible exact within_nil _
    | with_reducible refine within_cons ?_ ?_
    | with_reducible refine within_seq ?_ ?_
    | with_reducible refine within_ask fun _ => ?_
    | with_reducible refine within_each fun _ => ?_
    | with_reducible refine within_whenP ?_
    | with_reducible refine within_upd ?_
    | with_reducible refine within_ite ?_ ?_
    | with_reducible refine within_replicate ?_
    | with_reducible refine modMbx_within ?_
    | with_reducible refine modFh_within ?_
    | with_reducible refine countN_within ?_
    | split
    | dsimp only
  all_goals rfl
@[simp] theorem flushEligible_avoids {g : Grp} (hg : g ∉ ([.cnts, .mbx, .fh] : List Grp)) : Avoids g flushEligible := (flushEligible_within (gs := [.cnts, .mbx, .fh]) rfl).free hg

theorem startReset_within {cause : Nat} {gs : List Grp} (hgs : within [.cnts, .tots, .ecc, .host, .mbx, .log, .evt, .txn, .clk, .datum, .pwr, .kiln, .boot, .cap, .fh, .mash, .tx, .dpd, .rx, .conv, .radio, .survey, .bias, .rffe] gs = true) : Within gs (startReset cause) := by
  refine Within.lift hgs ?_
  clear hgs
  unfold startReset
  repeat' first
    | with_reducible exact within_skip _
    | with_reducible exact within_nil _
    | with_reducible refine within_cons ?_ ?_
    | with_reducible refine within_seq ?_ ?_
    | with_reducible refine within_ask fun _ => ?_
    | with_reducible refine within_each fun _ => ?_
    | with_reducible refine within_whenP ?_
    | with_reducible refine within_upd ?_
    | with_reducible refine within_ite ?_ ?_
    | with_reducible refine within_replicate ?_
    | with_reducible refine modEcc_within ?_
    | with_reducible refine modHost_within ?_
    | with_reducible refine modMbx_within ?_
    | with_reducible refine modTxn_within ?_
    | with_reducible refine modClk_within ?_
    | with_reducible refine modDatum_within ?_
    | with_reducible refine modPwr_within ?_
    | with_reducible refine modKiln_within ?_
    | with_reducible refine modBoot_within ?_
    | with_reducible refine modCap_within ?_
    | with_reducible refine modFh_within ?_
    | with_reducible refine modMash_within ?_
    | with_reducible refine modTx_within ?_
    | with_reducible refine modDpd_within ?_
    | with_reducible refine modRx_within ?_
    | with_reducible refine modRadio_within ?_
    | with_reducible refine modSurvey_within ?_
    | with_reducible refine modRffe_within ?_
    | with_reducible refine biasAllClear_within ?_
    | with_reducible refine convStop_within ?_
    | with_reducible refine flushEligible_within ?_
    | with_reducible refine stamp_within ?_
    | with_reducible refine wipeCnts_within ?_
    | split
    | dsimp only
  all_goals rfl
@[simp] theorem startReset_avoids {cause : Nat} {g : Grp} (hg : g ∉ ([.cnts, .tots, .ecc, .host, .mbx, .log, .evt, .txn, .clk, .datum, .pwr, .kiln, .boot, .cap, .fh, .mash, .tx, .dpd, .rx, .conv, .radio, .survey, .bias, .rffe] : List Grp)) : Avoids g (startReset cause) := (startReset_within (gs := [.cnts, .tots, .ecc, .host, .mbx, .log, .evt, .txn, .clk, .datum, .pwr, .kiln, .boot, .cap, .fh, .mash, .tx, .dpd, .rx, .conv, .radio, .survey, .bias, .rffe]) rfl).free hg

theorem fillAll_within {i : MemId} {gs : List Grp} (hgs : within [.mem] gs = true) : Within gs (fillAll i) := by
  refine Within.lift hgs ?_
  clear hgs
  unfold fillAll
  repeat' first
    | with_reducible exact within_skip _
    | with_reducible exact within_nil _
    | with_reducible refine within_cons ?_ ?_
    | with_reducible refine within_seq ?_ ?_
    | with_reducible refine within_ask fun _ => ?_
    | with_reducible refine within_each fun _ => ?_
    | with_reducible refine within_whenP ?_
    | with_reducible refine within_upd ?_
    | with_reducible refine within_ite ?_ ?_
    | with_reducible refine within_replicate ?_
    | split
    | dsimp only
  all_goals rfl
@[simp] theorem fillAll_avoids {i : MemId} {g : Grp} (hg : g ∉ ([.mem] : List Grp)) : Avoids g (fillAll i) := (fillAll_within (gs := [.mem]) rfl).free hg

theorem wipeRegs_within {lo hi : Nat} {gs : List Grp} (hgs : within [.regs] gs = true) : Within gs (wipeRegs lo hi) := by
  refine Within.lift hgs ?_
  clear hgs
  unfold wipeRegs
  repeat' first
    | with_reducible exact within_skip _
    | with_reducible exact within_nil _
    | with_reducible refine within_cons ?_ ?_
    | with_reducible refine within_seq ?_ ?_
    | with_reducible refine within_ask fun _ => ?_
    | with_reducible refine within_each fun _ => ?_
    | with_reducible refine within_whenP ?_
    | with_reducible refine within_upd ?_
    | with_reducible refine within_ite ?_ ?_
    | with_reducible refine within_replicate ?_
    | split
    | dsimp only
  all_goals rfl
@[simp] theorem wipeRegs_avoids {lo hi : Nat} {g : Grp} (hg : g ∉ ([.regs] : List Grp)) : Avoids g (wipeRegs lo hi) := (wipeRegs_within (gs := [.regs]) rfl).free hg

theorem resetTxRegs_within {n : Nat} {gs : List Grp} (hgs : within [.cfg] gs = true) : Within gs (resetTxRegs n) := by
  refine Within.lift hgs ?_
  clear hgs
  unfold resetTxRegs
  repeat' first
    | with_reducible exact within_skip _
    | with_reducible exact within_nil _
    | with_reducible refine within_cons ?_ ?_
    | with_reducible refine within_seq ?_ ?_
    | with_reducible refine within_ask fun _ => ?_
    | with_reducible refine within_each fun _ => ?_
    | with_reducible refine within_whenP ?_
    | with_reducible refine within_upd ?_
    | with_reducible refine within_ite ?_ ?_
    | with_reducible refine within_replicate ?_
    | with_reducible refine setSetting_within ?_
    | split
    | dsimp only
  all_goals rfl
@[simp] theorem resetTxRegs_avoids {n : Nat} {g : Grp} (hg : g ∉ ([.cfg] : List Grp)) : Avoids g (resetTxRegs n) := (resetTxRegs_within (gs := [.cfg]) rfl).free hg

theorem resetRxRegs_within {n : Nat} {gs : List Grp} (hgs : within [.cfg] gs = true) : Within gs (resetRxRegs n) := by
  refine Within.lift hgs ?_
  clear hgs
  unfold resetRxRegs
  repeat' first
    | with_reducible exact within_skip _
    | with_reducible exact within_nil _
    | with_reducible refine within_cons ?_ ?_
    | with_reducible refine within_seq ?_ ?_
    | with_reducible refine within_ask fun _ => ?_
    | with_reducible refine within_each fun _ => ?_
    | with_reducible refine within_whenP ?_
    | with_reducible refine within_upd ?_
    | with_reducible refine within_ite ?_ ?_
    | with_reducible refine within_replicate ?_
    | with_reducible refine setSetting_within ?_
    | split
    | dsimp only
  all_goals rfl
@[simp] theorem resetRxRegs_avoids {n : Nat} {g : Grp} (hg : g ∉ ([.cfg] : List Grp)) : Avoids g (resetRxRegs n) := (resetRxRegs_within (gs := [.cfg]) rfl).free hg

theorem resetStrobes_within {n : Nat} {gs : List Grp} (hgs : within [.cfg] gs = true) : Within gs (resetStrobes n) := by
  refine Within.lift hgs ?_
  clear hgs
  unfold resetStrobes
  repeat' first
    | with_reducible exact within_skip _
    | with_reducible exact within_nil _
    | with_reducible refine within_cons ?_ ?_
    | with_reducible refine within_seq ?_ ?_
    | with_reducible refine within_ask fun _ => ?_
    | with_reducible refine within_each fun _ => ?_
    | with_reducible refine within_whenP ?_
    | with_reducible refine within_upd ?_
    | with_reducible refine within_ite ?_ ?_
    | with_reducible refine within_replicate ?_
    | with_reducible refine setSetting_within ?_
    | split
    | dsimp only
  all_goals rfl
@[simp] theorem resetStrobes_avoids {n : Nat} {g : Grp} (hg : g ∉ ([.cfg] : List Grp)) : Avoids g (resetStrobes n) := (resetStrobes_within (gs := [.cfg]) rfl).free hg

theorem mashLost_within {gs : List Grp} (hgs : within [.mash] gs = true) : Within gs mashLost := by
  refine Within.lift hgs ?_
  clear hgs
  unfold mashLost
  repeat' first
    | with_reducible exact within_skip _
    | with_reducible exact within_nil _
    | with_reducible refine within_cons ?_ ?_
    | with_reducible refine within_seq ?_ ?_
    | with_reducible refine within_ask fun _ => ?_
    | with_reducible refine within_each fun _ => ?_
    | with_reducible refine within_whenP ?_
    | with_reducible refine within_upd ?_
    | with_reducible refine within_ite ?_ ?_
    | with_reducible refine within_replicate ?_
    | with_reducible refine modMash_within ?_
    | split
    | dsimp only
  all_goals rfl
@[simp] theorem mashLost_avoids {g : Grp} (hg : g ∉ ([.mash] : List Grp)) : Avoids g mashLost := (mashLost_within (gs := [.mash]) rfl).free hg

theorem wipeDomain_within {d : Nat} {gs : List Grp} (hgs : within [.cfg, .regs, .cnts, .tots, .mem, .mbx, .datum, .sect, .fh, .grat, .mash, .tx, .dpd, .rx, .conv, .hk, .radio, .survey, .bias, .rffe] gs = true) : Within gs (wipeDomain d) := by
  refine Within.lift hgs ?_
  clear hgs
  unfold wipeDomain
  repeat' first
    | with_reducible exact within_skip _
    | with_reducible exact within_nil _
    | with_reducible refine within_cons ?_ ?_
    | with_reducible refine within_seq ?_ ?_
    | with_reducible refine within_ask fun _ => ?_
    | with_reducible refine within_each fun _ => ?_
    | with_reducible refine within_whenP ?_
    | with_reducible refine within_upd ?_
    | with_reducible refine within_ite ?_ ?_
    | with_reducible refine within_replicate ?_
    | with_reducible refine modMbx_within ?_
    | with_reducible refine modDatum_within ?_
    | with_reducible refine modSect_within ?_
    | with_reducible refine modFh_within ?_
    | with_reducible refine modGrat_within ?_
    | with_reducible refine modMash_within ?_
    | with_reducible refine modTx_within ?_
    | with_reducible refine modDpd_within ?_
    | with_reducible refine modRx_within ?_
    | with_reducible refine modConv_within ?_
    | with_reducible refine modHk_within ?_
    | with_reducible refine modRadio_within ?_
    | with_reducible refine modSurvey_within ?_
    | with_reducible refine modRffe_within ?_
    | with_reducible refine biasSheetClear_within ?_
    | with_reducible refine fillAll_within ?_
    | with_reducible refine resetRxRegs_within ?_
    | with_reducible refine resetStrobes_within ?_
    | with_reducible refine resetTxRegs_within ?_
    | with_reducible refine wipeCnts_within ?_
    | with_reducible refine wipeRegs_within ?_
    | with_reducible refine wipeUnit_within ?_
    | split
    | dsimp only
  all_goals rfl
@[simp] theorem wipeDomain_avoids {d : Nat} {g : Grp} (hg : g ∉ ([.cfg, .regs, .cnts, .tots, .mem, .mbx, .datum, .sect, .fh, .grat, .mash, .tx, .dpd, .rx, .conv, .hk, .radio, .survey, .bias, .rffe] : List Grp)) : Avoids g (wipeDomain d) := (wipeDomain_within (gs := [.cfg, .regs, .cnts, .tots, .mem, .mbx, .datum, .sect, .fh, .grat, .mash, .tx, .dpd, .rx, .conv, .hk, .radio, .survey, .bias, .rffe]) rfl).free hg

theorem biasRefresh_within {n : Nat} {gs : List Grp} (hgs : within [.cnts, .bias] gs = true) : Within gs (biasRefresh n) := by
  refine Within.lift hgs ?_
  clear hgs
  unfold biasRefresh
  repeat' first
    | with_reducible exact within_skip _
    | with_reducible exact within_nil _
    | with_reducible refine within_cons ?_ ?_
    | with_reducible refine within_seq ?_ ?_
    | with_reducible refine within_ask fun _ => ?_
    | with_reducible refine within_each fun _ => ?_
    | with_reducible refine within_whenP ?_
    | with_reducible refine within_upd ?_
    | with_reducible refine within_ite ?_ ?_
    | with_reducible refine within_replicate ?_
    | with_reducible refine count_within ?_
    | with_reducible refine modDac_within ?_
    | split
    | dsimp only
  all_goals rfl
@[simp] theorem biasRefresh_avoids {n : Nat} {g : Grp} (hg : g ∉ ([.cnts, .bias] : List Grp)) : Avoids g (biasRefresh n) := (biasRefresh_within (gs := [.cnts, .bias]) rfl).free hg

theorem biasFollow_within {gs : List Grp} (hgs : within [.bias] gs = true) : Within gs biasFollow := by
  refine Within.lift hgs ?_
  clear hgs
  unfold biasFollow
  repeat' first
    | with_reducible exact within_skip _
    | with_reducible exact within_nil _
    | with_reducible refine within_cons ?_ ?_
    | with_reducible refine within_seq ?_ ?_
    | with_reducible refine within_ask fun _ => ?_
    | with_reducible refine within_each fun _ => ?_
    | with_reducible refine within_whenP ?_
    | with_reducible refine within_upd ?_
    | with_reducible refine within_ite ?_ ?_
    | with_reducible refine within_replicate ?_
    | with_reducible refine modBias_within ?_
    | split
    | dsimp only
  all_goals rfl
@[simp] theorem biasFollow_avoids {g : Grp} (hg : g ∉ ([.bias] : List Grp)) : Avoids g biasFollow := (biasFollow_within (gs := [.bias]) rfl).free hg

theorem biasSheet_within {n : Nat} {gs : List Grp} (hgs : within [.cnts, .bias] gs = true) : Within gs (biasSheet n) := by
  refine Within.lift hgs ?_
  clear hgs
  unfold biasSheet
  repeat' first
    | with_reducible exact within_skip _
    | with_reducible exact within_nil _
    | with_reducible refine within_cons ?_ ?_
    | with_reducible refine within_seq ?_ ?_
    | with_reducible refine within_ask fun _ => ?_
    | with_reducible refine within_each fun _ => ?_
    | with_reducible refine within_whenP ?_
    | with_reducible refine within_upd ?_
    | with_reducible refine within_ite ?_ ?_
    | with_reducible refine within_replicate ?_
    | with_reducible refine biasRefresh_within ?_
    | split
    | dsimp only
  all_goals rfl
@[simp] theorem biasSheet_avoids {n : Nat} {g : Grp} (hg : g ∉ ([.cnts, .bias] : List Grp)) : Avoids g (biasSheet n) := (biasSheet_within (gs := [.cnts, .bias]) rfl).free hg

theorem identityEntries_within {p : Nat} {gs : List Grp} (hgs : within [.mem] gs = true) : Within gs (identityEntries p) := by
  refine Within.lift hgs ?_
  clear hgs
  unfold identityEntries
  repeat' first
    | with_reducible exact within_skip _
    | with_reducible exact within_nil _
    | with_reducible refine within_cons ?_ ?_
    | with_reducible refine within_seq ?_ ?_
    | with_reducible refine within_ask fun _ => ?_
    | with_reducible refine within_each fun _ => ?_
    | with_reducible refine within_whenP ?_
    | with_reducible refine within_upd ?_
    | with_reducible refine within_ite ?_ ?_
    | with_reducible refine within_replicate ?_
    | split
    | dsimp only
  all_goals rfl
@[simp] theorem identityEntries_avoids {p : Nat} {g : Grp} (hg : g ∉ ([.mem] : List Grp)) : Avoids g (identityEntries p) := (identityEntries_within (gs := [.mem]) rfl).free hg

theorem forgetElem_within {dir e : Nat} {gs : List Grp} (hgs : within [.mem, .mash, .dpd, .rx, .survey] gs = true) : Within gs (forgetElem dir e) := by
  refine Within.lift hgs ?_
  clear hgs
  unfold forgetElem
  repeat' first
    | with_reducible exact within_skip _
    | with_reducible exact within_nil _
    | with_reducible refine within_cons ?_ ?_
    | with_reducible refine within_seq ?_ ?_
    | with_reducible refine within_ask fun _ => ?_
    | with_reducible refine within_each fun _ => ?_
    | with_reducible refine within_whenP ?_
    | with_reducible refine within_upd ?_
    | with_reducible refine within_ite ?_ ?_
    | with_reducible refine within_replicate ?_
    | with_reducible refine modMash_within ?_
    | with_reducible refine modDpd_within ?_
    | with_reducible refine modRx_within ?_
    | with_reducible refine modSurvey_within ?_
    | with_reducible refine identityEntries_within ?_
    | split
    | dsimp only
  all_goals rfl
@[simp] theorem forgetElem_avoids {dir e : Nat} {g : Grp} (hg : g ∉ ([.mem, .mash, .dpd, .rx, .survey] : List Grp)) : Avoids g (forgetElem dir e) := (forgetElem_within (gs := [.mem, .mash, .dpd, .rx, .survey]) rfl).free hg

theorem isoForget_within {cls part : Nat} {gs : List Grp} (hgs : within [.mem, .mash, .dpd, .rx, .survey] gs = true) : Within gs (isoForget cls part) := by
  refine Within.lift hgs ?_
  clear hgs
  unfold isoForget
  repeat' first
    | with_reducible exact within_skip _
    | with_reducible exact within_nil _
    | with_reducible refine within_cons ?_ ?_
    | with_reducible refine within_seq ?_ ?_
    | with_reducible refine within_ask fun _ => ?_
    | with_reducible refine within_each fun _ => ?_
    | with_reducible refine within_whenP ?_
    | with_reducible refine within_upd ?_
    | with_reducible refine within_ite ?_ ?_
    | with_reducible refine within_replicate ?_
    | with_reducible refine modDpd_within ?_
    | with_reducible refine forgetElem_within ?_
    | split
    | dsimp only
  all_goals rfl
@[simp] theorem isoForget_avoids {cls part : Nat} {g : Grp} (hg : g ∉ ([.mem, .mash, .dpd, .rx, .survey] : List Grp)) : Avoids g (isoForget cls part) := (isoForget_within (gs := [.mem, .mash, .dpd, .rx, .survey]) rfl).free hg

theorem isoChange_within {b kind cls part : Nat} {gs : List Grp} (hgs : within [.cnts, .ecc, .clk, .fh, .dpd, .conv, .radio] gs = true) : Within gs (isoChange b kind cls part) := by
  refine Within.lift hgs ?_
  clear hgs
  unfold isoChange
  repeat' first
    | with_reducible exact within_skip _
    | with_reducible exact within_nil _
    | with_reducible refine within_cons ?_ ?_
    | with_reducible refine within_seq ?_ ?_
    | with_reducible refine within_ask fun _ => ?_
    | with_reducible refine within_each fun _ => ?_
    | with_reducible refine within_whenP ?_
    | with_reducible refine within_upd ?_
    | with_reducible refine within_ite ?_ ?_
    | with_reducible refine within_replicate ?_
    | with_reducible refine modEcc_within ?_
    | with_reducible refine modClk_within ?_
    | with_reducible refine modFh_within ?_
    | with_reducible refine modConv_within ?_
    | with_reducible refine count_within ?_
    | with_reducible refine modOrx_within ?_
    | with_reducible refine modSheet_within ?_
    | with_reducible refine setReason_within ?_
    | split
    | dsimp only
  all_goals rfl
@[simp] theorem isoChange_avoids {b kind cls part : Nat} {g : Grp} (hg : g ∉ ([.cnts, .ecc, .clk, .fh, .dpd, .conv, .radio] : List Grp)) : Avoids g (isoChange b kind cls part) := (isoChange_within (gs := [.cnts, .ecc, .clk, .fh, .dpd, .conv, .radio]) rfl).free hg

theorem isoEffect_within {b kind cls part : Nat} {gs : List Grp} (hgs : within [.cnts, .mem, .ecc, .clk, .fh, .mash, .dpd, .rx, .conv, .radio, .survey, .bias] gs = true) : Within gs (isoEffect b kind cls part) := by
  refine Within.lift hgs ?_
  clear hgs
  unfold isoEffect
  repeat' first
    | with_reducible exact within_skip _
    | with_reducible exact within_nil _
    | with_reducible refine within_cons ?_ ?_
    | with_reducible refine within_seq ?_ ?_
    | with_reducible refine within_ask fun _ => ?_
    | with_reducible refine within_each fun _ => ?_
    | with_reducible refine within_whenP ?_
    | with_reducible refine within_upd ?_
    | with_reducible refine within_ite ?_ ?_
    | with_reducible refine within_replicate ?_
    | with_reducible refine biasFollow_within ?_
    | with_reducible refine isoChange_within ?_
    | with_reducible refine isoForget_within ?_
    | split
    | dsimp only
  all_goals rfl
@[simp] theorem isoEffect_avoids {b kind cls part : Nat} {g : Grp} (hg : g ∉ ([.cnts, .mem, .ecc, .clk, .fh, .mash, .dpd, .rx, .conv, .radio, .survey, .bias] : List Grp)) : Avoids g (isoEffect b kind cls part) := (isoEffect_within (gs := [.cnts, .mem, .ecc, .clk, .fh, .mash, .dpd, .rx, .conv, .radio, .survey, .bias]) rfl).free hg

theorem applyIso_within {b boundary kind cls part : Nat} {gs : List Grp} (hgs : within [.cnts, .mem, .ecc, .mbx, .log, .evt, .clk, .fh, .mash, .dpd, .rx, .conv, .radio, .survey, .bias] gs = true) : Within gs (applyIso b boundary kind cls part) := by
  refine Within.lift hgs ?_
  clear hgs
  unfold applyIso
  repeat' first
    | with_reducible exact within_skip _
    | with_reducible exact within_nil _
    | with_reducible refine within_cons ?_ ?_
    | with_reducible refine within_seq ?_ ?_
    | with_reducible refine within_ask fun _ => ?_
    | with_reducible refine within_each fun _ => ?_
    | with_reducible refine within_whenP ?_
    | with_reducible refine within_upd ?_
    | with_reducible refine within_ite ?_ ?_
    | with_reducible refine within_replicate ?_
    | with_reducible refine isoEffect_within ?_
    | with_reducible refine logCommit_within ?_
    | split
    | dsimp only
  all_goals rfl
@[simp] theorem applyIso_avoids {b boundary kind cls part : Nat} {g : Grp} (hg : g ∉ ([.cnts, .mem, .ecc, .mbx, .log, .evt, .clk, .fh, .mash, .dpd, .rx, .conv, .radio, .survey, .bias] : List Grp)) : Avoids g (applyIso b boundary kind cls part) := (applyIso_within (gs := [.cnts, .mem, .ecc, .mbx, .log, .evt, .clk, .fh, .mash, .dpd, .rx, .conv, .radio, .survey, .bias]) rfl).free hg

theorem isolate_within {kind cls part : Nat} {gs : List Grp} (hgs : within [.cnts, .mem, .ecc, .mbx, .log, .evt, .clk, .fh, .mash, .dpd, .rx, .conv, .radio, .survey, .bias] gs = true) : Within gs (isolate kind cls part) := by
  refine Within.lift hgs ?_
  clear hgs
  unfold isolate
  repeat' first
    | with_reducible exact within_skip _
    | with_reducible exact within_nil _
    | with_reducible refine within_cons ?_ ?_
    | with_reducible refine within_seq ?_ ?_
    | with_reducible refine within_ask fun _ => ?_
    | with_reducible refine within_each fun _ => ?_
    | with_reducible refine within_whenP ?_
    | with_reducible refine within_upd ?_
    | with_reducible refine within_ite ?_ ?_
    | with_reducible refine within_replicate ?_
    | with_reducible refine applyIso_within ?_
    | with_reducible refine queueIso_within ?_
    | split
    | dsimp only
  all_goals rfl
@[simp] theorem isolate_avoids {kind cls part : Nat} {g : Grp} (hg : g ∉ ([.cnts, .mem, .ecc, .mbx, .log, .evt, .clk, .fh, .mash, .dpd, .rx, .conv, .radio, .survey, .bias] : List Grp)) : Avoids g (isolate kind cls part) := (isolate_within (gs := [.cnts, .mem, .ecc, .mbx, .log, .evt, .clk, .fh, .mash, .dpd, .rx, .conv, .radio, .survey, .bias]) rfl).free hg

theorem keepUl_within {v : UlView} {b : Nat} {gs : List Grp} (hgs : within [.fh] gs = true) : Within gs (keepUl v b) := by
  refine Within.lift hgs ?_
  clear hgs
  unfold keepUl
  repeat' first
    | with_reducible exact within_skip _
    | with_reducible exact within_nil _
    | with_reducible refine within_cons ?_ ?_
    | with_reducible refine within_seq ?_ ?_
    | with_reducible refine within_ask fun _ => ?_
    | with_reducible refine within_each fun _ => ?_
    | with_reducible refine within_whenP ?_
    | with_reducible refine within_upd ?_
    | with_reducible refine within_ite ?_ ?_
    | with_reducible refine within_replicate ?_
    | with_reducible refine modFh_within ?_
    | split
    | dsimp only
  all_goals rfl
@[simp] theorem keepUl_avoids {v : UlView} {b : Nat} {g : Grp} (hg : g ∉ ([.fh] : List Grp)) : Avoids g (keepUl v b) := (keepUl_within (gs := [.fh]) rfl).free hg

theorem holdUl_within {b : Nat} {gs : List Grp} (hgs : within [.fh] gs = true) : Within gs (holdUl b) := by
  refine Within.lift hgs ?_
  clear hgs
  unfold holdUl
  repeat' first
    | with_reducible exact within_skip _
    | with_reducible exact within_nil _
    | with_reducible refine within_cons ?_ ?_
    | with_reducible refine within_seq ?_ ?_
    | with_reducible refine within_ask fun _ => ?_
    | with_reducible refine within_each fun _ => ?_
    | with_reducible refine within_whenP ?_
    | with_reducible refine within_upd ?_
    | with_reducible refine within_ite ?_ ?_
    | with_reducible refine within_replicate ?_
    | with_reducible refine keepUl_within ?_
    | split
    | dsimp only
  all_goals rfl
@[simp] theorem holdUl_avoids {b : Nat} {g : Grp} (hg : g ∉ ([.fh] : List Grp)) : Avoids g (holdUl b) := (holdUl_within (gs := [.fh]) rfl).free hg

theorem tmrWrite_within {ws : List (Nat × Nat)} {gs : List Grp} (hgs : within [.ecc] gs = true) : Within gs (tmrWrite ws) := by
  refine Within.lift hgs ?_
  clear hgs
  unfold tmrWrite
  repeat' first
    | with_reducible exact within_skip _
    | with_reducible exact within_nil _
    | with_reducible refine within_cons ?_ ?_
    | with_reducible refine within_seq ?_ ?_
    | with_reducible refine within_ask fun _ => ?_
    | with_reducible refine within_each fun _ => ?_
    | with_reducible refine within_whenP ?_
    | with_reducible refine within_upd ?_
    | with_reducible refine within_ite ?_ ?_
    | with_reducible refine within_replicate ?_
    | with_reducible refine modEcc_within ?_
    | split
    | dsimp only
  all_goals rfl
@[simp] theorem tmrWrite_avoids {ws : List (Nat × Nat)} {g : Grp} (hg : g ∉ ([.ecc] : List Grp)) : Avoids g (tmrWrite ws) := (tmrWrite_within (gs := [.ecc]) rfl).free hg

theorem tmrScan_within {gs : List Grp} (hgs : within [.cnts, .ecc] gs = true) : Within gs tmrScan := by
  refine Within.lift hgs ?_
  clear hgs
  unfold tmrScan
  repeat' first
    | with_reducible exact within_skip _
    | with_reducible exact within_nil _
    | with_reducible refine within_cons ?_ ?_
    | with_reducible refine within_seq ?_ ?_
    | with_reducible refine within_ask fun _ => ?_
    | with_reducible refine within_each fun _ => ?_
    | with_reducible refine within_whenP ?_
    | with_reducible refine within_upd ?_
    | with_reducible refine within_ite ?_ ?_
    | with_reducible refine within_replicate ?_
    | with_reducible refine modEcc_within ?_
    | with_reducible refine countN_within ?_
    | split
    | dsimp only
  all_goals rfl
@[simp] theorem tmrScan_avoids {g : Grp} (hg : g ∉ ([.cnts, .ecc] : List Grp)) : Avoids g tmrScan := (tmrScan_within (gs := [.cnts, .ecc]) rfl).free hg

theorem tmrPowerUp_within {gs : List Grp} (hgs : within [.cnts, .ecc] gs = true) : Within gs tmrPowerUp := by
  refine Within.lift hgs ?_
  clear hgs
  unfold tmrPowerUp
  repeat' first
    | with_reducible exact within_skip _
    | with_reducible exact within_nil _
    | with_reducible refine within_cons ?_ ?_
    | with_reducible refine within_seq ?_ ?_
    | with_reducible refine within_ask fun _ => ?_
    | with_reducible refine within_each fun _ => ?_
    | with_reducible refine within_whenP ?_
    | with_reducible refine within_upd ?_
    | with_reducible refine within_ite ?_ ?_
    | with_reducible refine within_replicate ?_
    | with_reducible refine modEcc_within ?_
    | with_reducible refine tmrScan_within ?_
    | split
    | dsimp only
  all_goals rfl
@[simp] theorem tmrPowerUp_avoids {g : Grp} (hg : g ∉ ([.cnts, .ecc] : List Grp)) : Avoids g tmrPowerUp := (tmrPowerUp_within (gs := [.cnts, .ecc]) rfl).free hg

theorem cleanBytes_within {code lo hi : Nat} {gs : List Grp} (hgs : within [.ecc] gs = true) : Within gs (cleanBytes code lo hi) := by
  refine Within.lift hgs ?_
  clear hgs
  unfold cleanBytes
  repeat' first
    | with_reducible exact within_skip _
    | with_reducible exact within_nil _
    | with_reducible refine within_cons ?_ ?_
    | with_reducible refine within_seq ?_ ?_
    | with_reducible refine within_ask fun _ => ?_
    | with_reducible refine within_each fun _ => ?_
    | with_reducible refine within_whenP ?_
    | with_reducible refine within_upd ?_
    | with_reducible refine within_ite ?_ ?_
    | with_reducible refine within_replicate ?_
    | with_reducible refine modEcc_within ?_
    | split
    | dsimp only
  all_goals rfl
@[simp] theorem cleanBytes_avoids {code lo hi : Nat} {g : Grp} (hg : g ∉ ([.ecc] : List Grp)) : Avoids g (cleanBytes code lo hi) := (cleanBytes_within (gs := [.ecc]) rfl).free hg

theorem freshCask_within {k : Nat} {gs : List Grp} (hgs : within [.mem, .ecc, .sect] gs = true) : Within gs (freshCask k) := by
  refine Within.lift hgs ?_
  clear hgs
  unfold freshCask
  repeat' first
    | with_reducible exact within_skip _
    | with_reducible exact within_nil _
    | with_reducible refine within_cons ?_ ?_
    | with_reducible refine within_seq ?_ ?_
    | with_reducible refine within_ask fun _ => ?_
    | with_reducible refine within_each fun _ => ?_
    | with_reducible refine within_whenP ?_
    | with_reducible refine within_upd ?_
    | with_reducible refine within_ite ?_ ?_
    | with_reducible refine within_replicate ?_
    | with_reducible refine modSect_within ?_
    | with_reducible refine cleanBytes_within ?_
    | split
    | dsimp only
  all_goals rfl
@[simp] theorem freshCask_avoids {k : Nat} {g : Grp} (hg : g ∉ ([.mem, .ecc, .sect] : List Grp)) : Avoids g (freshCask k) := (freshCask_within (gs := [.mem, .ecc, .sect]) rfl).free hg

theorem clearCask_within {k : Nat} {gs : List Grp} (hgs : within [.mem, .ecc, .pwr, .sect] gs = true) : Within gs (clearCask k) := by
  refine Within.lift hgs ?_
  clear hgs
  unfold clearCask
  repeat' first
    | with_reducible exact within_skip _
    | with_reducible exact within_nil _
    | with_reducible refine within_cons ?_ ?_
    | with_reducible refine within_seq ?_ ?_
    | with_reducible refine within_ask fun _ => ?_
    | with_reducible refine within_each fun _ => ?_
    | with_reducible refine within_whenP ?_
    | with_reducible refine within_upd ?_
    | with_reducible refine within_ite ?_ ?_
    | with_reducible refine within_replicate ?_
    | with_reducible refine modPwr_within ?_
    | with_reducible refine freshCask_within ?_
    | split
    | dsimp only
  all_goals rfl
@[simp] theorem clearCask_avoids {k : Nat} {g : Grp} (hg : g ∉ ([.mem, .ecc, .pwr, .sect] : List Grp)) : Avoids g (clearCask k) := (clearCask_within (gs := [.mem, .ecc, .pwr, .sect]) rfl).free hg

end Sys2Proof.Laws
end

