-- ==== Sys2Proof/Laws/Reach2.lean ====
section
/-! SUPPORT. The groups of the state that each shared operation can reach: `x_within` for every list that holds them, `x_avoids` for
every other group, so that simp reads an untouched field through any program. -/

namespace Sys2Proof.Laws

open Sys2Proof Sys2Proof.Machine

theorem captureLost_within {d : Nat} {gs : List Grp} (hgs : within [.cap] gs = true) : Within gs (captureLost d) := by
  refine Within.lift hgs ?_
  clear hgs
  unfold captureLost
  repeat' first
    | with_reducible exact within_skip _
    | with_reducible exact within_nil _
    | with_reducible refine within_cons ?_ ?_
    | with_reducible refine within_seq ?_ ?_
    | with_reducible refine within_ask fun _ => ?_
    | with_reducible refine within_each fun _ => ?_
    | with_reducible refine within_whenP ?_
    | with_reducible refine within_upd ?_
    | with_reducible refine within_ite ?_ ?_
    | with_reducible refine within_replicate ?_
    | with_reducible refine modCap_within ?_
    | split
    | dsimp only
  all_goals rfl
@[simp] theorem captureLost_avoids {d : Nat} {g : Grp} (hg : g ∉ ([.cap] : List Grp)) : Avoids g (captureLost d) := (captureLost_within (gs := [.cap]) rfl).free hg

theorem leaveConsequences_within {d : Nat} {gs : List Grp} (hgs : within [.cnts, .mbx, .datum, .fh, .mash, .dpd, .conv, .radio, .bias, .rffe] gs = true) : Within gs (leaveConsequences d) := by
  refine Within.lift hgs ?_
  clear hgs
  unfold leaveConsequences
  repeat' first
    | with_reducible exact within_skip _
    | with_reducible exact within_nil _
    | with_reducible refine within_cons ?_ ?_
    | with_reducible refine within_seq ?_ ?_
    | with_reducible refine within_ask fun _ => ?_
    | with_reducible refine within_each fun _ => ?_
    | with_reducible refine within_whenP ?_
    | with_reducible refine within_upd ?_
    | with_reducible refine within_ite ?_ ?_
    | with_reducible refine within_replicate ?_
    | with_reducible refine modMbx_within ?_
    | with_reducible refine modDatum_within ?_
    | with_reducible refine modFh_within ?_
    | with_reducible refine modRadio_within ?_
    | with_reducible refine modRffe_within ?_
    | with_reducible refine biasSheetClear_within ?_
    | with_reducible refine convStop_within ?_
    | with_reducible refine countN_within ?_
    | with_reducible refine dpdLost_within ?_
    | with_reducible refine hkConvTo_within ?_
    | with_reducible refine mashLost_within ?_
    | split
    | dsimp only
  all_goals rfl
@[simp] theorem leaveConsequences_avoids {d : Nat} {g : Grp} (hg : g ∉ ([.cnts, .mbx, .datum, .fh, .mash, .dpd, .conv, .radio, .bias, .rffe] : List Grp)) : Avoids g (leaveConsequences d) := (leaveConsequences_within (gs := [.cnts, .mbx, .datum, .fh, .mash, .dpd, .conv, .radio, .bias, .rffe]) rfl).free hg

theorem beginLeave_within {d target : Nat} {gs : List Grp} (hgs : within [.cnts, .mbx, .clk, .datum, .pwr, .cap, .fh, .mash, .dpd, .conv, .radio, .bias, .rffe] gs = true) : Within gs (beginLeave d target) := by
  refine Within.lift hgs ?_
  clear hgs
  unfold beginLeave
  repeat' first
    | with_reducible exact within_skip _
    | with_reducible exact within_nil _
    | with_reducible refine within_cons ?_ ?_
    | with_reducible refine within_seq ?_ ?_
    | with_reducible refine within_ask fun _ => ?_
    | with_reducible refine within_each fun _ => ?_
    | with_reducible refine within_whenP ?_
    | with_reducible refine within_upd ?_
    | with_reducible refine within_ite ?_ ?_
    | with_reducible refine within_replicate ?_
    | with_reducible refine modPwr_within ?_
    | with_reducible refine captureLost_within ?_
    | with_reducible refine leaveConsequences_within ?_
    | with_reducible refine stamp_within ?_
    | split
    | dsimp only
  all_goals rfl
@[simp] theorem beginLeave_avoids {d target : Nat} {g : Grp} (hg : g ∉ ([.cnts, .mbx, .clk, .datum, .pwr, .cap, .fh, .mash, .dpd, .conv, .radio, .bias, .rffe] : List Grp)) : Avoids g (beginLeave d target) := (beginLeave_within (gs := [.cnts, .mbx, .clk, .datum, .pwr, .cap, .fh, .mash, .dpd, .conv, .radio, .bias, .rffe]) rfl).free hg

theorem quiesced_within {dom : Nat} {v : DomState} {gs : List Grp} (hgs : within [.clk, .pwr] gs = true) : Within gs (quiesced dom v) := by
  refine Within.lift hgs ?_
  clear hgs
  unfold quiesced
  repeat' first
    | with_reducible exact within_skip _
    | with_reducible exact within_nil _
    | with_reducible refine within_cons ?_ ?_
    | with_reducible refine within_seq ?_ ?_
    | with_reducible refine within_ask fun _ => ?_
    | with_reducible refine within_each fun _ => ?_
    | with_reducible refine within_whenP ?_
    | with_reducible refine within_upd ?_
    | with_reducible refine within_ite ?_ ?_
    | with_reducible refine within_replicate ?_
    | with_reducible refine setDom_within ?_
    | with_reducible refine stamp_within ?_
    | split
    | dsimp only
  all_goals rfl
@[simp] theorem quiesced_avoids {dom : Nat} {v : DomState} {g : Grp} (hg : g ∉ ([.clk, .pwr] : List Grp)) : Avoids g (quiesced dom v) := (quiesced_within (gs := [.clk, .pwr]) rfl).free hg

theorem failDomain_within {d status : Nat} {gs : List Grp} (hgs : within [.pwr] gs = true) : Within gs (failDomain d status) := by
  refine Within.lift hgs ?_
  clear hgs
  unfold failDomain
  repeat' first
    | with_reducible exact within_skip _
    | with_reducible exact within_nil _
    | with_reducible refine within_cons ?_ ?_
    | with_reducible refine within_seq ?_ ?_
    | with_reducible refine within_ask fun _ => ?_
    | with_reducible refine within_each fun _ => ?_
    | with_reducible refine within_whenP ?_
    | with_reducible refine within_upd ?_
    | with_reducible refine within_ite ?_ ?_
    | with_reducible refine within_replicate ?_
    | with_reducible refine modPwr_within ?_
    | split
    | dsimp only
  all_goals rfl
@[simp] theorem failDomain_avoids {d status : Nat} {g : Grp} (hg : g ∉ ([.pwr] : List Grp)) : Avoids g (failDomain d status) := (failDomain_within (gs := [.pwr]) rfl).free hg

theorem busAbort_within {x : Nat × Nat} {gs : List Grp} (hgs : within [.host, .mash, .dpd] gs = true) : Within gs (busAbort x) := by
  refine Within.lift hgs ?_
  clear hgs
  unfold busAbort
  repeat' first
    | with_reducible exact within_skip _
    | with_reducible exact within_nil _
    | with_reducible refine within_cons ?_ ?_
    | with_reducible refine within_seq ?_ ?_
    | with_reducible refine within_ask fun _ => ?_
    | with_reducible refine within_each fun _ => ?_
    | with_reducible refine within_whenP ?_
    | with_reducible refine within_upd ?_
    | with_reducible refine within_ite ?_ ?_
    | with_reducible refine within_replicate ?_
    | with_reducible refine modHost_within ?_
    | with_reducible refine modMash_within ?_
    | with_reducible refine dpdLost_within ?_
    | split
    | dsimp only
  all_goals rfl
@[simp] theorem busAbort_avoids {x : Nat × Nat} {g : Grp} (hg : g ∉ ([.host, .mash, .dpd] : List Grp)) : Avoids g (busAbort x) := (busAbort_within (gs := [.host, .mash, .dpd]) rfl).free hg

theorem saveCapture_within {d : Nat} {gs : List Grp} (hgs : within [.pwr] gs = true) : Within gs (saveCapture d) := by
  refine Within.lift hgs ?_
  clear hgs
  unfold saveCapture
  repeat' first
    | with_reducible exact within_skip _
    | with_reducible exact within_nil _
    | with_reducible refine within_cons ?_ ?_
    | with_reducible refine within_seq ?_ ?_
    | with_reducible refine within_ask fun _ => ?_
    | with_reducible refine within_each fun _ => ?_
    | with_reducible refine within_whenP ?_
    | with_reducible refine within_upd ?_
    | with_reducible refine within_ite ?_ ?_
    | with_reducible refine within_replicate ?_
    | with_reducible refine modPwr_within ?_
    | split
    | dsimp only
  all_goals rfl
@[simp] theorem saveCapture_avoids {d : Nat} {g : Grp} (hg : g ∉ ([.pwr] : List Grp)) : Avoids g (saveCapture d) := (saveCapture_within (gs := [.pwr]) rfl).free hg

theorem initUncasked_within {d : Nat} {gs : List Grp} (hgs : within [.mem, .ecc] gs = true) : Within gs (initUncasked d) := by
  refine Within.lift hgs ?_
  clear hgs
  unfold initUncasked
  repeat' first
    | with_reducible exact within_skip _
    | with_reducible exact within_nil _
    | with_reducible refine within_cons ?_ ?_
    | with_reducible refine within_seq ?_ ?_
    | with_reducible refine within_ask fun _ => ?_
    | with_reducible refine within_each fun _ => ?_
    | with_reducible refine within_whenP ?_
    | with_reducible refine within_upd ?_
    | with_reducible refine within_ite ?_ ?_
    | with_reducible refine within_replicate ?_
    | with_reducible refine cleanBytes_within ?_
    | with_reducible refine fillAll_within ?_
    | split
    | dsimp only
  all_goals rfl
@[simp] theorem initUncasked_avoids {d : Nat} {g : Grp} (hg : g ∉ ([.mem, .ecc] : List Grp)) : Avoids g (initUncasked d) := (initUncasked_within (gs := [.mem, .ecc]) rfl).free hg

theorem identitySheet_within {n : Nat} {gs : List Grp} (hgs : within [.mem, .ecc, .sect, .dpd] gs = true) : Within gs (identitySheet n) := by
  refine Within.lift hgs ?_
  clear hgs
  unfold identitySheet
  repeat' first
    | with_reducible exact within_skip _
    | with_reducible exact within_nil _
    | with_reducible refine within_cons ?_ ?_
    | with_reducible refine within_seq ?_ ?_
    | with_reducible refine within_ask fun _ => ?_
    | with_reducible refine within_each fun _ => ?_
    | with_reducible refine within_whenP ?_
    | with_reducible refine within_upd ?_
    | with_reducible refine within_ite ?_ ?_
    | with_reducible refine within_replicate ?_
    | with_reducible refine modDpd_within ?_
    | with_reducible refine freshCask_within ?_
    | with_reducible refine identityEntries_within ?_
    | split
    | dsimp only
  all_goals rfl
@[simp] theorem identitySheet_avoids {n : Nat} {g : Grp} (hg : g ∉ ([.mem, .ecc, .sect, .dpd] : List Grp)) : Avoids g (identitySheet n) := (identitySheet_within (gs := [.mem, .ecc, .sect, .dpd]) rfl).free hg

theorem wakeConsequences_within {s : State} {d : Nat} {gs : List Grp} (hgs : within [.mem, .ecc, .clk, .datum, .sect, .fh, .dpd, .conv, .hk, .bias] gs = true) : Within gs (wakeConsequences s d) := by
  refine Within.lift hgs ?_
  clear hgs
  unfold wakeConsequences
  repeat' first
    | with_reducible exact within_skip _
    | with_reducible exact within_nil _
    | with_reducible refine within_cons ?_ ?_
    | with_reducible refine within_seq ?_ ?_
    | with_reducible refine within_ask fun _ => ?_
    | with_reducible refine within_each fun _ => ?_
    | with_reducible refine within_whenP ?_
    | with_reducible refine within_upd ?_
    | with_reducible refine within_ite ?_ ?_
    | with_reducible refine within_replicate ?_
    | with_reducible refine modClk_within ?_
    | with_reducible refine modDatum_within ?_
    | with_reducible refine modSect_within ?_
    | with_reducible refine modFh_within ?_
    | with_reducible refine modHk_within ?_
    | with_reducible refine biasFollow_within ?_
    | with_reducible refine convStart_within ?_
    | with_reducible refine hkConvTo_within ?_
    | with_reducible refine identitySheet_within ?_
    | split
    | dsimp only
  all_goals rfl
@[simp] theorem wakeConsequences_avoids {s : State} {d : Nat} {g : Grp} (hg : g ∉ ([.mem, .ecc, .clk, .datum, .sect, .fh, .dpd, .conv, .hk, .bias] : List Grp)) : Avoids g (wakeConsequences s d) := (wakeConsequences_within (gs := [.mem, .ecc, .clk, .datum, .sect, .fh, .dpd, .conv, .hk, .bias]) rfl).free hg

theorem forceAllOff_within {gs : List Grp} (hgs : within [.cfg, .regs, .cnts, .tots, .mem, .mbx, .datum, .pwr, .sect, .fh, .grat, .mash, .tx, .dpd, .rx, .conv, .hk, .radio, .survey, .bias, .rffe] gs = true) : Within gs forceAllOff := by
  refine Within.lift hgs ?_
  clear hgs
  unfold forceAllOff
  repeat' first
    | with_reducible exact within_skip _
    | with_reducible exact within_nil _
    | with_reducible refine within_cons ?_ ?_
    | with_reducible refine within_seq ?_ ?_
    | with_reducible refine within_ask fun _ => ?_
    | with_reducible refine within_each fun _ => ?_
    | with_reducible refine within_whenP ?_
    | with_reducible refine within_upd ?_
    | with_reducible refine within_ite ?_ ?_
    | with_reducible refine within_replicate ?_
    | with_reducible refine modPwr_within ?_
    | with_reducible refine wipeDomain_within ?_
    | split
    | dsimp only
  all_goals rfl
@[simp] theorem forceAllOff_avoids {g : Grp} (hg : g ∉ ([.cfg, .regs, .cnts, .tots, .mem, .mbx, .datum, .pwr, .sect, .fh, .grat, .mash, .tx, .dpd, .rx, .conv, .hk, .radio, .survey, .bias, .rffe] : List Grp)) : Avoids g forceAllOff := (forceAllOff_within (gs := [.cfg, .regs, .cnts, .tots, .mem, .mbx, .datum, .pwr, .sect, .fh, .grat, .mash, .tx, .dpd, .rx, .conv, .hk, .radio, .survey, .bias, .rffe]) rfl).free hg

theorem railsWake_within {gs : List Grp} (hgs : within [.cnts, .tots, .ecc, .host, .mbx, .log, .evt, .txn, .clk, .datum, .pwr, .kiln, .boot, .cap, .fh, .mash, .tx, .dpd, .rx, .conv, .radio, .survey, .bias, .rffe] gs = true) : Within gs railsWake := by
  refine Within.lift hgs ?_
  clear hgs
  unfold railsWake
  repeat' first
    | with_reducible exact within_skip _
    | with_reducible exact within_nil _
    | with_reducible refine within_cons ?_ ?_
    | with_reducible refine within_seq ?_ ?_
    | with_reducible refine within_ask fun _ => ?_
    | with_reducible refine within_each fun _ => ?_
    | with_reducible refine within_whenP ?_
    | with_reducible refine within_upd ?_
    | with_reducible refine within_ite ?_ ?_
    | with_reducible refine within_replicate ?_
    | with_reducible refine modBoot_within ?_
    | with_reducible refine beginWake_within ?_
    | with_reducible refine startReset_within ?_
    | split
    | dsimp only
  all_goals rfl
@[simp] theorem railsWake_avoids {g : Grp} (hg : g ∉ ([.cnts, .tots, .ecc, .host, .mbx, .log, .evt, .txn, .clk, .datum, .pwr, .kiln, .boot, .cap, .fh, .mash, .tx, .dpd, .rx, .conv, .radio, .survey, .bias, .rffe] : List Grp)) : Avoids g railsWake := (railsWake_within (gs := [.cnts, .tots, .ecc, .host, .mbx, .log, .evt, .txn, .clk, .datum, .pwr, .kiln, .boot, .cap, .fh, .mash, .tx, .dpd, .rx, .conv, .radio, .survey, .bias, .rffe]) rfl).free hg

theorem pwrRestart_within {gs : List Grp} (hgs : within [.clk, .pwr] gs = true) : Within gs pwrRestart := by
  refine Within.lift hgs ?_
  clear hgs
  unfold pwrRestart
  repeat' first
    | with_reducible exact within_skip _
    | with_reducible exact within_nil _
    | with_reducible refine within_cons ?_ ?_
    | with_reducible refine within_seq ?_ ?_
    | with_reducible refine within_ask fun _ => ?_
    | with_reducible refine within_each fun _ => ?_
    | with_reducible refine within_whenP ?_
    | with_reducible refine within_upd ?_
    | with_reducible refine within_ite ?_ ?_
    | with_reducible refine within_replicate ?_
    | with_reducible refine modPwr_within ?_
    | with_reducible refine stamp_within ?_
    | split
    | dsimp only
  all_goals rfl
@[simp] theorem pwrRestart_avoids {g : Grp} (hg : g ∉ ([.clk, .pwr] : List Grp)) : Avoids g pwrRestart := (pwrRestart_within (gs := [.clk, .pwr]) rfl).free hg

theorem pwrWake_within {gs : List Grp} (hgs : within [.cnts, .tots, .ecc, .host, .mbx, .log, .evt, .txn, .clk, .datum, .pwr, .kiln, .boot, .cap, .fh, .mash, .tx, .dpd, .rx, .conv, .radio, .survey, .bias, .rffe] gs = true) : Within gs pwrWake := by
  refine Within.lift hgs ?_
  clear hgs
  unfold pwrWake
  repeat' first
    | with_reducible exact within_skip _
    | with_reducible exact within_nil _
    | with_reducible refine within_cons ?_ ?_
    | with_reducible refine within_seq ?_ ?_
    | with_reducible refine within_ask fun _ => ?_
    | with_reducible refine within_each fun _ => ?_
    | with_reducible refine within_whenP ?_
    | with_reducible refine within_upd ?_
    | with_reducible refine within_ite ?_ ?_
    | with_reducible refine within_replicate ?_
    | with_reducible refine beginWake_within ?_
    | with_reducible refine startReset_within ?_
    | split
    | dsimp only
  all_goals rfl
@[simp] theorem pwrWake_avoids {g : Grp} (hg : g ∉ ([.cnts, .tots, .ecc, .host, .mbx, .log, .evt, .txn, .clk, .datum, .pwr, .kiln, .boot, .cap, .fh, .mash, .tx, .dpd, .rx, .conv, .radio, .survey, .bias, .rffe] : List Grp)) : Avoids g pwrWake := (pwrWake_within (gs := [.cnts, .tots, .ecc, .host, .mbx, .log, .evt, .txn, .clk, .datum, .pwr, .kiln, .boot, .cap, .fh, .mash, .tx, .dpd, .rx, .conv, .radio, .survey, .bias, .rffe]) rfl).free hg

theorem tryNext_within {gs : List Grp} (hgs : within [.ecc, .boot] gs = true) : Within gs tryNext := by
  refine Within.lift hgs ?_
  clear hgs
  unfold tryNext
  repeat' first
    | with_reducible exact within_skip _
    | with_reducible exact within_nil _
    | with_reducible refine within_cons ?_ ?_
    | with_reducible refine within_seq ?_ ?_
    | with_reducible refine within_ask fun _ => ?_
    | with_reducible refine within_each fun _ => ?_
    | with_reducible refine within_whenP ?_
    | with_reducible refine within_upd ?_
    | with_reducible refine within_ite ?_ ?_
    | with_reducible refine within_replicate ?_
    | with_reducible refine modBoot_within ?_
    | with_reducible refine tmrWrite_within ?_
    | split
    | dsimp only
  all_goals rfl
@[simp] theorem tryNext_avoids {g : Grp} (hg : g ∉ ([.ecc, .boot] : List Grp)) : Avoids g tryNext := (tryNext_within (gs := [.ecc, .boot]) rfl).free hg

theorem slotFails_within {r : Nat} {gs : List Grp} (hgs : within [.ecc, .boot] gs = true) : Within gs (slotFails r) := by
  refine Within.lift hgs ?_
  clear hgs
  unfold slotFails
  repeat' first
    | with_reducible exact within_skip _
    | with_reducible exact within_nil _
    | with_reducible refine within_cons ?_ ?_
    | with_reducible refine within_seq ?_ ?_
    | with_reducible refine within_ask fun _ => ?_
    | with_reducible refine within_each fun _ => ?_
    | with_reducible refine within_whenP ?_
    | with_reducible refine within_upd ?_
    | with_reducible refine within_ite ?_ ?_
    | with_reducible refine within_replicate ?_
    | with_reducible refine modBoot_within ?_
    | with_reducible refine tmrWrite_within ?_
    | with_reducible refine tryNext_within ?_
    | split
    | dsimp only
  all_goals rfl
@[simp] theorem slotFails_avoids {r : Nat} {g : Grp} (hg : g ∉ ([.ecc, .boot] : List Grp)) : Avoids g (slotFails r) := (slotFails_within (gs := [.ecc, .boot]) rfl).free hg

theorem mailboxReady_within {inband : Bool} {gs : List Grp} (hgs : within [.host, .mbx] gs = true) : Within gs (mailboxReady inband) := by
  refine Within.lift hgs ?_
  clear hgs
  unfold mailboxReady
  repeat' first
    | with_reducible exact within_skip _
    | with_reducible exact within_nil _
    | with_reducible refine within_cons ?_ ?_
    | with_reducible refine within_seq ?_ ?_
    | with_reducible refine within_ask fun _ => ?_
    | with_reducible refine within_each fun _ => ?_
    | with_reducible refine within_whenP ?_
    | with_reducible refine within_upd ?_
    | with_reducible refine within_ite ?_ ?_
    | with_reducible refine within_replicate ?_
    | with_reducible refine modHost_within ?_
    | with_reducible refine modMbx_within ?_
    | split
    | dsimp only
  all_goals rfl
@[simp] theorem mailboxReady_avoids {inband : Bool} {g : Grp} (hg : g ∉ ([.host, .mbx] : List Grp)) : Avoids g (mailboxReady inband) := (mailboxReady_within (gs := [.host, .mbx]) rfl).free hg

theorem held_within {gs : List Grp} (hgs : within [.cnts] gs = true) : Within gs held := by
  refine Within.lift hgs ?_
  clear hgs
  unfold held
  repeat' first
    | with_reducible exact within_skip _
    | with_reducible exact within_nil _
    | with_reducible refine within_cons ?_ ?_
    | with_reducible refine within_seq ?_ ?_
    | with_reducible refine within_ask fun _ => ?_
    | with_reducible refine within_each fun _ => ?_
    | with_reducible refine within_whenP ?_
    | with_reducible refine within_upd ?_
    | with_reducible refine within_ite ?_ ?_
    | with_reducible refine within_replicate ?_
    | with_reducible refine count_within ?_
    | split
    | dsimp only
  all_goals rfl
@[simp] theorem held_avoids {g : Grp} (hg : g ∉ ([.cnts] : List Grp)) : Avoids g held := (held_within (gs := [.cnts]) rfl).free hg

theorem noteUncorr_within {code off : Nat} {gs : List Grp} (hgs : within [.cnts, .ecc, .mbx, .evt] gs = true) : Within gs (noteUncorr code off) := by
  refine Within.lift hgs ?_
  clear hgs
  unfold noteUncorr
  repeat' first
    | with_reducible exact within_skip _
    | with_reducible exact within_nil _
    | with_reducible refine within_cons ?_ ?_
    | with_reducible refine within_seq ?_ ?_
    | with_reducible refine within_ask fun _ => ?_
    | with_reducible refine within_each fun _ => ?_
    | with_reducible refine within_whenP ?_
    | with_reducible refine within_upd ?_
    | with_reducible refine within_ite ?_ ?_
    | with_reducible refine within_replicate ?_
    | with_reducible refine modEcc_within ?_
    | with_reducible refine count_within ?_
    | with_reducible refine raise_within ?_
    | split
    | dsimp only
  all_goals rfl
@[simp] theorem noteUncorr_avoids {code off : Nat} {g : Grp} (hg : g ∉ ([.cnts, .ecc, .mbx, .evt] : List Grp)) : Avoids g (noteUncorr code off) := (noteUncorr_within (gs := [.cnts, .ecc, .mbx, .evt]) rfl).free hg

theorem queueVisit_within {code off : Nat} {gs : List Grp} (hgs : within [.ecc] gs = true) : Within gs (queueVisit code off) := by
  refine Within.lift hgs ?_
  clear hgs
  unfold queueVisit
  repeat' first
    | with_reducible exact within_skip _
    | with_reducible exact within_nil _
    | with_reducible refine within_cons ?_ ?_
    | with_reducible refine within_seq ?_ ?_
    | with_reducible refine within_ask fun _ => ?_
    | with_reducible refine within_each fun _ => ?_
    | with_reducible refine within_whenP ?_
    | with_reducible refine within_upd ?_
    | with_reducible refine within_ite ?_ ?_
    | with_reducible refine within_replicate ?_
    | with_reducible refine modEcc_within ?_
    | split
    | dsimp only
  all_goals rfl
@[simp] theorem queueVisit_avoids {code off : Nat} {g : Grp} (hg : g ∉ ([.ecc] : List Grp)) : Avoids g (queueVisit code off) := (queueVisit_within (gs := [.ecc]) rfl).free hg

theorem noteUnit_within {code off : Nat} {gs : List Grp} (hgs : within [.cnts, .ecc, .mbx, .evt] gs = true) : Within gs (noteUnit code off) := by
  refine Within.lift hgs ?_
  clear hgs
  unfold noteUnit
  repeat' first
    | with_reducible exact within_skip _
    | with_reducible exact within_nil _
    | with_reducible refine within_cons ?_ ?_
    | with_reducible refine within_seq ?_ ?_
    | with_reducible refine within_ask fun _ => ?_
    | with_reducible refine within_each fun _ => ?_
    | with_reducible refine within_whenP ?_
    | with_reducible refine within_upd ?_
    | with_reducible refine within_ite ?_ ?_
    | with_reducible refine within_replicate ?_
    | with_reducible refine count_within ?_
    | with_reducible refine noteUncorr_within ?_
    | with_reducible refine queueVisit_within ?_
    | split
    | dsimp only
  all_goals rfl
@[simp] theorem noteUnit_avoids {code off : Nat} {g : Grp} (hg : g ∉ ([.cnts, .ecc, .mbx, .evt] : List Grp)) : Avoids g (noteUnit code off) := (noteUnit_within (gs := [.cnts, .ecc, .mbx, .evt]) rfl).free hg

theorem noteRead_within {code off n : Nat} {gs : List Grp} (hgs : within [.cnts, .ecc, .mbx, .evt] gs = true) : Within gs (noteRead code off n) := by
  refine Within.lift hgs ?_
  clear hgs
  unfold noteRead
  repeat' first
    | with_reducible exact within_skip _
    | with_reducible exact within_nil _
    | with_reducible refine within_cons ?_ ?_
    | with_reducible refine within_seq ?_ ?_
    | with_reducible refine within_ask fun _ => ?_
    | with_reducible refine within_each fun _ => ?_
    | with_reducible refine within_whenP ?_
    | with_reducible refine within_upd ?_
    | with_reducible refine within_ite ?_ ?_
    | with_reducible refine within_replicate ?_
    | with_reducible refine noteUnit_within ?_
    | split
    | dsimp only
  all_goals rfl
@[simp] theorem noteRead_avoids {code off n : Nat} {g : Grp} (hg : g ∉ ([.cnts, .ecc, .mbx, .evt] : List Grp)) : Avoids g (noteRead code off n) := (noteRead_within (gs := [.cnts, .ecc, .mbx, .evt]) rfl).free hg

theorem noteWrite_within {code off n : Nat} {gs : List Grp} (hgs : within [.ecc] gs = true) : Within gs (noteWrite code off n) := by
  refine Within.lift hgs ?_
  clear hgs
  unfold noteWrite
  repeat' first
    | with_reducible exact within_skip _
    | with_reducible exact within_nil _
    | with_reducible refine within_cons ?_ ?_
    | with_reducible refine within_seq ?_ ?_
    | with_reducible refine within_ask fun _ => ?_
    | with_reducible refine within_each fun _ => ?_
    | with_reducible refine within_whenP ?_
    | with_reducible refine within_upd ?_
    | with_reducible refine within_ite ?_ ?_
    | with_reducible refine within_replicate ?_
    | with_reducible refine modEcc_within ?_
    | split
    | dsimp only
  all_goals rfl
@[simp] theorem noteWrite_avoids {code off n : Nat} {g : Grp} (hg : g ∉ ([.ecc] : List Grp)) : Avoids g (noteWrite code off n) := (noteWrite_within (gs := [.ecc]) rfl).free hg

theorem store_within {i : MemId} {code off : Nat} {v : Rec} {gs : List Grp} (hgs : within [.mem, .ecc] gs = true) : Within gs (store i code off v) := by
  refine Within.lift hgs ?_
  clear hgs
  unfold store
  repeat' first
    | with_reducible exact within_skip _
    | with_reducible exact within_nil _
    | with_reducible refine within_cons ?_ ?_
    | with_reducible refine within_seq ?_ ?_
    | with_reducible refine within_ask fun _ => ?_
    | with_reducible refine within_each fun _ => ?_
    | with_reducible refine within_whenP ?_
    | with_reducible refine within_upd ?_
    | with_reducible refine within_ite ?_ ?_
    | with_reducible refine within_replicate ?_
    | with_reducible refine noteWrite_within ?_
    | with_reducible refine pokes_within ?_
    | split
    | dsimp only
  all_goals rfl
@[simp] theorem store_avoids {i : MemId} {code off : Nat} {v : Rec} {g : Grp} (hg : g ∉ ([.mem, .ecc] : List Grp)) : Avoids g (store i code off v) := (store_within (gs := [.mem, .ecc]) rfl).free hg

theorem hardFault_within {code unit : Nat} {gs : List Grp} (hgs : within [.cnts, .ecc, .mbx, .evt] gs = true) : Within gs (hardFault code unit) := by
  refine Within.lift hgs ?_
  clear hgs
  unfold hardFault
  repeat' first
    | with_reducible exact within_skip _
    | with_reducible exact within_nil _
    | with_reducible refine within_cons ?_ ?_
    | with_reducible refine within_seq ?_ ?_
    | with_reducible refine within_ask fun _ => ?_
    | with_reducible refine within_each fun _ => ?_
    | with_reducible refine within_whenP ?_
    | with_reducible refine within_upd ?_
    | with_reducible refine within_ite ?_ ?_
    | with_reducible refine within_replicate ?_
    | with_reducible refine modEcc_within ?_
    | with_reducible refine count_within ?_
    | with_reducible refine raise_within ?_
    | split
    | dsimp only
  all_goals rfl
@[simp] theorem hardFault_avoids {code unit : Nat} {g : Grp} (hg : g ∉ ([.cnts, .ecc, .mbx, .evt] : List Grp)) : Avoids g (hardFault code unit) := (hardFault_within (gs := [.cnts, .ecc, .mbx, .evt]) rfl).free hg

theorem trackUnit_within {code unit : Nat} {gs : List Grp} (hgs : within [.cnts, .ecc, .mbx, .evt] gs = true) : Within gs (trackUnit code unit) := by
  refine Within.lift hgs ?_
  clear hgs
  unfold trackUnit
  repeat' first
    | with_reducible exact within_skip _
    | with_reducible exact within_nil _
    | with_reducible refine within_cons ?_ ?_
    | with_reducible refine within_seq ?_ ?_
    | with_reducible refine within_ask fun _ => ?_
    | with_reducible refine within_each fun _ => ?_
    | with_reducible refine within_whenP ?_
    | with_reducible refine within_upd ?_
    | with_reducible refine within_ite ?_ ?_
    | with_reducible refine within_replicate ?_
    | with_reducible refine modEcc_within ?_
    | with_reducible refine hardFault_within ?_
    | split
    | dsimp only
  all_goals rfl
@[simp] theorem trackUnit_avoids {code unit : Nat} {g : Grp} (hg : g ∉ ([.cnts, .ecc, .mbx, .evt] : List Grp)) : Avoids g (trackUnit code unit) := (trackUnit_within (gs := [.cnts, .ecc, .mbx, .evt]) rfl).free hg

theorem scrubUnit_within {code off : Nat} {gs : List Grp} (hgs : within [.mem, .ecc] gs = true) : Within gs (scrubUnit code off) := by
  refine Within.lift hgs ?_
  clear hgs
  unfold scrubUnit
  repeat' first
    | with_reducible exact within_skip _
    | with_reducible exact within_nil _
    | with_reducible refine within_cons ?_ ?_
    | with_reducible refine within_seq ?_ ?_
    | with_reducible refine within_ask fun _ => ?_
    | with_reducible refine within_each fun _ => ?_
    | with_reducible refine within_whenP ?_
    | with_reducible refine within_upd ?_
    | with_reducible refine within_ite ?_ ?_
    | with_reducible refine within_replicate ?_
    | with_reducible refine modEcc_within ?_
    | split
    | dsimp only
  all_goals rfl
@[simp] theorem scrubUnit_avoids {code off : Nat} {g : Grp} (hg : g ∉ ([.mem, .ecc] : List Grp)) : Avoids g (scrubUnit code off) := (scrubUnit_within (gs := [.mem, .ecc]) rfl).free hg

theorem visit_within {code unit : Nat} {gs : List Grp} (hgs : within [.cnts, .mem, .ecc, .mbx, .evt] gs = true) : Within gs (visit code unit) := by
  refine Within.lift hgs ?_
  clear hgs
  unfold visit
  repeat' first
    | with_reducible exact within_skip _
    | with_reducible exact within_nil _
    | with_reducible refine within_cons ?_ ?_
    | with_reducible refine within_seq ?_ ?_
    | with_reducible refine within_ask fun _ => ?_
    | with_reducible refine within_each fun _ => ?_
    | with_reducible refine within_whenP ?_
    | with_reducible refine within_upd ?_
    | with_reducible refine within_ite ?_ ?_
    | with_reducible refine within_replicate ?_
    | with_reducible refine count_within ?_
    | with_reducible refine noteUncorr_within ?_
    | with_reducible refine scrubUnit_within ?_
    | with_reducible refine trackUnit_within ?_
    | split
    | dsimp only
  all_goals rfl
@[simp] theorem visit_avoids {code unit : Nat} {g : Grp} (hg : g ∉ ([.cnts, .mem, .ecc, .mbx, .evt] : List Grp)) : Avoids g (visit code unit) := (visit_within (gs := [.cnts, .mem, .ecc, .mbx, .evt]) rfl).free hg

theorem weightEcc_within {slot : Option Nat} {off : Nat} {gs : List Grp} (hgs : within [.cnts, .mbx, .evt, .grat] gs = true) : Within gs (weightEcc slot off) := by
  refine Within.lift hgs ?_
  clear hgs
  unfold weightEcc
  repeat' first
    | with_reducible exact within_skip _
    | with_reducible exact within_nil _
    | with_reducible refine within_cons ?_ ?_
    | with_reducible refine within_seq ?_ ?_
    | with_reducible refine within_ask fun _ => ?_
    | with_reducible refine within_each fun _ => ?_
    | with_reducible refine within_whenP ?_
    | with_reducible refine within_upd ?_
    | with_reducible refine within_ite ?_ ?_
    | with_reducible refine within_replicate ?_
    | with_reducible refine modGrat_within ?_
    | with_reducible refine raise_within ?_
    | split
    | dsimp only
  all_goals rfl
@[simp] theorem weightEcc_avoids {slot : Option Nat} {off : Nat} {g : Grp} (hg : g ∉ ([.cnts, .mbx, .evt, .grat] : List Grp)) : Avoids g (weightEcc slot off) := (weightEcc_within (gs := [.cnts, .mbx, .evt, .grat]) rfl).free hg

theorem putSect_within {page idx : Nat} {e : Section} {gs : List Grp} (hgs : within [.ecc, .sect] gs = true) : Within gs (putSect page idx e) := by
  refine Within.lift hgs ?_
  clear hgs
  unfold putSect
  repeat' first
    | with_reducible exact within_skip _
    | with_reducible exact within_nil _
    | with_reducible refine within_cons ?_ ?_
    | with_reducible refine within_seq ?_ ?_
    | with_reducible refine within_ask fun _ => ?_
    | with_reducible refine within_each fun _ => ?_
    | with_reducible refine within_whenP ?_
    | with_reducible refine within_upd ?_
    | with_reducible refine within_ite ?_ ?_
    | with_reducible refine within_replicate ?_
    | with_reducible refine modSect_within ?_
    | with_reducible refine noteWrite_within ?_
    | split
    | dsimp only
  all_goals rfl
@[simp] theorem putSect_avoids {page idx : Nat} {e : Section} {g : Grp} (hg : g ∉ ([.ecc, .sect] : List Grp)) : Avoids g (putSect page idx e) := (putSect_within (gs := [.ecc, .sect]) rfl).free hg

theorem freeSect_within {page : Nat} {idx : List Nat} {gs : List Grp} (hgs : within [.sect] gs = true) : Within gs (freeSect page idx) := by
  refine Within.lift hgs ?_
  clear hgs
  unfold freeSect
  repeat' first
    | with_reducible exact within_skip _
    | with_reducible exact within_nil _
    | with_reducible refine within_cons ?_ ?_
    | with_reducible refine within_seq ?_ ?_
    | with_reducible refine within_ask fun _ => ?_
    | with_reducible refine within_each fun _ => ?_
    | with_reducible refine within_whenP ?_
    | with_reducible refine within_upd ?_
    | with_reducible refine within_ite ?_ ?_
    | with_reducible refine within_replicate ?_
    | with_reducible refine modSect_within ?_
    | split
    | dsimp only
  all_goals rfl
@[simp] theorem freeSect_avoids {page : Nat} {idx : List Nat} {g : Grp} (hg : g ∉ ([.sect] : List Grp)) : Avoids g (freeSect page idx) := (freeSect_within (gs := [.sect]) rfl).free hg

theorem eccHit_within {key : Nat} {gs : List Grp} (hgs : within [.cnts, .ecc, .mbx, .evt] gs = true) : Within gs (eccHit key) := by
  refine Within.lift hgs ?_
  clear hgs
  unfold eccHit
  repeat' first
    | with_reducible exact within_skip _
    | with_reducible exact within_nil _
    | with_reducible refine within_cons ?_ ?_
    | with_reducible refine within_seq ?_ ?_
    | with_reducible refine within_ask fun _ => ?_
    | with_reducible refine within_each fun _ => ?_
    | with_reducible refine within_whenP ?_
    | with_reducible refine within_upd ?_
    | with_reducible refine within_ite ?_ ?_
    | with_reducible refine within_replicate ?_
    | with_reducible refine count_within ?_
    | with_reducible refine noteRead_within ?_
    | with_reducible refine raise_within ?_
    | split
    | dsimp only
  all_goals rfl
@[simp] theorem eccHit_avoids {key : Nat} {g : Grp} (hg : g ∉ ([.cnts, .ecc, .mbx, .evt] : List Grp)) : Avoids g (eccHit key) := (eccHit_within (gs := [.cnts, .ecc, .mbx, .evt]) rfl).free hg

theorem sectEcc_within {page id flow slot : Nat} {gs : List Grp} (hgs : within [.cnts, .ecc, .mbx, .evt] gs = true) : Within gs (sectEcc page id flow slot) := by
  refine Within.lift hgs ?_
  clear hgs
  unfold sectEcc
  repeat' first
    | with_reducible exact within_skip _
    | with_reducible exact within_nil _
    | with_reducible refine within_cons ?_ ?_
    | with_reducible refine within_seq ?_ ?_
    | with_reducible refine within_ask fun _ => ?_
    | with_reducible refine within_each fun _ => ?_
    | with_reducible refine within_whenP ?_
    | with_reducible refine within_upd ?_
    | with_reducible refine within_ite ?_ ?_
    | with_reducible refine within_replicate ?_
    | with_reducible refine eccHit_within ?_
    | split
    | dsimp only
  all_goals rfl
@[simp] theorem sectEcc_avoids {page id flow slot : Nat} {g : Grp} (hg : g ∉ ([.cnts, .ecc, .mbx, .evt] : List Grp)) : Avoids g (sectEcc page id flow slot) := (sectEcc_within (gs := [.cnts, .ecc, .mbx, .evt]) rfl).free hg

theorem placeSect_within {a : Arrival} {gs : List Grp} (hgs : within [.cnts, .mem, .ecc, .mbx, .evt, .sect] gs = true) : Within gs (placeSect a) := by
  refine Within.lift hgs ?_
  clear hgs
  unfold placeSect
  repeat' first
    | with_reducible exact within_skip _
    | with_reducible exact within_nil _
    | with_reducible refine within_cons ?_ ?_
    | with_reducible refine within_seq ?_ ?_
    | with_reducible refine within_ask fun _ => ?_
    | with_reducible refine within_each fun _ => ?_
    | with_reducible refine within_whenP ?_
    | with_reducible refine within_upd ?_
    | with_reducible refine within_ite ?_ ?_
    | with_reducible refine within_replicate ?_
    | with_reducible refine modSect_within ?_
    | with_reducible refine count_within ?_
    | with_reducible refine countN_within ?_
    | with_reducible refine freeSect_within ?_
    | with_reducible refine putSect_within ?_
    | with_reducible refine sectEcc_within ?_
    | with_reducible refine store_within ?_
    | split
    | dsimp only
  all_goals rfl
@[simp] theorem placeSect_avoids {a : Arrival} {g : Grp} (hg : g ∉ ([.cnts, .mem, .ecc, .mbx, .evt, .sect] : List Grp)) : Avoids g (placeSect a) := (placeSect_within (gs := [.cnts, .mem, .ecc, .mbx, .evt, .sect]) rfl).free hg

theorem startClear_within {p : Nat} {lost : Bool} {gs : List Grp} (hgs : within [.cnts, .sect] gs = true) : Within gs (startClear p lost) := by
  refine Within.lift hgs ?_
  clear hgs
  unfold startClear
  repeat' first
    | with_reducible exact within_skip _
    | with_reducible exact within_nil _
    | with_reducible refine within_cons ?_ ?_
    | with_reducible refine within_seq ?_ ?_
    | with_reducible refine within_ask fun _ => ?_
    | with_reducible refine within_each fun _ => ?_
    | with_reducible refine within_whenP ?_
    | with_reducible refine within_upd ?_
    | with_reducible refine within_ite ?_ ?_
    | with_reducible refine within_replicate ?_
    | with_reducible refine modSect_within ?_
    | with_reducible refine countN_within ?_
    | split
    | dsimp only
  all_goals rfl
@[simp] theorem startClear_avoids {p : Nat} {lost : Bool} {g : Grp} (hg : g ∉ ([.cnts, .sect] : List Grp)) : Avoids g (startClear p lost) := (startClear_within (gs := [.cnts, .sect]) rfl).free hg

theorem arriveSect_within {a : Arrival} {gs : List Grp} (hgs : within [.cnts, .mem, .ecc, .mbx, .evt, .sect] gs = true) : Within gs (arriveSect a) := by
  refine Within.lift hgs ?_
  clear hgs
  unfold arriveSect
  repeat' first
    | with_reducible exact within_skip _
    | with_reducible exact within_nil _
    | with_reducible refine within_cons ?_ ?_
    | with_reducible refine within_seq ?_ ?_
    | with_reducible refine within_ask fun _ => ?_
    | with_reducible refine within_each fun _ => ?_
    | with_reducible refine within_whenP ?_
    | with_reducible refine within_upd ?_
    | with_reducible refine within_ite ?_ ?_
    | with_reducible refine within_replicate ?_
    | with_reducible refine modSect_within ?_
    | with_reducible refine count_within ?_
    | with_reducible refine placeSect_within ?_
    | with_reducible refine startClear_within ?_
    | split
    | dsimp only
  all_goals rfl
@[simp] theorem arriveSect_avoids {a : Arrival} {g : Grp} (hg : g ∉ ([.cnts, .mem, .ecc, .mbx, .evt, .sect] : List Grp)) : Avoids g (arriveSect a) := (arriveSect_within (gs := [.cnts, .mem, .ecc, .mbx, .evt, .sect]) rfl).free hg

theorem clearFrom_within {b : Nat} {want : Section → Bool} {gs : List Grp} (hgs : within [.cnts, .sect] gs = true) : Within gs (clearFrom b want) := by
  refine Within.lift hgs ?_
  clear hgs
  unfold clearFrom
  repeat' first
    | with_reducible exact within_skip _
    | with_reducible exact within_nil _
    | with_reducible refine within_cons ?_ ?_
    | with_reducible refine within_seq ?_ ?_
    | with_reducible refine within_ask fun _ => ?_
    | with_reducible refine within_each fun _ => ?_
    | with_reducible refine within_whenP ?_
    | with_reducible refine within_upd ?_
    | with_reducible refine within_ite ?_ ?_
    | with_reducible refine within_replicate ?_
    | with_reducible refine countN_within ?_
    | with_reducible refine freeSect_within ?_
    | split
    | dsimp only
  all_goals rfl
@[simp] theorem clearFrom_avoids {b : Nat} {want : Section → Bool} {g : Grp} (hg : g ∉ ([.cnts, .sect] : List Grp)) : Avoids g (clearFrom b want) := (clearFrom_within (gs := [.cnts, .sect]) rfl).free hg

theorem acceptSect_within {m : CMsg} {p : PSec} {gs : List Grp} (hgs : within [.cnts, .mem, .ecc, .mbx, .evt, .sect] gs = true) : Within gs (acceptSect m p) := by
  refine Within.lift hgs ?_
  clear hgs
  unfold acceptSect
  repeat' first
    | with_reducible exact within_skip _
    | with_reducible exact within_nil _
    | with_reducible refine within_cons ?_ ?_
    | with_reducible refine within_seq ?_ ?_
    | with_reducible refine within_ask fun _ => ?_
    | with_reducible refine within_each fun _ => ?_
    | with_reducible refine within_whenP ?_
    | with_reducible refine within_upd ?_
    | with_reducible refine within_ite ?_ ?_
    | with_reducible refine within_replicate ?_
    | with_reducible refine arriveSect_within ?_
    | with_reducible refine count_within ?_
    | split
    | dsimp only
  all_goals rfl
@[simp] theorem acceptSect_avoids {m : CMsg} {p : PSec} {g : Grp} (hg : g ∉ ([.cnts, .mem, .ecc, .mbx, .evt, .sect] : List Grp)) : Avoids g (acceptSect m p) := (acceptSect_within (gs := [.cnts, .mem, .ecc, .mbx, .evt, .sect]) rfl).free hg

theorem linkTo_within {v : Nat} {gs : List Grp} (hgs : within [.cnts, .mbx, .evt, .clk, .fh] gs = true) : Within gs (linkTo v) := by
  refine Within.lift hgs ?_
  clear hgs
  unfold linkTo
  repeat' first
    | with_reducible exact within_skip _
    | with_reducible exact within_nil _
    | with_reducible refine within_cons ?_ ?_
    | with_reducible refine within_seq ?_ ?_
    | with_reducible refine within_ask fun _ => ?_
    | with_reducible refine within_each fun _ => ?_
    | with_reducible refine within_whenP ?_
    | with_reducible refine within_upd ?_
    | with_reducible refine within_ite ?_ ?_
    | with_reducible refine within_replicate ?_
    | with_reducible refine modFh_within ?_
    | with_reducible refine flushEligible_within ?_
    | with_reducible refine raise_within ?_
    | with_reducible refine stamp_within ?_
    | split
    | dsimp only
  all_goals rfl
@[simp] theorem linkTo_avoids {v : Nat} {g : Grp} (hg : g ∉ ([.cnts, .mbx, .evt, .clk, .fh] : List Grp)) : Avoids g (linkTo v) := (linkTo_within (gs := [.cnts, .mbx, .evt, .clk, .fh]) rfl).free hg

theorem linkSettle_within {gs : List Grp} (hgs : within [.cnts, .mbx, .evt, .clk, .fh] gs = true) : Within gs linkSettle := by
  refine Within.lift hgs ?_
  clear hgs
  unfold linkSettle
  repeat' first
    | with_reducible exact within_skip _
    | with_reducible exact within_nil _
    | with_reducible refine within_cons ?_ ?_
    | with_reducible refine within_seq ?_ ?_
    | with_reducible refine within_ask fun _ => ?_
    | with_reducible refine within_each fun _ => ?_
    | with_reducible refine within_whenP ?_
    | with_reducible refine within_upd ?_
    | with_reducible refine within_ite ?_ ?_
    | with_reducible refine within_replicate ?_
    | with_reducible refine linkTo_within ?_
    | split
    | dsimp only
  all_goals rfl
@[simp] theorem linkSettle_avoids {g : Grp} (hg : g ∉ ([.cnts, .mbx, .evt, .clk, .fh] : List Grp)) : Avoids g linkSettle := (linkSettle_within (gs := [.cnts, .mbx, .evt, .clk, .fh]) rfl).free hg

theorem laneStamps_within {key : Nat → Nat} {old new : Nat} {gs : List Grp} (hgs : within [.clk] gs = true) : Within gs (laneStamps key old new) := by
  refine Within.lift hgs ?_
  clear hgs
  unfold laneStamps
  repeat' first
    | with_reducible exact within_skip _
    | with_reducible exact within_nil _
    | with_reducible refine within_cons ?_ ?_
    | with_reducible refine within_seq ?_ ?_
    | with_reducible refine within_ask fun _ => ?_
    | with_reducible refine within_each fun _ => ?_
    | with_reducible refine within_whenP ?_
    | with_reducible refine within_upd ?_
    | with_reducible refine within_ite ?_ ?_
    | with_reducible refine within_replicate ?_
    | with_reducible refine stamp_within ?_
    | split
    | dsimp only
  all_goals rfl
@[simp] theorem laneStamps_avoids {key : Nat → Nat} {old new : Nat} {g : Grp} (hg : g ∉ ([.clk] : List Grp)) : Avoids g (laneStamps key old new) := (laneStamps_within (gs := [.clk]) rfl).free hg

theorem shedLater_within {unit : Nat} {gs : List Grp} (hgs : within [.cnts, .mem, .ecc, .mbx, .log, .evt, .clk, .fh, .mash, .dpd, .rx, .conv, .radio, .survey, .bias] gs = true) : Within gs (shedLater unit) := by
  refine Within.lift hgs ?_
  clear hgs
  unfold shedLater
  repeat' first
    | with_reducible exact within_skip _
    | with_reducible exact within_nil _
    | with_reducible refine within_cons ?_ ?_
    | with_reducible refine within_seq ?_ ?_
    | with_reducible refine within_ask fun _ => ?_
    | with_reducible refine within_each fun _ => ?_
    | with_reducible refine within_whenP ?_
    | with_reducible refine within_upd ?_
    | with_reducible refine within_ite ?_ ?_
    | with_reducible refine within_replicate ?_
    | with_reducible refine isolate_within ?_
    | split
    | dsimp only
  all_goals rfl
@[simp] theorem shedLater_avoids {unit : Nat} {g : Grp} (hg : g ∉ ([.cnts, .mem, .ecc, .mbx, .log, .evt, .clk, .fh, .mash, .dpd, .rx, .conv, .radio, .survey, .bias] : List Grp)) : Avoids g (shedLater unit) := (shedLater_within (gs := [.cnts, .mem, .ecc, .mbx, .log, .evt, .clk, .fh, .mash, .dpd, .rx, .conv, .radio, .survey, .bias]) rfl).free hg

theorem moveRung_within {r unit : Nat} {gs : List Grp} (hgs : within [.cnts, .mem, .ecc, .mbx, .log, .evt, .clk, .fh, .mash, .dpd, .rx, .conv, .radio, .survey, .bias] gs = true) : Within gs (moveRung r unit) := by
  refine Within.lift hgs ?_
  clear hgs
  unfold moveRung
  repeat' first
    | with_reducible exact within_skip _
    | with_reducible exact within_nil _
    | with_reducible refine within_cons ?_ ?_
    | with_reducible refine within_seq ?_ ?_
    | with_reducible refine within_ask fun _ => ?_
    | with_reducible refine within_each fun _ => ?_
    | with_reducible refine within_whenP ?_
    | with_reducible refine within_upd ?_
    | with_reducible refine within_ite ?_ ?_
    | with_reducible refine within_replicate ?_
    | with_reducible refine modFh_within ?_
    | with_reducible refine linkSettle_within ?_
    | with_reducible refine linkTo_within ?_
    | with_reducible refine raise_within ?_
    | with_reducible refine shedLater_within ?_
    | with_reducible refine stamp_within ?_
    | split
    | dsimp only
  all_goals rfl
@[simp] theorem moveRung_avoids {r unit : Nat} {g : Grp} (hg : g ∉ ([.cnts, .mem, .ecc, .mbx, .log, .evt, .clk, .fh, .mash, .dpd, .rx, .conv, .radio, .survey, .bias] : List Grp)) : Avoids g (moveRung r unit) := (moveRung_within (gs := [.cnts, .mem, .ecc, .mbx, .log, .evt, .clk, .fh, .mash, .dpd, .rx, .conv, .radio, .survey, .bias]) rfl).free hg

theorem declareLane_within {lane : Nat} {gs : List Grp} (hgs : within [.cnts, .mem, .ecc, .mbx, .log, .evt, .clk, .fh, .mash, .dpd, .rx, .conv, .radio, .survey, .bias] gs = true) : Within gs (declareLane lane) := by
  refine Within.lift hgs ?_
  clear hgs
  unfold declareLane
  repeat' first
    | with_reducible exact within_skip _
    | with_reducible exact within_nil _
    | with_reducible refine within_cons ?_ ?_
    | with_reducible refine within_seq ?_ ?_
    | with_reducible refine within_ask fun _ => ?_
    | with_reducible refine within_each fun _ => ?_
    | with_reducible refine within_whenP ?_
    | with_reducible refine within_upd ?_
    | with_reducible refine within_ite ?_ ?_
    | with_reducible refine within_replicate ?_
    | with_reducible refine modFh_within ?_
    | with_reducible refine linkTo_within ?_
    | with_reducible refine moveRung_within ?_
    | with_reducible refine raise_within ?_
    | with_reducible refine stamp_within ?_
    | split
    | dsimp only
  all_goals rfl
@[simp] theorem declareLane_avoids {lane : Nat} {g : Grp} (hg : g ∉ ([.cnts, .mem, .ecc, .mbx, .log, .evt, .clk, .fh, .mash, .dpd, .rx, .conv, .radio, .survey, .bias] : List Grp)) : Avoids g (declareLane lane) := (declareLane_within (gs := [.cnts, .mem, .ecc, .mbx, .log, .evt, .clk, .fh, .mash, .dpd, .rx, .conv, .radio, .survey, .bias]) rfl).free hg

theorem storeWeights_within {layer : Nat} {off : Nat → Nat} {r : Rec} {at_ : Nat} {gs : List Grp} (hgs : within [.mem, .ecc] gs = true) : Within gs (storeWeights layer off r at_) := by
  refine Within.lift hgs ?_
  clear hgs
  unfold storeWeights
  repeat' first
    | with_reducible exact within_skip _
    | with_reducible exact within_nil _
    | with_reducible refine within_cons ?_ ?_
    | with_reducible refine within_seq ?_ ?_
    | with_reducible refine within_ask fun _ => ?_
    | with_reducible refine within_each fun _ => ?_
    | with_reducible refine within_whenP ?_
    | with_reducible refine within_upd ?_
    | with_reducible refine within_ite ?_ ?_
    | with_reducible refine within_replicate ?_
    | with_reducible refine store_within ?_
    | split
    | dsimp only
  all_goals rfl
@[simp] theorem storeWeights_avoids {layer : Nat} {off : Nat → Nat} {r : Rec} {at_ : Nat} {g : Grp} (hg : g ∉ ([.mem, .ecc] : List Grp)) : Avoids g (storeWeights layer off r at_) := (storeWeights_within (gs := [.mem, .ecc]) rfl).free hg

theorem openSlot_within {dir slot : Nat} {gs : List Grp} (hgs : within [.cnts, .mem, .ecc, .mbx, .evt, .grat] gs = true) : Within gs (openSlot dir slot) := by
  refine Within.lift hgs ?_
  clear hgs
  unfold openSlot
  repeat' first
    | with_reducible exact within_skip _
    | with_reducible exact within_nil _
    | with_reducible refine within_cons ?_ ?_
    | with_reducible refine within_seq ?_ ?_
    | with_reducible refine within_ask fun _ => ?_
    | with_reducible refine within_each fun _ => ?_
    | with_reducible refine within_whenP ?_
    | with_reducible refine within_upd ?_
    | with_reducible refine within_ite ?_ ?_
    | with_reducible refine within_replicate ?_
    | with_reducible refine modGrat_within ?_
    | with_reducible refine noteRead_within ?_
    | with_reducible refine noteWrite_within ?_
    | with_reducible refine store_within ?_
    | split
    | dsimp only
  all_goals rfl
@[simp] theorem openSlot_avoids {dir slot : Nat} {g : Grp} (hg : g ∉ ([.cnts, .mem, .ecc, .mbx, .evt, .grat] : List Grp)) : Avoids g (openSlot dir slot) := (openSlot_within (gs := [.cnts, .mem, .ecc, .mbx, .evt, .grat]) rfl).free hg

theorem clearPending_within {dir : Nat} {gs : List Grp} (hgs : within [.grat] gs = true) : Within gs (clearPending dir) := by
  refine Within.lift hgs ?_
  clear hgs
  unfold clearPending
  repeat' first
    | with_reducible exact within_skip _
    | with_reducible exact within_nil _
    | with_reducible refine within_cons ?_ ?_
    | with_reducible refine within_seq ?_ ?_
    | with_reducible refine within_ask fun _ => ?_
    | with_reducible refine within_each fun _ => ?_
    | with_reducible refine within_whenP ?_
    | with_reducible refine within_upd ?_
    | with_reducible refine within_ite ?_ ?_
    | with_reducible refine within_replicate ?_
    | with_reducible refine modGrat_within ?_
    | split
    | dsimp only
  all_goals rfl
@[simp] theorem clearPending_avoids {dir : Nat} {g : Grp} (hg : g ∉ ([.grat] : List Grp)) : Avoids g (clearPending dir) := (clearPending_within (gs := [.grat]) rfl).free hg

theorem swapSlots_within {dir b : Nat} {gs : List Grp} (hgs : within [.grat] gs = true) : Within gs (swapSlots dir b) := by
  refine Within.lift hgs ?_
  clear hgs
  unfold swapSlots
  repeat' first
    | with_reducible exact within_skip _
    | with_reducible exact within_nil _
    | with_reducible refine within_cons ?_ ?_
    | with_reducible refine within_seq ?_ ?_
    | with_reducible refine within_ask fun _ => ?_
    | with_reducible refine within_each fun _ => ?_
    | with_reducible refine within_whenP ?_
    | with_reducible refine within_upd ?_
    | with_reducible refine within_ite ?_ ?_
    | with_reducible refine within_replicate ?_
    | with_reducible refine modGrat_within ?_
    | split
    | dsimp only
  all_goals rfl
@[simp] theorem swapSlots_avoids {dir b : Nat} {g : Grp} (hg : g ∉ ([.grat] : List Grp)) : Avoids g (swapSlots dir b) := (swapSlots_within (gs := [.grat]) rfl).free hg

theorem regeometry_within {dir : Nat} {old new : Nat → Option (Nat × Nat × Nat × Nat × Int × Nat)} {gs : List Grp} (hgs : within [.mem, .ecc, .grat] gs = true) : Within gs (regeometry dir old new) := by
  refine Within.lift hgs ?_
  clear hgs
  unfold regeometry
  repeat' first
    | with_reducible exact within_skip _
    | with_reducible exact within_nil _
    | with_reducible refine within_cons ?_ ?_
    | with_reducible refine within_seq ?_ ?_
    | with_reducible refine within_ask fun _ => ?_
    | with_reducible refine within_each fun _ => ?_
    | with_reducible refine within_whenP ?_
    | with_reducible refine within_upd ?_
    | with_reducible refine within_ite ?_ ?_
    | with_reducible refine within_replicate ?_
    | with_reducible refine modGrat_within ?_
    | with_reducible refine noteWrite_within ?_
    | split
    | dsimp only
  all_goals rfl
@[simp] theorem regeometry_avoids {dir : Nat} {old new : Nat → Option (Nat × Nat × Nat × Nat × Int × Nat)} {g : Grp} (hg : g ∉ ([.mem, .ecc, .grat] : List Grp)) : Avoids g (regeometry dir old new) := (regeometry_within (gs := [.mem, .ecc, .grat]) rfl).free hg

theorem countWeights_within {s : State} {dir air : Nat} {l : List Section} {gs : List Grp} (hgs : within [.cnts, .ecc, .mbx, .evt, .grat] gs = true) : Within gs (countWeights s dir air l) := by
  refine Within.lift hgs ?_
  clear hgs
  unfold countWeights
  repeat' first
    | with_reducible exact within_skip _
    | with_reducible exact within_nil _
    | with_reducible refine within_cons ?_ ?_
    | with_reducible refine within_seq ?_ ?_
    | with_reducible refine within_ask fun _ => ?_
    | with_reducible refine within_each fun _ => ?_
    | with_reducible refine within_whenP ?_
    | with_reducible refine within_upd ?_
    | with_reducible refine within_ite ?_ ?_
    | with_reducible refine within_replicate ?_
    | with_reducible refine countN_within ?_
    | with_reducible refine noteRead_within ?_
    | with_reducible refine weightEcc_within ?_
    | split
    | dsimp only
  all_goals rfl
@[simp] theorem countWeights_avoids {s : State} {dir air : Nat} {l : List Section} {g : Grp} (hg : g ∉ ([.cnts, .ecc, .mbx, .evt, .grat] : List Grp)) : Avoids g (countWeights s dir air l) := (countWeights_within (gs := [.cnts, .ecc, .mbx, .evt, .grat]) rfl).free hg

theorem flipBeams_within {gs : List Grp} (hgs : within [.grat] gs = true) : Within gs flipBeams := by
  refine Within.lift hgs ?_
  clear hgs
  unfold flipBeams
  repeat' first
    | with_reducible exact within_skip _
    | with_reducible exact within_nil _
    | with_reducible refine within_cons ?_ ?_
    | with_reducible refine within_seq ?_ ?_
    | with_reducible refine within_ask fun _ => ?_
    | with_reducible refine within_each fun _ => ?_
    | with_reducible refine within_whenP ?_
    | with_reducible refine within_upd ?_
    | with_reducible refine within_ite ?_ ?_
    | with_reducible refine within_replicate ?_
    | with_reducible refine modGrat_within ?_
    | split
    | dsimp only
  all_goals rfl
@[simp] theorem flipBeams_avoids {g : Grp} (hg : g ∉ ([.grat] : List Grp)) : Avoids g flipBeams := (flipBeams_within (gs := [.grat]) rfl).free hg

theorem fhCount_within {i : Nat} {gs : List Grp} (hgs : within [.cnts] gs = true) : Within gs (fhCount i) := by
  refine Within.lift hgs ?_
  clear hgs
  unfold fhCount
  repeat' first
    | with_reducible exact within_skip _
    | with_reducible exact within_nil _
    | with_reducible refine within_cons ?_ ?_
    | with_reducible refine within_seq ?_ ?_
    | with_reducible refine within_ask fun _ => ?_
    | with_reducible refine within_each fun _ => ?_
    | with_reducible refine within_whenP ?_
    | with_reducible refine within_upd ?_
    | with_reducible refine within_ite ?_ ?_
    | with_reducible refine within_replicate ?_
    | with_reducible refine count_within ?_
    | split
    | dsimp only
  all_goals rfl
@[simp] theorem fhCount_avoids {i : Nat} {g : Grp} (hg : g ∉ ([.cnts] : List Grp)) : Avoids g (fhCount i) := (fhCount_within (gs := [.cnts]) rfl).free hg

theorem toPtpRing_within {f : Rec} {capture deskew fecPos : Nat} {gs : List Grp} (hgs : within [.fh] gs = true) : Within gs (toPtpRing f capture deskew fecPos) := by
  refine Within.lift hgs ?_
  clear hgs
  unfold toPtpRing
  repeat' first
    | with_reducible exact within_skip _
    | with_reducible exact within_nil _
    | with_reducible refine within_cons ?_ ?_
    | with_reducible refine within_seq ?_ ?_
    | with_reducible refine within_ask fun _ => ?_
    | with_reducible refine within_each fun _ => ?_
    | with_reducible refine within_whenP ?_
    | with_reducible refine within_upd ?_
    | with_reducible refine within_ite ?_ ?_
    | with_reducible refine within_replicate ?_
    | with_reducible refine modFh_within ?_
    | split
    | dsimp only
  all_goals rfl
@[simp] theorem toPtpRing_avoids {f : Rec} {capture deskew fecPos : Nat} {g : Grp} (hg : g ∉ ([.fh] : List Grp)) : Avoids g (toPtpRing f capture deskew fecPos) := (toPtpRing_within (gs := [.fh]) rfl).free hg

theorem inbandArrive_within {p : Rec} {gs : List Grp} (hgs : within [.cnts, .mbx] gs = true) : Within gs (inbandArrive p) := by
  refine Within.lift hgs ?_
  clear hgs
  unfold inbandArrive
  repeat' first
    | with_reducible exact within_skip _
    | with_reducible exact within_nil _
    | with_reducible refine within_cons ?_ ?_
    | with_reducible refine within_seq ?_ ?_
    | with_reducible refine within_ask fun _ => ?_
    | with_reducible refine within_each fun _ => ?_
    | with_reducible refine within_whenP ?_
    | with_reducible refine within_upd ?_
    | with_reducible refine within_ite ?_ ?_
    | with_reducible refine within_replicate ?_
    | with_reducible refine modMbx_within ?_
    | with_reducible refine count_within ?_
    | split
    | dsimp only
  all_goals rfl
@[simp] theorem inbandArrive_avoids {p : Rec} {g : Grp} (hg : g ∉ ([.cnts, .mbx] : List Grp)) : Avoids g (inbandArrive p) := (inbandArrive_within (gs := [.cnts, .mbx]) rfl).free hg

theorem cPlane_within {flow seq : Nat} {a : App} {q : Rec} {gs : List Grp} (hgs : within [.cnts, .mem, .ecc, .mbx, .evt, .sect] gs = true) : Within gs (cPlane flow seq a q) := by
  refine Within.lift hgs ?_
  clear hgs
  unfold cPlane
  repeat' first
    | with_reducible exact within_skip _
    | with_reducible exact within_nil _
    | with_reducible refine within_cons ?_ ?_
    | with_reducible refine within_seq ?_ ?_
    | with_reducible refine within_ask fun _ => ?_
    | with_reducible refine within_each fun _ => ?_
    | with_reducible refine within_whenP ?_
    | with_reducible refine within_upd ?_
    | with_reducible refine within_ite ?_ ?_
    | with_reducible refine within_replicate ?_
    | with_reducible refine acceptSect_within ?_
    | split
    | dsimp only
  all_goals rfl
@[simp] theorem cPlane_avoids {flow seq : Nat} {a : App} {q : Rec} {g : Grp} (hg : g ∉ ([.cnts, .mem, .ecc, .mbx, .evt, .sect] : List Grp)) : Avoids g (cPlane flow seq a q) := (cPlane_within (gs := [.cnts, .mem, .ecc, .mbx, .evt, .sect]) rfl).free hg

theorem uSection_within {flow k : Nat} {a : App} {sym : Nat} {u : USec} {gs : List Grp} (hgs : within [.cnts, .ecc, .mbx, .evt, .sect, .fh] gs = true) : Within gs (uSection flow k a sym u) := by
  refine Within.lift hgs ?_
  clear hgs
  unfold uSection
  repeat' first
    | with_reducible exact within_skip _
    | with_reducible exact within_nil _
    | with_reducible refine within_cons ?_ ?_
    | with_reducible refine within_seq ?_ ?_
    | with_reducible refine within_ask fun _ => ?_
    | with_reducible refine within_each fun _ => ?_
    | with_reducible refine within_whenP ?_
    | with_reducible refine within_upd ?_
    | with_reducible refine within_ite ?_ ?_
    | with_reducible refine within_replicate ?_
    | with_reducible refine modSect_within ?_
    | with_reducible refine modFh_within ?_
    | with_reducible refine count_within ?_
    | with_reducible refine countN_within ?_
    | with_reducible refine fhCount_within ?_
    | with_reducible refine sectEcc_within ?_
    | split
    | dsimp only
  all_goals rfl
@[simp] theorem uSection_avoids {flow k : Nat} {a : App} {sym : Nat} {u : USec} {g : Grp} (hg : g ∉ ([.cnts, .ecc, .mbx, .evt, .sect, .fh] : List Grp)) : Avoids g (uSection flow k a sym u) := (uSection_within (gs := [.cnts, .ecc, .mbx, .evt, .sect, .fh]) rfl).free hg

theorem uPlane_within {flow : Nat} {a : App} {q : Rec} {gs : List Grp} (hgs : within [.cnts, .ecc, .mbx, .evt, .sect, .fh] gs = true) : Within gs (uPlane flow a q) := by
  refine Within.lift hgs ?_
  clear hgs
  unfold uPlane
  repeat' first
    | with_reducible exact within_skip _
    | with_reducible exact within_nil _
    | with_reducible refine within_cons ?_ ?_
    | with_reducible refine within_seq ?_ ?_
    | with_reducible refine within_ask fun _ => ?_
    | with_reducible refine within_each fun _ => ?_
    | with_reducible refine within_whenP ?_
    | with_reducible refine within_upd ?_
    | with_reducible refine within_ite ?_ ?_
    | with_reducible refine within_replicate ?_
    | with_reducible refine fhCount_within ?_
    | with_reducible refine uSection_within ?_
    | split
    | dsimp only
  all_goals rfl
@[simp] theorem uPlane_avoids {flow : Nat} {a : App} {q : Rec} {g : Grp} (hg : g ∉ ([.cnts, .ecc, .mbx, .evt, .sect, .fh] : List Grp)) : Avoids g (uPlane flow a q) := (uPlane_within (gs := [.cnts, .ecc, .mbx, .evt, .sect, .fh]) rfl).free hg

theorem ecpriMessage_within {p : Rec} {gs : List Grp} (hgs : within [.cnts, .tots, .mem, .ecc, .mbx, .evt, .sect, .fh] gs = true) : Within gs (ecpriMessage p) := by
  refine Within.lift hgs ?_
  clear hgs
  unfold ecpriMessage
  repeat' first
    | with_reducible exact within_skip _
    | with_reducible exact within_nil _
    | with_reducible refine within_cons ?_ ?_
    | with_reducible refine within_seq ?_ ?_
    | with_reducible refine within_ask fun _ => ?_
    | with_reducible refine within_each fun _ => ?_
    | with_reducible refine within_whenP ?_
    | with_reducible refine within_upd ?_
    | with_reducible refine within_ite ?_ ?_
    | with_reducible refine within_replicate ?_
    | with_reducible refine modFh_within ?_
    | with_reducible refine cPlane_within ?_
    | with_reducible refine count_within ?_
    | with_reducible refine countN_within ?_
    | with_reducible refine fhCount_within ?_
    | with_reducible refine total_within ?_
    | with_reducible refine uPlane_within ?_
    | split
    | dsimp only
  all_goals rfl
@[simp] theorem ecpriMessage_avoids {p : Rec} {g : Grp} (hg : g ∉ ([.cnts, .tots, .mem, .ecc, .mbx, .evt, .sect, .fh] : List Grp)) : Avoids g (ecpriMessage p) := (ecpriMessage_within (gs := [.cnts, .tots, .mem, .ecc, .mbx, .evt, .sect, .fh]) rfl).free hg

theorem setHold_within {n b : Nat} {gs : List Grp} (hgs : within [.tx] gs = true) : Within gs (setHold n b) := by
  refine Within.lift hgs ?_
  clear hgs
  unfold setHold
  repeat' first
    | with_reducible exact within_skip _
    | with_reducible exact within_nil _
    | with_reducible refine within_cons ?_ ?_
    | with_reducible refine within_seq ?_ ?_
    | with_reducible refine within_ask fun _ => ?_
    | with_reducible refine within_each fun _ => ?_
    | with_reducible refine within_whenP ?_
    | with_reducible refine within_upd ?_
    | with_reducible refine within_ite ?_ ?_
    | with_reducible refine within_replicate ?_
    | with_reducible refine modTx_within ?_
    | split
    | dsimp only
  all_goals rfl
@[simp] theorem setHold_avoids {n b : Nat} {g : Grp} (hg : g ∉ ([.tx] : List Grp)) : Avoids g (setHold n b) := (setHold_within (gs := [.tx]) rfl).free hg

theorem endHold_within {n b at_ : Nat} {gs : List Grp} (hgs : within [.tx] gs = true) : Within gs (endHold n b at_) := by
  refine Within.lift hgs ?_
  clear hgs
  unfold endHold
  repeat' first
    | with_reducible exact within_skip _
    | with_reducible exact within_nil _
    | with_reducible refine within_cons ?_ ?_
    | with_reducible refine within_seq ?_ ?_
    | with_reducible refine within_ask fun _ => ?_
    | with_reducible refine within_each fun _ => ?_
    | with_reducible refine within_whenP ?_
    | with_reducible refine within_upd ?_
    | with_reducible refine within_ite ?_ ?_
    | with_reducible refine within_replicate ?_
    | with_reducible refine modTx_within ?_
    | split
    | dsimp only
  all_goals rfl
@[simp] theorem endHold_avoids {n b at_ : Nat} {g : Grp} (hg : g ∉ ([.tx] : List Grp)) : Avoids g (endHold n b at_) := (endHold_within (gs := [.tx]) rfl).free hg

theorem noteStates_within {gs : List Grp} (hgs : within [.rx] gs = true) : Within gs noteStates := by
  refine Within.lift hgs ?_
  clear hgs
  unfold noteStates
  repeat' first
    | with_reducible exact within_skip _
    | with_reducible exact within_nil _
    | with_reducible refine within_cons ?_ ?_
    | with_reducible refine within_seq ?_ ?_
    | with_reducible refine within_ask fun _ => ?_
    | with_reducible refine within_each fun _ => ?_
    | with_reducible refine within_whenP ?_
    | with_reducible refine within_upd ?_
    | with_reducible refine within_ite ?_ ?_
    | with_reducible refine within_replicate ?_
    | with_reducible refine modRx_within ?_
    | split
    | dsimp only
  all_goals rfl
@[simp] theorem noteStates_avoids {g : Grp} (hg : g ∉ ([.rx] : List Grp)) : Avoids g noteStates := (noteStates_within (gs := [.rx]) rfl).free hg

theorem dcChange_within {p b : Nat} {clear : Bool} {gs : List Grp} (hgs : within [.rx] gs = true) : Within gs (dcChange p b clear) := by
  refine Within.lift hgs ?_
  clear hgs
  unfold dcChange
  repeat' first
    | with_reducible exact within_skip _
    | with_reducible exact within_nil _
    | with_reducible refine within_cons ?_ ?_
    | with_reducible refine within_seq ?_ ?_
    | with_reducible refine within_ask fun _ => ?_
    | with_reducible refine within_each fun _ => ?_
    | with_reducible refine within_whenP ?_
    | with_reducible refine within_upd ?_
    | with_reducible refine within_ite ?_ ?_
    | with_reducible refine within_replicate ?_
    | with_reducible refine modRx_within ?_
    | split
    | dsimp only
  all_goals rfl
@[simp] theorem dcChange_avoids {p b : Nat} {clear : Bool} {g : Grp} (hg : g ∉ ([.rx] : List Grp)) : Avoids g (dcChange p b clear) := (dcChange_within (gs := [.rx]) rfl).free hg

theorem leaveReady_within {n : Nat} {gs : List Grp} (hgs : within [.tx, .rx, .radio] gs = true) : Within gs (leaveReady n) := by
  refine Within.lift hgs ?_
  clear hgs
  unfold leaveReady
  repeat' first
    | with_reducible exact within_skip _
    | with_reducible exact within_nil _
    | with_reducible refine within_cons ?_ ?_
    | with_reducible refine within_seq ?_ ?_
    | with_reducible refine within_ask fun _ => ?_
    | with_reducible refine within_each fun _ => ?_
    | with_reducible refine within_whenP ?_
    | with_reducible refine within_upd ?_
    | with_reducible refine within_ite ?_ ?_
    | with_reducible refine within_replicate ?_
    | with_reducible refine modTx_within ?_
    | with_reducible refine modRx_within ?_
    | with_reducible refine modSheet_within ?_
    | split
    | dsimp only
  all_goals rfl
@[simp] theorem leaveReady_avoids {n : Nat} {g : Grp} (hg : g ∉ ([.tx, .rx, .radio] : List Grp)) : Avoids g (leaveReady n) := (leaveReady_within (gs := [.tx, .rx, .radio]) rfl).free hg

theorem sheetDone_within {n t : Nat} {gs : List Grp} (hgs : within [.cnts, .mbx, .evt, .radio] gs = true) : Within gs (sheetDone n t) := by
  refine Within.lift hgs ?_
  clear hgs
  unfold sheetDone
  repeat' first
    | with_reducible exact within_skip _
    | with_reducible exact within_nil _
    | with_reducible refine within_cons ?_ ?_
    | with_reducible refine within_seq ?_ ?_
    | with_reducible refine within_ask fun _ => ?_
    | with_reducible refine within_each fun _ => ?_
    | with_reducible refine within_whenP ?_
    | with_reducible refine within_upd ?_
    | with_reducible refine within_ite ?_ ?_
    | with_reducible refine within_replicate ?_
    | with_reducible refine modSheet_within ?_
    | with_reducible refine raise_within ?_
    | split
    | dsimp only
  all_goals rfl
@[simp] theorem sheetDone_avoids {n t : Nat} {g : Grp} (hg : g ∉ ([.cnts, .mbx, .evt, .radio] : List Grp)) : Avoids g (sheetDone n t) := (sheetDone_within (gs := [.cnts, .mbx, .evt, .radio]) rfl).free hg

theorem countDl_within {old new : AirSym} {gs : List Grp} (hgs : within [.cnts, .mbx, .evt, .tx, .coex] gs = true) : Within gs (countDl old new) := by
  refine Within.lift hgs ?_
  clear hgs
  unfold countDl
  repeat' first
    | with_reducible exact within_skip _
    | with_reducible exact within_nil _
    | with_reducible refine within_cons ?_ ?_
    | with_reducible refine within_seq ?_ ?_
    | with_reducible refine within_ask fun _ => ?_
    | with_reducible refine within_each fun _ => ?_
    | with_reducible refine within_whenP ?_
    | with_reducible refine within_upd ?_
    | with_reducible refine within_ite ?_ ?_
    | with_reducible refine within_replicate ?_
    | with_reducible refine modTx_within ?_
    | with_reducible refine modCoex_within ?_
    | with_reducible refine count_within ?_
    | with_reducible refine raise_within ?_
    | split
    | dsimp only
  all_goals rfl
@[simp] theorem countDl_avoids {old new : AirSym} {g : Grp} (hg : g ∉ ([.cnts, .mbx, .evt, .tx, .coex] : List Grp)) : Avoids g (countDl old new) := (countDl_within (gs := [.cnts, .mbx, .evt, .tx, .coex]) rfl).free hg

theorem countUl_within {old new : UlSym} {gs : List Grp} (hgs : within [.cnts, .mbx, .evt, .rx] gs = true) : Within gs (countUl old new) := by
  refine Within.lift hgs ?_
  clear hgs
  unfold countUl
  repeat' first
    | with_reducible exact within_skip _
    | with_reducible exact within_nil _
    | with_reducible refine within_cons ?_ ?_
    | with_reducible refine within_seq ?_ ?_
    | with_reducible refine within_ask fun _ => ?_
    | with_reducible refine within_each fun _ => ?_
    | with_reducible refine within_whenP ?_
    | with_reducible refine within_upd ?_
    | with_reducible refine within_ite ?_ ?_
    | with_reducible refine within_replicate ?_
    | with_reducible refine modRx_within ?_
    | with_reducible refine count_within ?_
    | with_reducible refine raise_within ?_
    | split
    | dsimp only
  all_goals rfl
@[simp] theorem countUl_avoids {old new : UlSym} {g : Grp} (hg : g ∉ ([.cnts, .mbx, .evt, .rx] : List Grp)) : Avoids g (countUl old new) := (countUl_within (gs := [.cnts, .mbx, .evt, .rx]) rfl).free hg

theorem settleSymbols_within {gs : List Grp} (hgs : within [.cnts, .mbx, .evt, .fh, .tx, .rx, .coex] gs = true) : Within gs settleSymbols := by
  refine Within.lift hgs ?_
  clear hgs
  unfold settleSymbols
  repeat' first
    | with_reducible exact within_skip _
    | with_reducible exact within_nil _
    | with_reducible refine within_cons ?_ ?_
    | with_reducible refine within_seq ?_ ?_
    | with_reducible refine within_ask fun _ => ?_
    | with_reducible refine within_each fun _ => ?_
    | with_reducible refine within_whenP ?_
    | with_reducible refine within_upd ?_
    | with_reducible refine within_ite ?_ ?_
    | with_reducible refine within_replicate ?_
    | with_reducible refine modFh_within ?_
    | with_reducible refine modTx_within ?_
    | with_reducible refine countDl_within ?_
    | with_reducible refine countUl_within ?_
    | split
    | dsimp only
  all_goals rfl
@[simp] theorem settleSymbols_avoids {g : Grp} (hg : g ∉ ([.cnts, .mbx, .evt, .fh, .tx, .rx, .coex] : List Grp)) : Avoids g settleSymbols := (settleSymbols_within (gs := [.cnts, .mbx, .evt, .fh, .tx, .rx, .coex]) rfl).free hg

theorem estimateCtx_within {l : List SrsSym} {tEnd : Nat} {q : Nat × Rec} {gs : List Grp} (hgs : within [.cnts, .free, .mash] gs = true) : Within gs (estimateCtx l tEnd q) := by
  refine Within.lift hgs ?_
  clear hgs
  unfold estimateCtx
  repeat' first
    | with_reducible exact within_skip _
    | with_reducible exact within_nil _
    | with_reducible refine within_cons ?_ ?_
    | with_reducible refine within_seq ?_ ?_
    | with_reducible refine within_ask fun _ => ?_
    | with_reducible refine within_each fun _ => ?_
    | with_reducible refine within_whenP ?_
    | with_reducible refine within_upd ?_
    | with_reducible refine within_ite ?_ ?_
    | with_reducible refine within_replicate ?_
    | with_reducible refine modMash_within ?_
    | with_reducible refine count_within ?_
    | with_reducible refine countN_within ?_
    | with_reducible refine drawFree_within ?_
    | split
    | dsimp only
  all_goals rfl
@[simp] theorem estimateCtx_avoids {l : List SrsSym} {tEnd : Nat} {q : Nat × Rec} {g : Grp} (hg : g ∉ ([.cnts, .free, .mash] : List Grp)) : Avoids g (estimateCtx l tEnd q) := (estimateCtx_within (gs := [.cnts, .free, .mash]) rfl).free hg

theorem targetEcc_within {s : State} {q : Refresh} {gs : List Grp} (hgs : within [.cnts, .ecc, .mbx, .evt] gs = true) : Within gs (targetEcc s q) := by
  refine Within.lift hgs ?_
  clear hgs
  unfold targetEcc
  repeat' first
    | with_reducible exact within_skip _
    | with_reducible exact within_nil _
    | with_reducible refine within_cons ?_ ?_
    | with_reducible refine within_seq ?_ ?_
    | with_reducible refine within_ask fun _ => ?_
    | with_reducible refine within_each fun _ => ?_
    | with_reducible refine within_whenP ?_
    | with_reducible refine within_upd ?_
    | with_reducible refine within_ite ?_ ?_
    | with_reducible refine within_replicate ?_
    | with_reducible refine eccHit_within ?_
    | split
    | dsimp only
  all_goals rfl
@[simp] theorem targetEcc_avoids {s : State} {q : Refresh} {g : Grp} (hg : g ∉ ([.cnts, .ecc, .mbx, .evt] : List Grp)) : Avoids g (targetEcc s q) := (targetEcc_within (gs := [.cnts, .ecc, .mbx, .evt]) rfl).free hg

theorem dropRefresh_within {tEnd : Nat} {gs : List Grp} (hgs : within [.mash] gs = true) : Within gs (dropRefresh tEnd) := by
  refine Within.lift hgs ?_
  clear hgs
  unfold dropRefresh
  repeat' first
    | with_reducible exact within_skip _
    | with_reducible exact within_nil _
    | with_reducible refine within_cons ?_ ?_
    | with_reducible refine within_seq ?_ ?_
    | with_reducible refine within_ask fun _ => ?_
    | with_reducible refine within_each fun _ => ?_
    | with_reducible refine within_whenP ?_
    | with_reducible refine within_upd ?_
    | with_reducible refine within_ite ?_ ?_
    | with_reducible refine within_replicate ?_
    | with_reducible refine modMash_within ?_
    | split
    | dsimp only
  all_goals rfl
@[simp] theorem dropRefresh_avoids {tEnd : Nat} {g : Grp} (hg : g ∉ ([.mash] : List Grp)) : Avoids g (dropRefresh tEnd) := (dropRefresh_within (gs := [.mash]) rfl).free hg

theorem writeSet_within {x : SlotSet} {gs : List Grp} (hgs : within [.cnts, .mem, .ecc, .mbx, .evt, .grat] gs = true) : Within gs (writeSet x) := by
  refine Within.lift hgs ?_
  clear hgs
  unfold writeSet
  repeat' first
    | with_reducible exact within_skip _
    | with_reducible exact within_nil _
    | with_reducible refine within_cons ?_ ?_
    | with_reducible refine within_seq ?_ ?_
    | with_reducible refine within_ask fun _ => ?_
    | with_reducible refine within_each fun _ => ?_
    | with_reducible refine within_whenP ?_
    | with_reducible refine within_upd ?_
    | with_reducible refine within_ite ?_ ?_
    | with_reducible refine within_replicate ?_
    | with_reducible refine openSlot_within ?_
    | with_reducible refine store_within ?_
    | split
    | dsimp only
  all_goals rfl
@[simp] theorem writeSet_avoids {x : SlotSet} {g : Grp} (hg : g ∉ ([.cnts, .mem, .ecc, .mbx, .evt, .grat] : List Grp)) : Avoids g (writeSet x) := (writeSet_within (gs := [.cnts, .mem, .ecc, .mbx, .evt, .grat]) rfl).free hg

theorem mashApply_within {b : Nat} {gs : List Grp} (hgs : within [.cnts, .mbx, .log, .evt, .grat, .mash] gs = true) : Within gs (mashApply b) := by
  refine Within.lift hgs ?_
  clear hgs
  unfold mashApply
  repeat' first
    | with_reducible exact within_skip _
    | with_reducible exact within_nil _
    | with_reducible refine within_cons ?_ ?_
    | with_reducible refine within_seq ?_ ?_
    | with_reducible refine within_ask fun _ => ?_
    | with_reducible refine within_each fun _ => ?_
    | with_reducible refine within_whenP ?_
    | with_reducible refine within_upd ?_
    | with_reducible refine within_ite ?_ ?_
    | with_reducible refine within_replicate ?_
    | with_reducible refine modMash_within ?_
    | with_reducible refine countN_within ?_
    | with_reducible refine logCommit_within ?_
    | with_reducible refine swapSlots_within ?_
    | split
    | dsimp only
  all_goals rfl
@[simp] theorem mashApply_avoids {b : Nat} {g : Grp} (hg : g ∉ ([.cnts, .mbx, .log, .evt, .grat, .mash] : List Grp)) : Avoids g (mashApply b) := (mashApply_within (gs := [.cnts, .mbx, .log, .evt, .grat, .mash]) rfl).free hg

theorem discardEst_within {want : Nat → Bool} {gs : List Grp} (hgs : within [.mash] gs = true) : Within gs (discardEst want) := by
  refine Within.lift hgs ?_
  clear hgs
  unfold discardEst
  repeat' first
    | with_reducible exact within_skip _
    | with_reducible exact within_nil _
    | with_reducible refine within_cons ?_ ?_
    | with_reducible refine within_seq ?_ ?_
    | with_reducible refine within_ask fun _ => ?_
    | with_reducible refine within_each fun _ => ?_
    | with_reducible refine within_whenP ?_
    | with_reducible refine within_upd ?_
    | with_reducible refine within_ite ?_ ?_
    | with_reducible refine within_replicate ?_
    | with_reducible refine modMash_within ?_
    | split
    | dsimp only
  all_goals rfl
@[simp] theorem discardEst_avoids {want : Nat → Bool} {g : Grp} (hg : g ∉ ([.mash] : List Grp)) : Avoids g (discardEst want) := (discardEst_within (gs := [.mash]) rfl).free hg

theorem retouchCtxs_within {want : Nat → Bool} {gs : List Grp} (hgs : within [.mash] gs = true) : Within gs (retouchCtxs want) := by
  refine Within.lift hgs ?_
  clear hgs
  unfold retouchCtxs
  repeat' first
    | with_reducible exact within_skip _
    | with_reducible exact within_nil _
    | with_reducible refine within_cons ?_ ?_
    | with_reducible refine within_seq ?_ ?_
    | with_reducible refine within_ask fun _ => ?_
    | with_reducible refine within_each fun _ => ?_
    | with_reducible refine within_whenP ?_
    | with_reducible refine within_upd ?_
    | with_reducible refine within_ite ?_ ?_
    | with_reducible refine within_replicate ?_
    | with_reducible refine modMash_within ?_
    | split
    | dsimp only
  all_goals rfl
@[simp] theorem retouchCtxs_avoids {want : Nat → Bool} {g : Grp} (hg : g ∉ ([.mash] : List Grp)) : Avoids g (retouchCtxs want) := (retouchCtxs_within (gs := [.mash]) rfl).free hg

theorem modSlice_within {n k : Nat} {f : Slice → Slice} {gs : List Grp} (hgs : within [.conv] gs = true) : Within gs (modSlice n k f) := by
  refine Within.lift hgs ?_
  clear hgs
  unfold modSlice
  repeat' first
    | with_reducible exact within_skip _
    | with_reducible exact within_nil _
    | with_reducible refine within_cons ?_ ?_
    | with_reducible refine within_seq ?_ ?_
    | with_reducible refine within_ask fun _ => ?_
    | with_reducible refine within_each fun _ => ?_
    | with_reducible refine within_whenP ?_
    | with_reducible refine within_upd ?_
    | with_reducible refine within_ite ?_ ?_
    | with_reducible refine within_replicate ?_
    | with_reducible refine modConverter_within ?_
    | split
    | dsimp only
  all_goals rfl
@[simp] theorem modSlice_avoids {n k : Nat} {f : Slice → Slice} {g : Grp} (hg : g ∉ ([.conv] : List Grp)) : Avoids g (modSlice n k f) := (modSlice_within (gs := [.conv]) rfl).free hg

theorem convCount_within {n i : Nat} {gs : List Grp} (hgs : within [.cnts] gs = true) : Within gs (convCount n i) := by
  refine Within.lift hgs ?_
  clear hgs
  unfold convCount
  repeat' first
    | with_reducible exact within_skip _
    | with_reducible exact within_nil _
    | with_reducible refine within_cons ?_ ?_
    | with_reducible refine within_seq ?_ ?_
    | with_reducible refine within_ask fun _ => ?_
    | with_reducible refine within_each fun _ => ?_
    | with_reducible refine within_whenP ?_
    | with_reducible refine within_upd ?_
    | with_reducible refine within_ite ?_ ?_
    | with_reducible refine within_replicate ?_
    | with_reducible refine count_within ?_
    | split
    | dsimp only
  all_goals rfl
@[simp] theorem convCount_avoids {n i : Nat} {g : Grp} (hg : g ∉ ([.cnts] : List Grp)) : Avoids g (convCount n i) := (convCount_within (gs := [.cnts]) rfl).free hg

theorem convCountN_within {n i by_ : Nat} {gs : List Grp} (hgs : within [.cnts] gs = true) : Within gs (convCountN n i by_) := by
  refine Within.lift hgs ?_
  clear hgs
  unfold convCountN
  repeat' first
    | with_reducible exact within_skip _
    | with_reducible exact within_nil _
    | with_reducible refine within_cons ?_ ?_
    | with_reducible refine within_seq ?_ ?_
    | with_reducible refine within_ask fun _ => ?_
    | with_reducible refine within_each fun _ => ?_
    | with_reducible refine within_whenP ?_
    | with_reducible refine within_upd ?_
    | with_reducible refine within_ite ?_ ?_
    | with_reducible refine within_replicate ?_
    | with_reducible refine countN_within ?_
    | split
    | dsimp only
  all_goals rfl
@[simp] theorem convCountN_avoids {n i by_ : Nat} {g : Grp} (hg : g ∉ ([.cnts] : List Grp)) : Avoids g (convCountN n i by_) := (convCountN_within (gs := [.cnts]) rfl).free hg

theorem orxFail_within {k : Nat} {gs : List Grp} (hgs : within [.cnts, .mem, .ecc, .mbx, .log, .evt, .clk, .fh, .mash, .dpd, .rx, .conv, .radio, .survey, .bias] gs = true) : Within gs (orxFail k) := by
  refine Within.lift hgs ?_
  clear hgs
  unfold orxFail
  repeat' first
    | with_reducible exact within_skip _
    | with_reducible exact within_nil _
    | with_reducible refine within_cons ?_ ?_
    | with_reducible refine within_seq ?_ ?_
    | with_reducible refine within_ask fun _ => ?_
    | with_reducible refine within_each fun _ => ?_
    | with_reducible refine within_whenP ?_
    | with_reducible refine within_upd ?_
    | with_reducible refine within_ite ?_ ?_
    | with_reducible refine within_replicate ?_
    | with_reducible refine isolate_within ?_
    | with_reducible refine modOrx_within ?_
    | with_reducible refine setReason_within ?_
    | split
    | dsimp only
  all_goals rfl
@[simp] theorem orxFail_avoids {k : Nat} {g : Grp} (hg : g ∉ ([.cnts, .mem, .ecc, .mbx, .log, .evt, .clk, .fh, .mash, .dpd, .rx, .conv, .radio, .survey, .bias] : List Grp)) : Avoids g (orxFail k) := (orxFail_within (gs := [.cnts, .mem, .ecc, .mbx, .log, .evt, .clk, .fh, .mash, .dpd, .rx, .conv, .radio, .survey, .bias]) rfl).free hg

theorem convFails_within {n : Nat} {gs : List Grp} (hgs : within [.cnts, .mem, .ecc, .mbx, .log, .evt, .clk, .fh, .mash, .tx, .dpd, .rx, .conv, .radio, .survey, .bias] gs = true) : Within gs (convFails n) := by
  refine Within.lift hgs ?_
  clear hgs
  unfold convFails
  repeat' first
    | with_reducible exact within_skip _
    | with_reducible exact within_nil _
    | with_reducible refine within_cons ?_ ?_
    | with_reducible refine within_seq ?_ ?_
    | with_reducible refine within_ask fun _ => ?_
    | with_reducible refine within_each fun _ => ?_
    | with_reducible refine within_whenP ?_
    | with_reducible refine within_upd ?_
    | with_reducible refine within_ite ?_ ?_
    | with_reducible refine within_replicate ?_
    | with_reducible refine modTx_within ?_
    | with_reducible refine isolate_within ?_
    | with_reducible refine modConverter_within ?_
    | with_reducible refine orxFail_within ?_
    | with_reducible refine raise_within ?_
    | split
    | dsimp only
  all_goals rfl
@[simp] theorem convFails_avoids {n : Nat} {g : Grp} (hg : g ∉ ([.cnts, .mem, .ecc, .mbx, .log, .evt, .clk, .fh, .mash, .tx, .dpd, .rx, .conv, .radio, .survey, .bias] : List Grp)) : Avoids g (convFails n) := (convFails_within (gs := [.cnts, .mem, .ecc, .mbx, .log, .evt, .clk, .fh, .mash, .tx, .dpd, .rx, .conv, .radio, .survey, .bias]) rfl).free hg

theorem failSlice_within {n k : Nat} {gs : List Grp} (hgs : within [.cnts, .mem, .ecc, .mbx, .log, .evt, .clk, .fh, .mash, .tx, .dpd, .rx, .conv, .radio, .survey, .bias] gs = true) : Within gs (failSlice n k) := by
  refine Within.lift hgs ?_
  clear hgs
  unfold failSlice
  repeat' first
    | with_reducible exact within_skip _
    | with_reducible exact within_nil _
    | with_reducible refine within_cons ?_ ?_
    | with_reducible refine within_seq ?_ ?_
    | with_reducible refine within_ask fun _ => ?_
    | with_reducible refine within_each fun _ => ?_
    | with_reducible refine within_whenP ?_
    | with_reducible refine within_upd ?_
    | with_reducible refine within_ite ?_ ?_
    | with_reducible refine within_replicate ?_
    | with_reducible refine convFails_within ?_
    | with_reducible refine isolate_within ?_
    | with_reducible refine modConverter_within ?_
    | with_reducible refine modSlice_within ?_
    | with_reducible refine raise_within ?_
    | split
    | dsimp only
  all_goals rfl
@[simp] theorem failSlice_avoids {n k : Nat} {g : Grp} (hg : g ∉ ([.cnts, .mem, .ecc, .mbx, .log, .evt, .clk, .fh, .mash, .tx, .dpd, .rx, .conv, .radio, .survey, .bias] : List Grp)) : Avoids g (failSlice n k) := (failSlice_within (gs := [.cnts, .mem, .ecc, .mbx, .log, .evt, .clk, .fh, .mash, .tx, .dpd, .rx, .conv, .radio, .survey, .bias]) rfl).free hg

theorem spareDisagrees_within {n k : Nat} {gs : List Grp} (hgs : within [.cnts, .mem, .ecc, .mbx, .log, .evt, .clk, .fh, .mash, .tx, .dpd, .rx, .conv, .radio, .survey, .bias] gs = true) : Within gs (spareDisagrees n k) := by
  refine Within.lift hgs ?_
  clear hgs
  unfold spareDisagrees
  repeat' first
    | with_reducible exact within_skip _
    | with_reducible exact within_nil _
    | with_reducible refine within_cons ?_ ?_
    | with_reducible refine within_seq ?_ ?_
    | with_reducible refine within_ask fun _ => ?_
    | with_reducible refine within_each fun _ => ?_
    | with_reducible refine within_whenP ?_
    | with_reducible refine within_upd ?_
    | with_reducible refine within_ite ?_ ?_
    | with_reducible refine within_replicate ?_
    | with_reducible refine convCount_within ?_
    | with_reducible refine failSlice_within ?_
    | with_reducible refine modConverter_within ?_
    | split
    | dsimp only
  all_goals rfl
@[simp] theorem spareDisagrees_avoids {n k : Nat} {g : Grp} (hg : g ∉ ([.cnts, .mem, .ecc, .mbx, .log, .evt, .clk, .fh, .mash, .tx, .dpd, .rx, .conv, .radio, .survey, .bias] : List Grp)) : Avoids g (spareDisagrees n k) := (spareDisagrees_within (gs := [.cnts, .mem, .ecc, .mbx, .log, .evt, .clk, .fh, .mash, .tx, .dpd, .rx, .conv, .radio, .survey, .bias]) rfl).free hg

end Sys2Proof.Laws
end

