-- ==== Sys2Proof/Laws/Reach3.lean ====
section
/-! SUPPORT. The groups of the state that each shared operation can reach: `x_within` for every list that holds them, `x_avoids` for
every other group, so that simp reads an untouched field through any program. -/

namespace Sys2Proof.Laws

open Sys2Proof Sys2Proof.Machine

theorem exchange_within {n k : Nat} {gs : List Grp} (hgs : within [.conv] gs = true) : Within gs (exchange n k) := by
  refine Within.lift hgs ?_
  clear hgs
  unfold exchange
  repeat' first
    | with_reducible exact within_skip _
    | with_reducible exact within_nil _
    | with_reducible refine within_cons ?_ ?_
    | with_reducible refine within_seq ?_ ?_
    | with_reducible refine within_ask fun _ => ?_
    | with_reducible refine within_each fun _ => ?_
    | with_reducible refine within_whenP ?_
    | with_reducible refine within_upd ?_
    | with_reducible refine within_ite ?_ ?_
    | with_reducible refine within_replicate ?_
    | with_reducible refine modConverter_within ?_
    | with_reducible refine modSlice_within ?_
    | split
    | dsimp only
  all_goals rfl
@[simp] theorem exchange_avoids {n k : Nat} {g : Grp} (hg : g ∉ ([.conv] : List Grp)) : Avoids g (exchange n k) := (exchange_within (gs := [.conv]) rfl).free hg

theorem ditherCycle_within {gs : List Grp} (hgs : within [.conv] gs = true) : Within gs ditherCycle := by
  refine Within.lift hgs ?_
  clear hgs
  unfold ditherCycle
  repeat' first
    | with_reducible exact within_skip _
    | with_reducible exact within_nil _
    | with_reducible refine within_cons ?_ ?_
    | with_reducible refine within_seq ?_ ?_
    | with_reducible refine within_ask fun _ => ?_
    | with_reducible refine within_each fun _ => ?_
    | with_reducible refine within_whenP ?_
    | with_reducible refine within_upd ?_
    | with_reducible refine within_ite ?_ ?_
    | with_reducible refine within_replicate ?_
    | with_reducible refine modConv_within ?_
    | split
    | dsimp only
  all_goals rfl
@[simp] theorem ditherCycle_avoids {g : Grp} (hg : g ∉ ([.conv] : List Grp)) : Avoids g ditherCycle := (ditherCycle_within (gs := [.conv]) rfl).free hg

theorem hkUpdate_within {ch code : Nat} {v : Int} {gs : List Grp} (hgs : within [.cnts, .host, .mbx, .evt, .pwr, .hk] gs = true) : Within gs (hkUpdate ch code v) := by
  refine Within.lift hgs ?_
  clear hgs
  unfold hkUpdate
  repeat' first
    | with_reducible exact within_skip _
    | with_reducible exact within_nil _
    | with_reducible refine within_cons ?_ ?_
    | with_reducible refine within_seq ?_ ?_
    | with_reducible refine within_ask fun _ => ?_
    | with_reducible refine within_each fun _ => ?_
    | with_reducible refine within_whenP ?_
    | with_reducible refine within_upd ?_
    | with_reducible refine within_ite ?_ ?_
    | with_reducible refine within_replicate ?_
    | with_reducible refine modHk_within ?_
    | with_reducible refine raise_within ?_
    | with_reducible refine raiseFl_within ?_
    | with_reducible refine setFault_within ?_
    | split
    | dsimp only
  all_goals rfl
@[simp] theorem hkUpdate_avoids {ch code : Nat} {v : Int} {g : Grp} (hg : g ∉ ([.cnts, .host, .mbx, .evt, .pwr, .hk] : List Grp)) : Avoids g (hkUpdate ch code v) := (hkUpdate_within (gs := [.cnts, .host, .mbx, .evt, .pwr, .hk]) rfl).free hg

theorem hkConvert_within {conversions : List Nat} {gs : List Grp} (hgs : within [.cnts, .host, .mbx, .evt, .clk, .pwr, .hk] gs = true) : Within gs (hkConvert conversions) := by
  refine Within.lift hgs ?_
  clear hgs
  unfold hkConvert
  repeat' first
    | with_reducible exact within_skip _
    | with_reducible exact within_nil _
    | with_reducible refine within_cons ?_ ?_
    | with_reducible refine within_seq ?_ ?_
    | with_reducible refine within_ask fun _ => ?_
    | with_reducible refine within_each fun _ => ?_
    | with_reducible refine within_whenP ?_
    | with_reducible refine within_upd ?_
    | with_reducible refine within_ite ?_ ?_
    | with_reducible refine within_replicate ?_
    | with_reducible refine modHk_within ?_
    | with_reducible refine hkUpdate_within ?_
    | with_reducible refine stamp_within ?_
    | split
    | dsimp only
  all_goals rfl
@[simp] theorem hkConvert_avoids {conversions : List Nat} {g : Grp} (hg : g ∉ ([.cnts, .host, .mbx, .evt, .clk, .pwr, .hk] : List Grp)) : Avoids g (hkConvert conversions) := (hkConvert_within (gs := [.cnts, .host, .mbx, .evt, .clk, .pwr, .hk]) rfl).free hg

theorem sheetTemps_within {sheet : Nat} {t0 t1 : Int} {gs : List Grp} (hgs : within [.cnts, .host, .mbx, .evt, .clk, .pwr, .hk] gs = true) : Within gs (sheetTemps sheet t0 t1) := by
  refine Within.lift hgs ?_
  clear hgs
  unfold sheetTemps
  repeat' first
    | with_reducible exact within_skip _
    | with_reducible exact within_nil _
    | with_reducible refine within_cons ?_ ?_
    | with_reducible refine within_seq ?_ ?_
    | with_reducible refine within_ask fun _ => ?_
    | with_reducible refine within_each fun _ => ?_
    | with_reducible refine within_whenP ?_
    | with_reducible refine within_upd ?_
    | with_reducible refine within_ite ?_ ?_
    | with_reducible refine within_replicate ?_
    | with_reducible refine hkUpdate_within ?_
    | with_reducible refine stamp_within ?_
    | split
    | dsimp only
  all_goals rfl
@[simp] theorem sheetTemps_avoids {sheet : Nat} {t0 t1 : Int} {g : Grp} (hg : g ∉ ([.cnts, .host, .mbx, .evt, .clk, .pwr, .hk] : List Grp)) : Avoids g (sheetTemps sheet t0 t1) := (sheetTemps_within (gs := [.cnts, .host, .mbx, .evt, .clk, .pwr, .hk]) rfl).free hg

theorem returnSlice_within {n k : Nat} {t : Int × Int} {gs : List Grp} (hgs : within [.cnts, .mem, .ecc, .mbx, .log, .evt, .clk, .fh, .mash, .tx, .dpd, .rx, .conv, .radio, .survey, .bias] gs = true) : Within gs (returnSlice n k t) := by
  refine Within.lift hgs ?_
  clear hgs
  unfold returnSlice
  repeat' first
    | with_reducible exact within_skip _
    | with_reducible exact within_nil _
    | with_reducible refine within_cons ?_ ?_
    | with_reducible refine within_seq ?_ ?_
    | with_reducible refine within_ask fun _ => ?_
    | with_reducible refine within_each fun _ => ?_
    | with_reducible refine within_whenP ?_
    | with_reducible refine within_upd ?_
    | with_reducible refine within_ite ?_ ?_
    | with_reducible refine within_replicate ?_
    | with_reducible refine modTx_within ?_
    | with_reducible refine isolate_within ?_
    | with_reducible refine modConverter_within ?_
    | with_reducible refine modSlice_within ?_
    | split
    | dsimp only
  all_goals rfl
@[simp] theorem returnSlice_avoids {n k : Nat} {t : Int × Int} {g : Grp} (hg : g ∉ ([.cnts, .mem, .ecc, .mbx, .log, .evt, .clk, .fh, .mash, .tx, .dpd, .rx, .conv, .radio, .survey, .bias] : List Grp)) : Avoids g (returnSlice n k t) := (returnSlice_within (gs := [.cnts, .mem, .ecc, .mbx, .log, .evt, .clk, .fh, .mash, .tx, .dpd, .rx, .conv, .radio, .survey, .bias]) rfl).free hg

theorem modMaster_within {m : Nat} {f : RffeMaster → RffeMaster} {gs : List Grp} (hgs : within [.rffe] gs = true) : Within gs (modMaster m f) := by
  refine Within.lift hgs ?_
  clear hgs
  unfold modMaster
  repeat' first
    | with_reducible exact within_skip _
    | with_reducible exact within_nil _
    | with_reducible refine within_cons ?_ ?_
    | with_reducible refine within_seq ?_ ?_
    | with_reducible refine within_ask fun _ => ?_
    | with_reducible refine within_each fun _ => ?_
    | with_reducible refine within_whenP ?_
    | with_reducible refine within_upd ?_
    | with_reducible refine within_ite ?_ ?_
    | with_reducible refine within_replicate ?_
    | with_reducible refine modRffe_within ?_
    | split
    | dsimp only
  all_goals rfl
@[simp] theorem modMaster_avoids {m : Nat} {f : RffeMaster → RffeMaster} {g : Grp} (hg : g ∉ ([.rffe] : List Grp)) : Avoids g (modMaster m f) := (modMaster_within (gs := [.rffe]) rfl).free hg

theorem critGroup_within {m origin due target tag : Nat} {data : List Rec} {trig : Rec} {gs : List Grp} (hgs : within [.rffe] gs = true) : Within gs (critGroup m origin due target tag data trig) := by
  refine Within.lift hgs ?_
  clear hgs
  unfold critGroup
  repeat' first
    | with_reducible exact within_skip _
    | with_reducible exact within_nil _
    | with_reducible refine within_cons ?_ ?_
    | with_reducible refine within_seq ?_ ?_
    | with_reducible refine within_ask fun _ => ?_
    | with_reducible refine within_each fun _ => ?_
    | with_reducible refine within_whenP ?_
    | with_reducible refine within_upd ?_
    | with_reducible refine within_ite ?_ ?_
    | with_reducible refine within_replicate ?_
    | with_reducible refine modRffe_within ?_
    | with_reducible refine modMaster_within ?_
    | split
    | dsimp only
  all_goals rfl
@[simp] theorem critGroup_avoids {m origin due target tag : Nat} {data : List Rec} {trig : Rec} {g : Grp} (hg : g ∉ ([.rffe] : List Grp)) : Avoids g (critGroup m origin due target tag data trig) := (critGroup_within (gs := [.rffe]) rfl).free hg

theorem schedGroup_within {m due target : Nat} {data : List Rec} {trig : Rec} {gs : List Grp} (hgs : within [.rffe] gs = true) : Within gs (schedGroup m due target data trig) := by
  refine Within.lift hgs ?_
  clear hgs
  unfold schedGroup
  repeat' first
    | with_reducible exact within_skip _
    | with_reducible exact within_nil _
    | with_reducible refine within_cons ?_ ?_
    | with_reducible refine within_seq ?_ ?_
    | with_reducible refine within_ask fun _ => ?_
    | with_reducible refine within_each fun _ => ?_
    | with_reducible refine within_whenP ?_
    | with_reducible refine within_upd ?_
    | with_reducible refine within_ite ?_ ?_
    | with_reducible refine within_replicate ?_
    | with_reducible refine modRffe_within ?_
    | with_reducible refine modMaster_within ?_
    | split
    | dsimp only
  all_goals rfl
@[simp] theorem schedGroup_avoids {m due target : Nat} {data : List Rec} {trig : Rec} {g : Grp} (hg : g ∉ ([.rffe] : List Grp)) : Avoids g (schedGroup m due target data trig) := (schedGroup_within (gs := [.rffe]) rfl).free hg

theorem lateTrigger_within {m : Nat} {r : Rffe} {gs : List Grp} (hgs : within [.cnts, .mbx, .evt, .rffe] gs = true) : Within gs (lateTrigger m r) := by
  refine Within.lift hgs ?_
  clear hgs
  unfold lateTrigger
  repeat' first
    | with_reducible exact within_skip _
    | with_reducible exact within_nil _
    | with_reducible refine within_cons ?_ ?_
    | with_reducible refine within_seq ?_ ?_
    | with_reducible refine within_ask fun _ => ?_
    | with_reducible refine within_each fun _ => ?_
    | with_reducible refine within_whenP ?_
    | with_reducible refine within_upd ?_
    | with_reducible refine within_ite ?_ ?_
    | with_reducible refine within_replicate ?_
    | with_reducible refine modRffe_within ?_
    | with_reducible refine count_within ?_
    | with_reducible refine raise_within ?_
    | split
    | dsimp only
  all_goals rfl
@[simp] theorem lateTrigger_avoids {m : Nat} {r : Rffe} {g : Grp} (hg : g ∉ ([.cnts, .mbx, .evt, .rffe] : List Grp)) : Avoids g (lateTrigger m r) := (lateTrigger_within (gs := [.cnts, .mbx, .evt, .rffe]) rfl).free hg

theorem dropDue_within {m : Nat} {gs : List Grp} (hgs : within [.cnts, .rffe] gs = true) : Within gs (dropDue m) := by
  refine Within.lift hgs ?_
  clear hgs
  unfold dropDue
  repeat' first
    | with_reducible exact within_skip _
    | with_reducible exact within_nil _
    | with_reducible refine within_cons ?_ ?_
    | with_reducible refine within_seq ?_ ?_
    | with_reducible refine within_ask fun _ => ?_
    | with_reducible refine within_each fun _ => ?_
    | with_reducible refine within_whenP ?_
    | with_reducible refine within_upd ?_
    | with_reducible refine within_ite ?_ ?_
    | with_reducible refine within_replicate ?_
    | with_reducible refine countN_within ?_
    | with_reducible refine modMaster_within ?_
    | split
    | dsimp only
  all_goals rfl
@[simp] theorem dropDue_avoids {m : Nat} {g : Grp} (hg : g ∉ ([.cnts, .rffe] : List Grp)) : Avoids g (dropDue m) := (dropDue_within (gs := [.cnts, .rffe]) rfl).free hg

theorem couplerWrite_within {r : Rec} {line : Option Nat} {gs : List Grp} (hgs : within [.rffe] gs = true) : Within gs (couplerWrite r line) := by
  refine Within.lift hgs ?_
  clear hgs
  unfold couplerWrite
  repeat' first
    | with_reducible exact within_skip _
    | with_reducible exact within_nil _
    | with_reducible refine within_cons ?_ ?_
    | with_reducible refine within_seq ?_ ?_
    | with_reducible refine within_ask fun _ => ?_
    | with_reducible refine within_each fun _ => ?_
    | with_reducible refine within_whenP ?_
    | with_reducible refine within_upd ?_
    | with_reducible refine within_ite ?_ ?_
    | with_reducible refine within_replicate ?_
    | with_reducible refine critGroup_within ?_
    | split
    | dsimp only
  all_goals rfl
@[simp] theorem couplerWrite_avoids {r : Rec} {line : Option Nat} {g : Grp} (hg : g ∉ ([.rffe] : List Grp)) : Avoids g (couplerWrite r line) := (couplerWrite_within (gs := [.rffe]) rfl).free hg

theorem bindHop_within {sheet tag : Nat} {h : Radio × Radio × Nat} {gs : List Grp} (hgs : within [.rffe] gs = true) : Within gs (bindHop sheet tag h) := by
  refine Within.lift hgs ?_
  clear hgs
  unfold bindHop
  repeat' first
    | with_reducible exact within_skip _
    | with_reducible exact within_nil _
    | with_reducible refine within_cons ?_ ?_
    | with_reducible refine within_seq ?_ ?_
    | with_reducible refine within_ask fun _ => ?_
    | with_reducible refine within_each fun _ => ?_
    | with_reducible refine within_whenP ?_
    | with_reducible refine within_upd ?_
    | with_reducible refine within_ite ?_ ?_
    | with_reducible refine within_replicate ?_
    | with_reducible refine critGroup_within ?_
    | split
    | dsimp only
  all_goals rfl
@[simp] theorem bindHop_avoids {sheet tag : Nat} {h : Radio × Radio × Nat} {g : Grp} (hg : g ∉ ([.rffe] : List Grp)) : Avoids g (bindHop sheet tag h) := (bindHop_within (gs := [.rffe]) rfl).free hg

theorem armBound_within {sheet tag te : Nat} {a b : Radio} {gs : List Grp} (hgs : within [.rffe] gs = true) : Within gs (armBound sheet tag te a b) := by
  refine Within.lift hgs ?_
  clear hgs
  unfold armBound
  repeat' first
    | with_reducible exact within_skip _
    | with_reducible exact within_nil _
    | with_reducible refine within_cons ?_ ?_
    | with_reducible refine within_seq ?_ ?_
    | with_reducible refine within_ask fun _ => ?_
    | with_reducible refine within_each fun _ => ?_
    | with_reducible refine within_whenP ?_
    | with_reducible refine within_upd ?_
    | with_reducible refine within_ite ?_ ?_
    | with_reducible refine within_replicate ?_
    | with_reducible refine bindHop_within ?_
    | split
    | dsimp only
  all_goals rfl
@[simp] theorem armBound_avoids {sheet tag te : Nat} {a b : Radio} {g : Grp} (hg : g ∉ ([.rffe] : List Grp)) : Avoids g (armBound sheet tag te a b) := (armBound_within (gs := [.rffe]) rfl).free hg

theorem dropBound_within {sheet tag : Nat} {gs : List Grp} (hgs : within [.rffe] gs = true) : Within gs (dropBound sheet tag) := by
  refine Within.lift hgs ?_
  clear hgs
  unfold dropBound
  repeat' first
    | with_reducible exact within_skip _
    | with_reducible exact within_nil _
    | with_reducible refine within_cons ?_ ?_
    | with_reducible refine within_seq ?_ ?_
    | with_reducible refine within_ask fun _ => ?_
    | with_reducible refine within_each fun _ => ?_
    | with_reducible refine within_whenP ?_
    | with_reducible refine within_upd ?_
    | with_reducible refine within_ite ?_ ?_
    | with_reducible refine within_replicate ?_
    | with_reducible refine modMaster_within ?_
    | split
    | dsimp only
  all_goals rfl
@[simp] theorem dropBound_avoids {sheet tag : Nat} {g : Grp} (hg : g ∉ ([.rffe] : List Grp)) : Avoids g (dropBound sheet tag) := (dropBound_within (gs := [.rffe]) rfl).free hg

theorem modCamp_within {number : Nat} {f : Camp → Camp} {gs : List Grp} (hgs : within [.survey] gs = true) : Within gs (modCamp number f) := by
  refine Within.lift hgs ?_
  clear hgs
  unfold modCamp
  repeat' first
    | with_reducible exact within_skip _
    | with_reducible exact within_nil _
    | with_reducible refine within_cons ?_ ?_
    | with_reducible refine within_seq ?_ ?_
    | with_reducible refine within_ask fun _ => ?_
    | with_reducible refine within_each fun _ => ?_
    | with_reducible refine within_whenP ?_
    | with_reducible refine within_upd ?_
    | with_reducible refine within_ite ?_ ?_
    | with_reducible refine within_replicate ?_
    | with_reducible refine modSurvey_within ?_
    | split
    | dsimp only
  all_goals rfl
@[simp] theorem modCamp_avoids {number : Nat} {f : Camp → Camp} {g : Grp} (hg : g ∉ ([.survey] : List Grp)) : Avoids g (modCamp number f) := (modCamp_within (gs := [.survey]) rfl).free hg

theorem dropCamp_within {number : Nat} {gs : List Grp} (hgs : within [.survey] gs = true) : Within gs (dropCamp number) := by
  refine Within.lift hgs ?_
  clear hgs
  unfold dropCamp
  repeat' first
    | with_reducible exact within_skip _
    | with_reducible exact within_nil _
    | with_reducible refine within_cons ?_ ?_
    | with_reducible refine within_seq ?_ ?_
    | with_reducible refine within_ask fun _ => ?_
    | with_reducible refine within_each fun _ => ?_
    | with_reducible refine within_whenP ?_
    | with_reducible refine within_upd ?_
    | with_reducible refine within_ite ?_ ?_
    | with_reducible refine within_replicate ?_
    | with_reducible refine modSurvey_within ?_
    | split
    | dsimp only
  all_goals rfl
@[simp] theorem dropCamp_avoids {number : Nat} {g : Grp} (hg : g ∉ ([.survey] : List Grp)) : Avoids g (dropCamp number) := (dropCamp_within (gs := [.survey]) rfl).free hg

theorem startCamp_within {full skip : Bool} {mask tk : Nat} {parent : Option (Frame × Nat)} {gs : List Grp} (hgs : within [.radio, .survey] gs = true) : Within gs (startCamp full skip mask tk parent) := by
  refine Within.lift hgs ?_
  clear hgs
  unfold startCamp
  repeat' first
    | with_reducible exact within_skip _
    | with_reducible exact within_nil _
    | with_reducible refine within_cons ?_ ?_
    | with_reducible refine within_seq ?_ ?_
    | with_reducible refine within_ask fun _ => ?_
    | with_reducible refine within_each fun _ => ?_
    | with_reducible refine within_whenP ?_
    | with_reducible refine within_upd ?_
    | with_reducible refine within_ite ?_ ?_
    | with_reducible refine within_replicate ?_
    | with_reducible refine modSurvey_within ?_
    | with_reducible refine modSheet_within ?_
    | split
    | dsimp only
  all_goals rfl
@[simp] theorem startCamp_avoids {full skip : Bool} {mask tk : Nat} {parent : Option (Frame × Nat)} {g : Grp} (hg : g ∉ ([.radio, .survey] : List Grp)) : Avoids g (startCamp full skip mask tk parent) := (startCamp_within (gs := [.radio, .survey]) rfl).free hg

theorem rejectSheet_within {n code : Nat} {gs : List Grp} (hgs : within [.cnts, .survey] gs = true) : Within gs (rejectSheet n code) := by
  refine Within.lift hgs ?_
  clear hgs
  unfold rejectSheet
  repeat' first
    | with_reducible exact within_skip _
    | with_reducible exact within_nil _
    | with_reducible refine within_cons ?_ ?_
    | with_reducible refine within_seq ?_ ?_
    | with_reducible refine within_ask fun _ => ?_
    | with_reducible refine within_each fun _ => ?_
    | with_reducible refine within_whenP ?_
    | with_reducible refine within_upd ?_
    | with_reducible refine within_ite ?_ ?_
    | with_reducible refine within_replicate ?_
    | with_reducible refine modSurvey_within ?_
    | with_reducible refine count_within ?_
    | split
    | dsimp only
  all_goals rfl
@[simp] theorem rejectSheet_avoids {n code : Nat} {g : Grp} (hg : g ∉ ([.cnts, .survey] : List Grp)) : Avoids g (rejectSheet n code) := (rejectSheet_within (gs := [.cnts, .survey]) rfl).free hg

theorem surveyDone_within {number status : Nat} {gs : List Grp} (hgs : within [.cnts, .mbx, .evt] gs = true) : Within gs (surveyDone number status) := by
  refine Within.lift hgs ?_
  clear hgs
  unfold surveyDone
  repeat' first
    | with_reducible exact within_skip _
    | with_reducible exact within_nil _
    | with_reducible refine within_cons ?_ ?_
    | with_reducible refine within_seq ?_ ?_
    | with_reducible refine within_ask fun _ => ?_
    | with_reducible refine within_each fun _ => ?_
    | with_reducible refine within_whenP ?_
    | with_reducible refine within_upd ?_
    | with_reducible refine within_ite ?_ ?_
    | with_reducible refine within_replicate ?_
    | with_reducible refine raise_within ?_
    | split
    | dsimp only
  all_goals rfl
@[simp] theorem surveyDone_avoids {number status : Nat} {g : Grp} (hg : g ∉ ([.cnts, .mbx, .evt] : List Grp)) : Avoids g (surveyDone number status) := (surveyDone_within (gs := [.cnts, .mbx, .evt]) rfl).free hg

theorem abandonCamps_within {n : Nat} {again : Bool} {gs : List Grp} (hgs : within [.cnts, .mbx, .evt, .radio, .survey] gs = true) : Within gs (abandonCamps n again) := by
  refine Within.lift hgs ?_
  clear hgs
  unfold abandonCamps
  repeat' first
    | with_reducible exact within_skip _
    | with_reducible exact within_nil _
    | with_reducible refine within_cons ?_ ?_
    | with_reducible refine within_seq ?_ ?_
    | with_reducible refine within_ask fun _ => ?_
    | with_reducible refine within_each fun _ => ?_
    | with_reducible refine within_whenP ?_
    | with_reducible refine within_upd ?_
    | with_reducible refine within_ite ?_ ?_
    | with_reducible refine within_replicate ?_
    | with_reducible refine dropCamp_within ?_
    | with_reducible refine rejectSheet_within ?_
    | with_reducible refine startCamp_within ?_
    | with_reducible refine surveyDone_within ?_
    | split
    | dsimp only
  all_goals rfl
@[simp] theorem abandonCamps_avoids {n : Nat} {again : Bool} {g : Grp} (hg : g ∉ ([.cnts, .mbx, .evt, .radio, .survey] : List Grp)) : Avoids g (abandonCamps n again) := (abandonCamps_within (gs := [.cnts, .mbx, .evt, .radio, .survey]) rfl).free hg

theorem streak_within {s : State} {c : Camp} {l : List Reading} {e : Nat} {gs : List Grp} (hgs : within [.cnts, .mem, .ecc, .mbx, .log, .evt, .clk, .fh, .mash, .dpd, .rx, .conv, .radio, .survey, .bias] gs = true) : Within gs (streak s c l e) := by
  refine Within.lift hgs ?_
  clear hgs
  unfold streak
  repeat' first
    | with_reducible exact within_skip _
    | with_reducible exact within_nil _
    | with_reducible refine within_cons ?_ ?_
    | with_reducible refine within_seq ?_ ?_
    | with_reducible refine within_ask fun _ => ?_
    | with_reducible refine within_each fun _ => ?_
    | with_reducible refine within_whenP ?_
    | with_reducible refine within_upd ?_
    | with_reducible refine within_ite ?_ ?_
    | with_reducible refine within_replicate ?_
    | with_reducible refine modSurvey_within ?_
    | with_reducible refine count_within ?_
    | with_reducible refine isolate_within ?_
    | split
    | dsimp only
  all_goals rfl
@[simp] theorem streak_avoids {s : State} {c : Camp} {l : List Reading} {e : Nat} {g : Grp} (hg : g ∉ ([.cnts, .mem, .ecc, .mbx, .log, .evt, .clk, .fh, .mash, .dpd, .rx, .conv, .radio, .survey, .bias] : List Grp)) : Avoids g (streak s c l e) := (streak_within (gs := [.cnts, .mem, .ecc, .mbx, .log, .evt, .clk, .fh, .mash, .dpd, .rx, .conv, .radio, .survey, .bias]) rfl).free hg

theorem requeue_within {n : Nat} {parent : Frame × Nat} {gs : List Grp} (hgs : within [.cnts, .host, .mbx, .evt, .pwr, .radio, .survey] gs = true) : Within gs (requeue n parent) := by
  refine Within.lift hgs ?_
  clear hgs
  unfold requeue
  repeat' first
    | with_reducible exact within_skip _
    | with_reducible exact within_nil _
    | with_reducible refine within_cons ?_ ?_
    | with_reducible refine within_seq ?_ ?_
    | with_reducible refine within_ask fun _ => ?_
    | with_reducible refine within_each fun _ => ?_
    | with_reducible refine within_whenP ?_
    | with_reducible refine within_upd ?_
    | with_reducible refine within_ite ?_ ?_
    | with_reducible refine within_replicate ?_
    | with_reducible refine modSurvey_within ?_
    | with_reducible refine modSheet_within ?_
    | with_reducible refine raiseFl_within ?_
    | with_reducible refine setFault_within ?_
    | with_reducible refine startCamp_within ?_
    | split
    | dsimp only
  all_goals rfl
@[simp] theorem requeue_avoids {n : Nat} {parent : Frame × Nat} {g : Grp} (hg : g ∉ ([.cnts, .host, .mbx, .evt, .pwr, .radio, .survey] : List Grp)) : Avoids g (requeue n parent) := (requeue_within (gs := [.cnts, .host, .mbx, .evt, .pwr, .radio, .survey]) rfl).free hg

theorem countRecip_within {s0 : State} {gs : List Grp} (hgs : within [.cnts] gs = true) : Within gs (countRecip s0) := by
  refine Within.lift hgs ?_
  clear hgs
  unfold countRecip
  repeat' first
    | with_reducible exact within_skip _
    | with_reducible exact within_nil _
    | with_reducible refine within_cons ?_ ?_
    | with_reducible refine within_seq ?_ ?_
    | with_reducible refine within_ask fun _ => ?_
    | with_reducible refine within_each fun _ => ?_
    | with_reducible refine within_whenP ?_
    | with_reducible refine within_upd ?_
    | with_reducible refine within_ite ?_ ?_
    | with_reducible refine within_replicate ?_
    | with_reducible refine countN_within ?_
    | split
    | dsimp only
  all_goals rfl
@[simp] theorem countRecip_avoids {s0 : State} {g : Grp} (hg : g ∉ ([.cnts] : List Grp)) : Avoids g (countRecip s0) := (countRecip_within (gs := [.cnts]) rfl).free hg

theorem modElem_within {e : Nat} {f : Elem → Elem} {gs : List Grp} (hgs : within [.survey] gs = true) : Within gs (modElem e f) := by
  refine Within.lift hgs ?_
  clear hgs
  unfold modElem
  repeat' first
    | with_reducible exact within_skip _
    | with_reducible exact within_nil _
    | with_reducible refine within_cons ?_ ?_
    | with_reducible refine within_seq ?_ ?_
    | with_reducible refine within_ask fun _ => ?_
    | with_reducible refine within_each fun _ => ?_
    | with_reducible refine within_whenP ?_
    | with_reducible refine within_upd ?_
    | with_reducible refine within_ite ?_ ?_
    | with_reducible refine within_replicate ?_
    | with_reducible refine modSurvey_within ?_
    | split
    | dsimp only
  all_goals rfl
@[simp] theorem modElem_avoids {e : Nat} {f : Elem → Elem} {g : Grp} (hg : g ∉ ([.survey] : List Grp)) : Avoids g (modElem e f) := (modElem_within (gs := [.survey]) rfl).free hg

theorem latchTerms_within {n : Nat} {t : Int} {b kind : Nat} {gs : List Grp} (hgs : within [.cnts, .mbx, .log, .evt, .survey, .bias] gs = true) : Within gs (latchTerms n t b kind) := by
  refine Within.lift hgs ?_
  clear hgs
  unfold latchTerms
  repeat' first
    | with_reducible exact within_skip _
    | with_reducible exact within_nil _
    | with_reducible refine within_cons ?_ ?_
    | with_reducible refine within_seq ?_ ?_
    | with_reducible refine within_ask fun _ => ?_
    | with_reducible refine within_each fun _ => ?_
    | with_reducible refine within_whenP ?_
    | with_reducible refine within_upd ?_
    | with_reducible refine within_ite ?_ ?_
    | with_reducible refine within_replicate ?_
    | with_reducible refine biasSheet_within ?_
    | with_reducible refine countN_within ?_
    | with_reducible refine countRecip_within ?_
    | with_reducible refine logCommit_within ?_
    | with_reducible refine modElem_within ?_
    | split
    | dsimp only
  all_goals rfl
@[simp] theorem latchTerms_avoids {n : Nat} {t : Int} {b kind : Nat} {g : Grp} (hg : g ∉ ([.cnts, .mbx, .log, .evt, .survey, .bias] : List Grp)) : Avoids g (latchTerms n t b kind) := (latchTerms_within (gs := [.cnts, .mbx, .log, .evt, .survey, .bias]) rfl).free hg

theorem latchSheet_within {n : Nat} {t : Int} {b kind : Nat} {gs : List Grp} (hgs : within [.cnts, .mbx, .log, .evt, .fh, .survey, .bias] gs = true) : Within gs (latchSheet n t b kind) := by
  refine Within.lift hgs ?_
  clear hgs
  unfold latchSheet
  repeat' first
    | with_reducible exact within_skip _
    | with_reducible exact within_nil _
    | with_reducible refine within_cons ?_ ?_
    | with_reducible refine within_seq ?_ ?_
    | with_reducible refine within_ask fun _ => ?_
    | with_reducible refine within_each fun _ => ?_
    | with_reducible refine within_whenP ?_
    | with_reducible refine within_upd ?_
    | with_reducible refine within_ite ?_ ?_
    | with_reducible refine within_replicate ?_
    | with_reducible refine modSurvey_within ?_
    | with_reducible refine holdUl_within ?_
    | with_reducible refine latchTerms_within ?_
    | split
    | dsimp only
  all_goals rfl
@[simp] theorem latchSheet_avoids {n : Nat} {t : Int} {b kind : Nat} {g : Grp} (hg : g ∉ ([.cnts, .mbx, .log, .evt, .fh, .survey, .bias] : List Grp)) : Avoids g (latchSheet n t b kind) := (latchSheet_within (gs := [.cnts, .mbx, .log, .evt, .fh, .survey, .bias]) rfl).free hg

theorem abandonSteeps_within {want : Steep → Bool} {gs : List Grp} (hgs : within [.cnts, .survey] gs = true) : Within gs (abandonSteeps want) := by
  refine Within.lift hgs ?_
  clear hgs
  unfold abandonSteeps
  repeat' first
    | with_reducible exact within_skip _
    | with_reducible exact within_nil _
    | with_reducible refine within_cons ?_ ?_
    | with_reducible refine within_seq ?_ ?_
    | with_reducible refine within_ask fun _ => ?_
    | with_reducible refine within_each fun _ => ?_
    | with_reducible refine within_whenP ?_
    | with_reducible refine within_upd ?_
    | with_reducible refine within_ite ?_ ?_
    | with_reducible refine within_replicate ?_
    | with_reducible refine modSurvey_within ?_
    | with_reducible refine countN_within ?_
    | split
    | dsimp only
  all_goals rfl
@[simp] theorem abandonSteeps_avoids {want : Steep → Bool} {g : Grp} (hg : g ∉ ([.cnts, .survey] : List Grp)) : Avoids g (abandonSteeps want) := (abandonSteeps_within (gs := [.cnts, .survey]) rfl).free hg

theorem steepDone_within {q : Steep} {gs : List Grp} (hgs : within [.survey] gs = true) : Within gs (steepDone q) := by
  refine Within.lift hgs ?_
  clear hgs
  unfold steepDone
  repeat' first
    | with_reducible exact within_skip _
    | with_reducible exact within_nil _
    | with_reducible refine within_cons ?_ ?_
    | with_reducible refine within_seq ?_ ?_
    | with_reducible refine within_ask fun _ => ?_
    | with_reducible refine within_each fun _ => ?_
    | with_reducible refine within_whenP ?_
    | with_reducible refine within_upd ?_
    | with_reducible refine within_ite ?_ ?_
    | with_reducible refine within_replicate ?_
    | with_reducible refine modSurvey_within ?_
    | split
    | dsimp only
  all_goals rfl
@[simp] theorem steepDone_avoids {q : Steep} {g : Grp} (hg : g ∉ ([.survey] : List Grp)) : Avoids g (steepDone q) := (steepDone_within (gs := [.survey]) rfl).free hg

theorem steepStep_within {b kind : Nat} {q : Steep} {gs : List Grp} (hgs : within [.cnts, .mbx, .log, .evt, .survey] gs = true) : Within gs (steepStep b kind q) := by
  refine Within.lift hgs ?_
  clear hgs
  unfold steepStep
  repeat' first
    | with_reducible exact within_skip _
    | with_reducible exact within_nil _
    | with_reducible refine within_cons ?_ ?_
    | with_reducible refine within_seq ?_ ?_
    | with_reducible refine within_ask fun _ => ?_
    | with_reducible refine within_each fun _ => ?_
    | with_reducible refine within_whenP ?_
    | with_reducible refine within_upd ?_
    | with_reducible refine within_ite ?_ ?_
    | with_reducible refine within_replicate ?_
    | with_reducible refine modSurvey_within ?_
    | with_reducible refine logCommit_within ?_
    | with_reducible refine modElem_within ?_
    | with_reducible refine steepDone_within ?_
    | split
    | dsimp only
  all_goals rfl
@[simp] theorem steepStep_avoids {b kind : Nat} {q : Steep} {g : Grp} (hg : g ∉ ([.cnts, .mbx, .log, .evt, .survey] : List Grp)) : Avoids g (steepStep b kind q) := (steepStep_within (gs := [.cnts, .mbx, .log, .evt, .survey]) rfl).free hg

theorem writeF0_within {gs : List Grp} (hgs : within [.regs] gs = true) : Within gs writeF0 := by
  refine Within.lift hgs ?_
  clear hgs
  unfold writeF0
  repeat' first
    | with_reducible exact within_skip _
    | with_reducible exact within_nil _
    | with_reducible refine within_cons ?_ ?_
    | with_reducible refine within_seq ?_ ?_
    | with_reducible refine within_ask fun _ => ?_
    | with_reducible refine within_each fun _ => ?_
    | with_reducible refine within_whenP ?_
    | with_reducible refine within_upd ?_
    | with_reducible refine within_ite ?_ ?_
    | with_reducible refine within_replicate ?_
    | split
    | dsimp only
  all_goals rfl
@[simp] theorem writeF0_avoids {g : Grp} (hg : g ∉ ([.regs] : List Grp)) : Avoids g writeF0 := (writeF0_within (gs := [.regs]) rfl).free hg

theorem surveyCommit_within {c : Camp} {b : Nat} {gs : List Grp} (hgs : within [.cfg, .regs, .cnts, .mbx, .log, .evt, .fh, .dpd, .survey] gs = true) : Within gs (surveyCommit c b) := by
  refine Within.lift hgs ?_
  clear hgs
  unfold surveyCommit
  repeat' first
    | with_reducible exact within_skip _
    | with_reducible exact within_nil _
    | with_reducible refine within_cons ?_ ?_
    | with_reducible refine within_seq ?_ ?_
    | with_reducible refine within_ask fun _ => ?_
    | with_reducible refine within_each fun _ => ?_
    | with_reducible refine within_whenP ?_
    | with_reducible refine within_upd ?_
    | with_reducible refine within_ite ?_ ?_
    | with_reducible refine within_replicate ?_
    | with_reducible refine modDpd_within ?_
    | with_reducible refine modSurvey_within ?_
    | with_reducible refine abandonSteeps_within ?_
    | with_reducible refine countRecip_within ?_
    | with_reducible refine holdUl_within ?_
    | with_reducible refine logCommit_within ?_
    | with_reducible refine setSetting_within ?_
    | with_reducible refine writeF0_within ?_
    | split
    | dsimp only
  all_goals rfl
@[simp] theorem surveyCommit_avoids {c : Camp} {b : Nat} {g : Grp} (hg : g ∉ ([.cfg, .regs, .cnts, .mbx, .log, .evt, .fh, .dpd, .survey] : List Grp)) : Avoids g (surveyCommit c b) := (surveyCommit_within (gs := [.cfg, .regs, .cnts, .mbx, .log, .evt, .fh, .dpd, .survey]) rfl).free hg

theorem campCommit_within {c : Camp} {gs : List Grp} (hgs : within [.cfg, .regs, .cnts, .mbx, .log, .evt, .fh, .dpd, .radio, .survey] gs = true) : Within gs (campCommit c) := by
  refine Within.lift hgs ?_
  clear hgs
  unfold campCommit
  repeat' first
    | with_reducible exact within_skip _
    | with_reducible exact within_nil _
    | with_reducible refine within_cons ?_ ?_
    | with_reducible refine within_seq ?_ ?_
    | with_reducible refine within_ask fun _ => ?_
    | with_reducible refine within_each fun _ => ?_
    | with_reducible refine within_whenP ?_
    | with_reducible refine within_upd ?_
    | with_reducible refine within_ite ?_ ?_
    | with_reducible refine within_replicate ?_
    | with_reducible refine dropCamp_within ?_
    | with_reducible refine sheetDone_within ?_
    | with_reducible refine surveyCommit_within ?_
    | with_reducible refine surveyDone_within ?_
    | split
    | dsimp only
  all_goals rfl
@[simp] theorem campCommit_avoids {c : Camp} {g : Grp} (hg : g ∉ ([.cfg, .regs, .cnts, .mbx, .log, .evt, .fh, .dpd, .radio, .survey] : List Grp)) : Avoids g (campCommit c) := (campCommit_within (gs := [.cfg, .regs, .cnts, .mbx, .log, .evt, .fh, .dpd, .radio, .survey]) rfl).free hg

theorem trackMeasure_within {dir e : Nat} {q : Fit} {gs : List Grp} (hgs : within [.survey] gs = true) : Within gs (trackMeasure dir e q) := by
  refine Within.lift hgs ?_
  clear hgs
  unfold trackMeasure
  repeat' first
    | with_reducible exact within_skip _
    | with_reducible exact within_nil _
    | with_reducible refine within_cons ?_ ?_
    | with_reducible refine within_seq ?_ ?_
    | with_reducible refine within_ask fun _ => ?_
    | with_reducible refine within_each fun _ => ?_
    | with_reducible refine within_whenP ?_
    | with_reducible refine within_upd ?_
    | with_reducible refine within_ite ?_ ?_
    | with_reducible refine within_replicate ?_
    | with_reducible refine modSurvey_within ?_
    | split
    | dsimp only
  all_goals rfl
@[simp] theorem trackMeasure_avoids {dir e : Nat} {q : Fit} {g : Grp} (hg : g ∉ ([.survey] : List Grp)) : Avoids g (trackMeasure dir e q) := (trackMeasure_within (gs := [.survey]) rfl).free hg

theorem trackRx_within {n : Nat} {at_ : Int} {blocks : List (Nat × List (Int × Int))} {gs : List Grp} (hgs : within [.survey] gs = true) : Within gs (trackRx n at_ blocks) := by
  refine Within.lift hgs ?_
  clear hgs
  unfold trackRx
  repeat' first
    | with_reducible exact within_skip _
    | with_reducible exact within_nil _
    | with_reducible refine within_cons ?_ ?_
    | with_reducible refine within_seq ?_ ?_
    | with_reducible refine within_ask fun _ => ?_
    | with_reducible refine within_each fun _ => ?_
    | with_reducible refine within_whenP ?_
    | with_reducible refine within_upd ?_
    | with_reducible refine within_ite ?_ ?_
    | with_reducible refine within_replicate ?_
    | with_reducible refine trackMeasure_within ?_
    | split
    | dsimp only
  all_goals rfl
@[simp] theorem trackRx_avoids {n : Nat} {at_ : Int} {blocks : List (Nat × List (Int × Int))} {g : Grp} (hg : g ∉ ([.survey] : List Grp)) : Avoids g (trackRx n at_ blocks) := (trackRx_within (gs := [.survey]) rfl).free hg

theorem trackTx_within {n : Nat} {bins : List (List (List (Int × Int) × (Int × Int)))} {gs : List Grp} (hgs : within [.cnts, .survey] gs = true) : Within gs (trackTx n bins) := by
  refine Within.lift hgs ?_
  clear hgs
  unfold trackTx
  repeat' first
    | with_reducible exact within_skip _
    | with_reducible exact within_nil _
    | with_reducible refine within_cons ?_ ?_
    | with_reducible refine within_seq ?_ ?_
    | with_reducible refine within_ask fun _ => ?_
    | with_reducible refine within_each fun _ => ?_
    | with_reducible refine within_whenP ?_
    | with_reducible refine within_upd ?_
    | with_reducible refine within_ite ?_ ?_
    | with_reducible refine within_replicate ?_
    | with_reducible refine modSurvey_within ?_
    | with_reducible refine count_within ?_
    | with_reducible refine trackMeasure_within ?_
    | split
    | dsimp only
  all_goals rfl
@[simp] theorem trackTx_avoids {n : Nat} {bins : List (List (List (Int × Int) × (Int × Int)))} {g : Grp} (hg : g ∉ ([.cnts, .survey] : List Grp)) : Avoids g (trackTx n bins) := (trackTx_within (gs := [.cnts, .survey]) rfl).free hg

theorem biasSet_within {n b : Nat} {r : Rec} {gs : List Grp} (hgs : within [.cfg, .cnts, .bias] gs = true) : Within gs (biasSet n b r) := by
  refine Within.lift hgs ?_
  clear hgs
  unfold biasSet
  repeat' first
    | with_reducible exact within_skip _
    | with_reducible exact within_nil _
    | with_reducible refine within_cons ?_ ?_
    | with_reducible refine within_seq ?_ ?_
    | with_reducible refine within_ask fun _ => ?_
    | with_reducible refine within_each fun _ => ?_
    | with_reducible refine within_whenP ?_
    | with_reducible refine within_upd ?_
    | with_reducible refine within_ite ?_ ?_
    | with_reducible refine within_replicate ?_
    | with_reducible refine biasRefresh_within ?_
    | with_reducible refine modDac_within ?_
    | with_reducible refine setSetting_within ?_
    | split
    | dsimp only
  all_goals rfl
@[simp] theorem biasSet_avoids {n b : Nat} {r : Rec} {g : Grp} (hg : g ∉ ([.cfg, .cnts, .bias] : List Grp)) : Avoids g (biasSet n b r) := (biasSet_within (gs := [.cfg, .cnts, .bias]) rfl).free hg

theorem biasClear_within {ns : List Nat} {gs : List Grp} (hgs : within [.cnts, .mbx, .evt, .tx, .radio, .survey, .bias] gs = true) : Within gs (biasClear ns) := by
  refine Within.lift hgs ?_
  clear hgs
  unfold biasClear
  repeat' first
    | with_reducible exact within_skip _
    | with_reducible exact within_nil _
    | with_reducible refine within_cons ?_ ?_
    | with_reducible refine within_seq ?_ ?_
    | with_reducible refine within_ask fun _ => ?_
    | with_reducible refine within_each fun _ => ?_
    | with_reducible refine within_whenP ?_
    | with_reducible refine within_upd ?_
    | with_reducible refine within_ite ?_ ?_
    | with_reducible refine within_replicate ?_
    | with_reducible refine modBias_within ?_
    | with_reducible refine biasFollow_within ?_
    | with_reducible refine dropCamp_within ?_
    | with_reducible refine rejectSheet_within ?_
    | with_reducible refine setHold_within ?_
    | with_reducible refine startCamp_within ?_
    | with_reducible refine surveyDone_within ?_
    | split
    | dsimp only
  all_goals rfl
@[simp] theorem biasClear_avoids {ns : List Nat} {g : Grp} (hg : g ∉ ([.cnts, .mbx, .evt, .tx, .radio, .survey, .bias] : List Grp)) : Avoids g (biasClear ns) := (biasClear_within (gs := [.cnts, .mbx, .evt, .tx, .radio, .survey, .bias]) rfl).free hg

theorem supplyJudge_within {v : Int} {gs : List Grp} (hgs : within [.cnts, .host, .mbx, .evt, .pwr, .tx, .radio, .survey, .bias] gs = true) : Within gs (supplyJudge v) := by
  refine Within.lift hgs ?_
  clear hgs
  unfold supplyJudge
  repeat' first
    | with_reducible exact within_skip _
    | with_reducible exact within_nil _
    | with_reducible refine within_cons ?_ ?_
    | with_reducible refine within_seq ?_ ?_
    | with_reducible refine within_ask fun _ => ?_
    | with_reducible refine within_each fun _ => ?_
    | with_reducible refine within_whenP ?_
    | with_reducible refine within_upd ?_
    | with_reducible refine within_ite ?_ ?_
    | with_reducible refine within_replicate ?_
    | with_reducible refine modBias_within ?_
    | with_reducible refine biasClear_within ?_
    | with_reducible refine raiseFl_within ?_
    | with_reducible refine setFault_within ?_
    | split
    | dsimp only
  all_goals rfl
@[simp] theorem supplyJudge_avoids {v : Int} {g : Grp} (hg : g ∉ ([.cnts, .host, .mbx, .evt, .pwr, .tx, .radio, .survey, .bias] : List Grp)) : Avoids g (supplyJudge v) := (supplyJudge_within (gs := [.cnts, .host, .mbx, .evt, .pwr, .tx, .radio, .survey, .bias]) rfl).free hg

theorem biasIsolate_within {s : State} {n : Nat} {gs : List Grp} (hgs : within [.cnts, .mem, .ecc, .mbx, .log, .evt, .clk, .fh, .mash, .dpd, .rx, .conv, .radio, .survey, .bias] gs = true) : Within gs (biasIsolate s n) := by
  refine Within.lift hgs ?_
  clear hgs
  unfold biasIsolate
  repeat' first
    | with_reducible exact within_skip _
    | with_reducible exact within_nil _
    | with_reducible refine within_cons ?_ ?_
    | with_reducible refine within_seq ?_ ?_
    | with_reducible refine within_ask fun _ => ?_
    | with_reducible refine within_each fun _ => ?_
    | with_reducible refine within_whenP ?_
    | with_reducible refine within_upd ?_
    | with_reducible refine within_ite ?_ ?_
    | with_reducible refine within_replicate ?_
    | with_reducible refine isolate_within ?_
    | split
    | dsimp only
  all_goals rfl
@[simp] theorem biasIsolate_avoids {s : State} {n : Nat} {g : Grp} (hg : g ∉ ([.cnts, .mem, .ecc, .mbx, .log, .evt, .clk, .fh, .mash, .dpd, .rx, .conv, .radio, .survey, .bias] : List Grp)) : Avoids g (biasIsolate s n) := (biasIsolate_within (gs := [.cnts, .mem, .ecc, .mbx, .log, .evt, .clk, .fh, .mash, .dpd, .rx, .conv, .radio, .survey, .bias]) rfl).free hg

theorem coexHold_within {whole : Bool} {gs : List Grp} (hgs : within [.tx] gs = true) : Within gs (coexHold whole) := by
  refine Within.lift hgs ?_
  clear hgs
  unfold coexHold
  repeat' first
    | with_reducible exact within_skip _
    | with_reducible exact within_nil _
    | with_reducible refine within_cons ?_ ?_
    | with_reducible refine within_seq ?_ ?_
    | with_reducible refine within_ask fun _ => ?_
    | with_reducible refine within_each fun _ => ?_
    | with_reducible refine within_whenP ?_
    | with_reducible refine within_upd ?_
    | with_reducible refine within_ite ?_ ?_
    | with_reducible refine within_replicate ?_
    | with_reducible refine setHold_within ?_
    | split
    | dsimp only
  all_goals rfl
@[simp] theorem coexHold_avoids {whole : Bool} {g : Grp} (hg : g ∉ ([.tx] : List Grp)) : Avoids g (coexHold whole) := (coexHold_within (gs := [.tx]) rfl).free hg

theorem coexRelease_within {t : Nat} {gs : List Grp} (hgs : within [.tx] gs = true) : Within gs (coexRelease t) := by
  refine Within.lift hgs ?_
  clear hgs
  unfold coexRelease
  repeat' first
    | with_reducible exact within_skip _
    | with_reducible exact within_nil _
    | with_reducible refine within_cons ?_ ?_
    | with_reducible refine within_seq ?_ ?_
    | with_reducible refine within_ask fun _ => ?_
    | with_reducible refine within_each fun _ => ?_
    | with_reducible refine within_whenP ?_
    | with_reducible refine within_upd ?_
    | with_reducible refine within_ite ?_ ?_
    | with_reducible refine within_replicate ?_
    | with_reducible refine endHold_within ?_
    | split
    | dsimp only
  all_goals rfl
@[simp] theorem coexRelease_avoids {t : Nat} {g : Grp} (hg : g ∉ ([.tx] : List Grp)) : Avoids g (coexRelease t) := (coexRelease_within (gs := [.tx]) rfl).free hg

theorem coexGrant_within {gs : List Grp} (hgs : within [.tx, .coex] gs = true) : Within gs coexGrant := by
  refine Within.lift hgs ?_
  clear hgs
  unfold coexGrant
  repeat' first
    | with_reducible exact within_skip _
    | with_reducible exact within_nil _
    | with_reducible refine within_cons ?_ ?_
    | with_reducible refine within_seq ?_ ?_
    | with_reducible refine within_ask fun _ => ?_
    | with_reducible refine within_each fun _ => ?_
    | with_reducible refine within_whenP ?_
    | with_reducible refine within_upd ?_
    | with_reducible refine within_ite ?_ ?_
    | with_reducible refine within_replicate ?_
    | with_reducible refine modCoex_within ?_
    | with_reducible refine coexHold_within ?_
    | split
    | dsimp only
  all_goals rfl
@[simp] theorem coexGrant_avoids {g : Grp} (hg : g ∉ ([.tx, .coex] : List Grp)) : Avoids g coexGrant := (coexGrant_within (gs := [.tx, .coex]) rfl).free hg

theorem coexWait_within {gs : List Grp} (hgs : within [.tx, .coex] gs = true) : Within gs coexWait := by
  refine Within.lift hgs ?_
  clear hgs
  unfold coexWait
  repeat' first
    | with_reducible exact within_skip _
    | with_reducible exact within_nil _
    | with_reducible refine within_cons ?_ ?_
    | with_reducible refine within_seq ?_ ?_
    | with_reducible refine within_ask fun _ => ?_
    | with_reducible refine within_each fun _ => ?_
    | with_reducible refine within_whenP ?_
    | with_reducible refine within_upd ?_
    | with_reducible refine within_ite ?_ ?_
    | with_reducible refine within_replicate ?_
    | with_reducible refine coexGrant_within ?_
    | split
    | dsimp only
  all_goals rfl
@[simp] theorem coexWait_avoids {g : Grp} (hg : g ∉ ([.tx, .coex] : List Grp)) : Avoids g coexWait := (coexWait_within (gs := [.tx, .coex]) rfl).free hg

theorem openSet_within {p : Nat} {gs : List Grp} (hgs : within [.mem, .ecc, .dpd] gs = true) : Within gs (openSet p) := by
  refine Within.lift hgs ?_
  clear hgs
  unfold openSet
  repeat' first
    | with_reducible exact within_skip _
    | with_reducible exact within_nil _
    | with_reducible refine within_cons ?_ ?_
    | with_reducible refine within_seq ?_ ?_
    | with_reducible refine within_ask fun _ => ?_
    | with_reducible refine within_each fun _ => ?_
    | with_reducible refine within_whenP ?_
    | with_reducible refine within_upd ?_
    | with_reducible refine within_ite ?_ ?_
    | with_reducible refine within_replicate ?_
    | with_reducible refine modPath_within ?_
    | with_reducible refine noteWrite_within ?_
    | split
    | dsimp only
  all_goals rfl
@[simp] theorem openSet_avoids {p : Nat} {g : Grp} (hg : g ∉ ([.mem, .ecc, .dpd] : List Grp)) : Avoids g (openSet p) := (openSet_within (gs := [.mem, .ecc, .dpd]) rfl).free hg

theorem writeSet__within {p : Nat} {r : Rec} {b : Tab C32} {gs : List Grp} (hgs : within [.mem, .ecc, .dpd] gs = true) : Within gs (writeSet_ p r b) := by
  refine Within.lift hgs ?_
  clear hgs
  unfold writeSet_
  repeat' first
    | with_reducible exact within_skip _
    | with_reducible exact within_nil _
    | with_reducible refine within_cons ?_ ?_
    | with_reducible refine within_seq ?_ ?_
    | with_reducible refine within_ask fun _ => ?_
    | with_reducible refine within_each fun _ => ?_
    | with_reducible refine within_whenP ?_
    | with_reducible refine within_upd ?_
    | with_reducible refine within_ite ?_ ?_
    | with_reducible refine within_replicate ?_
    | with_reducible refine openSet_within ?_
    | with_reducible refine store_within ?_
    | split
    | dsimp only
  all_goals rfl
@[simp] theorem writeSet__avoids {p : Nat} {r : Rec} {b : Tab C32} {g : Grp} (hg : g ∉ ([.mem, .ecc, .dpd] : List Grp)) : Avoids g (writeSet_ p r b) := (writeSet__within (gs := [.mem, .ecc, .dpd]) rfl).free hg

theorem dpdRefresh_within {gs : List Grp} (hgs : within [.dpd] gs = true) : Within gs dpdRefresh := by
  refine Within.lift hgs ?_
  clear hgs
  unfold dpdRefresh
  repeat' first
    | with_reducible exact within_skip _
    | with_reducible exact within_nil _
    | with_reducible refine within_cons ?_ ?_
    | with_reducible refine within_seq ?_ ?_
    | with_reducible refine within_ask fun _ => ?_
    | with_reducible refine within_each fun _ => ?_
    | with_reducible refine within_whenP ?_
    | with_reducible refine within_upd ?_
    | with_reducible refine within_ite ?_ ?_
    | with_reducible refine within_replicate ?_
    | with_reducible refine modDpd_within ?_
    | with_reducible refine modPath_within ?_
    | split
    | dsimp only
  all_goals rfl
@[simp] theorem dpdRefresh_avoids {g : Grp} (hg : g ∉ ([.dpd] : List Grp)) : Avoids g dpdRefresh := (dpdRefresh_within (gs := [.dpd]) rfl).free hg

theorem dpdCancel_within {n : Nat} {gs : List Grp} (hgs : within [.dpd] gs = true) : Within gs (dpdCancel n) := by
  refine Within.lift hgs ?_
  clear hgs
  unfold dpdCancel
  repeat' first
    | with_reducible exact within_skip _
    | with_reducible exact within_nil _
    | with_reducible refine within_cons ?_ ?_
    | with_reducible refine within_seq ?_ ?_
    | with_reducible refine within_ask fun _ => ?_
    | with_reducible refine within_each fun _ => ?_
    | with_reducible refine within_whenP ?_
    | with_reducible refine within_upd ?_
    | with_reducible refine within_ite ?_ ?_
    | with_reducible refine within_replicate ?_
    | with_reducible refine modDpd_within ?_
    | with_reducible refine modPath_within ?_
    | split
    | dsimp only
  all_goals rfl
@[simp] theorem dpdCancel_avoids {n : Nat} {g : Grp} (hg : g ∉ ([.dpd] : List Grp)) : Avoids g (dpdCancel n) := (dpdCancel_within (gs := [.dpd]) rfl).free hg

theorem dpdReject_within {p code : Nat} {gs : List Grp} (hgs : within [.cnts, .mem, .ecc, .mbx, .log, .evt, .clk, .fh, .mash, .dpd, .rx, .conv, .radio, .survey, .bias] gs = true) : Within gs (dpdReject p code) := by
  refine Within.lift hgs ?_
  clear hgs
  unfold dpdReject
  repeat' first
    | with_reducible exact within_skip _
    | with_reducible exact within_nil _
    | with_reducible refine within_cons ?_ ?_
    | with_reducible refine within_seq ?_ ?_
    | with_reducible refine within_ask fun _ => ?_
    | with_reducible refine within_each fun _ => ?_
    | with_reducible refine within_whenP ?_
    | with_reducible refine within_upd ?_
    | with_reducible refine within_ite ?_ ?_
    | with_reducible refine within_replicate ?_
    | with_reducible refine count_within ?_
    | with_reducible refine modPath_within ?_
    | with_reducible refine streak_within ?_
    | split
    | dsimp only
  all_goals rfl
@[simp] theorem dpdReject_avoids {p code : Nat} {g : Grp} (hg : g ∉ ([.cnts, .mem, .ecc, .mbx, .log, .evt, .clk, .fh, .mash, .dpd, .rx, .conv, .radio, .survey, .bias] : List Grp)) : Avoids g (dpdReject p code) := (dpdReject_within (gs := [.cnts, .mem, .ecc, .mbx, .log, .evt, .clk, .fh, .mash, .dpd, .rx, .conv, .radio, .survey, .bias]) rfl).free hg

theorem dpdFlip_within {p b : Nat} {gs : List Grp} (hgs : within [.dpd] gs = true) : Within gs (dpdFlip p b) := by
  refine Within.lift hgs ?_
  clear hgs
  unfold dpdFlip
  repeat' first
    | with_reducible exact within_skip _
    | with_reducible exact within_nil _
    | with_reducible refine within_cons ?_ ?_
    | with_reducible refine within_seq ?_ ?_
    | with_reducible refine within_ask fun _ => ?_
    | with_reducible refine within_each fun _ => ?_
    | with_reducible refine within_whenP ?_
    | with_reducible refine within_upd ?_
    | with_reducible refine within_ite ?_ ?_
    | with_reducible refine within_replicate ?_
    | with_reducible refine modPath_within ?_
    | split
    | dsimp only
  all_goals rfl
@[simp] theorem dpdFlip_avoids {p b : Nat} {g : Grp} (hg : g ∉ ([.dpd] : List Grp)) : Avoids g (dpdFlip p b) := (dpdFlip_within (gs := [.dpd]) rfl).free hg

theorem iqTrack_within {p : Nat} {gs : List Grp} (hgs : within [.cfg, .free] gs = true) : Within gs (iqTrack p) := by
  refine Within.lift hgs ?_
  clear hgs
  unfold iqTrack
  repeat' first
    | with_reducible exact within_skip _
    | with_reducible exact within_nil _
    | with_reducible refine within_cons ?_ ?_
    | with_reducible refine within_seq ?_ ?_
    | with_reducible refine within_ask fun _ => ?_
    | with_reducible refine within_each fun _ => ?_
    | with_reducible refine within_whenP ?_
    | with_reducible refine within_upd ?_
    | with_reducible refine within_ite ?_ ?_
    | with_reducible refine within_replicate ?_
    | with_reducible refine drawFree_within ?_
    | with_reducible refine setSetting_within ?_
    | split
    | dsimp only
  all_goals rfl
@[simp] theorem iqTrack_avoids {p : Nat} {g : Grp} (hg : g ∉ ([.cfg, .free] : List Grp)) : Avoids g (iqTrack p) := (iqTrack_within (gs := [.cfg, .free]) rfl).free hg

theorem dpdCommit_within {b kind : Nat} {gs : List Grp} (hgs : within [.cfg, .cnts, .free, .mbx, .log, .evt, .dpd] gs = true) : Within gs (dpdCommit b kind) := by
  refine Within.lift hgs ?_
  clear hgs
  unfold dpdCommit
  repeat' first
    | with_reducible exact within_skip _
    | with_reducible exact within_nil _
    | with_reducible refine within_cons ?_ ?_
    | with_reducible refine within_seq ?_ ?_
    | with_reducible refine within_ask fun _ => ?_
    | with_reducible refine within_each fun _ => ?_
    | with_reducible refine within_whenP ?_
    | with_reducible refine within_upd ?_
    | with_reducible refine within_ite ?_ ?_
    | with_reducible refine within_replicate ?_
    | with_reducible refine modDpd_within ?_
    | with_reducible refine dpdFlip_within ?_
    | with_reducible refine dpdRefresh_within ?_
    | with_reducible refine iqTrack_within ?_
    | with_reducible refine logCommit_within ?_
    | with_reducible refine modPath_within ?_
    | split
    | dsimp only
  all_goals rfl
@[simp] theorem dpdCommit_avoids {b kind : Nat} {g : Grp} (hg : g ∉ ([.cfg, .cnts, .free, .mbx, .log, .evt, .dpd] : List Grp)) : Avoids g (dpdCommit b kind) := (dpdCommit_within (gs := [.cfg, .cnts, .free, .mbx, .log, .evt, .dpd]) rfl).free hg

theorem dpdPathSet_within {p : Nat} {r : Rec} {gs : List Grp} (hgs : within [.mem, .ecc, .dpd] gs = true) : Within gs (dpdPathSet p r) := by
  refine Within.lift hgs ?_
  clear hgs
  unfold dpdPathSet
  repeat' first
    | with_reducible exact within_skip _
    | with_reducible exact within_nil _
    | with_reducible refine within_cons ?_ ?_
    | with_reducible refine within_seq ?_ ?_
    | with_reducible refine within_ask fun _ => ?_
    | with_reducible refine within_each fun _ => ?_
    | with_reducible refine within_whenP ?_
    | with_reducible refine within_upd ?_
    | with_reducible refine within_ite ?_ ?_
    | with_reducible refine within_replicate ?_
    | with_reducible refine modDpd_within ?_
    | with_reducible refine dpdRefresh_within ?_
    | with_reducible refine modPath_within ?_
    | with_reducible refine writeSet__within ?_
    | split
    | dsimp only
  all_goals rfl
@[simp] theorem dpdPathSet_avoids {p : Nat} {r : Rec} {g : Grp} (hg : g ∉ ([.mem, .ecc, .dpd] : List Grp)) : Avoids g (dpdPathSet p r) := (dpdPathSet_within (gs := [.mem, .ecc, .dpd]) rfl).free hg

theorem coveringEcc_within {dir c : Nat} {h : Int} {j : Nat} {gs : List Grp} (hgs : within [.cnts, .ecc, .mbx, .evt] gs = true) : Within gs (coveringEcc dir c h j) := by
  refine Within.lift hgs ?_
  clear hgs
  unfold coveringEcc
  repeat' first
    | with_reducible exact within_skip _
    | with_reducible exact within_nil _
    | with_reducible refine within_cons ?_ ?_
    | with_reducible refine within_seq ?_ ?_
    | with_reducible refine within_ask fun _ => ?_
    | with_reducible refine within_each fun _ => ?_
    | with_reducible refine within_whenP ?_
    | with_reducible refine within_upd ?_
    | with_reducible refine within_ite ?_ ?_
    | with_reducible refine within_replicate ?_
    | with_reducible refine eccHit_within ?_
    | split
    | dsimp only
  all_goals rfl
@[simp] theorem coveringEcc_avoids {dir c : Nat} {h : Int} {j : Nat} {g : Grp} (hg : g ∉ ([.cnts, .ecc, .mbx, .evt] : List Grp)) : Avoids g (coveringEcc dir c h j) := (coveringEcc_within (gs := [.cnts, .ecc, .mbx, .evt]) rfl).free hg

theorem setCmp_within {dir c : Nat} {x : Cmp} {gs : List Grp} (hgs : within [.datum] gs = true) : Within gs (setCmp dir c x) := by
  refine Within.lift hgs ?_
  clear hgs
  unfold setCmp
  repeat' first
    | with_reducible exact within_skip _
    | with_reducible exact within_nil _
    | with_reducible refine within_cons ?_ ?_
    | with_reducible refine within_seq ?_ ?_
    | with_reducible refine within_ask fun _ => ?_
    | with_reducible refine within_each fun _ => ?_
    | with_reducible refine within_whenP ?_
    | with_reducible refine within_upd ?_
    | with_reducible refine within_ite ?_ ?_
    | with_reducible refine within_replicate ?_
    | with_reducible refine modDatum_within ?_
    | split
    | dsimp only
  all_goals rfl
@[simp] theorem setCmp_avoids {dir c : Nat} {x : Cmp} {g : Grp} (hg : g ∉ ([.datum] : List Grp)) : Avoids g (setCmp dir c x) := (setCmp_within (gs := [.datum]) rfl).free hg

theorem putAir_within {c air len : Nat} {covered retime : Bool} {gs : List Grp} (hgs : within [.tx] gs = true) : Within gs (putAir c air len covered retime) := by
  refine Within.lift hgs ?_
  clear hgs
  unfold putAir
  repeat' first
    | with_reducible exact within_skip _
    | with_reducible exact within_nil _
    | with_reducible refine within_cons ?_ ?_
    | with_reducible refine within_seq ?_ ?_
    | with_reducible refine within_ask fun _ => ?_
    | with_reducible refine within_each fun _ => ?_
    | with_reducible refine within_whenP ?_
    | with_reducible refine within_upd ?_
    | with_reducible refine within_ite ?_ ?_
    | with_reducible refine within_replicate ?_
    | with_reducible refine modTx_within ?_
    | split
    | dsimp only
  all_goals rfl
@[simp] theorem putAir_avoids {c air len : Nat} {covered retime : Bool} {g : Grp} (hg : g ∉ ([.tx] : List Grp)) : Avoids g (putAir c air len covered retime) := (putAir_within (gs := [.tx]) rfl).free hg

theorem muteSymbol_within {c : Nat} {h : Int} {j why : Nat} {gs : List Grp} (hgs : within [.fh, .tx] gs = true) : Within gs (muteSymbol c h j why) := by
  refine Within.lift hgs ?_
  clear hgs
  unfold muteSymbol
  repeat' first
    | with_reducible exact within_skip _
    | with_reducible exact within_nil _
    | with_reducible refine within_cons ?_ ?_
    | with_reducible refine within_seq ?_ ?_
    | with_reducible refine within_ask fun _ => ?_
    | with_reducible refine within_each fun _ => ?_
    | with_reducible refine within_whenP ?_
    | with_reducible refine within_upd ?_
    | with_reducible refine within_ite ?_ ?_
    | with_reducible refine within_replicate ?_
    | with_reducible refine modFh_within ?_
    | with_reducible refine modTx_within ?_
    | with_reducible refine putAir_within ?_
    | split
    | dsimp only
  all_goals rfl
@[simp] theorem muteSymbol_avoids {c : Nat} {h : Int} {j why : Nat} {g : Grp} (hg : g ∉ ([.fh, .tx] : List Grp)) : Avoids g (muteSymbol c h j why) := (muteSymbol_within (gs := [.fh, .tx]) rfl).free hg

theorem armFrom_within {dir c : Nat} {x0 : Nat} {x1 : Int} {x2 : Nat} {gs : List Grp} (hgs : within [.cnts, .datum, .fh, .tx] gs = true) : Within gs (armFrom dir c x0 x1 x2) := by
  refine Within.lift hgs ?_
  clear hgs
  induction x0 generalizing x1 x2 with
  | zero => exact within_skip _
  | succ n ih =>
    unfold armFrom
    repeat' first
      | with_reducible exact within_skip _
      | with_reducible exact within_nil _
      | with_reducible refine within_cons ?_ ?_
      | with_reducible refine within_seq ?_ ?_
      | with_reducible refine within_ask fun _ => ?_
      | with_reducible refine within_each fun _ => ?_
      | with_reducible refine within_whenP ?_
      | with_reducible refine within_upd ?_
      | with_reducible refine within_ite ?_ ?_
      | with_reducible refine within_replicate ?_
      | with_reducible refine count_within ?_
      | with_reducible refine muteSymbol_within ?_
      | with_reducible refine setCmp_within ?_
      | with_reducible refine ih ..
      | split
      | dsimp only
    all_goals rfl
@[simp] theorem armFrom_avoids {dir c : Nat} {x0 : Nat} {x1 : Int} {x2 : Nat} {g : Grp} (hg : g ∉ ([.cnts, .datum, .fh, .tx] : List Grp)) : Avoids g (armFrom dir c x0 x1 x2) := (armFrom_within (gs := [.cnts, .datum, .fh, .tx]) rfl).free hg

theorem armMissing_within {gs : List Grp} (hgs : within [.cnts, .datum, .fh, .tx] gs = true) : Within gs armMissing := by
  refine Within.lift hgs ?_
  clear hgs
  unfold armMissing
  repeat' first
    | with_reducible exact within_skip _
    | with_reducible exact within_nil _
    | with_reducible refine within_cons ?_ ?_
    | with_reducible refine within_seq ?_ ?_
    | with_reducible refine within_ask fun _ => ?_
    | with_reducible refine within_each fun _ => ?_
    | with_reducible refine within_whenP ?_
    | with_reducible refine within_upd ?_
    | with_reducible refine within_ite ?_ ?_
    | with_reducible refine within_replicate ?_
    | with_reducible refine armFrom_within ?_
    | split
    | dsimp only
  all_goals rfl
@[simp] theorem armMissing_avoids {g : Grp} (hg : g ∉ ([.cnts, .datum, .fh, .tx] : List Grp)) : Avoids g armMissing := (armMissing_within (gs := [.cnts, .datum, .fh, .tx]) rfl).free hg

theorem modQueue_within {q : Nat} {f : List EgDesc → List EgDesc} {gs : List Grp} (hgs : within [.fh] gs = true) : Within gs (modQueue q f) := by
  refine Within.lift hgs ?_
  clear hgs
  unfold modQueue
  repeat' first
    | with_reducible exact within_skip _
    | with_reducible exact within_nil _
    | with_reducible refine within_cons ?_ ?_
    | with_reducible refine within_seq ?_ ?_
    | with_reducible refine within_ask fun _ => ?_
    | with_reducible refine within_each fun _ => ?_
    | with_reducible refine within_whenP ?_
    | with_reducible refine within_upd ?_
    | with_reducible refine within_ite ?_ ?_
    | with_reducible refine within_replicate ?_
    | with_reducible refine modFh_within ?_
    | split
    | dsimp only
  all_goals rfl
@[simp] theorem modQueue_avoids {q : Nat} {f : List EgDesc → List EgDesc} {g : Grp} (hg : g ∉ ([.fh] : List Grp)) : Avoids g (modQueue q f) := (modQueue_within (gs := [.fh]) rfl).free hg

theorem headTest_within {q : Nat} {x0 : Nat} {gs : List Grp} (hgs : within [.cnts, .fh] gs = true) : Within gs (headTest q x0) := by
  refine Within.lift hgs ?_
  clear hgs
  induction x0 with
  | zero => exact within_skip _
  | succ n ih =>
    unfold headTest
    repeat' first
      | with_reducible exact within_skip _
      | with_reducible exact within_nil _
      | with_reducible refine within_cons ?_ ?_
      | with_reducible refine within_seq ?_ ?_
      | with_reducible refine within_ask fun _ => ?_
      | with_reducible refine within_each fun _ => ?_
      | with_reducible refine within_whenP ?_
      | with_reducible refine within_upd ?_
      | with_reducible refine within_ite ?_ ?_
      | with_reducible refine within_replicate ?_
      | with_reducible refine count_within ?_
      | with_reducible refine modQueue_within ?_
      | with_reducible refine ih ..
      | split
      | dsimp only
    all_goals rfl
@[simp] theorem headTest_avoids {q : Nat} {x0 : Nat} {g : Grp} (hg : g ∉ ([.cnts, .fh] : List Grp)) : Avoids g (headTest q x0) := (headTest_within (gs := [.cnts, .fh]) rfl).free hg

theorem enqueue_within {q : Nat} {x : EgDesc} {gs : List Grp} (hgs : within [.cnts, .fh] gs = true) : Within gs (enqueue q x) := by
  refine Within.lift hgs ?_
  clear hgs
  unfold enqueue
  repeat' first
    | with_reducible exact within_skip _
    | with_reducible exact within_nil _
    | with_reducible refine within_cons ?_ ?_
    | with_reducible refine within_seq ?_ ?_
    | with_reducible refine within_ask fun _ => ?_
    | with_reducible refine within_each fun _ => ?_
    | with_reducible refine within_whenP ?_
    | with_reducible refine within_upd ?_
    | with_reducible refine within_ite ?_ ?_
    | with_reducible refine within_replicate ?_
    | with_reducible refine count_within ?_
    | with_reducible refine headTest_within ?_
    | with_reducible refine modQueue_within ?_
    | split
    | dsimp only
  all_goals rfl
@[simp] theorem enqueue_avoids {q : Nat} {x : EgDesc} {g : Grp} (hg : g ∉ ([.cnts, .fh] : List Grp)) : Avoids g (enqueue q x) := (enqueue_within (gs := [.cnts, .fh]) rfl).free hg

theorem sendSection_within {x : Section} {filter t : Nat} {ids : Nat × Nat} {slot sym all : Nat} {prbs : List (List Int)} {gs : List Grp} (hgs : within [.cnts, .fh] gs = true) : Within gs (sendSection x filter t ids slot sym all prbs) := by
  refine Within.lift hgs ?_
  clear hgs
  unfold sendSection
  repeat' first
    | with_reducible exact within_skip _
    | with_reducible exact within_nil _
    | with_reducible refine within_cons ?_ ?_
    | with_reducible refine within_seq ?_ ?_
    | with_reducible refine within_ask fun _ => ?_
    | with_reducible refine within_each fun _ => ?_
    | with_reducible refine within_whenP ?_
    | with_reducible refine within_upd ?_
    | with_reducible refine within_ite ?_ ?_
    | with_reducible refine within_replicate ?_
    | with_reducible refine modFh_within ?_
    | with_reducible refine enqueue_within ?_
    | split
    | dsimp only
  all_goals rfl
@[simp] theorem sendSection_avoids {x : Section} {filter t : Nat} {ids : Nat × Nat} {slot sym all : Nat} {prbs : List (List Int)} {g : Grp} (hg : g ∉ ([.cnts, .fh] : List Grp)) : Avoids g (sendSection x filter t ids slot sym all prbs) := (sendSection_within (gs := [.cnts, .fh]) rfl).free hg

theorem calStop_within {n : Nat} {gs : List Grp} (hgs : within [.cnts, .mbx, .evt, .radio, .survey] gs = true) : Within gs (calStop n) := by
  refine Within.lift hgs ?_
  clear hgs
  unfold calStop
  repeat' first
    | with_reducible exact within_skip _
    | with_reducible exact within_nil _
    | with_reducible refine within_cons ?_ ?_
    | with_reducible refine within_seq ?_ ?_
    | with_reducible refine within_ask fun _ => ?_
    | with_reducible refine within_each fun _ => ?_
    | with_reducible refine within_whenP ?_
    | with_reducible refine within_upd ?_
    | with_reducible refine within_ite ?_ ?_
    | with_reducible refine within_replicate ?_
    | with_reducible refine abandonCamps_within ?_
    | with_reducible refine modSheet_within ?_
    | split
    | dsimp only
  all_goals rfl
@[simp] theorem calStop_avoids {n : Nat} {g : Grp} (hg : g ∉ ([.cnts, .mbx, .evt, .radio, .survey] : List Grp)) : Avoids g (calStop n) := (calStop_within (gs := [.cnts, .mbx, .evt, .radio, .survey]) rfl).free hg

theorem calStart_within {n t attempt : Nat} {gs : List Grp} (hgs : within [.cnts, .mbx, .evt, .mash, .tx, .dpd, .rx, .radio, .survey] gs = true) : Within gs (calStart n t attempt) := by
  refine Within.lift hgs ?_
  clear hgs
  unfold calStart
  repeat' first
    | with_reducible exact within_skip _
    | with_reducible exact within_nil _
    | with_reducible refine within_cons ?_ ?_
    | with_reducible refine within_seq ?_ ?_
    | with_reducible refine within_ask fun _ => ?_
    | with_reducible refine within_each fun _ => ?_
    | with_reducible refine within_whenP ?_
    | with_reducible refine within_upd ?_
    | with_reducible refine within_ite ?_ ?_
    | with_reducible refine within_replicate ?_
    | with_reducible refine modSurvey_within ?_
    | with_reducible refine abandonCamps_within ?_
    | with_reducible refine dcChange_within ?_
    | with_reducible refine discardEst_within ?_
    | with_reducible refine dpdCancel_within ?_
    | with_reducible refine leaveReady_within ?_
    | with_reducible refine modSheet_within ?_
    | split
    | dsimp only
  all_goals rfl
@[simp] theorem calStart_avoids {n t attempt : Nat} {g : Grp} (hg : g ∉ ([.cnts, .mbx, .evt, .mash, .tx, .dpd, .rx, .radio, .survey] : List Grp)) : Avoids g (calStart n t attempt) := (calStart_within (gs := [.cnts, .mbx, .evt, .mash, .tx, .dpd, .rx, .radio, .survey]) rfl).free hg

theorem hopStart_within {n : Nat} {a b : Radio} {t : Nat} {gs : List Grp} (hgs : within [.cnts, .mbx, .evt, .conv, .radio, .survey] gs = true) : Within gs (hopStart n a b t) := by
  refine Within.lift hgs ?_
  clear hgs
  unfold hopStart
  repeat' first
    | with_reducible exact within_skip _
    | with_reducible exact within_nil _
    | with_reducible refine within_cons ?_ ?_
    | with_reducible refine within_seq ?_ ?_
    | with_reducible refine within_ask fun _ => ?_
    | with_reducible refine within_each fun _ => ?_
    | with_reducible refine within_whenP ?_
    | with_reducible refine within_upd ?_
    | with_reducible refine within_ite ?_ ?_
    | with_reducible refine within_replicate ?_
    | with_reducible refine calStop_within ?_
    | with_reducible refine convStart_within ?_
    | with_reducible refine modSheet_within ?_
    | split
    | dsimp only
  all_goals rfl
@[simp] theorem hopStart_avoids {n : Nat} {a b : Radio} {t : Nat} {g : Grp} (hg : g ∉ ([.cnts, .mbx, .evt, .conv, .radio, .survey] : List Grp)) : Avoids g (hopStart n a b t) := (hopStart_within (gs := [.cnts, .mbx, .evt, .conv, .radio, .survey]) rfl).free hg

theorem hopEnd_within {n : Nat} {a b : Radio} {t : Nat} {gs : List Grp} (hgs : within [.cnts, .mbx, .evt, .conv, .radio, .survey, .coex] gs = true) : Within gs (hopEnd n a b t) := by
  refine Within.lift hgs ?_
  clear hgs
  unfold hopEnd
  repeat' first
    | with_reducible exact within_skip _
    | with_reducible exact within_nil _
    | with_reducible refine within_cons ?_ ?_
    | with_reducible refine within_seq ?_ ?_
    | with_reducible refine within_ask fun _ => ?_
    | with_reducible refine within_each fun _ => ?_
    | with_reducible refine within_whenP ?_
    | with_reducible refine within_upd ?_
    | with_reducible refine within_ite ?_ ?_
    | with_reducible refine within_replicate ?_
    | with_reducible refine modCoex_within ?_
    | with_reducible refine calStop_within ?_
    | with_reducible refine convStop_within ?_
    | with_reducible refine modSheet_within ?_
    | split
    | dsimp only
  all_goals rfl
@[simp] theorem hopEnd_avoids {n : Nat} {a b : Radio} {t : Nat} {g : Grp} (hg : g ∉ ([.cnts, .mbx, .evt, .conv, .radio, .survey, .coex] : List Grp)) : Avoids g (hopEnd n a b t) := (hopEnd_within (gs := [.cnts, .mbx, .evt, .conv, .radio, .survey, .coex]) rfl).free hg

theorem startTransition_within {n : Nat} {target : Radio} {te : Nat} {gs : List Grp} (hgs : within [.cnts, .mbx, .evt, .conv, .radio, .survey] gs = true) : Within gs (startTransition n target te) := by
  refine Within.lift hgs ?_
  clear hgs
  unfold startTransition
  repeat' first
    | with_reducible exact within_skip _
    | with_reducible exact within_nil _
    | with_reducible refine within_cons ?_ ?_
    | with_reducible refine within_seq ?_ ?_
    | with_reducible refine within_ask fun _ => ?_
    | with_reducible refine within_each fun _ => ?_
    | with_reducible refine within_whenP ?_
    | with_reducible refine within_upd ?_
    | with_reducible refine within_ite ?_ ?_
    | with_reducible refine within_replicate ?_
    | with_reducible refine hopStart_within ?_
    | with_reducible refine modSheet_within ?_
    | split
    | dsimp only
  all_goals rfl
@[simp] theorem startTransition_avoids {n : Nat} {target : Radio} {te : Nat} {g : Grp} (hg : g ∉ ([.cnts, .mbx, .evt, .conv, .radio, .survey] : List Grp)) : Avoids g (startTransition n target te) := (startTransition_within (gs := [.cnts, .mbx, .evt, .conv, .radio, .survey]) rfl).free hg

theorem changeSheet_within {n t : Nat} {gs : List Grp} (hgs : within [.tx, .rx, .radio] gs = true) : Within gs (changeSheet n t) := by
  refine Within.lift hgs ?_
  clear hgs
  unfold changeSheet
  repeat' first
    | with_reducible exact within_skip _
    | with_reducible exact within_nil _
    | with_reducible refine within_cons ?_ ?_
    | with_reducible refine within_seq ?_ ?_
    | with_reducible refine within_ask fun _ => ?_
    | with_reducible refine within_each fun _ => ?_
    | with_reducible refine within_whenP ?_
    | with_reducible refine within_upd ?_
    | with_reducible refine within_ite ?_ ?_
    | with_reducible refine within_replicate ?_
    | with_reducible refine leaveReady_within ?_
    | with_reducible refine modSheet_within ?_
    | split
    | dsimp only
  all_goals rfl
@[simp] theorem changeSheet_avoids {n t : Nat} {g : Grp} (hg : g ∉ ([.tx, .rx, .radio] : List Grp)) : Avoids g (changeSheet n t) := (changeSheet_within (gs := [.tx, .rx, .radio]) rfl).free hg

theorem fireAction_within {n action te : Nat} {gs : List Grp} (hgs : within [.cnts, .mbx, .evt, .tx, .rx, .conv, .radio, .survey] gs = true) : Within gs (fireAction n action te) := by
  refine Within.lift hgs ?_
  clear hgs
  unfold fireAction
  repeat' first
    | with_reducible exact within_skip _
    | with_reducible exact within_nil _
    | with_reducible refine within_cons ?_ ?_
    | with_reducible refine within_seq ?_ ?_
    | with_reducible refine within_ask fun _ => ?_
    | with_reducible refine within_each fun _ => ?_
    | with_reducible refine within_whenP ?_
    | with_reducible refine within_upd ?_
    | with_reducible refine within_ite ?_ ?_
    | with_reducible refine within_replicate ?_
    | with_reducible refine changeSheet_within ?_
    | with_reducible refine count_within ?_
    | with_reducible refine modSheet_within ?_
    | with_reducible refine startTransition_within ?_
    | split
    | dsimp only
  all_goals rfl
@[simp] theorem fireAction_avoids {n action te : Nat} {g : Grp} (hg : g ∉ ([.cnts, .mbx, .evt, .tx, .rx, .conv, .radio, .survey] : List Grp)) : Avoids g (fireAction n action te) := (fireAction_within (gs := [.cnts, .mbx, .evt, .tx, .rx, .conv, .radio, .survey]) rfl).free hg

theorem nextDeferred_within {n te : Nat} {gs : List Grp} (hgs : within [.cnts, .mbx, .evt, .conv, .radio, .survey] gs = true) : Within gs (nextDeferred n te) := by
  refine Within.lift hgs ?_
  clear hgs
  unfold nextDeferred
  repeat' first
    | with_reducible exact within_skip _
    | with_reducible exact within_nil _
    | with_reducible refine within_cons ?_ ?_
    | with_reducible refine within_seq ?_ ?_
    | with_reducible refine within_ask fun _ => ?_
    | with_reducible refine within_each fun _ => ?_
    | with_reducible refine within_whenP ?_
    | with_reducible refine within_upd ?_
    | with_reducible refine within_ite ?_ ?_
    | with_reducible refine within_replicate ?_
    | with_reducible refine modSheet_within ?_
    | with_reducible refine startTransition_within ?_
    | split
    | dsimp only
  all_goals rfl
@[simp] theorem nextDeferred_avoids {n te : Nat} {g : Grp} (hg : g ∉ ([.cnts, .mbx, .evt, .conv, .radio, .survey] : List Grp)) : Avoids g (nextDeferred n te) := (nextDeferred_within (gs := [.cnts, .mbx, .evt, .conv, .radio, .survey]) rfl).free hg

theorem disarmTimer_within {n t : Nat} {gs : List Grp} (hgs : within [.radio, .rffe] gs = true) : Within gs (disarmTimer n t) := by
  refine Within.lift hgs ?_
  clear hgs
  unfold disarmTimer
  repeat' first
    | with_reducible exact within_skip _
    | with_reducible exact within_nil _
    | with_reducible refine within_cons ?_ ?_
    | with_reducible refine within_seq ?_ ?_
    | with_reducible refine within_ask fun _ => ?_
    | with_reducible refine within_each fun _ => ?_
    | with_reducible refine within_whenP ?_
    | with_reducible refine within_upd ?_
    | with_reducible refine within_ite ?_ ?_
    | with_reducible refine within_replicate ?_
    | with_reducible refine dropBound_within ?_
    | with_reducible refine modSheet_within ?_
    | split
    | dsimp only
  all_goals rfl
@[simp] theorem disarmTimer_avoids {n t : Nat} {g : Grp} (hg : g ∉ ([.radio, .rffe] : List Grp)) : Avoids g (disarmTimer n t) := (disarmTimer_within (gs := [.radio, .rffe]) rfl).free hg

theorem armTimer_within {n t action te : Nat} {pat : Bool} {gs : List Grp} (hgs : within [.cnts, .mbx, .evt, .tx, .rx, .conv, .radio, .survey, .rffe] gs = true) : Within gs (armTimer n t action te pat) := by
  refine Within.lift hgs ?_
  clear hgs
  unfold armTimer
  repeat' first
    | with_reducible exact within_skip _
    | with_reducible exact within_nil _
    | with_reducible refine within_cons ?_ ?_
    | with_reducible refine within_seq ?_ ?_
    | with_reducible refine within_ask fun _ => ?_
    | with_reducible refine within_each fun _ => ?_
    | with_reducible refine within_whenP ?_
    | with_reducible refine within_upd ?_
    | with_reducible refine within_ite ?_ ?_
    | with_reducible refine within_replicate ?_
    | with_reducible refine armBound_within ?_
    | with_reducible refine count_within ?_
    | with_reducible refine disarmTimer_within ?_
    | with_reducible refine fireAction_within ?_
    | with_reducible refine modSheet_within ?_
    | with_reducible refine raise_within ?_
    | split
    | dsimp only
  all_goals rfl
@[simp] theorem armTimer_avoids {n t action te : Nat} {pat : Bool} {g : Grp} (hg : g ∉ ([.cnts, .mbx, .evt, .tx, .rx, .conv, .radio, .survey, .rffe] : List Grp)) : Avoids g (armTimer n t action te pat) := (armTimer_within (gs := [.cnts, .mbx, .evt, .tx, .rx, .conv, .radio, .survey, .rffe]) rfl).free hg

theorem patternStart_within {n b : Nat} {r : Rec} {gs : List Grp} (hgs : within [.radio] gs = true) : Within gs (patternStart n b r) := by
  refine Within.lift hgs ?_
  clear hgs
  unfold patternStart
  repeat' first
    | with_reducible exact within_skip _
    | with_reducible exact within_nil _
    | with_reducible refine within_cons ?_ ?_
    | with_reducible refine within_seq ?_ ?_
    | with_reducible refine within_ask fun _ => ?_
    | with_reducible refine within_each fun _ => ?_
    | with_reducible refine within_whenP ?_
    | with_reducible refine within_upd ?_
    | with_reducible refine within_ite ?_ ?_
    | with_reducible refine within_replicate ?_
    | with_reducible refine modSheet_within ?_
    | split
    | dsimp only
  all_goals rfl
@[simp] theorem patternStart_avoids {n b : Nat} {r : Rec} {g : Grp} (hg : g ∉ ([.radio] : List Grp)) : Avoids g (patternStart n b r) := (patternStart_within (gs := [.radio]) rfl).free hg

theorem patternStop_within {n : Nat} {gs : List Grp} (hgs : within [.radio, .rffe] gs = true) : Within gs (patternStop n) := by
  refine Within.lift hgs ?_
  clear hgs
  unfold patternStop
  repeat' first
    | with_reducible exact within_skip _
    | with_reducible exact within_nil _
    | with_reducible refine within_cons ?_ ?_
    | with_reducible refine within_seq ?_ ?_
    | with_reducible refine within_ask fun _ => ?_
    | with_reducible refine within_each fun _ => ?_
    | with_reducible refine within_whenP ?_
    | with_reducible refine within_upd ?_
    | with_reducible refine within_ite ?_ ?_
    | with_reducible refine within_replicate ?_
    | with_reducible refine disarmTimer_within ?_
    | with_reducible refine modSheet_within ?_
    | split
    | dsimp only
  all_goals rfl
@[simp] theorem patternStop_avoids {n : Nat} {g : Grp} (hg : g ∉ ([.radio, .rffe] : List Grp)) : Avoids g (patternStop n) := (patternStop_within (gs := [.radio, .rffe]) rfl).free hg

theorem dropTimers_within {n : Nat} {gs : List Grp} (hgs : within [.radio, .rffe] gs = true) : Within gs (dropTimers n) := by
  refine Within.lift hgs ?_
  clear hgs
  unfold dropTimers
  repeat' first
    | with_reducible exact within_skip _
    | with_reducible exact within_nil _
    | with_reducible refine within_cons ?_ ?_
    | with_reducible refine within_seq ?_ ?_
    | with_reducible refine within_ask fun _ => ?_
    | with_reducible refine within_each fun _ => ?_
    | with_reducible refine within_whenP ?_
    | with_reducible refine within_upd ?_
    | with_reducible refine within_ite ?_ ?_
    | with_reducible refine within_replicate ?_
    | with_reducible refine dropBound_within ?_
    | with_reducible refine modSheet_within ?_
    | split
    | dsimp only
  all_goals rfl
@[simp] theorem dropTimers_avoids {n : Nat} {g : Grp} (hg : g ∉ ([.radio, .rffe] : List Grp)) : Avoids g (dropTimers n) := (dropTimers_within (gs := [.radio, .rffe]) rfl).free hg

theorem patternOff_within {n : Nat} {gs : List Grp} (hgs : within [.cfg, .radio] gs = true) : Within gs (patternOff n) := by
  refine Within.lift hgs ?_
  clear hgs
  unfold patternOff
  repeat' first
    | with_reducible exact within_skip _
    | with_reducible exact within_nil _
    | with_reducible refine within_cons ?_ ?_
    | with_reducible refine within_seq ?_ ?_
    | with_reducible refine within_ask fun _ => ?_
    | with_reducible refine within_each fun _ => ?_
    | with_reducible refine within_whenP ?_
    | with_reducible refine within_upd ?_
    | with_reducible refine within_ite ?_ ?_
    | with_reducible refine within_replicate ?_
    | with_reducible refine modSheet_within ?_
    | with_reducible refine setSetting_within ?_
    | split
    | dsimp only
  all_goals rfl
@[simp] theorem patternOff_avoids {n : Nat} {g : Grp} (hg : g ∉ ([.cfg, .radio] : List Grp)) : Avoids g (patternOff n) := (patternOff_within (gs := [.cfg, .radio]) rfl).free hg

theorem forceState_within {n : Nat} {b : Radio} {gs : List Grp} (hgs : within [.cnts, .mbx, .evt, .conv, .radio, .survey, .rffe, .coex] gs = true) : Within gs (forceState n b) := by
  refine Within.lift hgs ?_
  clear hgs
  unfold forceState
  repeat' first
    | with_reducible exact within_skip _
    | with_reducible exact within_nil _
    | with_reducible refine within_cons ?_ ?_
    | with_reducible refine within_seq ?_ ?_
    | with_reducible refine within_ask fun _ => ?_
    | with_reducible refine within_each fun _ => ?_
    | with_reducible refine within_whenP ?_
    | with_reducible refine within_upd ?_
    | with_reducible refine within_ite ?_ ?_
    | with_reducible refine within_replicate ?_
    | with_reducible refine calStop_within ?_
    | with_reducible refine dropTimers_within ?_
    | with_reducible refine hopEnd_within ?_
    | with_reducible refine modSheet_within ?_
    | split
    | dsimp only
  all_goals rfl
@[simp] theorem forceState_avoids {n : Nat} {b : Radio} {g : Grp} (hg : g ∉ ([.cnts, .mbx, .evt, .conv, .radio, .survey, .rffe, .coex] : List Grp)) : Avoids g (forceState n b) := (forceState_within (gs := [.cnts, .mbx, .evt, .conv, .radio, .survey, .rffe, .coex]) rfl).free hg

theorem forceStandby_within {gs : List Grp} (hgs : within [.cfg, .cnts, .mbx, .evt, .conv, .radio, .survey, .rffe, .coex] gs = true) : Within gs forceStandby := by
  refine Within.lift hgs ?_
  clear hgs
  unfold forceStandby
  repeat' first
    | with_reducible exact within_skip _
    | with_reducible exact within_nil _
    | with_reducible refine within_cons ?_ ?_
    | with_reducible refine within_seq ?_ ?_
    | with_reducible refine within_ask fun _ => ?_
    | with_reducible refine within_each fun _ => ?_
    | with_reducible refine within_whenP ?_
    | with_reducible refine within_upd ?_
    | with_reducible refine within_ite ?_ ?_
    | with_reducible refine within_replicate ?_
    | with_reducible refine dropTimers_within ?_
    | with_reducible refine forceState_within ?_
    | with_reducible refine patternOff_within ?_
    | with_reducible refine raise_within ?_
    | split
    | dsimp only
  all_goals rfl
@[simp] theorem forceStandby_avoids {g : Grp} (hg : g ∉ ([.cfg, .cnts, .mbx, .evt, .conv, .radio, .survey, .rffe, .coex] : List Grp)) : Avoids g forceStandby := (forceStandby_within (gs := [.cfg, .cnts, .mbx, .evt, .conv, .radio, .survey, .rffe, .coex]) rfl).free hg

theorem forceSleep_within {n : Nat} {gs : List Grp} (hgs : within [.cfg, .cnts, .mbx, .evt, .conv, .radio, .survey, .rffe, .coex] gs = true) : Within gs (forceSleep n) := by
  refine Within.lift hgs ?_
  clear hgs
  unfold forceSleep
  repeat' first
    | with_reducible exact within_skip _
    | with_reducible exact within_nil _
    | with_reducible refine within_cons ?_ ?_
    | with_reducible refine within_seq ?_ ?_
    | with_reducible refine within_ask fun _ => ?_
    | with_reducible refine within_each fun _ => ?_
    | with_reducible refine within_whenP ?_
    | with_reducible refine within_upd ?_
    | with_reducible refine within_ite ?_ ?_
    | with_reducible refine within_replicate ?_
    | with_reducible refine forceState_within ?_
    | with_reducible refine modSheet_within ?_
    | with_reducible refine patternOff_within ?_
    | split
    | dsimp only
  all_goals rfl
@[simp] theorem forceSleep_avoids {n : Nat} {g : Grp} (hg : g ∉ ([.cfg, .cnts, .mbx, .evt, .conv, .radio, .survey, .rffe, .coex] : List Grp)) : Avoids g (forceSleep n) := (forceSleep_within (gs := [.cfg, .cnts, .mbx, .evt, .conv, .radio, .survey, .rffe, .coex]) rfl).free hg

theorem outOfService_within {n reason : Nat} {gs : List Grp} (hgs : within [.cfg, .cnts, .mem, .ecc, .mbx, .log, .evt, .clk, .fh, .mash, .dpd, .rx, .conv, .radio, .survey, .bias, .rffe, .coex] gs = true) : Within gs (outOfService n reason) := by
  refine Within.lift hgs ?_
  clear hgs
  unfold outOfService
  repeat' first
    | with_reducible exact within_skip _
    | with_reducible exact within_nil _
    | with_reducible refine within_cons ?_ ?_
    | with_reducible refine within_seq ?_ ?_
    | with_reducible refine within_ask fun _ => ?_
    | with_reducible refine within_each fun _ => ?_
    | with_reducible refine within_whenP ?_
    | with_reducible refine within_upd ?_
    | with_reducible refine within_ite ?_ ?_
    | with_reducible refine within_replicate ?_
    | with_reducible refine forceSleep_within ?_
    | with_reducible refine isolate_within ?_
    | with_reducible refine modSheet_within ?_
    | split
    | dsimp only
  all_goals rfl
@[simp] theorem outOfService_avoids {n reason : Nat} {g : Grp} (hg : g ∉ ([.cfg, .cnts, .mem, .ecc, .mbx, .log, .evt, .clk, .fh, .mash, .dpd, .rx, .conv, .radio, .survey, .bias, .rffe, .coex] : List Grp)) : Avoids g (outOfService n reason) := (outOfService_within (gs := [.cfg, .cnts, .mem, .ecc, .mbx, .log, .evt, .clk, .fh, .mash, .dpd, .rx, .conv, .radio, .survey, .bias, .rffe, .coex]) rfl).free hg

end Sys2Proof.Laws
end

