-- ==== Sys2Proof/Laws/Reach4.lean ====
section
/-! SUPPORT. The groups of the state that each shared operation can reach: `x_within` for every list that holds them, `x_avoids` for
every other group, so that simp reads an untouched field through any program. -/

namespace Sys2Proof.Laws

open Sys2Proof Sys2Proof.Machine

theorem grant_within {k owner source : Nat} {path : Option Nat} {wide mismatch : Bool} {gs : List Grp} (hgs : within [.cnts, .dpd, .rffe] gs = true) : Within gs (grant k owner source path wide mismatch) := by
  refine Within.lift hgs ?_
  clear hgs
  unfold grant
  repeat' first
    | with_reducible exact within_skip _
    | with_reducible exact within_nil _
    | with_reducible refine within_cons ?_ ?_
    | with_reducible refine within_seq ?_ ?_
    | with_reducible refine within_ask fun _ => ?_
    | with_reducible refine within_each fun _ => ?_
    | with_reducible refine within_whenP ?_
    | with_reducible refine within_upd ?_
    | with_reducible refine within_ite ?_ ?_
    | with_reducible refine within_replicate ?_
    | with_reducible refine count_within ?_
    | with_reducible refine couplerWrite_within ?_
    | with_reducible refine modOrx_within ?_
    | split
    | dsimp only
  all_goals rfl
@[simp] theorem grant_avoids {k owner source : Nat} {path : Option Nat} {wide mismatch : Bool} {g : Grp} (hg : g ∉ ([.cnts, .dpd, .rffe] : List Grp)) : Avoids g (grant k owner source path wide mismatch) := (grant_within (gs := [.cnts, .dpd, .rffe]) rfl).free hg

theorem grantDpd_within {k p : Nat} {gs : List Grp} (hgs : within [.cnts, .dpd, .rffe] gs = true) : Within gs (grantDpd k p) := by
  refine Within.lift hgs ?_
  clear hgs
  unfold grantDpd
  repeat' first
    | with_reducible exact within_skip _
    | with_reducible exact within_nil _
    | with_reducible refine within_cons ?_ ?_
    | with_reducible refine within_seq ?_ ?_
    | with_reducible refine within_ask fun _ => ?_
    | with_reducible refine within_each fun _ => ?_
    | with_reducible refine within_whenP ?_
    | with_reducible refine within_upd ?_
    | with_reducible refine within_ite ?_ ?_
    | with_reducible refine within_replicate ?_
    | with_reducible refine modDpd_within ?_
    | with_reducible refine modRffe_within ?_
    | with_reducible refine critGroup_within ?_
    | with_reducible refine grant_within ?_
    | split
    | dsimp only
  all_goals rfl
@[simp] theorem grantDpd_avoids {k p : Nat} {g : Grp} (hg : g ∉ ([.cnts, .dpd, .rffe] : List Grp)) : Avoids g (grantDpd k p) := (grantDpd_within (gs := [.cnts, .dpd, .rffe]) rfl).free hg

theorem leaseTurn_within {n : Nat} {a : Radio} {gs : List Grp} (hgs : within [.radio, .rffe] gs = true) : Within gs (leaseTurn n a) := by
  refine Within.lift hgs ?_
  clear hgs
  unfold leaseTurn
  repeat' first
    | with_reducible exact within_skip _
    | with_reducible exact within_nil _
    | with_reducible refine within_cons ?_ ?_
    | with_reducible refine within_seq ?_ ?_
    | with_reducible refine within_ask fun _ => ?_
    | with_reducible refine within_each fun _ => ?_
    | with_reducible refine within_whenP ?_
    | with_reducible refine within_upd ?_
    | with_reducible refine within_ite ?_ ?_
    | with_reducible refine within_replicate ?_
    | with_reducible refine bindHop_within ?_
    | with_reducible refine modSheet_within ?_
    | split
    | dsimp only
  all_goals rfl
@[simp] theorem leaseTurn_avoids {n : Nat} {a : Radio} {g : Grp} (hg : g ∉ ([.radio, .rffe] : List Grp)) : Avoids g (leaseTurn n a) := (leaseTurn_within (gs := [.radio, .rffe]) rfl).free hg

theorem grantCampaign_within {k : Nat} {c : Camp} {gs : List Grp} (hgs : within [.cnts, .dpd, .radio, .survey, .rffe] gs = true) : Within gs (grantCampaign k c) := by
  refine Within.lift hgs ?_
  clear hgs
  unfold grantCampaign
  repeat' first
    | with_reducible exact within_skip _
    | with_reducible exact within_nil _
    | with_reducible refine within_cons ?_ ?_
    | with_reducible refine within_seq ?_ ?_
    | with_reducible refine within_ask fun _ => ?_
    | with_reducible refine within_each fun _ => ?_
    | with_reducible refine within_whenP ?_
    | with_reducible refine within_upd ?_
    | with_reducible refine within_ite ?_ ?_
    | with_reducible refine within_replicate ?_
    | with_reducible refine modSurvey_within ?_
    | with_reducible refine grant_within ?_
    | with_reducible refine leaseTurn_within ?_
    | with_reducible refine modCamp_within ?_
    | split
    | dsimp only
  all_goals rfl
@[simp] theorem grantCampaign_avoids {k : Nat} {c : Camp} {g : Grp} (hg : g ∉ ([.cnts, .dpd, .radio, .survey, .rffe] : List Grp)) : Avoids g (grantCampaign k c) := (grantCampaign_within (gs := [.cnts, .dpd, .radio, .survey, .rffe]) rfl).free hg

theorem grantTrack_within {k a : Nat} {gs : List Grp} (hgs : within [.cnts, .dpd, .survey, .rffe] gs = true) : Within gs (grantTrack k a) := by
  refine Within.lift hgs ?_
  clear hgs
  unfold grantTrack
  repeat' first
    | with_reducible exact within_skip _
    | with_reducible exact within_nil _
    | with_reducible refine within_cons ?_ ?_
    | with_reducible refine within_seq ?_ ?_
    | with_reducible refine within_ask fun _ => ?_
    | with_reducible refine within_each fun _ => ?_
    | with_reducible refine within_whenP ?_
    | with_reducible refine within_upd ?_
    | with_reducible refine within_ite ?_ ?_
    | with_reducible refine within_replicate ?_
    | with_reducible refine modSurvey_within ?_
    | with_reducible refine grant_within ?_
    | with_reducible refine modOrx_within ?_
    | split
    | dsimp only
  all_goals rfl
@[simp] theorem grantTrack_avoids {k a : Nat} {g : Grp} (hg : g ∉ ([.cnts, .dpd, .survey, .rffe] : List Grp)) : Avoids g (grantTrack k a) := (grantTrack_within (gs := [.cnts, .dpd, .survey, .rffe]) rfl).free hg

theorem grantTap_within {k : Nat} {c : CapSlot} {gs : List Grp} (hgs : within [.cnts, .dpd, .rffe] gs = true) : Within gs (grantTap k c) := by
  refine Within.lift hgs ?_
  clear hgs
  unfold grantTap
  repeat' first
    | with_reducible exact within_skip _
    | with_reducible exact within_nil _
    | with_reducible refine within_cons ?_ ?_
    | with_reducible refine within_seq ?_ ?_
    | with_reducible refine within_ask fun _ => ?_
    | with_reducible refine within_each fun _ => ?_
    | with_reducible refine within_whenP ?_
    | with_reducible refine within_upd ?_
    | with_reducible refine within_ite ?_ ?_
    | with_reducible refine within_replicate ?_
    | with_reducible refine grant_within ?_
    | split
    | dsimp only
  all_goals rfl
@[simp] theorem grantTap_avoids {k : Nat} {c : CapSlot} {g : Grp} (hg : g ∉ ([.cnts, .dpd, .rffe] : List Grp)) : Avoids g (grantTap k c) := (grantTap_within (gs := [.cnts, .dpd, .rffe]) rfl).free hg

theorem modSlot_within {k : Nat} {f : CapSlot → CapSlot} {gs : List Grp} (hgs : within [.cap] gs = true) : Within gs (modSlot k f) := by
  refine Within.lift hgs ?_
  clear hgs
  unfold modSlot
  repeat' first
    | with_reducible exact within_skip _
    | with_reducible exact within_nil _
    | with_reducible refine within_cons ?_ ?_
    | with_reducible refine within_seq ?_ ?_
    | with_reducible refine within_ask fun _ => ?_
    | with_reducible refine within_each fun _ => ?_
    | with_reducible refine within_whenP ?_
    | with_reducible refine within_upd ?_
    | with_reducible refine within_ite ?_ ?_
    | with_reducible refine within_replicate ?_
    | with_reducible refine modCap_within ?_
    | split
    | dsimp only
  all_goals rfl
@[simp] theorem modSlot_avoids {k : Nat} {f : CapSlot → CapSlot} {g : Grp} (hg : g ∉ ([.cap] : List Grp)) : Avoids g (modSlot k f) := (modSlot_within (gs := [.cap]) rfl).free hg

theorem capAbort_within {k why : Nat} {gs : List Grp} (hgs : within [.cap] gs = true) : Within gs (capAbort k why) := by
  refine Within.lift hgs ?_
  clear hgs
  unfold capAbort
  repeat' first
    | with_reducible exact within_skip _
    | with_reducible exact within_nil _
    | with_reducible refine within_cons ?_ ?_
    | with_reducible refine within_seq ?_ ?_
    | with_reducible refine within_ask fun _ => ?_
    | with_reducible refine within_each fun _ => ?_
    | with_reducible refine within_whenP ?_
    | with_reducible refine within_upd ?_
    | with_reducible refine within_ite ?_ ?_
    | with_reducible refine within_replicate ?_
    | with_reducible refine modSlot_within ?_
    | split
    | dsimp only
  all_goals rfl
@[simp] theorem capAbort_avoids {k why : Nat} {g : Grp} (hg : g ∉ ([.cap] : List Grp)) : Avoids g (capAbort k why) := (capAbort_within (gs := [.cap]) rfl).free hg

theorem touchSlots_within {gs : List Grp} (hgs : within [.cap] gs = true) : Within gs touchSlots := by
  refine Within.lift hgs ?_
  clear hgs
  unfold touchSlots
  repeat' first
    | with_reducible exact within_skip _
    | with_reducible exact within_nil _
    | with_reducible refine within_cons ?_ ?_
    | with_reducible refine within_seq ?_ ?_
    | with_reducible refine within_ask fun _ => ?_
    | with_reducible refine within_each fun _ => ?_
    | with_reducible refine within_whenP ?_
    | with_reducible refine within_upd ?_
    | with_reducible refine within_ite ?_ ?_
    | with_reducible refine within_replicate ?_
    | with_reducible refine modCap_within ?_
    | split
    | dsimp only
  all_goals rfl
@[simp] theorem touchSlots_avoids {g : Grp} (hg : g ∉ ([.cap] : List Grp)) : Avoids g touchSlots := (touchSlots_within (gs := [.cap]) rfl).free hg

theorem gateStrobes_within {gs : List Grp} (hgs : within [.radio] gs = true) : Within gs gateStrobes := by
  refine Within.lift hgs ?_
  clear hgs
  unfold gateStrobes
  repeat' first
    | with_reducible exact within_skip _
    | with_reducible exact within_nil _
    | with_reducible refine within_cons ?_ ?_
    | with_reducible refine within_seq ?_ ?_
    | with_reducible refine within_ask fun _ => ?_
    | with_reducible refine within_each fun _ => ?_
    | with_reducible refine within_whenP ?_
    | with_reducible refine within_upd ?_
    | with_reducible refine within_ite ?_ ?_
    | with_reducible refine within_replicate ?_
    | with_reducible refine modSheet_within ?_
    | split
    | dsimp only
  all_goals rfl
@[simp] theorem gateStrobes_avoids {g : Grp} (hg : g ∉ ([.radio] : List Grp)) : Avoids g gateStrobes := (gateStrobes_within (gs := [.radio]) rfl).free hg

theorem followBudget_within {gs : List Grp} (hgs : within [.cnts, .mbx, .evt, .kiln] gs = true) : Within gs followBudget := by
  refine Within.lift hgs ?_
  clear hgs
  unfold followBudget
  repeat' first
    | with_reducible exact within_skip _
    | with_reducible exact within_nil _
    | with_reducible refine within_cons ?_ ?_
    | with_reducible refine within_seq ?_ ?_
    | with_reducible refine within_ask fun _ => ?_
    | with_reducible refine within_each fun _ => ?_
    | with_reducible refine within_whenP ?_
    | with_reducible refine within_upd ?_
    | with_reducible refine within_ite ?_ ?_
    | with_reducible refine within_replicate ?_
    | with_reducible refine modKiln_within ?_
    | with_reducible refine raise_within ?_
    | split
    | dsimp only
  all_goals rfl
@[simp] theorem followBudget_avoids {g : Grp} (hg : g ∉ ([.cnts, .mbx, .evt, .kiln] : List Grp)) : Avoids g followBudget := (followBudget_within (gs := [.cnts, .mbx, .evt, .kiln]) rfl).free hg

theorem kilnChange_within {b boundary : Nat} {d : Declared} {gs : List Grp} (hgs : within [.cnts, .mbx, .log, .evt, .kiln, .bias] gs = true) : Within gs (kilnChange b boundary d) := by
  refine Within.lift hgs ?_
  clear hgs
  unfold kilnChange
  repeat' first
    | with_reducible exact within_skip _
    | with_reducible exact within_nil _
    | with_reducible refine within_cons ?_ ?_
    | with_reducible refine within_seq ?_ ?_
    | with_reducible refine within_ask fun _ => ?_
    | with_reducible refine within_each fun _ => ?_
    | with_reducible refine within_whenP ?_
    | with_reducible refine within_upd ?_
    | with_reducible refine within_ite ?_ ?_
    | with_reducible refine within_replicate ?_
    | with_reducible refine modKiln_within ?_
    | with_reducible refine biasFollow_within ?_
    | with_reducible refine count_within ?_
    | with_reducible refine logCommit_within ?_
    | split
    | dsimp only
  all_goals rfl
@[simp] theorem kilnChange_avoids {b boundary : Nat} {d : Declared} {g : Grp} (hg : g ∉ ([.cnts, .mbx, .log, .evt, .kiln, .bias] : List Grp)) : Avoids g (kilnChange b boundary d) := (kilnChange_within (gs := [.cnts, .mbx, .log, .evt, .kiln, .bias]) rfl).free hg

theorem declare_within {restore : Bool} {steps : List (Option Nat)} {gs : List Grp} (hgs : within [.cnts, .mbx, .log, .evt, .kiln, .bias] gs = true) : Within gs (declare restore steps) := by
  refine Within.lift hgs ?_
  clear hgs
  unfold declare
  repeat' first
    | with_reducible exact within_skip _
    | with_reducible exact within_nil _
    | with_reducible refine within_cons ?_ ?_
    | with_reducible refine within_seq ?_ ?_
    | with_reducible refine within_ask fun _ => ?_
    | with_reducible refine within_each fun _ => ?_
    | with_reducible refine within_whenP ?_
    | with_reducible refine within_upd ?_
    | with_reducible refine within_ite ?_ ?_
    | with_reducible refine within_replicate ?_
    | with_reducible refine modKiln_within ?_
    | with_reducible refine kilnChange_within ?_
    | with_reducible refine raise_within ?_
    | split
    | dsimp only
  all_goals rfl
@[simp] theorem declare_avoids {restore : Bool} {steps : List (Option Nat)} {g : Grp} (hg : g ∉ ([.cnts, .mbx, .log, .evt, .kiln, .bias] : List Grp)) : Avoids g (declare restore steps) := (declare_within (gs := [.cnts, .mbx, .log, .evt, .kiln, .bias]) rfl).free hg

theorem kilnApply_within {b boundary : Nat} {gs : List Grp} (hgs : within [.cnts, .mbx, .log, .evt, .kiln, .bias] gs = true) : Within gs (kilnApply b boundary) := by
  refine Within.lift hgs ?_
  clear hgs
  unfold kilnApply
  repeat' first
    | with_reducible exact within_skip _
    | with_reducible exact within_nil _
    | with_reducible refine within_cons ?_ ?_
    | with_reducible refine within_seq ?_ ?_
    | with_reducible refine within_ask fun _ => ?_
    | with_reducible refine within_each fun _ => ?_
    | with_reducible refine within_whenP ?_
    | with_reducible refine within_upd ?_
    | with_reducible refine within_ite ?_ ?_
    | with_reducible refine within_replicate ?_
    | with_reducible refine modKiln_within ?_
    | with_reducible refine kilnChange_within ?_
    | split
    | dsimp only
  all_goals rfl
@[simp] theorem kilnApply_avoids {b boundary : Nat} {g : Grp} (hg : g ∉ ([.cnts, .mbx, .log, .evt, .kiln, .bias] : List Grp)) : Avoids g (kilnApply b boundary) := (kilnApply_within (gs := [.cnts, .mbx, .log, .evt, .kiln, .bias]) rfl).free hg

theorem kilnDecide_within {gs : List Grp} (hgs : within [.cnts, .mbx, .log, .evt, .kiln, .bias] gs = true) : Within gs kilnDecide := by
  refine Within.lift hgs ?_
  clear hgs
  unfold kilnDecide
  repeat' first
    | with_reducible exact within_skip _
    | with_reducible exact within_nil _
    | with_reducible refine within_cons ?_ ?_
    | with_reducible refine within_seq ?_ ?_
    | with_reducible refine within_ask fun _ => ?_
    | with_reducible refine within_each fun _ => ?_
    | with_reducible refine within_whenP ?_
    | with_reducible refine within_upd ?_
    | with_reducible refine within_ite ?_ ?_
    | with_reducible refine within_replicate ?_
    | with_reducible refine declare_within ?_
    | split
    | dsimp only
  all_goals rfl
@[simp] theorem kilnDecide_avoids {g : Grp} (hg : g ∉ ([.cnts, .mbx, .log, .evt, .kiln, .bias] : List Grp)) : Avoids g kilnDecide := (kilnDecide_within (gs := [.cnts, .mbx, .log, .evt, .kiln, .bias]) rfl).free hg

theorem thermal_within {t : Int} {gs : List Grp} (hgs : within [.cfg, .cnts, .host, .mbx, .evt, .pwr, .kiln, .conv, .radio, .survey, .rffe, .coex] gs = true) : Within gs (thermal t) := by
  refine Within.lift hgs ?_
  clear hgs
  unfold thermal
  repeat' first
    | with_reducible exact within_skip _
    | with_reducible exact within_nil _
    | with_reducible refine within_cons ?_ ?_
    | with_reducible refine within_seq ?_ ?_
    | with_reducible refine within_ask fun _ => ?_
    | with_reducible refine within_each fun _ => ?_
    | with_reducible refine within_whenP ?_
    | with_reducible refine within_upd ?_
    | with_reducible refine within_ite ?_ ?_
    | with_reducible refine within_replicate ?_
    | with_reducible refine modKiln_within ?_
    | with_reducible refine forceStandby_within ?_
    | with_reducible refine raiseFl_within ?_
    | with_reducible refine setFault_within ?_
    | split
    | dsimp only
  all_goals rfl
@[simp] theorem thermal_avoids {t : Int} {g : Grp} (hg : g ∉ ([.cfg, .cnts, .host, .mbx, .evt, .pwr, .kiln, .conv, .radio, .survey, .rffe, .coex] : List Grp)) : Avoids g (thermal t) := (thermal_within (gs := [.cfg, .cnts, .host, .mbx, .evt, .pwr, .kiln, .conv, .radio, .survey, .rffe, .coex]) rfl).free hg

theorem feedCheck_within {gs : List Grp} (hgs : within [.cnts, .mbx, .evt, .kiln] gs = true) : Within gs feedCheck := by
  refine Within.lift hgs ?_
  clear hgs
  unfold feedCheck
  repeat' first
    | with_reducible exact within_skip _
    | with_reducible exact within_nil _
    | with_reducible refine within_cons ?_ ?_
    | with_reducible refine within_seq ?_ ?_
    | with_reducible refine within_ask fun _ => ?_
    | with_reducible refine within_each fun _ => ?_
    | with_reducible refine within_whenP ?_
    | with_reducible refine within_upd ?_
    | with_reducible refine within_ite ?_ ?_
    | with_reducible refine within_replicate ?_
    | with_reducible refine modKiln_within ?_
    | with_reducible refine raise_within ?_
    | split
    | dsimp only
  all_goals rfl
@[simp] theorem feedCheck_avoids {g : Grp} (hg : g ∉ ([.cnts, .mbx, .evt, .kiln] : List Grp)) : Avoids g feedCheck := (feedCheck_within (gs := [.cnts, .mbx, .evt, .kiln]) rfl).free hg

theorem kilnLevels_within {gs : List Grp} (hgs : within [.cnts, .mbx, .evt, .kiln] gs = true) : Within gs kilnLevels := by
  refine Within.lift hgs ?_
  clear hgs
  unfold kilnLevels
  repeat' first
    | with_reducible exact within_skip _
    | with_reducible exact within_nil _
    | with_reducible refine within_cons ?_ ?_
    | with_reducible refine within_seq ?_ ?_
    | with_reducible refine within_ask fun _ => ?_
    | with_reducible refine within_each fun _ => ?_
    | with_reducible refine within_whenP ?_
    | with_reducible refine within_upd ?_
    | with_reducible refine within_ite ?_ ?_
    | with_reducible refine within_replicate ?_
    | with_reducible refine modKiln_within ?_
    | with_reducible refine raise_within ?_
    | split
    | dsimp only
  all_goals rfl
@[simp] theorem kilnLevels_avoids {g : Grp} (hg : g ∉ ([.cnts, .mbx, .evt, .kiln] : List Grp)) : Avoids g kilnLevels := (kilnLevels_within (gs := [.cnts, .mbx, .evt, .kiln]) rfl).free hg

theorem refLost_within {gs : List Grp} (hgs : within [.cfg, .cnts, .host, .mbx, .evt, .clk, .pwr, .tx, .conv, .radio, .survey, .rffe, .coex] gs = true) : Within gs refLost := by
  refine Within.lift hgs ?_
  clear hgs
  unfold refLost
  repeat' first
    | with_reducible exact within_skip _
    | with_reducible exact within_nil _
    | with_reducible refine within_cons ?_ ?_
    | with_reducible refine within_seq ?_ ?_
    | with_reducible refine within_ask fun _ => ?_
    | with_reducible refine within_each fun _ => ?_
    | with_reducible refine within_whenP ?_
    | with_reducible refine within_upd ?_
    | with_reducible refine within_ite ?_ ?_
    | with_reducible refine within_replicate ?_
    | with_reducible refine modClk_within ?_
    | with_reducible refine forceStandby_within ?_
    | with_reducible refine raiseFl_within ?_
    | with_reducible refine setFault_within ?_
    | with_reducible refine setHold_within ?_
    | split
    | dsimp only
  all_goals rfl
@[simp] theorem refLost_avoids {g : Grp} (hg : g ∉ ([.cfg, .cnts, .host, .mbx, .evt, .clk, .pwr, .tx, .conv, .radio, .survey, .rffe, .coex] : List Grp)) : Avoids g refLost := (refLost_within (gs := [.cfg, .cnts, .host, .mbx, .evt, .clk, .pwr, .tx, .conv, .radio, .survey, .rffe, .coex]) rfl).free hg

theorem refBack_within {gs : List Grp} (hgs : within [.clk, .tx] gs = true) : Within gs refBack := by
  refine Within.lift hgs ?_
  clear hgs
  unfold refBack
  repeat' first
    | with_reducible exact within_skip _
    | with_reducible exact within_nil _
    | with_reducible refine within_cons ?_ ?_
    | with_reducible refine within_seq ?_ ?_
    | with_reducible refine within_ask fun _ => ?_
    | with_reducible refine within_each fun _ => ?_
    | with_reducible refine within_whenP ?_
    | with_reducible refine within_upd ?_
    | with_reducible refine within_ite ?_ ?_
    | with_reducible refine within_replicate ?_
    | with_reducible refine endHold_within ?_
    | with_reducible refine firmwareArm_within ?_
    | split
    | dsimp only
  all_goals rfl
@[simp] theorem refBack_avoids {g : Grp} (hg : g ∉ ([.clk, .tx] : List Grp)) : Avoids g refBack := (refBack_within (gs := [.clk, .tx]) rfl).free hg

theorem clockLost_within {c : Nat} {gs : List Grp} (hgs : within [.cfg, .cnts, .host, .mbx, .evt, .clk, .pwr, .fh, .mash, .tx, .dpd, .conv, .radio, .survey, .rffe, .coex] gs = true) : Within gs (clockLost c) := by
  refine Within.lift hgs ?_
  clear hgs
  unfold clockLost
  repeat' first
    | with_reducible exact within_skip _
    | with_reducible exact within_nil _
    | with_reducible refine within_cons ?_ ?_
    | with_reducible refine within_seq ?_ ?_
    | with_reducible refine within_ask fun _ => ?_
    | with_reducible refine within_each fun _ => ?_
    | with_reducible refine within_whenP ?_
    | with_reducible refine within_upd ?_
    | with_reducible refine within_ite ?_ ?_
    | with_reducible refine within_replicate ?_
    | with_reducible refine modClk_within ?_
    | with_reducible refine dpdRefresh_within ?_
    | with_reducible refine linkTo_within ?_
    | with_reducible refine mashLost_within ?_
    | with_reducible refine raise_within ?_
    | with_reducible refine raiseFl_within ?_
    | with_reducible refine refLost_within ?_
    | with_reducible refine setFault_within ?_
    | with_reducible refine stamp_within ?_
    | split
    | dsimp only
  all_goals rfl
@[simp] theorem clockLost_avoids {c : Nat} {g : Grp} (hg : g ∉ ([.cfg, .cnts, .host, .mbx, .evt, .clk, .pwr, .fh, .mash, .tx, .dpd, .conv, .radio, .survey, .rffe, .coex] : List Grp)) : Avoids g (clockLost c) := (clockLost_within (gs := [.cfg, .cnts, .host, .mbx, .evt, .clk, .pwr, .fh, .mash, .tx, .dpd, .conv, .radio, .survey, .rffe, .coex]) rfl).free hg

theorem clockBack_within {c : Nat} {gs : List Grp} (hgs : within [.cnts, .mbx, .evt, .clk, .fh, .tx] gs = true) : Within gs (clockBack c) := by
  refine Within.lift hgs ?_
  clear hgs
  unfold clockBack
  repeat' first
    | with_reducible exact within_skip _
    | with_reducible exact within_nil _
    | with_reducible refine within_cons ?_ ?_
    | with_reducible refine within_seq ?_ ?_
    | with_reducible refine within_ask fun _ => ?_
    | with_reducible refine within_each fun _ => ?_
    | with_reducible refine within_whenP ?_
    | with_reducible refine within_upd ?_
    | with_reducible refine within_ite ?_ ?_
    | with_reducible refine within_replicate ?_
    | with_reducible refine modClk_within ?_
    | with_reducible refine linkSettle_within ?_
    | with_reducible refine refBack_within ?_
    | split
    | dsimp only
  all_goals rfl
@[simp] theorem clockBack_avoids {c : Nat} {g : Grp} (hg : g ∉ ([.cnts, .mbx, .evt, .clk, .fh, .tx] : List Grp)) : Avoids g (clockBack c) := (clockBack_within (gs := [.cnts, .mbx, .evt, .clk, .fh, .tx]) rfl).free hg

theorem clockWindow_within {good c : Nat} {gs : List Grp} (hgs : within [.cfg, .cnts, .host, .mbx, .evt, .clk, .pwr, .fh, .mash, .tx, .dpd, .conv, .radio, .survey, .rffe, .coex] gs = true) : Within gs (clockWindow good c) := by
  refine Within.lift hgs ?_
  clear hgs
  unfold clockWindow
  repeat' first
    | with_reducible exact within_skip _
    | with_reducible exact within_nil _
    | with_reducible refine within_cons ?_ ?_
    | with_reducible refine within_seq ?_ ?_
    | with_reducible refine within_ask fun _ => ?_
    | with_reducible refine within_each fun _ => ?_
    | with_reducible refine within_whenP ?_
    | with_reducible refine within_upd ?_
    | with_reducible refine within_ite ?_ ?_
    | with_reducible refine within_replicate ?_
    | with_reducible refine modClk_within ?_
    | with_reducible refine clockBack_within ?_
    | with_reducible refine clockLost_within ?_
    | split
    | dsimp only
  all_goals rfl
@[simp] theorem clockWindow_avoids {good c : Nat} {g : Grp} (hg : g ∉ ([.cfg, .cnts, .host, .mbx, .evt, .clk, .pwr, .fh, .mash, .tx, .dpd, .conv, .radio, .survey, .rffe, .coex] : List Grp)) : Avoids g (clockWindow good c) := (clockWindow_within (gs := [.cfg, .cnts, .host, .mbx, .evt, .clk, .pwr, .fh, .mash, .tx, .dpd, .conv, .radio, .survey, .rffe, .coex]) rfl).free hg

theorem swapLanes_within {gs : List Grp} (hgs : within [.cnts, .mem, .ecc, .mbx, .log, .evt, .clk, .fh, .mash, .dpd, .rx, .conv, .radio, .survey, .bias] gs = true) : Within gs swapLanes := by
  refine Within.lift hgs ?_
  clear hgs
  unfold swapLanes
  repeat' first
    | with_reducible exact within_skip _
    | with_reducible exact within_nil _
    | with_reducible refine within_cons ?_ ?_
    | with_reducible refine within_seq ?_ ?_
    | with_reducible refine within_ask fun _ => ?_
    | with_reducible refine within_each fun _ => ?_
    | with_reducible refine within_whenP ?_
    | with_reducible refine within_upd ?_
    | with_reducible refine within_ite ?_ ?_
    | with_reducible refine within_replicate ?_
    | with_reducible refine modClk_within ?_
    | with_reducible refine applyIso_within ?_
    | split
    | dsimp only
  all_goals rfl
@[simp] theorem swapLanes_avoids {g : Grp} (hg : g ∉ ([.cnts, .mem, .ecc, .mbx, .log, .evt, .clk, .fh, .mash, .dpd, .rx, .conv, .radio, .survey, .bias] : List Grp)) : Avoids g swapLanes := (swapLanes_within (gs := [.cnts, .mem, .ecc, .mbx, .log, .evt, .clk, .fh, .mash, .dpd, .rx, .conv, .radio, .survey, .bias]) rfl).free hg

theorem trimApply_within {gs : List Grp} (hgs : within [.cnts, .mbx, .log, .evt, .clk] gs = true) : Within gs trimApply := by
  refine Within.lift hgs ?_
  clear hgs
  unfold trimApply
  repeat' first
    | with_reducible exact within_skip _
    | with_reducible exact within_nil _
    | with_reducible refine within_cons ?_ ?_
    | with_reducible refine within_seq ?_ ?_
    | with_reducible refine within_ask fun _ => ?_
    | with_reducible refine within_each fun _ => ?_
    | with_reducible refine within_whenP ?_
    | with_reducible refine within_upd ?_
    | with_reducible refine within_ite ?_ ?_
    | with_reducible refine within_replicate ?_
    | with_reducible refine modClk_within ?_
    | with_reducible refine logCommit_within ?_
    | split
    | dsimp only
  all_goals rfl
@[simp] theorem trimApply_avoids {g : Grp} (hg : g ∉ ([.cnts, .mbx, .log, .evt, .clk] : List Grp)) : Avoids g trimApply := (trimApply_within (gs := [.cnts, .mbx, .log, .evt, .clk]) rfl).free hg

theorem alignJudge_within {good : Bool} {gs : List Grp} (hgs : within [.clk] gs = true) : Within gs (alignJudge good) := by
  refine Within.lift hgs ?_
  clear hgs
  unfold alignJudge
  repeat' first
    | with_reducible exact within_skip _
    | with_reducible exact within_nil _
    | with_reducible refine within_cons ?_ ?_
    | with_reducible refine within_seq ?_ ?_
    | with_reducible refine within_ask fun _ => ?_
    | with_reducible refine within_each fun _ => ?_
    | with_reducible refine within_whenP ?_
    | with_reducible refine within_upd ?_
    | with_reducible refine within_ite ?_ ?_
    | with_reducible refine within_replicate ?_
    | with_reducible refine modClk_within ?_
    | split
    | dsimp only
  all_goals rfl
@[simp] theorem alignJudge_avoids {good : Bool} {g : Grp} (hg : g ∉ ([.clk] : List Grp)) : Avoids g (alignJudge good) := (alignJudge_within (gs := [.clk]) rfl).free hg

theorem slipNote_within {m : Nat} {gs : List Grp} (hgs : within [.cnts, .host, .mbx, .evt, .clk, .pwr] gs = true) : Within gs (slipNote m) := by
  refine Within.lift hgs ?_
  clear hgs
  unfold slipNote
  repeat' first
    | with_reducible exact within_skip _
    | with_reducible exact within_nil _
    | with_reducible refine within_cons ?_ ?_
    | with_reducible refine within_seq ?_ ?_
    | with_reducible refine within_ask fun _ => ?_
    | with_reducible refine within_each fun _ => ?_
    | with_reducible refine within_whenP ?_
    | with_reducible refine within_upd ?_
    | with_reducible refine within_ite ?_ ?_
    | with_reducible refine within_replicate ?_
    | with_reducible refine modClk_within ?_
    | with_reducible refine raiseFl_within ?_
    | with_reducible refine setFault_within ?_
    | split
    | dsimp only
  all_goals rfl
@[simp] theorem slipNote_avoids {m : Nat} {g : Grp} (hg : g ∉ ([.cnts, .host, .mbx, .evt, .clk, .pwr] : List Grp)) : Avoids g (slipNote m) := (slipNote_within (gs := [.cnts, .host, .mbx, .evt, .clk, .pwr]) rfl).free hg

theorem residFollow_within {r : Nat} {gs : List Grp} (hgs : within [.cnts, .mbx, .evt, .clk] gs = true) : Within gs (residFollow r) := by
  refine Within.lift hgs ?_
  clear hgs
  unfold residFollow
  repeat' first
    | with_reducible exact within_skip _
    | with_reducible exact within_nil _
    | with_reducible refine within_cons ?_ ?_
    | with_reducible refine within_seq ?_ ?_
    | with_reducible refine within_ask fun _ => ?_
    | with_reducible refine within_each fun _ => ?_
    | with_reducible refine within_whenP ?_
    | with_reducible refine within_upd ?_
    | with_reducible refine within_ite ?_ ?_
    | with_reducible refine within_replicate ?_
    | with_reducible refine modClk_within ?_
    | with_reducible refine raise_within ?_
    | split
    | dsimp only
  all_goals rfl
@[simp] theorem residFollow_avoids {r : Nat} {g : Grp} (hg : g ∉ ([.cnts, .mbx, .evt, .clk] : List Grp)) : Avoids g (residFollow r) := (residFollow_within (gs := [.cnts, .mbx, .evt, .clk]) rfl).free hg

theorem alignStatusClear_within {v : Nat} {gs : List Grp} (hgs : within [.clk] gs = true) : Within gs (alignStatusClear v) := by
  refine Within.lift hgs ?_
  clear hgs
  unfold alignStatusClear
  repeat' first
    | with_reducible exact within_skip _
    | with_reducible exact within_nil _
    | with_reducible refine within_cons ?_ ?_
    | with_reducible refine within_seq ?_ ?_
    | with_reducible refine within_ask fun _ => ?_
    | with_reducible refine within_each fun _ => ?_
    | with_reducible refine within_whenP ?_
    | with_reducible refine within_upd ?_
    | with_reducible refine within_ite ?_ ?_
    | with_reducible refine within_replicate ?_
    | with_reducible refine modClk_within ?_
    | split
    | dsimp only
  all_goals rfl
@[simp] theorem alignStatusClear_avoids {v : Nat} {g : Grp} (hg : g ∉ ([.clk] : List Grp)) : Avoids g (alignStatusClear v) := (alignStatusClear_within (gs := [.clk]) rfl).free hg

theorem hostFail_within {e a : Nat} {gs : List Grp} (hgs : within [.host] gs = true) : Within gs (hostFail e a) := by
  refine Within.lift hgs ?_
  clear hgs
  unfold hostFail
  repeat' first
    | with_reducible exact within_skip _
    | with_reducible exact within_nil _
    | with_reducible refine within_cons ?_ ?_
    | with_reducible refine within_seq ?_ ?_
    | with_reducible refine within_ask fun _ => ?_
    | with_reducible refine within_each fun _ => ?_
    | with_reducible refine within_whenP ?_
    | with_reducible refine within_upd ?_
    | with_reducible refine within_ite ?_ ?_
    | with_reducible refine within_replicate ?_
    | with_reducible refine modHost_within ?_
    | split
    | dsimp only
  all_goals rfl
@[simp] theorem hostFail_avoids {e a : Nat} {g : Grp} (hg : g ∉ ([.host] : List Grp)) : Avoids g (hostFail e a) := (hostFail_within (gs := [.host]) rfl).free hg

theorem setShadow_within {cpu : Bool} {v : Nat} {gs : List Grp} (hgs : within [.host] gs = true) : Within gs (setShadow cpu v) := by
  refine Within.lift hgs ?_
  clear hgs
  unfold setShadow
  repeat' first
    | with_reducible exact within_skip _
    | with_reducible exact within_nil _
    | with_reducible refine within_cons ?_ ?_
    | with_reducible refine within_seq ?_ ?_
    | with_reducible refine within_ask fun _ => ?_
    | with_reducible refine within_each fun _ => ?_
    | with_reducible refine within_whenP ?_
    | with_reducible refine within_upd ?_
    | with_reducible refine within_ite ?_ ?_
    | with_reducible refine within_replicate ?_
    | with_reducible refine modHost_within ?_
    | split
    | dsimp only
  all_goals rfl
@[simp] theorem setShadow_avoids {cpu : Bool} {v : Nat} {g : Grp} (hg : g ∉ ([.host] : List Grp)) : Avoids g (setShadow cpu v) := (setShadow_within (gs := [.host]) rfl).free hg

theorem giveWord_within {cpu : Bool} {v : Nat} {gs : List Grp} (hgs : within [.host] gs = true) : Within gs (giveWord cpu v) := by
  refine Within.lift hgs ?_
  clear hgs
  unfold giveWord
  repeat' first
    | with_reducible exact within_skip _
    | with_reducible exact within_nil _
    | with_reducible refine within_cons ?_ ?_
    | with_reducible refine within_seq ?_ ?_
    | with_reducible refine within_ask fun _ => ?_
    | with_reducible refine within_each fun _ => ?_
    | with_reducible refine within_whenP ?_
    | with_reducible refine within_upd ?_
    | with_reducible refine within_ite ?_ ?_
    | with_reducible refine within_replicate ?_
    | with_reducible refine modHost_within ?_
    | split
    | dsimp only
  all_goals rfl
@[simp] theorem giveWord_avoids {cpu : Bool} {v : Nat} {g : Grp} (hg : g ∉ ([.host] : List Grp)) : Avoids g (giveWord cpu v) := (giveWord_within (gs := [.host]) rfl).free hg

theorem readFail_within {cpu : Bool} {e a : Nat} {gs : List Grp} (hgs : within [.host] gs = true) : Within gs (readFail cpu e a) := by
  refine Within.lift hgs ?_
  clear hgs
  unfold readFail
  repeat' first
    | with_reducible exact within_skip _
    | with_reducible exact within_nil _
    | with_reducible refine within_cons ?_ ?_
    | with_reducible refine within_seq ?_ ?_
    | with_reducible refine within_ask fun _ => ?_
    | with_reducible refine within_each fun _ => ?_
    | with_reducible refine within_whenP ?_
    | with_reducible refine within_upd ?_
    | with_reducible refine within_ite ?_ ?_
    | with_reducible refine within_replicate ?_
    | with_reducible refine giveWord_within ?_
    | with_reducible refine hostFail_within ?_
    | with_reducible refine setShadow_within ?_
    | split
    | dsimp only
  all_goals rfl
@[simp] theorem readFail_avoids {cpu : Bool} {e a : Nat} {g : Grp} (hg : g ∉ ([.host] : List Grp)) : Avoids g (readFail cpu e a) := (readFail_within (gs := [.host]) rfl).free hg

theorem readMem_within {cpu : Bool} {code a : Nat} {gs : List Grp} (hgs : within [.cnts, .ecc, .host, .mbx, .evt] gs = true) : Within gs (readMem cpu code a) := by
  refine Within.lift hgs ?_
  clear hgs
  unfold readMem
  repeat' first
    | with_reducible exact within_skip _
    | with_reducible exact within_nil _
    | with_reducible refine within_cons ?_ ?_
    | with_reducible refine within_seq ?_ ?_
    | with_reducible refine within_ask fun _ => ?_
    | with_reducible refine within_each fun _ => ?_
    | with_reducible refine within_whenP ?_
    | with_reducible refine within_upd ?_
    | with_reducible refine within_ite ?_ ?_
    | with_reducible refine within_replicate ?_
    | with_reducible refine giveWord_within ?_
    | with_reducible refine noteRead_within ?_
    | with_reducible refine readFail_within ?_
    | with_reducible refine setShadow_within ?_
    | split
    | dsimp only
  all_goals rfl
@[simp] theorem readMem_avoids {cpu : Bool} {code a : Nat} {g : Grp} (hg : g ∉ ([.cnts, .ecc, .host, .mbx, .evt] : List Grp)) : Avoids g (readMem cpu code a) := (readMem_within (gs := [.cnts, .ecc, .host, .mbx, .evt]) rfl).free hg

theorem readWord_within {cpu : Bool} {a : Nat} {gs : List Grp} (hgs : within [.cnts, .ecc, .host, .mbx, .evt] gs = true) : Within gs (readWord cpu a) := by
  refine Within.lift hgs ?_
  clear hgs
  unfold readWord
  repeat' first
    | with_reducible exact within_skip _
    | with_reducible exact within_nil _
    | with_reducible refine within_cons ?_ ?_
    | with_reducible refine within_seq ?_ ?_
    | with_reducible refine within_ask fun _ => ?_
    | with_reducible refine within_each fun _ => ?_
    | with_reducible refine within_whenP ?_
    | with_reducible refine within_upd ?_
    | with_reducible refine within_ite ?_ ?_
    | with_reducible refine within_replicate ?_
    | with_reducible refine giveWord_within ?_
    | with_reducible refine readFail_within ?_
    | with_reducible refine readMem_within ?_
    | with_reducible refine setShadow_within ?_
    | split
    | dsimp only
  all_goals rfl
@[simp] theorem readWord_avoids {cpu : Bool} {a : Nat} {g : Grp} (hg : g ∉ ([.cnts, .ecc, .host, .mbx, .evt] : List Grp)) : Avoids g (readWord cpu a) := (readWord_within (gs := [.cnts, .ecc, .host, .mbx, .evt]) rfl).free hg

theorem faultClear_within {mask : Nat} {gs : List Grp} (hgs : within [.host] gs = true) : Within gs (faultClear mask) := by
  refine Within.lift hgs ?_
  clear hgs
  unfold faultClear
  repeat' first
    | with_reducible exact within_skip _
    | with_reducible exact within_nil _
    | with_reducible refine within_cons ?_ ?_
    | with_reducible refine within_seq ?_ ?_
    | with_reducible refine within_ask fun _ => ?_
    | with_reducible refine within_each fun _ => ?_
    | with_reducible refine within_whenP ?_
    | with_reducible refine within_upd ?_
    | with_reducible refine within_ite ?_ ?_
    | with_reducible refine within_replicate ?_
    | with_reducible refine modHost_within ?_
    | split
    | dsimp only
  all_goals rfl
@[simp] theorem faultClear_avoids {mask : Nat} {g : Grp} (hg : g ∉ ([.host] : List Grp)) : Avoids g (faultClear mask) := (faultClear_within (gs := [.host]) rfl).free hg

theorem doneAck_within {mask : Nat} {gs : List Grp} (hgs : within [.mbx] gs = true) : Within gs (doneAck mask) := by
  refine Within.lift hgs ?_
  clear hgs
  unfold doneAck
  repeat' first
    | with_reducible exact within_skip _
    | with_reducible exact within_nil _
    | with_reducible refine within_cons ?_ ?_
    | with_reducible refine within_seq ?_ ?_
    | with_reducible refine within_ask fun _ => ?_
    | with_reducible refine within_each fun _ => ?_
    | with_reducible refine within_whenP ?_
    | with_reducible refine within_upd ?_
    | with_reducible refine within_ite ?_ ?_
    | with_reducible refine within_replicate ?_
    | with_reducible refine modMbx_within ?_
    | split
    | dsimp only
  all_goals rfl
@[simp] theorem doneAck_avoids {mask : Nat} {g : Grp} (hg : g ∉ ([.mbx] : List Grp)) : Avoids g (doneAck mask) := (doneAck_within (gs := [.mbx]) rfl).free hg

theorem putArea_within {at_ : Nat} {v : Rec} {gs : List Grp} (hgs : within [.mem, .ecc] gs = true) : Within gs (putArea at_ v) := by
  refine Within.lift hgs ?_
  clear hgs
  unfold putArea
  repeat' first
    | with_reducible exact within_skip _
    | with_reducible exact within_nil _
    | with_reducible refine within_cons ?_ ?_
    | with_reducible refine within_seq ?_ ?_
    | with_reducible refine within_ask fun _ => ?_
    | with_reducible refine within_each fun _ => ?_
    | with_reducible refine within_whenP ?_
    | with_reducible refine within_upd ?_
    | with_reducible refine within_ite ?_ ?_
    | with_reducible refine within_replicate ?_
    | with_reducible refine noteWrite_within ?_
    | with_reducible refine store_within ?_
    | split
    | dsimp only
  all_goals rfl
@[simp] theorem putArea_avoids {at_ : Nat} {v : Rec} {g : Grp} (hg : g ∉ ([.mem, .ecc] : List Grp)) : Avoids g (putArea at_ v) := (putArea_within (gs := [.mem, .ecc]) rfl).free hg

theorem mgmtSend_within {type tag : Nat} {v : Rec} {gs : List Grp} (hgs : within [.mbx] gs = true) : Within gs (mgmtSend type tag v) := by
  refine Within.lift hgs ?_
  clear hgs
  unfold mgmtSend
  repeat' first
    | with_reducible exact within_skip _
    | with_reducible exact within_nil _
    | with_reducible refine within_cons ?_ ?_
    | with_reducible refine within_seq ?_ ?_
    | with_reducible refine within_ask fun _ => ?_
    | with_reducible refine within_each fun _ => ?_
    | with_reducible refine within_whenP ?_
    | with_reducible refine within_upd ?_
    | with_reducible refine within_ite ?_ ?_
    | with_reducible refine within_replicate ?_
    | with_reducible refine modMbx_within ?_
    | split
    | dsimp only
  all_goals rfl
@[simp] theorem mgmtSend_avoids {type tag : Nat} {v : Rec} {g : Grp} (hg : g ∉ ([.mbx] : List Grp)) : Avoids g (mgmtSend type tag v) := (mgmtSend_within (gs := [.mbx]) rfl).free hg

theorem ringDone_within {ch : Nat} {gs : List Grp} (hgs : within [.mbx] gs = true) : Within gs (ringDone ch) := by
  refine Within.lift hgs ?_
  clear hgs
  unfold ringDone
  repeat' first
    | with_reducible exact within_skip _
    | with_reducible exact within_nil _
    | with_reducible refine within_cons ?_ ?_
    | with_reducible refine within_seq ?_ ?_
    | with_reducible refine within_ask fun _ => ?_
    | with_reducible refine within_each fun _ => ?_
    | with_reducible refine within_whenP ?_
    | with_reducible refine within_upd ?_
    | with_reducible refine within_ite ?_ ?_
    | with_reducible refine within_replicate ?_
    | with_reducible refine modMbx_within ?_
    | split
    | dsimp only
  all_goals rfl
@[simp] theorem ringDone_avoids {ch : Nat} {g : Grp} (hg : g ∉ ([.mbx] : List Grp)) : Avoids g (ringDone ch) := (ringDone_within (gs := [.mbx]) rfl).free hg

theorem deliver_within {src : Requester} {st : Nat} {v : Rec} {gs : List Grp} (hgs : within [.mem, .ecc, .mbx, .boot] gs = true) : Within gs (deliver src st v) := by
  refine Within.lift hgs ?_
  clear hgs
  unfold deliver
  repeat' first
    | with_reducible exact within_skip _
    | with_reducible exact within_nil _
    | with_reducible refine within_cons ?_ ?_
    | with_reducible refine within_seq ?_ ?_
    | with_reducible refine within_ask fun _ => ?_
    | with_reducible refine within_each fun _ => ?_
    | with_reducible refine within_whenP ?_
    | with_reducible refine within_upd ?_
    | with_reducible refine within_ite ?_ ?_
    | with_reducible refine within_replicate ?_
    | with_reducible refine modBoot_within ?_
    | with_reducible refine mgmtSend_within ?_
    | with_reducible refine putArea_within ?_
    | with_reducible refine ringDone_within ?_
    | split
    | dsimp only
  all_goals rfl
@[simp] theorem deliver_avoids {src : Requester} {st : Nat} {v : Rec} {g : Grp} (hg : g ∉ ([.mem, .ecc, .mbx, .boot] : List Grp)) : Avoids g (deliver src st v) := (deliver_within (gs := [.mem, .ecc, .mbx, .boot]) rfl).free hg

theorem noteLast_within {c : Cmd} {gs : List Grp} (hgs : within [.mbx] gs = true) : Within gs (noteLast c) := by
  refine Within.lift hgs ?_
  clear hgs
  unfold noteLast
  repeat' first
    | with_reducible exact within_skip _
    | with_reducible exact within_nil _
    | with_reducible refine within_cons ?_ ?_
    | with_reducible refine within_seq ?_ ?_
    | with_reducible refine within_ask fun _ => ?_
    | with_reducible refine within_each fun _ => ?_
    | with_reducible refine within_whenP ?_
    | with_reducible refine within_upd ?_
    | with_reducible refine within_ite ?_ ?_
    | with_reducible refine within_replicate ?_
    | with_reducible refine modMbx_within ?_
    | split
    | dsimp only
  all_goals rfl
@[simp] theorem noteLast_avoids {c : Cmd} {g : Grp} (hg : g ∉ ([.mbx] : List Grp)) : Avoids g (noteLast c) := (noteLast_within (gs := [.mbx]) rfl).free hg

theorem respond_within {c : Cmd} {st det : Nat} {r : Rec} {gs : List Grp} (hgs : within [.mem, .ecc, .mbx, .boot] gs = true) : Within gs (respond c st det r) := by
  refine Within.lift hgs ?_
  clear hgs
  unfold respond
  repeat' first
    | with_reducible exact within_skip _
    | with_reducible exact within_nil _
    | with_reducible refine within_cons ?_ ?_
    | with_reducible refine within_seq ?_ ?_
    | with_reducible refine within_ask fun _ => ?_
    | with_reducible refine within_each fun _ => ?_
    | with_reducible refine within_whenP ?_
    | with_reducible refine within_upd ?_
    | with_reducible refine within_ite ?_ ?_
    | with_reducible refine within_replicate ?_
    | with_reducible refine deliver_within ?_
    | with_reducible refine noteLast_within ?_
    | split
    | dsimp only
  all_goals rfl
@[simp] theorem respond_avoids {c : Cmd} {st det : Nat} {r : Rec} {g : Grp} (hg : g ∉ ([.mem, .ecc, .mbx, .boot] : List Grp)) : Avoids g (respond c st det r) := (respond_within (gs := [.mem, .ecc, .mbx, .boot]) rfl).free hg

theorem answer_within {c : Cmd} {st : Nat} {r : Rec} {gs : List Grp} (hgs : within [.mem, .ecc, .mbx, .boot] gs = true) : Within gs (answer c st r) := by
  refine Within.lift hgs ?_
  clear hgs
  unfold answer
  repeat' first
    | with_reducible exact within_skip _
    | with_reducible exact within_nil _
    | with_reducible refine within_cons ?_ ?_
    | with_reducible refine within_seq ?_ ?_
    | with_reducible refine within_ask fun _ => ?_
    | with_reducible refine within_each fun _ => ?_
    | with_reducible refine within_whenP ?_
    | with_reducible refine within_upd ?_
    | with_reducible refine within_ite ?_ ?_
    | with_reducible refine within_replicate ?_
    | with_reducible refine respond_within ?_
    | split
    | dsimp only
  all_goals rfl
@[simp] theorem answer_avoids {c : Cmd} {st : Nat} {r : Rec} {g : Grp} (hg : g ∉ ([.mem, .ecc, .mbx, .boot] : List Grp)) : Avoids g (answer c st r) := (answer_within (gs := [.mem, .ecc, .mbx, .boot]) rfl).free hg

theorem replay_within {src : Requester} {gs : List Grp} (hgs : within [.cnts, .mem, .ecc, .mbx] gs = true) : Within gs (replay src) := by
  refine Within.lift hgs ?_
  clear hgs
  unfold replay
  repeat' first
    | with_reducible exact within_skip _
    | with_reducible exact within_nil _
    | with_reducible refine within_cons ?_ ?_
    | with_reducible refine within_seq ?_ ?_
    | with_reducible refine within_ask fun _ => ?_
    | with_reducible refine within_each fun _ => ?_
    | with_reducible refine within_whenP ?_
    | with_reducible refine within_upd ?_
    | with_reducible refine within_ite ?_ ?_
    | with_reducible refine within_replicate ?_
    | with_reducible refine count_within ?_
    | with_reducible refine mgmtSend_within ?_
    | with_reducible refine ringDone_within ?_
    | with_reducible refine store_within ?_
    | split
    | dsimp only
  all_goals rfl
@[simp] theorem replay_avoids {src : Requester} {g : Grp} (hg : g ∉ ([.cnts, .mem, .ecc, .mbx] : List Grp)) : Avoids g (replay src) := (replay_within (gs := [.cnts, .mem, .ecc, .mbx]) rfl).free hg

theorem regAct_within {a v : Nat} {gs : List Grp} (hgs : within [.cnts, .tots, .ecc, .host, .mbx, .log, .evt, .txn, .clk, .datum, .pwr, .kiln, .boot, .cap, .fh, .mash, .tx, .dpd, .rx, .conv, .radio, .survey, .bias, .rffe] gs = true) : Within gs (regAct a v) := by
  refine Within.lift hgs ?_
  clear hgs
  unfold regAct
  repeat' first
    | with_reducible exact within_skip _
    | with_reducible exact within_nil _
    | with_reducible refine within_cons ?_ ?_
    | with_reducible refine within_seq ?_ ?_
    | with_reducible refine within_ask fun _ => ?_
    | with_reducible refine within_each fun _ => ?_
    | with_reducible refine within_whenP ?_
    | with_reducible refine within_upd ?_
    | with_reducible refine within_ite ?_ ?_
    | with_reducible refine within_replicate ?_
    | with_reducible refine modHost_within ?_
    | with_reducible refine modDatum_within ?_
    | with_reducible refine modPwr_within ?_
    | with_reducible refine modTx_within ?_
    | with_reducible refine modBias_within ?_
    | with_reducible refine faultClear_within ?_
    | with_reducible refine pwrRestart_within ?_
    | with_reducible refine pwrWake_within ?_
    | split
    | dsimp only
  all_goals rfl
@[simp] theorem regAct_avoids {a v : Nat} {g : Grp} (hg : g ∉ ([.cnts, .tots, .ecc, .host, .mbx, .log, .evt, .txn, .clk, .datum, .pwr, .kiln, .boot, .cap, .fh, .mash, .tx, .dpd, .rx, .conv, .radio, .survey, .bias, .rffe] : List Grp)) : Avoids g (regAct a v) := (regAct_within (gs := [.cnts, .tots, .ecc, .host, .mbx, .log, .evt, .txn, .clk, .datum, .pwr, .kiln, .boot, .cap, .fh, .mash, .tx, .dpd, .rx, .conv, .radio, .survey, .bias, .rffe]) rfl).free hg

theorem regStore_within {a v mask : Nat} {gs : List Grp} (hgs : within [.cfg, .regs, .cnts, .tots, .ecc, .host, .mbx, .log, .evt, .txn, .clk, .datum, .pwr, .kiln, .boot, .cap, .fh, .mash, .tx, .dpd, .rx, .conv, .radio, .survey, .bias, .rffe] gs = true) : Within gs (regStore a v mask) := by
  refine Within.lift hgs ?_
  clear hgs
  unfold regStore
  repeat' first
    | with_reducible exact within_skip _
    | with_reducible exact within_nil _
    | with_reducible refine within_cons ?_ ?_
    | with_reducible refine within_seq ?_ ?_
    | with_reducible refine within_ask fun _ => ?_
    | with_reducible refine within_each fun _ => ?_
    | with_reducible refine within_whenP ?_
    | with_reducible refine within_upd ?_
    | with_reducible refine within_ite ?_ ?_
    | with_reducible refine within_replicate ?_
    | with_reducible refine regAct_within ?_
    | with_reducible refine regPoke_within ?_
    | split
    | dsimp only
  all_goals rfl
@[simp] theorem regStore_avoids {a v mask : Nat} {g : Grp} (hg : g ∉ ([.cfg, .regs, .cnts, .tots, .ecc, .host, .mbx, .log, .evt, .txn, .clk, .datum, .pwr, .kiln, .boot, .cap, .fh, .mash, .tx, .dpd, .rx, .conv, .radio, .survey, .bias, .rffe] : List Grp)) : Avoids g (regStore a v mask) := (regStore_within (gs := [.cfg, .regs, .cnts, .tots, .ecc, .host, .mbx, .log, .evt, .txn, .clk, .datum, .pwr, .kiln, .boot, .cap, .fh, .mash, .tx, .dpd, .rx, .conv, .radio, .survey, .bias, .rffe]) rfl).free hg

theorem modLive_within {id : Nat} {f : Txn → Txn} {gs : List Grp} (hgs : within [.txn] gs = true) : Within gs (modLive id f) := by
  refine Within.lift hgs ?_
  clear hgs
  unfold modLive
  repeat' first
    | with_reducible exact within_skip _
    | with_reducible exact within_nil _
    | with_reducible refine within_cons ?_ ?_
    | with_reducible refine within_seq ?_ ?_
    | with_reducible refine within_ask fun _ => ?_
    | with_reducible refine within_each fun _ => ?_
    | with_reducible refine within_whenP ?_
    | with_reducible refine within_upd ?_
    | with_reducible refine within_ite ?_ ?_
    | with_reducible refine within_replicate ?_
    | with_reducible refine modTxn_within ?_
    | split
    | dsimp only
  all_goals rfl
@[simp] theorem modLive_avoids {id : Nat} {f : Txn → Txn} {g : Grp} (hg : g ∉ ([.txn] : List Grp)) : Avoids g (modLive id f) := (modLive_within (gs := [.txn]) rfl).free hg

theorem closeTxn_within {id : Nat} {f : Txn → Txn} {gs : List Grp} (hgs : within [.txn] gs = true) : Within gs (closeTxn id f) := by
  refine Within.lift hgs ?_
  clear hgs
  unfold closeTxn
  repeat' first
    | with_reducible exact within_skip _
    | with_reducible exact within_nil _
    | with_reducible refine within_cons ?_ ?_
    | with_reducible refine within_seq ?_ ?_
    | with_reducible refine within_ask fun _ => ?_
    | with_reducible refine within_each fun _ => ?_
    | with_reducible refine within_whenP ?_
    | with_reducible refine within_upd ?_
    | with_reducible refine within_ite ?_ ?_
    | with_reducible refine within_replicate ?_
    | with_reducible refine modTxn_within ?_
    | split
    | dsimp only
  all_goals rfl
@[simp] theorem closeTxn_avoids {id : Nat} {f : Txn → Txn} {g : Grp} (hg : g ∉ ([.txn] : List Grp)) : Avoids g (closeTxn id f) := (closeTxn_within (gs := [.txn]) rfl).free hg

theorem openTxn_within {origin label : Nat} {items : List Item} {gs : List Grp} (hgs : within [.txn] gs = true) : Within gs (openTxn origin label items) := by
  refine Within.lift hgs ?_
  clear hgs
  unfold openTxn
  repeat' first
    | with_reducible exact within_skip _
    | with_reducible exact within_nil _
    | with_reducible refine within_cons ?_ ?_
    | with_reducible refine within_seq ?_ ?_
    | with_reducible refine within_ask fun _ => ?_
    | with_reducible refine within_each fun _ => ?_
    | with_reducible refine within_whenP ?_
    | with_reducible refine within_upd ?_
    | with_reducible refine within_ite ?_ ?_
    | with_reducible refine within_replicate ?_
    | with_reducible refine modTxn_within ?_
    | split
    | dsimp only
  all_goals rfl
@[simp] theorem openTxn_avoids {origin label : Nat} {items : List Item} {g : Grp} (hg : g ∉ ([.txn] : List Grp)) : Avoids g (openTxn origin label items) := (openTxn_within (gs := [.txn]) rfl).free hg

theorem storeItem_within {i : Item} {gs : List Grp} (hgs : within [.cfg, .regs, .host, .mbx, .clk, .datum, .survey] gs = true) : Within gs (storeItem i) := by
  refine Within.lift hgs ?_
  clear hgs
  unfold storeItem
  repeat' first
    | with_reducible exact within_skip _
    | with_reducible exact within_nil _
    | with_reducible refine within_cons ?_ ?_
    | with_reducible refine within_seq ?_ ?_
    | with_reducible refine within_ask fun _ => ?_
    | with_reducible refine within_each fun _ => ?_
    | with_reducible refine within_whenP ?_
    | with_reducible refine within_upd ?_
    | with_reducible refine within_ite ?_ ?_
    | with_reducible refine within_replicate ?_
    | with_reducible refine regPoke_within ?_
    | with_reducible refine setSetting_within ?_
    | split
    | dsimp only
  all_goals rfl
@[simp] theorem storeItem_avoids {i : Item} {g : Grp} (hg : g ∉ ([.cfg, .regs, .host, .mbx, .clk, .datum, .survey] : List Grp)) : Avoids g (storeItem i) := (storeItem_within (gs := [.cfg, .regs, .host, .mbx, .clk, .datum, .survey]) rfl).free hg

theorem acceptCommit_within {t : Txn} {kind ref b : Nat} {gs : List Grp} (hgs : within [.txn] gs = true) : Within gs (acceptCommit t kind ref b) := by
  refine Within.lift hgs ?_
  clear hgs
  unfold acceptCommit
  repeat' first
    | with_reducible exact within_skip _
    | with_reducible exact within_nil _
    | with_reducible refine within_cons ?_ ?_
    | with_reducible refine within_seq ?_ ?_
    | with_reducible refine within_ask fun _ => ?_
    | with_reducible refine within_each fun _ => ?_
    | with_reducible refine within_whenP ?_
    | with_reducible refine within_upd ?_
    | with_reducible refine within_ite ?_ ?_
    | with_reducible refine within_replicate ?_
    | with_reducible refine modTxn_within ?_
    | split
    | dsimp only
  all_goals rfl
@[simp] theorem acceptCommit_avoids {t : Txn} {kind ref b : Nat} {g : Grp} (hg : g ∉ ([.txn] : List Grp)) : Avoids g (acceptCommit t kind ref b) := (acceptCommit_within (gs := [.txn]) rfl).free hg

theorem undoLoad_within {t : Txn} {gs : List Grp} (hgs : within [.radio, .rffe] gs = true) : Within gs (undoLoad t) := by
  refine Within.lift hgs ?_
  clear hgs
  unfold undoLoad
  repeat' first
    | with_reducible exact within_skip _
    | with_reducible exact within_nil _
    | with_reducible refine within_cons ?_ ?_
    | with_reducible refine within_seq ?_ ?_
    | with_reducible refine within_ask fun _ => ?_
    | with_reducible refine within_each fun _ => ?_
    | with_reducible refine within_whenP ?_
    | with_reducible refine within_upd ?_
    | with_reducible refine within_ite ?_ ?_
    | with_reducible refine within_replicate ?_
    | with_reducible refine disarmTimer_within ?_
    | with_reducible refine modMaster_within ?_
    | split
    | dsimp only
  all_goals rfl
@[simp] theorem undoLoad_avoids {t : Txn} {g : Grp} (hg : g ∉ ([.radio, .rffe] : List Grp)) : Avoids g (undoLoad t) := (undoLoad_within (gs := [.radio, .rffe]) rfl).free hg

theorem clearChanged_within {s0 s1 : State} {b : Nat} {gs : List Grp} (hgs : within [.cnts, .sect] gs = true) : Within gs (clearChanged s0 s1 b) := by
  refine Within.lift hgs ?_
  clear hgs
  unfold clearChanged
  repeat' first
    | with_reducible exact within_skip _
    | with_reducible exact within_nil _
    | with_reducible refine within_cons ?_ ?_
    | with_reducible refine within_seq ?_ ?_
    | with_reducible refine within_ask fun _ => ?_
    | with_reducible refine within_each fun _ => ?_
    | with_reducible refine within_whenP ?_
    | with_reducible refine within_upd ?_
    | with_reducible refine within_ite ?_ ?_
    | with_reducible refine within_replicate ?_
    | with_reducible refine clearFrom_within ?_
    | split
    | dsimp only
  all_goals rfl
@[simp] theorem clearChanged_avoids {s0 s1 : State} {b : Nat} {g : Grp} (hg : g ∉ ([.cnts, .sect] : List Grp)) : Avoids g (clearChanged s0 s1 b) := (clearChanged_within (gs := [.cnts, .sect]) rfl).free hg

theorem regroup_within {s0 s1 : State} {dir : Nat} {gs : List Grp} (hgs : within [.mem, .ecc, .grat, .mash] gs = true) : Within gs (regroup s0 s1 dir) := by
  refine Within.lift hgs ?_
  clear hgs
  unfold regroup
  repeat' first
    | with_reducible exact within_skip _
    | with_reducible exact within_nil _
    | with_reducible refine within_cons ?_ ?_
    | with_reducible refine within_seq ?_ ?_
    | with_reducible refine within_ask fun _ => ?_
    | with_reducible refine within_each fun _ => ?_
    | with_reducible refine within_whenP ?_
    | with_reducible refine within_upd ?_
    | with_reducible refine within_ite ?_ ?_
    | with_reducible refine within_replicate ?_
    | with_reducible refine modMash_within ?_
    | with_reducible refine clearPending_within ?_
    | with_reducible refine discardEst_within ?_
    | with_reducible refine regeometry_within ?_
    | with_reducible refine retouchCtxs_within ?_
    | split
    | dsimp only
  all_goals rfl
@[simp] theorem regroup_avoids {s0 s1 : State} {dir : Nat} {g : Grp} (hg : g ∉ ([.mem, .ecc, .grat, .mash] : List Grp)) : Avoids g (regroup s0 s1 dir) := (regroup_within (gs := [.mem, .ecc, .grat, .mash]) rfl).free hg

theorem retimeDl_within {s0 s1 : State} {b : Nat} {gs : List Grp} (hgs : within [.cnts, .datum, .fh, .tx] gs = true) : Within gs (retimeDl s0 s1 b) := by
  refine Within.lift hgs ?_
  clear hgs
  unfold retimeDl
  repeat' first
    | with_reducible exact within_skip _
    | with_reducible exact within_nil _
    | with_reducible refine within_cons ?_ ?_
    | with_reducible refine within_seq ?_ ?_
    | with_reducible refine within_ask fun _ => ?_
    | with_reducible refine within_each fun _ => ?_
    | with_reducible refine within_whenP ?_
    | with_reducible refine within_upd ?_
    | with_reducible refine within_ite ?_ ?_
    | with_reducible refine within_replicate ?_
    | with_reducible refine modDatum_within ?_
    | with_reducible refine modTx_within ?_
    | with_reducible refine armFrom_within ?_
    | with_reducible refine muteSymbol_within ?_
    | split
    | dsimp only
  all_goals rfl
@[simp] theorem retimeDl_avoids {s0 s1 : State} {b : Nat} {g : Grp} (hg : g ∉ ([.cnts, .datum, .fh, .tx] : List Grp)) : Avoids g (retimeDl s0 s1 b) := (retimeDl_within (gs := [.cnts, .datum, .fh, .tx]) rfl).free hg

theorem retimeUl_within {s0 s1 : State} {b : Nat} {gs : List Grp} (hgs : within [.datum, .rx] gs = true) : Within gs (retimeUl s0 s1 b) := by
  refine Within.lift hgs ?_
  clear hgs
  unfold retimeUl
  repeat' first
    | with_reducible exact within_skip _
    | with_reducible exact within_nil _
    | with_reducible refine within_cons ?_ ?_
    | with_reducible refine within_seq ?_ ?_
    | with_reducible refine within_ask fun _ => ?_
    | with_reducible refine within_each fun _ => ?_
    | with_reducible refine within_whenP ?_
    | with_reducible refine within_upd ?_
    | with_reducible refine within_ite ?_ ?_
    | with_reducible refine within_replicate ?_
    | with_reducible refine modDatum_within ?_
    | with_reducible refine modRx_within ?_
    | split
    | dsimp only
  all_goals rfl
@[simp] theorem retimeUl_avoids {s0 s1 : State} {b : Nat} {g : Grp} (hg : g ∉ ([.datum, .rx] : List Grp)) : Avoids g (retimeUl s0 s1 b) := (retimeUl_within (gs := [.datum, .rx]) rfl).free hg

theorem writeSkew_within {s0 s1 : State} {gs : List Grp} (hgs : within [.regs, .mash] gs = true) : Within gs (writeSkew s0 s1) := by
  refine Within.lift hgs ?_
  clear hgs
  unfold writeSkew
  repeat' first
    | with_reducible exact within_skip _
    | with_reducible exact within_nil _
    | with_reducible refine within_cons ?_ ?_
    | with_reducible refine within_seq ?_ ?_
    | with_reducible refine within_ask fun _ => ?_
    | with_reducible refine within_each fun _ => ?_
    | with_reducible refine within_whenP ?_
    | with_reducible refine within_upd ?_
    | with_reducible refine within_ite ?_ ?_
    | with_reducible refine within_replicate ?_
    | with_reducible refine modMash_within ?_
    | split
    | dsimp only
  all_goals rfl
@[simp] theorem writeSkew_avoids {s0 s1 : State} {g : Grp} (hg : g ∉ ([.regs, .mash] : List Grp)) : Avoids g (writeSkew s0 s1) := (writeSkew_within (gs := [.regs, .mash]) rfl).free hg

theorem relatch_within {b id : Nat} {gs : List Grp} (hgs : within [.cnts, .mbx, .log, .evt, .survey, .bias] gs = true) : Within gs (relatch b id) := by
  refine Within.lift hgs ?_
  clear hgs
  unfold relatch
  repeat' first
    | with_reducible exact within_skip _
    | with_reducible exact within_nil _
    | with_reducible refine within_cons ?_ ?_
    | with_reducible refine within_seq ?_ ?_
    | with_reducible refine within_ask fun _ => ?_
    | with_reducible refine within_each fun _ => ?_
    | with_reducible refine within_whenP ?_
    | with_reducible refine within_upd ?_
    | with_reducible refine within_ite ?_ ?_
    | with_reducible refine within_replicate ?_
    | with_reducible refine latchTerms_within ?_
    | split
    | dsimp only
  all_goals rfl
@[simp] theorem relatch_avoids {b id : Nat} {g : Grp} (hg : g ∉ ([.cnts, .mbx, .log, .evt, .survey, .bias] : List Grp)) : Avoids g (relatch b id) := (relatch_within (gs := [.cnts, .mbx, .log, .evt, .survey, .bias]) rfl).free hg

theorem commitDiff_within {s0 : State} {b : Nat} {gs : List Grp} (hgs : within [.regs, .cnts, .mem, .ecc, .datum, .sect, .fh, .grat, .mash, .tx, .rx, .bias] gs = true) : Within gs (commitDiff s0 b) := by
  refine Within.lift hgs ?_
  clear hgs
  unfold commitDiff
  repeat' first
    | with_reducible exact within_skip _
    | with_reducible exact within_nil _
    | with_reducible refine within_cons ?_ ?_
    | with_reducible refine within_seq ?_ ?_
    | with_reducible refine within_ask fun _ => ?_
    | with_reducible refine within_each fun _ => ?_
    | with_reducible refine within_whenP ?_
    | with_reducible refine within_upd ?_
    | with_reducible refine within_ite ?_ ?_
    | with_reducible refine within_replicate ?_
    | with_reducible refine modFh_within ?_
    | with_reducible refine biasFollow_within ?_
    | with_reducible refine clearChanged_within ?_
    | with_reducible refine regroup_within ?_
    | with_reducible refine retimeDl_within ?_
    | with_reducible refine retimeUl_within ?_
    | with_reducible refine writeF0_within ?_
    | with_reducible refine writeSkew_within ?_
    | split
    | dsimp only
  all_goals rfl
@[simp] theorem commitDiff_avoids {s0 : State} {b : Nat} {g : Grp} (hg : g ∉ ([.regs, .cnts, .mem, .ecc, .datum, .sect, .fh, .grat, .mash, .tx, .rx, .bias] : List Grp)) : Avoids g (commitDiff s0 b) := (commitDiff_within (gs := [.regs, .cnts, .mem, .ecc, .datum, .sect, .fh, .grat, .mash, .tx, .rx, .bias]) rfl).free hg

theorem answerWaiting_within {id st : Nat} {gs : List Grp} (hgs : within [.mem, .ecc, .mbx, .boot] gs = true) : Within gs (answerWaiting id st) := by
  refine Within.lift hgs ?_
  clear hgs
  unfold answerWaiting
  repeat' first
    | with_reducible exact within_skip _
    | with_reducible exact within_nil _
    | with_reducible refine within_cons ?_ ?_
    | with_reducible refine within_seq ?_ ?_
    | with_reducible refine within_ask fun _ => ?_
    | with_reducible refine within_each fun _ => ?_
    | with_reducible refine within_whenP ?_
    | with_reducible refine within_upd ?_
    | with_reducible refine within_ite ?_ ?_
    | with_reducible refine within_replicate ?_
    | with_reducible refine modMbx_within ?_
    | with_reducible refine answer_within ?_
    | split
    | dsimp only
  all_goals rfl
@[simp] theorem answerWaiting_avoids {id st : Nat} {g : Grp} (hg : g ∉ ([.mem, .ecc, .mbx, .boot] : List Grp)) : Avoids g (answerWaiting id st) := (answerWaiting_within (gs := [.mem, .ecc, .mbx, .boot]) rfl).free hg

theorem stageItems_within {id : Nat} {l : List Item} {gs : List Grp} (hgs : within [.txn] gs = true) : Within gs (stageItems id l) := by
  refine Within.lift hgs ?_
  clear hgs
  unfold stageItems
  repeat' first
    | with_reducible exact within_skip _
    | with_reducible exact within_nil _
    | with_reducible refine within_cons ?_ ?_
    | with_reducible refine within_seq ?_ ?_
    | with_reducible refine within_ask fun _ => ?_
    | with_reducible refine within_each fun _ => ?_
    | with_reducible refine within_whenP ?_
    | with_reducible refine within_upd ?_
    | with_reducible refine within_ite ?_ ?_
    | with_reducible refine within_replicate ?_
    | with_reducible refine modLive_within ?_
    | split
    | dsimp only
  all_goals rfl
@[simp] theorem stageItems_avoids {id : Nat} {l : List Item} {g : Grp} (hg : g ∉ ([.txn] : List Grp)) : Avoids g (stageItems id l) := (stageItems_within (gs := [.txn]) rfl).free hg

theorem runBegin_within {c : Cmd} {gs : List Grp} (hgs : within [.mem, .ecc, .mbx, .txn, .boot] gs = true) : Within gs (runBegin c) := by
  refine Within.lift hgs ?_
  clear hgs
  unfold runBegin
  repeat' first
    | with_reducible exact within_skip _
    | with_reducible exact within_nil _
    | with_reducible refine within_cons ?_ ?_
    | with_reducible refine within_seq ?_ ?_
    | with_reducible refine within_ask fun _ => ?_
    | with_reducible refine within_each fun _ => ?_
    | with_reducible refine within_whenP ?_
    | with_reducible refine within_upd ?_
    | with_reducible refine within_ite ?_ ?_
    | with_reducible refine within_replicate ?_
    | with_reducible refine answer_within ?_
    | with_reducible refine openTxn_within ?_
    | split
    | dsimp only
  all_goals rfl
@[simp] theorem runBegin_avoids {c : Cmd} {g : Grp} (hg : g ∉ ([.mem, .ecc, .mbx, .txn, .boot] : List Grp)) : Avoids g (runBegin c) := (runBegin_within (gs := [.mem, .ecc, .mbx, .txn, .boot]) rfl).free hg

theorem runStageReg_within {c : Cmd} {gs : List Grp} (hgs : within [.mem, .ecc, .mbx, .txn, .boot] gs = true) : Within gs (runStageReg c) := by
  refine Within.lift hgs ?_
  clear hgs
  unfold runStageReg
  repeat' first
    | with_reducible exact within_skip _
    | with_reducible exact within_nil _
    | with_reducible refine within_cons ?_ ?_
    | with_reducible refine within_seq ?_ ?_
    | with_reducible refine within_ask fun _ => ?_
    | with_reducible refine within_each fun _ => ?_
    | with_reducible refine within_whenP ?_
    | with_reducible refine within_upd ?_
    | with_reducible refine within_ite ?_ ?_
    | with_reducible refine within_replicate ?_
    | with_reducible refine answer_within ?_
    | with_reducible refine stageItems_within ?_
    | split
    | dsimp only
  all_goals rfl
@[simp] theorem runStageReg_avoids {c : Cmd} {g : Grp} (hg : g ∉ ([.mem, .ecc, .mbx, .txn, .boot] : List Grp)) : Avoids g (runStageReg c) := (runStageReg_within (gs := [.mem, .ecc, .mbx, .txn, .boot]) rfl).free hg

theorem runAbort_within {c : Cmd} {gs : List Grp} (hgs : within [.mem, .ecc, .mbx, .txn, .boot, .radio, .rffe] gs = true) : Within gs (runAbort c) := by
  refine Within.lift hgs ?_
  clear hgs
  unfold runAbort
  repeat' first
    | with_reducible exact within_skip _
    | with_reducible exact within_nil _
    | with_reducible refine within_cons ?_ ?_
    | with_reducible refine within_seq ?_ ?_
    | with_reducible refine within_ask fun _ => ?_
    | with_reducible refine within_each fun _ => ?_
    | with_reducible refine within_whenP ?_
    | with_reducible refine within_upd ?_
    | with_reducible refine within_ite ?_ ?_
    | with_reducible refine within_replicate ?_
    | with_reducible refine answer_within ?_
    | with_reducible refine answerWaiting_within ?_
    | with_reducible refine closeTxn_within ?_
    | with_reducible refine undoLoad_within ?_
    | split
    | dsimp only
  all_goals rfl
@[simp] theorem runAbort_avoids {c : Cmd} {g : Grp} (hg : g ∉ ([.mem, .ecc, .mbx, .txn, .boot, .radio, .rffe] : List Grp)) : Avoids g (runAbort c) := (runAbort_within (gs := [.mem, .ecc, .mbx, .txn, .boot, .radio, .rffe]) rfl).free hg

theorem runTxnStatus_within {c : Cmd} {gs : List Grp} (hgs : within [.mem, .ecc, .mbx, .boot] gs = true) : Within gs (runTxnStatus c) := by
  refine Within.lift hgs ?_
  clear hgs
  unfold runTxnStatus
  repeat' first
    | with_reducible exact within_skip _
    | with_reducible exact within_nil _
    | with_reducible refine within_cons ?_ ?_
    | with_reducible refine within_seq ?_ ?_
    | with_reducible refine within_ask fun _ => ?_
    | with_reducible refine within_each fun _ => ?_
    | with_reducible refine within_whenP ?_
    | with_reducible refine within_upd ?_
    | with_reducible refine within_ite ?_ ?_
    | with_reducible refine within_replicate ?_
    | with_reducible refine answer_within ?_
    | split
    | dsimp only
  all_goals rfl
@[simp] theorem runTxnStatus_avoids {c : Cmd} {g : Grp} (hg : g ∉ ([.mem, .ecc, .mbx, .boot] : List Grp)) : Avoids g (runTxnStatus c) := (runTxnStatus_within (gs := [.mem, .ecc, .mbx, .boot]) rfl).free hg

theorem runOwnerSet_within {c : Cmd} {gs : List Grp} (hgs : within [.mem, .ecc, .mbx, .txn, .boot] gs = true) : Within gs (runOwnerSet c) := by
  refine Within.lift hgs ?_
  clear hgs
  unfold runOwnerSet
  repeat' first
    | with_reducible exact within_skip _
    | with_reducible exact within_nil _
    | with_reducible refine within_cons ?_ ?_
    | with_reducible refine within_seq ?_ ?_
    | with_reducible refine within_ask fun _ => ?_
    | with_reducible refine within_each fun _ => ?_
    | with_reducible refine within_whenP ?_
    | with_reducible refine within_upd ?_
    | with_reducible refine within_ite ?_ ?_
    | with_reducible refine within_replicate ?_
    | with_reducible refine modTxn_within ?_
    | with_reducible refine answer_within ?_
    | split
    | dsimp only
  all_goals rfl
@[simp] theorem runOwnerSet_avoids {c : Cmd} {g : Grp} (hg : g ∉ ([.mem, .ecc, .mbx, .txn, .boot] : List Grp)) : Avoids g (runOwnerSet c) := (runOwnerSet_within (gs := [.mem, .ecc, .mbx, .txn, .boot]) rfl).free hg

theorem isoCommit_within {b : Nat} {q : Nat × Nat × Nat} {gs : List Grp} (hgs : within [.cfg, .cnts, .mem, .ecc, .mbx, .log, .evt, .clk, .fh, .mash, .dpd, .rx, .conv, .radio, .survey, .bias, .rffe, .coex] gs = true) : Within gs (isoCommit b q) := by
  refine Within.lift hgs ?_
  clear hgs
  unfold isoCommit
  repeat' first
    | with_reducible exact within_skip _
    | with_reducible exact within_nil _
    | with_reducible refine within_cons ?_ ?_
    | with_reducible refine within_seq ?_ ?_
    | with_reducible refine within_ask fun _ => ?_
    | with_reducible refine within_each fun _ => ?_
    | with_reducible refine within_whenP ?_
    | with_reducible refine within_upd ?_
    | with_reducible refine within_ite ?_ ?_
    | with_reducible refine within_replicate ?_
    | with_reducible refine applyIso_within ?_
    | with_reducible refine forceSleep_within ?_
    | split
    | dsimp only
  all_goals rfl
@[simp] theorem isoCommit_avoids {b : Nat} {q : Nat × Nat × Nat} {g : Grp} (hg : g ∉ ([.cfg, .cnts, .mem, .ecc, .mbx, .log, .evt, .clk, .fh, .mash, .dpd, .rx, .conv, .radio, .survey, .bias, .rffe, .coex] : List Grp)) : Avoids g (isoCommit b q) := (isoCommit_within (gs := [.cfg, .cnts, .mem, .ecc, .mbx, .log, .evt, .clk, .fh, .mash, .dpd, .rx, .conv, .radio, .survey, .bias, .rffe, .coex]) rfl).free hg

theorem txRunWith_within {vs : List (Int × State)} {gs : List Grp} (hgs : within [.cnts, .tx] gs = true) : Within gs (txRunWith vs) := by
  refine Within.lift hgs ?_
  clear hgs
  unfold txRunWith
  repeat' first
    | with_reducible exact within_skip _
    | with_reducible exact within_nil _
    | with_reducible refine within_cons ?_ ?_
    | with_reducible refine within_seq ?_ ?_
    | with_reducible refine within_ask fun _ => ?_
    | with_reducible refine within_each fun _ => ?_
    | with_reducible refine within_whenP ?_
    | with_reducible refine within_upd ?_
    | with_reducible refine within_ite ?_ ?_
    | with_reducible refine within_replicate ?_
    | with_reducible refine modTx_within ?_
    | with_reducible refine countN_within ?_
    | split
    | dsimp only
  all_goals rfl
@[simp] theorem txRunWith_avoids {vs : List (Int × State)} {g : Grp} (hg : g ∉ ([.cnts, .tx] : List Grp)) : Avoids g (txRunWith vs) := (txRunWith_within (gs := [.cnts, .tx]) rfl).free hg

theorem txRun_within {due : Option Nat} {gs : List Grp} (hgs : within [.cnts, .tx] gs = true) : Within gs (txRun due) := by
  refine Within.lift hgs ?_
  clear hgs
  unfold txRun
  repeat' first
    | with_reducible exact within_skip _
    | with_reducible exact within_nil _
    | with_reducible refine within_cons ?_ ?_
    | with_reducible refine within_seq ?_ ?_
    | with_reducible refine within_ask fun _ => ?_
    | with_reducible refine within_each fun _ => ?_
    | with_reducible refine within_whenP ?_
    | with_reducible refine within_upd ?_
    | with_reducible refine within_ite ?_ ?_
    | with_reducible refine within_replicate ?_
    | with_reducible refine txRunWith_within ?_
    | split
    | dsimp only
  all_goals rfl
@[simp] theorem txRun_avoids {due : Option Nat} {g : Grp} (hg : g ∉ ([.cnts, .tx] : List Grp)) : Avoids g (txRun due) := (txRun_within (gs := [.cnts, .tx]) rfl).free hg

theorem touchLeases_within {gs : List Grp} (hgs : within [.dpd] gs = true) : Within gs touchLeases := by
  refine Within.lift hgs ?_
  clear hgs
  unfold touchLeases
  repeat' first
    | with_reducible exact within_skip _
    | with_reducible exact within_nil _
    | with_reducible refine within_cons ?_ ?_
    | with_reducible refine within_seq ?_ ?_
    | with_reducible refine within_ask fun _ => ?_
    | with_reducible refine within_each fun _ => ?_
    | with_reducible refine within_whenP ?_
    | with_reducible refine within_upd ?_
    | with_reducible refine within_ite ?_ ?_
    | with_reducible refine within_replicate ?_
    | with_reducible refine modDpd_within ?_
    | split
    | dsimp only
  all_goals rfl
@[simp] theorem touchLeases_avoids {g : Grp} (hg : g ∉ ([.dpd] : List Grp)) : Avoids g touchLeases := (touchLeases_within (gs := [.dpd]) rfl).free hg

theorem inbandSettle_within {gs : List Grp} (hgs : within [.mbx] gs = true) : Within gs inbandSettle := by
  refine Within.lift hgs ?_
  clear hgs
  unfold inbandSettle
  repeat' first
    | with_reducible exact within_skip _
    | with_reducible exact within_nil _
    | with_reducible refine within_cons ?_ ?_
    | with_reducible refine within_seq ?_ ?_
    | with_reducible refine within_ask fun _ => ?_
    | with_reducible refine within_each fun _ => ?_
    | with_reducible refine within_whenP ?_
    | with_reducible refine within_upd ?_
    | with_reducible refine within_ite ?_ ?_
    | with_reducible refine within_replicate ?_
    | with_reducible refine modMbx_within ?_
    | split
    | dsimp only
  all_goals rfl
@[simp] theorem inbandSettle_avoids {g : Grp} (hg : g ∉ ([.mbx] : List Grp)) : Avoids g inbandSettle := (inbandSettle_within (gs := [.mbx]) rfl).free hg

theorem nameTxn_within {c : Cmd} {gs : List Grp} (hgs : within [.txn] gs = true) : Within gs (nameTxn c) := by
  refine Within.lift hgs ?_
  clear hgs
  unfold nameTxn
  repeat' first
    | with_reducible exact within_skip _
    | with_reducible exact within_nil _
    | with_reducible refine within_cons ?_ ?_
    | with_reducible refine within_seq ?_ ?_
    | with_reducible refine within_ask fun _ => ?_
    | with_reducible refine within_each fun _ => ?_
    | with_reducible refine within_whenP ?_
    | with_reducible refine within_upd ?_
    | with_reducible refine within_ite ?_ ?_
    | with_reducible refine within_replicate ?_
    | with_reducible refine modLive_within ?_
    | split
    | dsimp only
  all_goals rfl
@[simp] theorem nameTxn_avoids {c : Cmd} {g : Grp} (hg : g ∉ ([.txn] : List Grp)) : Avoids g (nameTxn c) := (nameTxn_within (gs := [.txn]) rfl).free hg

theorem areaWrite_within {ch : Nat} {v : Rec} {gs : List Grp} (hgs : within [.mem, .ecc, .mbx] gs = true) : Within gs (areaWrite ch v) := by
  refine Within.lift hgs ?_
  clear hgs
  unfold areaWrite
  repeat' first
    | with_reducible exact within_skip _
    | with_reducible exact within_nil _
    | with_reducible refine within_cons ?_ ?_
    | with_reducible refine within_seq ?_ ?_
    | with_reducible refine within_ask fun _ => ?_
    | with_reducible refine within_each fun _ => ?_
    | with_reducible refine within_whenP ?_
    | with_reducible refine within_upd ?_
    | with_reducible refine within_ite ?_ ?_
    | with_reducible refine within_replicate ?_
    | with_reducible refine modMbx_within ?_
    | with_reducible refine store_within ?_
    | split
    | dsimp only
  all_goals rfl
@[simp] theorem areaWrite_avoids {ch : Nat} {v : Rec} {g : Grp} (hg : g ∉ ([.mem, .ecc, .mbx] : List Grp)) : Avoids g (areaWrite ch v) := (areaWrite_within (gs := [.mem, .ecc, .mbx]) rfl).free hg

theorem mailboxWrite_within {cpu : Bool} {off v : Nat} {gs : List Grp} (hgs : within [.mem, .ecc, .mbx] gs = true) : Within gs (mailboxWrite cpu off v) := by
  refine Within.lift hgs ?_
  clear hgs
  unfold mailboxWrite
  repeat' first
    | with_reducible exact within_skip _
    | with_reducible exact within_nil _
    | with_reducible refine within_cons ?_ ?_
    | with_reducible refine within_seq ?_ ?_
    | with_reducible refine within_ask fun _ => ?_
    | with_reducible refine within_each fun _ => ?_
    | with_reducible refine within_whenP ?_
    | with_reducible refine within_upd ?_
    | with_reducible refine within_ite ?_ ?_
    | with_reducible refine within_replicate ?_
    | with_reducible refine modMbx_within ?_
    | with_reducible refine store_within ?_
    | split
    | dsimp only
  all_goals rfl
@[simp] theorem mailboxWrite_avoids {cpu : Bool} {off v : Nat} {g : Grp} (hg : g ∉ ([.mem, .ecc, .mbx] : List Grp)) : Avoids g (mailboxWrite cpu off v) := (mailboxWrite_within (gs := [.mem, .ecc, .mbx]) rfl).free hg

theorem datumWrite_within {a v : Nat} {gs : List Grp} (hgs : within [.cnts, .free, .mbx, .evt, .clk, .datum, .sect, .fh, .tx, .radio, .rffe] gs = true) : Within gs (datumWrite a v) := by
  refine Within.lift hgs ?_
  clear hgs
  unfold datumWrite
  repeat' first
    | with_reducible exact within_skip _
    | with_reducible exact within_nil _
    | with_reducible refine within_cons ?_ ?_
    | with_reducible refine within_seq ?_ ?_
    | with_reducible refine within_ask fun _ => ?_
    | with_reducible refine within_each fun _ => ?_
    | with_reducible refine within_whenP ?_
    | with_reducible refine within_upd ?_
    | with_reducible refine within_ite ?_ ?_
    | with_reducible refine within_replicate ?_
    | with_reducible refine modDatum_within ?_
    | with_reducible refine ctrlStep_within ?_
    | with_reducible refine incrWrite_within ?_
    | with_reducible refine todWrite_within ?_
    | split
    | dsimp only
  all_goals rfl
@[simp] theorem datumWrite_avoids {a v : Nat} {g : Grp} (hg : g ∉ ([.cnts, .free, .mbx, .evt, .clk, .datum, .sect, .fh, .tx, .radio, .rffe] : List Grp)) : Avoids g (datumWrite a v) := (datumWrite_within (gs := [.cnts, .free, .mbx, .evt, .clk, .datum, .sect, .fh, .tx, .radio, .rffe]) rfl).free hg

theorem captureWrite_within {a v : Nat} {gs : List Grp} (hgs : within [.cnts, .log] gs = true) : Within gs (captureWrite a v) := by
  refine Within.lift hgs ?_
  clear hgs
  unfold captureWrite
  repeat' first
    | with_reducible exact within_skip _
    | with_reducible exact within_nil _
    | with_reducible refine within_cons ?_ ?_
    | with_reducible refine within_seq ?_ ?_
    | with_reducible refine within_ask fun _ => ?_
    | with_reducible refine within_each fun _ => ?_
    | with_reducible refine within_whenP ?_
    | with_reducible refine within_upd ?_
    | with_reducible refine within_ite ?_ ?_
    | with_reducible refine within_replicate ?_
    | with_reducible refine count_within ?_
    | split
    | dsimp only
  all_goals rfl
@[simp] theorem captureWrite_avoids {a v : Nat} {g : Grp} (hg : g ∉ ([.cnts, .log] : List Grp)) : Avoids g (captureWrite a v) := (captureWrite_within (gs := [.cnts, .log]) rfl).free hg

theorem profFail_within {index st : Nat} {gs : List Grp} (hgs : within [.cfg, .cnts, .mbx, .evt, .txn, .clk, .pwr, .boot, .fh, .conv, .radio, .survey, .rffe, .coex] gs = true) : Within gs (profFail index st) := by
  refine Within.lift hgs ?_
  clear hgs
  unfold profFail
  repeat' first
    | with_reducible exact within_skip _
    | with_reducible exact within_nil _
    | with_reducible refine within_cons ?_ ?_
    | with_reducible refine within_seq ?_ ?_
    | with_reducible refine within_ask fun _ => ?_
    | with_reducible refine within_each fun _ => ?_
    | with_reducible refine within_whenP ?_
    | with_reducible refine within_upd ?_
    | with_reducible refine within_ite ?_ ?_
    | with_reducible refine within_replicate ?_
    | with_reducible refine modBoot_within ?_
    | with_reducible refine modFh_within ?_
    | with_reducible refine beginWake_within ?_
    | with_reducible refine closeTxn_within ?_
    | with_reducible refine dropTimers_within ?_
    | with_reducible refine forceState_within ?_
    | with_reducible refine linkSettle_within ?_
    | with_reducible refine linkTo_within ?_
    | with_reducible refine patternOff_within ?_
    | with_reducible refine raise_within ?_
    | with_reducible refine setSetting_within ?_
    | split
    | dsimp only
  all_goals rfl
@[simp] theorem profFail_avoids {index st : Nat} {g : Grp} (hg : g ∉ ([.cfg, .cnts, .mbx, .evt, .txn, .clk, .pwr, .boot, .fh, .conv, .radio, .survey, .rffe, .coex] : List Grp)) : Avoids g (profFail index st) := (profFail_within (gs := [.cfg, .cnts, .mbx, .evt, .txn, .clk, .pwr, .boot, .fh, .conv, .radio, .survey, .rffe, .coex]) rfl).free hg

theorem profNext_within {n : Nat} {gs : List Grp} (hgs : within [.boot] gs = true) : Within gs (profNext n) := by
  refine Within.lift hgs ?_
  clear hgs
  unfold profNext
  repeat' first
    | with_reducible exact within_skip _
    | with_reducible exact within_nil _
    | with_reducible refine within_cons ?_ ?_
    | with_reducible refine within_seq ?_ ?_
    | with_reducible refine within_ask fun _ => ?_
    | with_reducible refine within_each fun _ => ?_
    | with_reducible refine within_whenP ?_
    | with_reducible refine within_upd ?_
    | with_reducible refine within_ite ?_ ?_
    | with_reducible refine within_replicate ?_
    | with_reducible refine modBoot_within ?_
    | split
    | dsimp only
  all_goals rfl
@[simp] theorem profNext_avoids {n : Nat} {g : Grp} (hg : g ∉ ([.boot] : List Grp)) : Avoids g (profNext n) := (profNext_within (gs := [.boot]) rfl).free hg

theorem profStatus_within {st n : Nat} {gs : List Grp} (hgs : within [.cfg, .cnts, .mbx, .evt, .txn, .clk, .pwr, .boot, .fh, .conv, .radio, .survey, .rffe, .coex] gs = true) : Within gs (profStatus st n) := by
  refine Within.lift hgs ?_
  clear hgs
  unfold profStatus
  repeat' first
    | with_reducible exact within_skip _
    | with_reducible exact within_nil _
    | with_reducible refine within_cons ?_ ?_
    | with_reducible refine within_seq ?_ ?_
    | with_reducible refine within_ask fun _ => ?_
    | with_reducible refine within_each fun _ => ?_
    | with_reducible refine within_whenP ?_
    | with_reducible refine within_upd ?_
    | with_reducible refine within_ite ?_ ?_
    | with_reducible refine within_replicate ?_
    | with_reducible refine modBoot_within ?_
    | with_reducible refine profFail_within ?_
    | with_reducible refine profNext_within ?_
    | split
    | dsimp only
  all_goals rfl
@[simp] theorem profStatus_avoids {st n : Nat} {g : Grp} (hg : g ∉ ([.cfg, .cnts, .mbx, .evt, .txn, .clk, .pwr, .boot, .fh, .conv, .radio, .survey, .rffe, .coex] : List Grp)) : Avoids g (profStatus st n) := (profStatus_within (gs := [.cfg, .cnts, .mbx, .evt, .txn, .clk, .pwr, .boot, .fh, .conv, .radio, .survey, .rffe, .coex]) rfl).free hg

theorem profSettled_within {gs : List Grp} (hgs : within [.cfg, .cnts, .mbx, .evt, .txn, .clk, .pwr, .boot, .fh, .conv, .radio, .survey, .rffe, .coex] gs = true) : Within gs profSettled := by
  refine Within.lift hgs ?_
  clear hgs
  unfold profSettled
  repeat' first
    | with_reducible exact within_skip _
    | with_reducible exact within_nil _
    | with_reducible refine within_cons ?_ ?_
    | with_reducible refine within_seq ?_ ?_
    | with_reducible refine within_ask fun _ => ?_
    | with_reducible refine within_each fun _ => ?_
    | with_reducible refine within_whenP ?_
    | with_reducible refine within_upd ?_
    | with_reducible refine within_ite ?_ ?_
    | with_reducible refine within_replicate ?_
    | with_reducible refine modBoot_within ?_
    | with_reducible refine profFail_within ?_
    | split
    | dsimp only
  all_goals rfl
@[simp] theorem profSettled_avoids {g : Grp} (hg : g ∉ ([.cfg, .cnts, .mbx, .evt, .txn, .clk, .pwr, .boot, .fh, .conv, .radio, .survey, .rffe, .coex] : List Grp)) : Avoids g profSettled := (profSettled_within (gs := [.cfg, .cnts, .mbx, .evt, .txn, .clk, .pwr, .boot, .fh, .conv, .radio, .survey, .rffe, .coex]) rfl).free hg

theorem idleCycle_within {gs : List Grp} (hgs : within [.cnts, .tick, .mbx, .evt, .clk, .datum, .cap, .fh, .tx, .dpd, .rx, .conv, .coex] gs = true) : Within gs idleCycle := by
  refine Within.lift hgs ?_
  clear hgs
  unfold idleCycle
  repeat' first
    | with_reducible exact within_skip _
    | with_reducible exact within_nil _
    | with_reducible refine within_cons ?_ ?_
    | with_reducible refine within_seq ?_ ?_
    | with_reducible refine within_ask fun _ => ?_
    | with_reducible refine within_each fun _ => ?_
    | with_reducible refine within_whenP ?_
    | with_reducible refine within_upd ?_
    | with_reducible refine within_ite ?_ ?_
    | with_reducible refine within_replicate ?_
    | with_reducible refine alignCross_within ?_
    | with_reducible refine armMissing_within ?_
    | with_reducible refine coexWait_within ?_
    | with_reducible refine datumCycle_within ?_
    | with_reducible refine ditherCycle_within ?_
    | with_reducible refine dpdRefresh_within ?_
    | with_reducible refine noteStates_within ?_
    | with_reducible refine settleSymbols_within ?_
    | with_reducible refine touchLeases_within ?_
    | with_reducible refine touchSlots_within ?_
    | with_reducible refine txRun_within ?_
    | split
    | dsimp only
  all_goals rfl
@[simp] theorem idleCycle_avoids {g : Grp} (hg : g ∉ ([.cnts, .tick, .mbx, .evt, .clk, .datum, .cap, .fh, .tx, .dpd, .rx, .conv, .coex] : List Grp)) : Avoids g idleCycle := (idleCycle_within (gs := [.cnts, .tick, .mbx, .evt, .clk, .datum, .cap, .fh, .tx, .dpd, .rx, .conv, .coex]) rfl).free hg

end Sys2Proof.Laws
end

