-- ==== Sys2Proof/Laws/Reach5.lean ====
section
/-! SUPPORT. The groups of the state that each shared operation can reach: `x_within` for every list that holds them, `x_avoids` for
every other group, so that simp reads an untouched field through any program. -/

namespace Sys2Proof.Laws

open Sys2Proof Sys2Proof.Machine

theorem cmdDatumStatus_effect_within {o : Nat} {r : Rec} {gs : List Grp} (hgs : within [.cnts] gs = true) : Within gs (cmdDatumStatus.effect o r) := by
  refine Within.lift hgs ?_
  clear hgs
  unfold cmdDatumStatus
  dsimp only
  repeat' first
    | with_reducible exact within_skip _
    | with_reducible exact within_nil _
    | with_reducible refine within_cons ?_ ?_
    | with_reducible refine within_seq ?_ ?_
    | with_reducible refine within_ask fun _ => ?_
    | with_reducible refine within_each fun _ => ?_
    | with_reducible refine within_whenP ?_
    | with_reducible refine within_upd ?_
    | with_reducible refine within_ite ?_ ?_
    | with_reducible refine within_replicate ?_
    | with_reducible refine clearCnts_within ?_
    | split
    | dsimp only
  all_goals rfl
@[simp] theorem cmdDatumStatus_effect_avoids {o : Nat} {r : Rec} {g : Grp} (hg : g ∉ ([.cnts] : List Grp)) : Avoids g (cmdDatumStatus.effect o r) := (cmdDatumStatus_effect_within (gs := [.cnts]) rfl).free hg

theorem cmdDatumConfig_effect_within {o : Nat} {r : Rec} {gs : List Grp} (hgs : within [.cfg, .cnts, .mbx, .evt, .clk, .datum, .sect, .fh, .tx, .radio, .rffe] gs = true) : Within gs (cmdDatumConfig.effect o r) := by
  refine Within.lift hgs ?_
  clear hgs
  unfold cmdDatumConfig
  dsimp only
  repeat' first
    | with_reducible exact within_skip _
    | with_reducible exact within_nil _
    | with_reducible refine within_cons ?_ ?_
    | with_reducible refine within_seq ?_ ?_
    | with_reducible refine within_ask fun _ => ?_
    | with_reducible refine within_each fun _ => ?_
    | with_reducible refine within_whenP ?_
    | with_reducible refine within_upd ?_
    | with_reducible refine within_ite ?_ ?_
    | with_reducible refine within_replicate ?_
    | with_reducible refine modDatum_within ?_
    | with_reducible refine raiseStepped_within ?_
    | with_reducible refine setServo_within ?_
    | with_reducible refine setSetting_within ?_
    | with_reducible refine stepConsequences_within ?_
    | with_reducible refine writePpsNext_within ?_
    | split
    | dsimp only
  all_goals rfl
@[simp] theorem cmdDatumConfig_effect_avoids {o : Nat} {r : Rec} {g : Grp} (hg : g ∉ ([.cfg, .cnts, .mbx, .evt, .clk, .datum, .sect, .fh, .tx, .radio, .rffe] : List Grp)) : Avoids g (cmdDatumConfig.effect o r) := (cmdDatumConfig_effect_within (gs := [.cfg, .cnts, .mbx, .evt, .clk, .datum, .sect, .fh, .tx, .radio, .rffe]) rfl).free hg

theorem cmdDatumTimeSet_effect_within {o : Nat} {r : Rec} {gs : List Grp} (hgs : within [.cnts, .mbx, .evt, .clk, .datum, .sect, .fh, .tx, .radio, .rffe] gs = true) : Within gs (cmdDatumTimeSet.effect o r) := by
  refine Within.lift hgs ?_
  clear hgs
  unfold cmdDatumTimeSet
  dsimp only
  repeat' first
    | with_reducible exact within_skip _
    | with_reducible exact within_nil _
    | with_reducible refine within_cons ?_ ?_
    | with_reducible refine within_seq ?_ ?_
    | with_reducible refine within_ask fun _ => ?_
    | with_reducible refine within_each fun _ => ?_
    | with_reducible refine within_whenP ?_
    | with_reducible refine within_upd ?_
    | with_reducible refine within_ite ?_ ?_
    | with_reducible refine within_replicate ?_
    | with_reducible refine modDatum_within ?_
    | with_reducible refine applyStep_within ?_
    | split
    | dsimp only
  all_goals rfl
@[simp] theorem cmdDatumTimeSet_effect_avoids {o : Nat} {r : Rec} {g : Grp} (hg : g ∉ ([.cnts, .mbx, .evt, .clk, .datum, .sect, .fh, .tx, .radio, .rffe] : List Grp)) : Avoids g (cmdDatumTimeSet.effect o r) := (cmdDatumTimeSet_effect_within (gs := [.cnts, .mbx, .evt, .clk, .datum, .sect, .fh, .tx, .radio, .rffe]) rfl).free hg

theorem cmdDatumStep_effect_within {o : Nat} {r : Rec} {gs : List Grp} (hgs : within [.cnts, .mbx, .evt, .clk, .datum, .sect, .fh, .tx, .radio, .rffe] gs = true) : Within gs (cmdDatumStep.effect o r) := by
  refine Within.lift hgs ?_
  clear hgs
  unfold cmdDatumStep
  dsimp only
  repeat' first
    | with_reducible exact within_skip _
    | with_reducible exact within_nil _
    | with_reducible refine within_cons ?_ ?_
    | with_reducible refine within_seq ?_ ?_
    | with_reducible refine within_ask fun _ => ?_
    | with_reducible refine within_each fun _ => ?_
    | with_reducible refine within_whenP ?_
    | with_reducible refine within_upd ?_
    | with_reducible refine within_ite ?_ ?_
    | with_reducible refine within_replicate ?_
    | with_reducible refine modDatum_within ?_
    | with_reducible refine applyStep_within ?_
    | with_reducible refine setInc_within ?_
    | with_reducible refine setServo_within ?_
    | split
    | dsimp only
  all_goals rfl
@[simp] theorem cmdDatumStep_effect_avoids {o : Nat} {r : Rec} {g : Grp} (hg : g ∉ ([.cnts, .mbx, .evt, .clk, .datum, .sect, .fh, .tx, .radio, .rffe] : List Grp)) : Avoids g (cmdDatumStep.effect o r) := (cmdDatumStep_effect_within (gs := [.cnts, .mbx, .evt, .clk, .datum, .sect, .fh, .tx, .radio, .rffe]) rfl).free hg

theorem cmdDatumFreqSet_effect_within {o : Nat} {r : Rec} {gs : List Grp} (hgs : within [.datum] gs = true) : Within gs (cmdDatumFreqSet.effect o r) := by
  refine Within.lift hgs ?_
  clear hgs
  unfold cmdDatumFreqSet
  dsimp only
  repeat' first
    | with_reducible exact within_skip _
    | with_reducible exact within_nil _
    | with_reducible refine within_cons ?_ ?_
    | with_reducible refine within_seq ?_ ?_
    | with_reducible refine within_ask fun _ => ?_
    | with_reducible refine within_each fun _ => ?_
    | with_reducible refine within_whenP ?_
    | with_reducible refine within_upd ?_
    | with_reducible refine within_ite ?_ ?_
    | with_reducible refine within_replicate ?_
    | with_reducible refine modDatum_within ?_
    | with_reducible refine setInc_within ?_
    | split
    | dsimp only
  all_goals rfl
@[simp] theorem cmdDatumFreqSet_effect_avoids {o : Nat} {r : Rec} {g : Grp} (hg : g ∉ ([.datum] : List Grp)) : Avoids g (cmdDatumFreqSet.effect o r) := (cmdDatumFreqSet_effect_within (gs := [.datum]) rfl).free hg

theorem cmdEcpriOwd_effect_within {o : Nat} {r : Rec} {gs : List Grp} (hgs : within [.datum] gs = true) : Within gs (cmdEcpriOwd.effect o r) := by
  refine Within.lift hgs ?_
  clear hgs
  unfold cmdEcpriOwd
  dsimp only
  repeat' first
    | with_reducible exact within_skip _
    | with_reducible exact within_nil _
    | with_reducible refine within_cons ?_ ?_
    | with_reducible refine within_seq ?_ ?_
    | with_reducible refine within_ask fun _ => ?_
    | with_reducible refine within_each fun _ => ?_
    | with_reducible refine within_whenP ?_
    | with_reducible refine within_upd ?_
    | with_reducible refine within_ite ?_ ?_
    | with_reducible refine within_replicate ?_
    | with_reducible refine modDatum_within ?_
    | with_reducible refine ringSend_within ?_
    | split
    | dsimp only
  all_goals rfl
@[simp] theorem cmdEcpriOwd_effect_avoids {o : Nat} {r : Rec} {g : Grp} (hg : g ∉ ([.datum] : List Grp)) : Avoids g (cmdEcpriOwd.effect o r) := (cmdEcpriOwd_effect_within (gs := [.datum]) rfl).free hg

theorem cmdPwrDomainSet_effect_within {o : Nat} {r : Rec} {gs : List Grp} (hgs : within [.cnts, .mbx, .clk, .datum, .pwr, .cap, .fh, .mash, .dpd, .conv, .radio, .bias, .rffe] gs = true) : Within gs (cmdPwrDomainSet.effect o r) := by
  refine Within.lift hgs ?_
  clear hgs
  unfold cmdPwrDomainSet
  dsimp only
  repeat' first
    | with_reducible exact within_skip _
    | with_reducible exact within_nil _
    | with_reducible refine within_cons ?_ ?_
    | with_reducible refine within_seq ?_ ?_
    | with_reducible refine within_ask fun _ => ?_
    | with_reducible refine within_each fun _ => ?_
    | with_reducible refine within_whenP ?_
    | with_reducible refine within_upd ?_
    | with_reducible refine within_ite ?_ ?_
    | with_reducible refine within_replicate ?_
    | with_reducible refine modPwr_within ?_
    | with_reducible refine beginLeave_within ?_
    | with_reducible refine beginWake_within ?_
    | split
    | dsimp only
  all_goals rfl
@[simp] theorem cmdPwrDomainSet_effect_avoids {o : Nat} {r : Rec} {g : Grp} (hg : g ∉ ([.cnts, .mbx, .clk, .datum, .pwr, .cap, .fh, .mash, .dpd, .conv, .radio, .bias, .rffe] : List Grp)) : Avoids g (cmdPwrDomainSet.effect o r) := (cmdPwrDomainSet_effect_within (gs := [.cnts, .mbx, .clk, .datum, .pwr, .cap, .fh, .mash, .dpd, .conv, .radio, .bias, .rffe]) rfl).free hg

theorem cmdPwrDomainSet_finish_within {o : Nat} {r : Rec} {ok : Bool} {data : Rec} {s : State} {gs : List Grp} (hgs : within [.cnts, .mbx, .clk, .datum, .pwr, .cap, .fh, .mash, .dpd, .conv, .radio, .bias, .rffe] gs = true) : Within gs (cmdPwrDomainSet.finish o r ok data s).2.2 := by
  refine Within.lift hgs ?_
  clear hgs
  unfold cmdPwrDomainSet
  dsimp only
  repeat' first
    | with_reducible exact within_skip _
    | with_reducible exact within_nil _
    | with_reducible refine within_cons ?_ ?_
    | with_reducible refine within_seq ?_ ?_
    | with_reducible refine within_ask fun _ => ?_
    | with_reducible refine within_each fun _ => ?_
    | with_reducible refine within_whenP ?_
    | with_reducible refine within_upd ?_
    | with_reducible refine within_ite ?_ ?_
    | with_reducible refine within_replicate ?_
    | with_reducible refine modPwr_within ?_
    | with_reducible refine beginLeave_within ?_
    | split
    | dsimp only
  all_goals rfl
@[simp] theorem cmdPwrDomainSet_finish_avoids {o : Nat} {r : Rec} {ok : Bool} {data : Rec} {s : State} {g : Grp} (hg : g ∉ ([.cnts, .mbx, .clk, .datum, .pwr, .cap, .fh, .mash, .dpd, .conv, .radio, .bias, .rffe] : List Grp)) : Avoids g (cmdPwrDomainSet.finish o r ok data s).2.2 := (cmdPwrDomainSet_finish_within (gs := [.cnts, .mbx, .clk, .datum, .pwr, .cap, .fh, .mash, .dpd, .conv, .radio, .bias, .rffe]) rfl).free hg

theorem cmdPwrStatus_effect_within {o : Nat} {r : Rec} {gs : List Grp} (hgs : within [.cnts] gs = true) : Within gs (cmdPwrStatus.effect o r) := by
  refine Within.lift hgs ?_
  clear hgs
  unfold cmdPwrStatus
  dsimp only
  repeat' first
    | with_reducible exact within_skip _
    | with_reducible exact within_nil _
    | with_reducible refine within_cons ?_ ?_
    | with_reducible refine within_seq ?_ ?_
    | with_reducible refine within_ask fun _ => ?_
    | with_reducible refine within_each fun _ => ?_
    | with_reducible refine within_whenP ?_
    | with_reducible refine within_upd ?_
    | with_reducible refine within_ite ?_ ?_
    | with_reducible refine within_replicate ?_
    | with_reducible refine clearCnts_within ?_
    | split
    | dsimp only
  all_goals rfl
@[simp] theorem cmdPwrStatus_effect_avoids {o : Nat} {r : Rec} {g : Grp} (hg : g ∉ ([.cnts] : List Grp)) : Avoids g (cmdPwrStatus.effect o r) := (cmdPwrStatus_effect_within (gs := [.cnts]) rfl).free hg

theorem cmdPwrCaskClear_effect_within {o : Nat} {r : Rec} {gs : List Grp} (hgs : within [.mem, .ecc, .pwr, .sect] gs = true) : Within gs (cmdPwrCaskClear.effect o r) := by
  refine Within.lift hgs ?_
  clear hgs
  unfold cmdPwrCaskClear
  dsimp only
  repeat' first
    | with_reducible exact within_skip _
    | with_reducible exact within_nil _
    | with_reducible refine within_cons ?_ ?_
    | with_reducible refine within_seq ?_ ?_
    | with_reducible refine within_ask fun _ => ?_
    | with_reducible refine within_each fun _ => ?_
    | with_reducible refine within_whenP ?_
    | with_reducible refine within_upd ?_
    | with_reducible refine within_ite ?_ ?_
    | with_reducible refine within_replicate ?_
    | with_reducible refine clearCask_within ?_
    | split
    | dsimp only
  all_goals rfl
@[simp] theorem cmdPwrCaskClear_effect_avoids {o : Nat} {r : Rec} {g : Grp} (hg : g ∉ ([.mem, .ecc, .pwr, .sect] : List Grp)) : Avoids g (cmdPwrCaskClear.effect o r) := (cmdPwrCaskClear_effect_within (gs := [.mem, .ecc, .pwr, .sect]) rfl).free hg

theorem cmdPwrSavelistSet_effect_within {o : Nat} {r : Rec} {gs : List Grp} (hgs : within [.pwr] gs = true) : Within gs (cmdPwrSavelistSet.effect o r) := by
  refine Within.lift hgs ?_
  clear hgs
  unfold cmdPwrSavelistSet
  dsimp only
  repeat' first
    | with_reducible exact within_skip _
    | with_reducible exact within_nil _
    | with_reducible refine within_cons ?_ ?_
    | with_reducible refine within_seq ?_ ?_
    | with_reducible refine within_ask fun _ => ?_
    | with_reducible refine within_each fun _ => ?_
    | with_reducible refine within_whenP ?_
    | with_reducible refine within_upd ?_
    | with_reducible refine within_ite ?_ ?_
    | with_reducible refine within_replicate ?_
    | with_reducible refine modPwr_within ?_
    | split
    | dsimp only
  all_goals rfl
@[simp] theorem cmdPwrSavelistSet_effect_avoids {o : Nat} {r : Rec} {g : Grp} (hg : g ∉ ([.pwr] : List Grp)) : Avoids g (cmdPwrSavelistSet.effect o r) := (cmdPwrSavelistSet_effect_within (gs := [.pwr]) rfl).free hg

theorem cmdSysReset_effect_within {o : Nat} {r : Rec} {gs : List Grp} (hgs : within [.ecc, .clk, .boot] gs = true) : Within gs (cmdSysReset.effect o r) := by
  refine Within.lift hgs ?_
  clear hgs
  unfold cmdSysReset
  dsimp only
  repeat' first
    | with_reducible exact within_skip _
    | with_reducible exact within_nil _
    | with_reducible refine within_cons ?_ ?_
    | with_reducible refine within_seq ?_ ?_
    | with_reducible refine within_ask fun _ => ?_
    | with_reducible refine within_each fun _ => ?_
    | with_reducible refine within_whenP ?_
    | with_reducible refine within_upd ?_
    | with_reducible refine within_ite ?_ ?_
    | with_reducible refine within_replicate ?_
    | with_reducible refine modBoot_within ?_
    | with_reducible refine stamp_within ?_
    | with_reducible refine tmrWrite_within ?_
    | split
    | dsimp only
  all_goals rfl
@[simp] theorem cmdSysReset_effect_avoids {o : Nat} {r : Rec} {g : Grp} (hg : g ∉ ([.ecc, .clk, .boot] : List Grp)) : Avoids g (cmdSysReset.effect o r) := (cmdSysReset_effect_within (gs := [.ecc, .clk, .boot]) rfl).free hg

theorem cmdFwWrite_effect_within {o : Nat} {r : Rec} {gs : List Grp} (hgs : within [.ecc, .boot] gs = true) : Within gs (cmdFwWrite.effect o r) := by
  refine Within.lift hgs ?_
  clear hgs
  unfold cmdFwWrite
  dsimp only
  repeat' first
    | with_reducible exact within_skip _
    | with_reducible exact within_nil _
    | with_reducible refine within_cons ?_ ?_
    | with_reducible refine within_seq ?_ ?_
    | with_reducible refine within_ask fun _ => ?_
    | with_reducible refine within_each fun _ => ?_
    | with_reducible refine within_whenP ?_
    | with_reducible refine within_upd ?_
    | with_reducible refine within_ite ?_ ?_
    | with_reducible refine within_replicate ?_
    | with_reducible refine modBoot_within ?_
    | with_reducible refine tmrWrite_within ?_
    | split
    | dsimp only
  all_goals rfl
@[simp] theorem cmdFwWrite_effect_avoids {o : Nat} {r : Rec} {g : Grp} (hg : g ∉ ([.ecc, .boot] : List Grp)) : Avoids g (cmdFwWrite.effect o r) := (cmdFwWrite_effect_within (gs := [.ecc, .boot]) rfl).free hg

theorem cmdFwWrite_finish_within {o : Nat} {r : Rec} {ok : Bool} {data : Rec} {s : State} {gs : List Grp} (hgs : within [.ecc, .boot] gs = true) : Within gs (cmdFwWrite.finish o r ok data s).2.2 := by
  refine Within.lift hgs ?_
  clear hgs
  unfold cmdFwWrite
  dsimp only
  repeat' first
    | with_reducible exact within_skip _
    | with_reducible exact within_nil _
    | with_reducible refine within_cons ?_ ?_
    | with_reducible refine within_seq ?_ ?_
    | with_reducible refine within_ask fun _ => ?_
    | with_reducible refine within_each fun _ => ?_
    | with_reducible refine within_whenP ?_
    | with_reducible refine within_upd ?_
    | with_reducible refine within_ite ?_ ?_
    | with_reducible refine within_replicate ?_
    | with_reducible refine modBoot_within ?_
    | with_reducible refine tmrWrite_within ?_
    | split
    | dsimp only
  all_goals rfl
@[simp] theorem cmdFwWrite_finish_avoids {o : Nat} {r : Rec} {ok : Bool} {data : Rec} {s : State} {g : Grp} (hg : g ∉ ([.ecc, .boot] : List Grp)) : Avoids g (cmdFwWrite.finish o r ok data s).2.2 := (cmdFwWrite_finish_within (gs := [.ecc, .boot]) rfl).free hg

theorem cmdFwActivate_effect_within {o : Nat} {r : Rec} {gs : List Grp} (hgs : within [.ecc, .clk, .boot] gs = true) : Within gs (cmdFwActivate.effect o r) := by
  refine Within.lift hgs ?_
  clear hgs
  unfold cmdFwActivate
  dsimp only
  repeat' first
    | with_reducible exact within_skip _
    | with_reducible exact within_nil _
    | with_reducible refine within_cons ?_ ?_
    | with_reducible refine within_seq ?_ ?_
    | with_reducible refine within_ask fun _ => ?_
    | with_reducible refine within_each fun _ => ?_
    | with_reducible refine within_whenP ?_
    | with_reducible refine within_upd ?_
    | with_reducible refine within_ite ?_ ?_
    | with_reducible refine within_replicate ?_
    | with_reducible refine modBoot_within ?_
    | with_reducible refine stamp_within ?_
    | with_reducible refine tmrWrite_within ?_
    | split
    | dsimp only
  all_goals rfl
@[simp] theorem cmdFwActivate_effect_avoids {o : Nat} {r : Rec} {g : Grp} (hg : g ∉ ([.ecc, .clk, .boot] : List Grp)) : Avoids g (cmdFwActivate.effect o r) := (cmdFwActivate_effect_within (gs := [.ecc, .clk, .boot]) rfl).free hg

theorem cmdFwConfirm_effect_within {o : Nat} {r : Rec} {gs : List Grp} (hgs : within [.ecc, .fuse] gs = true) : Within gs (cmdFwConfirm.effect o r) := by
  refine Within.lift hgs ?_
  clear hgs
  unfold cmdFwConfirm
  dsimp only
  repeat' first
    | with_reducible exact within_skip _
    | with_reducible exact within_nil _
    | with_reducible refine within_cons ?_ ?_
    | with_reducible refine within_seq ?_ ?_
    | with_reducible refine within_ask fun _ => ?_
    | with_reducible refine within_each fun _ => ?_
    | with_reducible refine within_whenP ?_
    | with_reducible refine within_upd ?_
    | with_reducible refine within_ite ?_ ?_
    | with_reducible refine within_replicate ?_
    | with_reducible refine tmrWrite_within ?_
    | split
    | dsimp only
  all_goals rfl
@[simp] theorem cmdFwConfirm_effect_avoids {o : Nat} {r : Rec} {g : Grp} (hg : g ∉ ([.ecc, .fuse] : List Grp)) : Avoids g (cmdFwConfirm.effect o r) := (cmdFwConfirm_effect_within (gs := [.ecc, .fuse]) rfl).free hg

theorem cmdSysFuseProgram_finish_within {o : Nat} {r : Rec} {ok : Bool} {data : Rec} {s : State} {gs : List Grp} (hgs : within [.fuse] gs = true) : Within gs (cmdSysFuseProgram.finish o r ok data s).2.2 := by
  refine Within.lift hgs ?_
  clear hgs
  unfold cmdSysFuseProgram
  dsimp only
  repeat' first
    | with_reducible exact within_skip _
    | with_reducible exact within_nil _
    | with_reducible refine within_cons ?_ ?_
    | with_reducible refine within_seq ?_ ?_
    | with_reducible refine within_ask fun _ => ?_
    | with_reducible refine within_each fun _ => ?_
    | with_reducible refine within_whenP ?_
    | with_reducible refine within_upd ?_
    | with_reducible refine within_ite ?_ ?_
    | with_reducible refine within_replicate ?_
    | split
    | dsimp only
  all_goals rfl
@[simp] theorem cmdSysFuseProgram_finish_avoids {o : Nat} {r : Rec} {ok : Bool} {data : Rec} {s : State} {g : Grp} (hg : g ∉ ([.fuse] : List Grp)) : Avoids g (cmdSysFuseProgram.finish o r ok data s).2.2 := (cmdSysFuseProgram_finish_within (gs := [.fuse]) rfl).free hg

theorem cmdProfileWrite_effect_within {o : Nat} {r : Rec} {gs : List Grp} (hgs : within [.boot] gs = true) : Within gs (cmdProfileWrite.effect o r) := by
  refine Within.lift hgs ?_
  clear hgs
  unfold cmdProfileWrite
  dsimp only
  repeat' first
    | with_reducible exact within_skip _
    | with_reducible exact within_nil _
    | with_reducible refine within_cons ?_ ?_
    | with_reducible refine within_seq ?_ ?_
    | with_reducible refine within_ask fun _ => ?_
    | with_reducible refine within_each fun _ => ?_
    | with_reducible refine within_whenP ?_
    | with_reducible refine within_upd ?_
    | with_reducible refine within_ite ?_ ?_
    | with_reducible refine within_replicate ?_
    | with_reducible refine modBoot_within ?_
    | split
    | dsimp only
  all_goals rfl
@[simp] theorem cmdProfileWrite_effect_avoids {o : Nat} {r : Rec} {g : Grp} (hg : g ∉ ([.boot] : List Grp)) : Avoids g (cmdProfileWrite.effect o r) := (cmdProfileWrite_effect_within (gs := [.boot]) rfl).free hg

theorem cmdProfileWrite_finish_within {o : Nat} {r : Rec} {ok : Bool} {data : Rec} {s : State} {gs : List Grp} (hgs : within [.boot] gs = true) : Within gs (cmdProfileWrite.finish o r ok data s).2.2 := by
  refine Within.lift hgs ?_
  clear hgs
  unfold cmdProfileWrite
  dsimp only
  repeat' first
    | with_reducible exact within_skip _
    | with_reducible exact within_nil _
    | with_reducible refine within_cons ?_ ?_
    | with_reducible refine within_seq ?_ ?_
    | with_reducible refine within_ask fun _ => ?_
    | with_reducible refine within_each fun _ => ?_
    | with_reducible refine within_whenP ?_
    | with_reducible refine within_upd ?_
    | with_reducible refine within_ite ?_ ?_
    | with_reducible refine within_replicate ?_
    | with_reducible refine modBoot_within ?_
    | split
    | dsimp only
  all_goals rfl
@[simp] theorem cmdProfileWrite_finish_avoids {o : Nat} {r : Rec} {ok : Bool} {data : Rec} {s : State} {g : Grp} (hg : g ∉ ([.boot] : List Grp)) : Avoids g (cmdProfileWrite.finish o r ok data s).2.2 := (cmdProfileWrite_finish_within (gs := [.boot]) rfl).free hg

theorem cmdProfileSelect_effect_within {o : Nat} {r : Rec} {gs : List Grp} (hgs : within [.ecc, .clk, .boot] gs = true) : Within gs (cmdProfileSelect.effect o r) := by
  refine Within.lift hgs ?_
  clear hgs
  unfold cmdProfileSelect
  dsimp only
  repeat' first
    | with_reducible exact within_skip _
    | with_reducible exact within_nil _
    | with_reducible refine within_cons ?_ ?_
    | with_reducible refine within_seq ?_ ?_
    | with_reducible refine within_ask fun _ => ?_
    | with_reducible refine within_each fun _ => ?_
    | with_reducible refine within_whenP ?_
    | with_reducible refine within_upd ?_
    | with_reducible refine within_ite ?_ ?_
    | with_reducible refine within_replicate ?_
    | with_reducible refine modBoot_within ?_
    | with_reducible refine stamp_within ?_
    | with_reducible refine tmrWrite_within ?_
    | split
    | dsimp only
  all_goals rfl
@[simp] theorem cmdProfileSelect_effect_avoids {o : Nat} {r : Rec} {g : Grp} (hg : g ∉ ([.ecc, .clk, .boot] : List Grp)) : Avoids g (cmdProfileSelect.effect o r) := (cmdProfileSelect_effect_within (gs := [.ecc, .clk, .boot]) rfl).free hg

theorem cmdMemConfig_effect_within {o : Nat} {r : Rec} {gs : List Grp} (hgs : within [.ecc] gs = true) : Within gs (cmdMemConfig.effect o r) := by
  refine Within.lift hgs ?_
  clear hgs
  unfold cmdMemConfig
  dsimp only
  repeat' first
    | with_reducible exact within_skip _
    | with_reducible exact within_nil _
    | with_reducible refine within_cons ?_ ?_
    | with_reducible refine within_seq ?_ ?_
    | with_reducible refine within_ask fun _ => ?_
    | with_reducible refine within_each fun _ => ?_
    | with_reducible refine within_whenP ?_
    | with_reducible refine within_upd ?_
    | with_reducible refine within_ite ?_ ?_
    | with_reducible refine within_replicate ?_
    | with_reducible refine modEcc_within ?_
    | split
    | dsimp only
  all_goals rfl
@[simp] theorem cmdMemConfig_effect_avoids {o : Nat} {r : Rec} {g : Grp} (hg : g ∉ ([.ecc] : List Grp)) : Avoids g (cmdMemConfig.effect o r) := (cmdMemConfig_effect_within (gs := [.ecc]) rfl).free hg

theorem cmdMemStatus_effect_within {o : Nat} {r : Rec} {gs : List Grp} (hgs : within [.cnts] gs = true) : Within gs (cmdMemStatus.effect o r) := by
  refine Within.lift hgs ?_
  clear hgs
  unfold cmdMemStatus
  dsimp only
  repeat' first
    | with_reducible exact within_skip _
    | with_reducible exact within_nil _
    | with_reducible refine within_cons ?_ ?_
    | with_reducible refine within_seq ?_ ?_
    | with_reducible refine within_ask fun _ => ?_
    | with_reducible refine within_each fun _ => ?_
    | with_reducible refine within_whenP ?_
    | with_reducible refine within_upd ?_
    | with_reducible refine within_ite ?_ ?_
    | with_reducible refine within_replicate ?_
    | with_reducible refine clearCnts_within ?_
    | split
    | dsimp only
  all_goals rfl
@[simp] theorem cmdMemStatus_effect_avoids {o : Nat} {r : Rec} {g : Grp} (hg : g ∉ ([.cnts] : List Grp)) : Avoids g (cmdMemStatus.effect o r) := (cmdMemStatus_effect_within (gs := [.cnts]) rfl).free hg

theorem cmdMemInject_effect_within {o : Nat} {r : Rec} {gs : List Grp} (hgs : within [.ecc] gs = true) : Within gs (cmdMemInject.effect o r) := by
  refine Within.lift hgs ?_
  clear hgs
  unfold cmdMemInject
  dsimp only
  repeat' first
    | with_reducible exact within_skip _
    | with_reducible exact within_nil _
    | with_reducible refine within_cons ?_ ?_
    | with_reducible refine within_seq ?_ ?_
    | with_reducible refine within_ask fun _ => ?_
    | with_reducible refine within_each fun _ => ?_
    | with_reducible refine within_whenP ?_
    | with_reducible refine within_upd ?_
    | with_reducible refine within_ite ?_ ?_
    | with_reducible refine within_replicate ?_
    | with_reducible refine modEcc_within ?_
    | split
    | dsimp only
  all_goals rfl
@[simp] theorem cmdMemInject_effect_avoids {o : Nat} {r : Rec} {g : Grp} (hg : g ∉ ([.ecc] : List Grp)) : Avoids g (cmdMemInject.effect o r) := (cmdMemInject_effect_within (gs := [.ecc]) rfl).free hg

theorem cmdMemTmrRead_effect_within {o : Nat} {r : Rec} {gs : List Grp} (hgs : within [.cnts, .ecc] gs = true) : Within gs (cmdMemTmrRead.effect o r) := by
  refine Within.lift hgs ?_
  clear hgs
  unfold cmdMemTmrRead
  dsimp only
  repeat' first
    | with_reducible exact within_skip _
    | with_reducible exact within_nil _
    | with_reducible refine within_cons ?_ ?_
    | with_reducible refine within_seq ?_ ?_
    | with_reducible refine within_ask fun _ => ?_
    | with_reducible refine within_each fun _ => ?_
    | with_reducible refine within_whenP ?_
    | with_reducible refine within_upd ?_
    | with_reducible refine within_ite ?_ ?_
    | with_reducible refine within_replicate ?_
    | with_reducible refine tmrScan_within ?_
    | split
    | dsimp only
  all_goals rfl
@[simp] theorem cmdMemTmrRead_effect_avoids {o : Nat} {r : Rec} {g : Grp} (hg : g ∉ ([.cnts, .ecc] : List Grp)) : Avoids g (cmdMemTmrRead.effect o r) := (cmdMemTmrRead_effect_within (gs := [.cnts, .ecc]) rfl).free hg

theorem cmdMemTmrWrite_effect_within {o : Nat} {r : Rec} {gs : List Grp} (hgs : within [.ecc] gs = true) : Within gs (cmdMemTmrWrite.effect o r) := by
  refine Within.lift hgs ?_
  clear hgs
  unfold cmdMemTmrWrite
  dsimp only
  repeat' first
    | with_reducible exact within_skip _
    | with_reducible exact within_nil _
    | with_reducible refine within_cons ?_ ?_
    | with_reducible refine within_seq ?_ ?_
    | with_reducible refine within_ask fun _ => ?_
    | with_reducible refine within_each fun _ => ?_
    | with_reducible refine within_whenP ?_
    | with_reducible refine within_upd ?_
    | with_reducible refine within_ite ?_ ?_
    | with_reducible refine within_replicate ?_
    | with_reducible refine tmrWrite_within ?_
    | split
    | dsimp only
  all_goals rfl
@[simp] theorem cmdMemTmrWrite_effect_avoids {o : Nat} {r : Rec} {g : Grp} (hg : g ∉ ([.ecc] : List Grp)) : Avoids g (cmdMemTmrWrite.effect o r) := (cmdMemTmrWrite_effect_within (gs := [.ecc]) rfl).free hg

theorem cmdSectionRead_effect_within {o : Nat} {r : Rec} {gs : List Grp} (hgs : within [.cnts, .ecc, .mbx, .evt] gs = true) : Within gs (cmdSectionRead.effect o r) := by
  refine Within.lift hgs ?_
  clear hgs
  unfold cmdSectionRead
  dsimp only
  repeat' first
    | with_reducible exact within_skip _
    | with_reducible exact within_nil _
    | with_reducible refine within_cons ?_ ?_
    | with_reducible refine within_seq ?_ ?_
    | with_reducible refine within_ask fun _ => ?_
    | with_reducible refine within_each fun _ => ?_
    | with_reducible refine within_whenP ?_
    | with_reducible refine within_upd ?_
    | with_reducible refine within_ite ?_ ?_
    | with_reducible refine within_replicate ?_
    | with_reducible refine noteRead_within ?_
    | split
    | dsimp only
  all_goals rfl
@[simp] theorem cmdSectionRead_effect_avoids {o : Nat} {r : Rec} {g : Grp} (hg : g ∉ ([.cnts, .ecc, .mbx, .evt] : List Grp)) : Avoids g (cmdSectionRead.effect o r) := (cmdSectionRead_effect_within (gs := [.cnts, .ecc, .mbx, .evt]) rfl).free hg

theorem cmdSectionStats_effect_within {o : Nat} {r : Rec} {gs : List Grp} (hgs : within [.cnts] gs = true) : Within gs (cmdSectionStats.effect o r) := by
  refine Within.lift hgs ?_
  clear hgs
  unfold cmdSectionStats
  dsimp only
  repeat' first
    | with_reducible exact within_skip _
    | with_reducible exact within_nil _
    | with_reducible refine within_cons ?_ ?_
    | with_reducible refine within_seq ?_ ?_
    | with_reducible refine within_ask fun _ => ?_
    | with_reducible refine within_each fun _ => ?_
    | with_reducible refine within_whenP ?_
    | with_reducible refine within_upd ?_
    | with_reducible refine within_ite ?_ ?_
    | with_reducible refine within_replicate ?_
    | with_reducible refine clearCnts_within ?_
    | split
    | dsimp only
  all_goals rfl
@[simp] theorem cmdSectionStats_effect_avoids {o : Nat} {r : Rec} {g : Grp} (hg : g ∉ ([.cnts] : List Grp)) : Avoids g (cmdSectionStats.effect o r) := (cmdSectionStats_effect_within (gs := [.cnts]) rfl).free hg

theorem cmdFhLinkSet_effect_within {o : Nat} {r : Rec} {gs : List Grp} (hgs : within [.cfg, .cnts, .mem, .ecc, .mbx, .log, .evt, .clk, .fh, .mash, .dpd, .rx, .conv, .radio, .survey, .bias] gs = true) : Within gs (cmdFhLinkSet.effect o r) := by
  refine Within.lift hgs ?_
  clear hgs
  unfold cmdFhLinkSet
  dsimp only
  repeat' first
    | with_reducible exact within_skip _
    | with_reducible exact within_nil _
    | with_reducible refine within_cons ?_ ?_
    | with_reducible refine within_seq ?_ ?_
    | with_reducible refine within_ask fun _ => ?_
    | with_reducible refine within_each fun _ => ?_
    | with_reducible refine within_whenP ?_
    | with_reducible refine within_upd ?_
    | with_reducible refine within_ite ?_ ?_
    | with_reducible refine within_replicate ?_
    | with_reducible refine modFh_within ?_
    | with_reducible refine linkSettle_within ?_
    | with_reducible refine linkTo_within ?_
    | with_reducible refine setSetting_within ?_
    | with_reducible refine shedLater_within ?_
    | split
    | dsimp only
  all_goals rfl
@[simp] theorem cmdFhLinkSet_effect_avoids {o : Nat} {r : Rec} {g : Grp} (hg : g ∉ ([.cfg, .cnts, .mem, .ecc, .mbx, .log, .evt, .clk, .fh, .mash, .dpd, .rx, .conv, .radio, .survey, .bias] : List Grp)) : Avoids g (cmdFhLinkSet.effect o r) := (cmdFhLinkSet_effect_within (gs := [.cfg, .cnts, .mem, .ecc, .mbx, .log, .evt, .clk, .fh, .mash, .dpd, .rx, .conv, .radio, .survey, .bias]) rfl).free hg

theorem cmdFhQueueSet_effect_within {o : Nat} {r : Rec} {gs : List Grp} (hgs : within [.cfg] gs = true) : Within gs (cmdFhQueueSet.effect o r) := by
  refine Within.lift hgs ?_
  clear hgs
  unfold cmdFhQueueSet
  dsimp only
  repeat' first
    | with_reducible exact within_skip _
    | with_reducible exact within_nil _
    | with_reducible refine within_cons ?_ ?_
    | with_reducible refine within_seq ?_ ?_
    | with_reducible refine within_ask fun _ => ?_
    | with_reducible refine within_each fun _ => ?_
    | with_reducible refine within_whenP ?_
    | with_reducible refine within_upd ?_
    | with_reducible refine within_ite ?_ ?_
    | with_reducible refine within_replicate ?_
    | with_reducible refine setSetting_within ?_
    | split
    | dsimp only
  all_goals rfl
@[simp] theorem cmdFhQueueSet_effect_avoids {o : Nat} {r : Rec} {g : Grp} (hg : g ∉ ([.cfg] : List Grp)) : Avoids g (cmdFhQueueSet.effect o r) := (cmdFhQueueSet_effect_within (gs := [.cfg]) rfl).free hg

theorem cmdFhStats_effect_within {o : Nat} {r : Rec} {gs : List Grp} (hgs : within [.cnts, .tots] gs = true) : Within gs (cmdFhStats.effect o r) := by
  refine Within.lift hgs ?_
  clear hgs
  unfold cmdFhStats
  dsimp only
  repeat' first
    | with_reducible exact within_skip _
    | with_reducible exact within_nil _
    | with_reducible refine within_cons ?_ ?_
    | with_reducible refine within_seq ?_ ?_
    | with_reducible refine within_ask fun _ => ?_
    | with_reducible refine within_each fun _ => ?_
    | with_reducible refine within_whenP ?_
    | with_reducible refine within_upd ?_
    | with_reducible refine within_ite ?_ ?_
    | with_reducible refine within_replicate ?_
    | with_reducible refine clearCnts_within ?_
    | split
    | dsimp only
  all_goals rfl
@[simp] theorem cmdFhStats_effect_avoids {o : Nat} {r : Rec} {g : Grp} (hg : g ∉ ([.cnts, .tots] : List Grp)) : Avoids g (cmdFhStats.effect o r) := (cmdFhStats_effect_within (gs := [.cnts, .tots]) rfl).free hg

theorem cmdFhFlowStats_effect_within {o : Nat} {r : Rec} {gs : List Grp} (hgs : within [.cnts, .tots] gs = true) : Within gs (cmdFhFlowStats.effect o r) := by
  refine Within.lift hgs ?_
  clear hgs
  unfold cmdFhFlowStats
  dsimp only
  repeat' first
    | with_reducible exact within_skip _
    | with_reducible exact within_nil _
    | with_reducible refine within_cons ?_ ?_
    | with_reducible refine within_seq ?_ ?_
    | with_reducible refine within_ask fun _ => ?_
    | with_reducible refine within_each fun _ => ?_
    | with_reducible refine within_whenP ?_
    | with_reducible refine within_upd ?_
    | with_reducible refine within_ite ?_ ?_
    | with_reducible refine within_replicate ?_
    | with_reducible refine clearCnts_within ?_
    | split
    | dsimp only
  all_goals rfl
@[simp] theorem cmdFhFlowStats_effect_avoids {o : Nat} {r : Rec} {g : Grp} (hg : g ∉ ([.cnts, .tots] : List Grp)) : Avoids g (cmdFhFlowStats.effect o r) := (cmdFhFlowStats_effect_within (gs := [.cnts, .tots]) rfl).free hg

theorem cmdGratConfig_apply_within {b : Nat} {r : Rec} {gs : List Grp} (hgs : within [.grat] gs = true) : Within gs (cmdGratConfig.apply b r) := by
  refine Within.lift hgs ?_
  clear hgs
  unfold cmdGratConfig
  dsimp only
  repeat' first
    | with_reducible exact within_skip _
    | with_reducible exact within_nil _
    | with_reducible refine within_cons ?_ ?_
    | with_reducible refine within_seq ?_ ?_
    | with_reducible refine within_ask fun _ => ?_
    | with_reducible refine within_each fun _ => ?_
    | with_reducible refine within_whenP ?_
    | with_reducible refine within_upd ?_
    | with_reducible refine within_ite ?_ ?_
    | with_reducible refine within_replicate ?_
    | with_reducible refine clearPending_within ?_
    | split
    | dsimp only
  all_goals rfl
@[simp] theorem cmdGratConfig_apply_avoids {b : Nat} {r : Rec} {g : Grp} (hg : g ∉ ([.grat] : List Grp)) : Avoids g (cmdGratConfig.apply b r) := (cmdGratConfig_apply_within (gs := [.grat]) rfl).free hg

theorem cmdGratBeamWrite_apply_within {b : Nat} {r : Rec} {gs : List Grp} (hgs : within [.mem, .ecc, .grat] gs = true) : Within gs (cmdGratBeamWrite.apply b r) := by
  refine Within.lift hgs ?_
  clear hgs
  unfold cmdGratBeamWrite
  dsimp only
  repeat' first
    | with_reducible exact within_skip _
    | with_reducible exact within_nil _
    | with_reducible refine within_cons ?_ ?_
    | with_reducible refine within_seq ?_ ?_
    | with_reducible refine within_ask fun _ => ?_
    | with_reducible refine within_each fun _ => ?_
    | with_reducible refine within_whenP ?_
    | with_reducible refine within_upd ?_
    | with_reducible refine within_ite ?_ ?_
    | with_reducible refine within_replicate ?_
    | with_reducible refine modGrat_within ?_
    | with_reducible refine noteWrite_within ?_
    | with_reducible refine storeWeights_within ?_
    | split
    | dsimp only
  all_goals rfl
@[simp] theorem cmdGratBeamWrite_apply_avoids {b : Nat} {r : Rec} {g : Grp} (hg : g ∉ ([.mem, .ecc, .grat] : List Grp)) : Avoids g (cmdGratBeamWrite.apply b r) := (cmdGratBeamWrite_apply_within (gs := [.mem, .ecc, .grat]) rfl).free hg

theorem cmdGratBeamRead_effect_within {o : Nat} {r : Rec} {gs : List Grp} (hgs : within [.cnts, .ecc, .mbx, .evt] gs = true) : Within gs (cmdGratBeamRead.effect o r) := by
  refine Within.lift hgs ?_
  clear hgs
  unfold cmdGratBeamRead
  dsimp only
  repeat' first
    | with_reducible exact within_skip _
    | with_reducible exact within_nil _
    | with_reducible refine within_cons ?_ ?_
    | with_reducible refine within_seq ?_ ?_
    | with_reducible refine within_ask fun _ => ?_
    | with_reducible refine within_each fun _ => ?_
    | with_reducible refine within_whenP ?_
    | with_reducible refine within_upd ?_
    | with_reducible refine within_ite ?_ ?_
    | with_reducible refine within_replicate ?_
    | with_reducible refine noteRead_within ?_
    | split
    | dsimp only
  all_goals rfl
@[simp] theorem cmdGratBeamRead_effect_avoids {o : Nat} {r : Rec} {g : Grp} (hg : g ∉ ([.cnts, .ecc, .mbx, .evt] : List Grp)) : Avoids g (cmdGratBeamRead.effect o r) := (cmdGratBeamRead_effect_within (gs := [.cnts, .ecc, .mbx, .evt]) rfl).free hg

theorem cmdGratWeightWrite_effect_within {o : Nat} {r : Rec} {gs : List Grp} (hgs : within [.cnts, .mem, .ecc, .mbx, .evt, .grat] gs = true) : Within gs (cmdGratWeightWrite.effect o r) := by
  refine Within.lift hgs ?_
  clear hgs
  unfold cmdGratWeightWrite
  dsimp only
  repeat' first
    | with_reducible exact within_skip _
    | with_reducible exact within_nil _
    | with_reducible refine within_cons ?_ ?_
    | with_reducible refine within_seq ?_ ?_
    | with_reducible refine within_ask fun _ => ?_
    | with_reducible refine within_each fun _ => ?_
    | with_reducible refine within_whenP ?_
    | with_reducible refine within_upd ?_
    | with_reducible refine within_ite ?_ ?_
    | with_reducible refine within_replicate ?_
    | with_reducible refine openSlot_within ?_
    | with_reducible refine storeWeights_within ?_
    | split
    | dsimp only
  all_goals rfl
@[simp] theorem cmdGratWeightWrite_effect_avoids {o : Nat} {r : Rec} {g : Grp} (hg : g ∉ ([.cnts, .mem, .ecc, .mbx, .evt, .grat] : List Grp)) : Avoids g (cmdGratWeightWrite.effect o r) := (cmdGratWeightWrite_effect_within (gs := [.cnts, .mem, .ecc, .mbx, .evt, .grat]) rfl).free hg

theorem cmdGratWeightRead_effect_within {o : Nat} {r : Rec} {gs : List Grp} (hgs : within [.cnts, .ecc, .mbx, .evt] gs = true) : Within gs (cmdGratWeightRead.effect o r) := by
  refine Within.lift hgs ?_
  clear hgs
  unfold cmdGratWeightRead
  dsimp only
  repeat' first
    | with_reducible exact within_skip _
    | with_reducible exact within_nil _
    | with_reducible refine within_cons ?_ ?_
    | with_reducible refine within_seq ?_ ?_
    | with_reducible refine within_ask fun _ => ?_
    | with_reducible refine within_each fun _ => ?_
    | with_reducible refine within_whenP ?_
    | with_reducible refine within_upd ?_
    | with_reducible refine within_ite ?_ ?_
    | with_reducible refine within_replicate ?_
    | with_reducible refine noteRead_within ?_
    | split
    | dsimp only
  all_goals rfl
@[simp] theorem cmdGratWeightRead_effect_avoids {o : Nat} {r : Rec} {g : Grp} (hg : g ∉ ([.cnts, .ecc, .mbx, .evt] : List Grp)) : Avoids g (cmdGratWeightRead.effect o r) := (cmdGratWeightRead_effect_within (gs := [.cnts, .ecc, .mbx, .evt]) rfl).free hg

theorem cmdGratWeightSwap_apply_within {b : Nat} {r : Rec} {gs : List Grp} (hgs : within [.grat] gs = true) : Within gs (cmdGratWeightSwap.apply b r) := by
  refine Within.lift hgs ?_
  clear hgs
  unfold cmdGratWeightSwap
  dsimp only
  repeat' first
    | with_reducible exact within_skip _
    | with_reducible exact within_nil _
    | with_reducible refine within_cons ?_ ?_
    | with_reducible refine within_seq ?_ ?_
    | with_reducible refine within_ask fun _ => ?_
    | with_reducible refine within_each fun _ => ?_
    | with_reducible refine within_whenP ?_
    | with_reducible refine within_upd ?_
    | with_reducible refine within_ite ?_ ?_
    | with_reducible refine within_replicate ?_
    | with_reducible refine swapSlots_within ?_
    | split
    | dsimp only
  all_goals rfl
@[simp] theorem cmdGratWeightSwap_apply_avoids {b : Nat} {r : Rec} {g : Grp} (hg : g ∉ ([.grat] : List Grp)) : Avoids g (cmdGratWeightSwap.apply b r) := (cmdGratWeightSwap_apply_within (gs := [.grat]) rfl).free hg

theorem cmdGratStatus_effect_within {o : Nat} {r : Rec} {gs : List Grp} (hgs : within [.cnts] gs = true) : Within gs (cmdGratStatus.effect o r) := by
  refine Within.lift hgs ?_
  clear hgs
  unfold cmdGratStatus
  dsimp only
  repeat' first
    | with_reducible exact within_skip _
    | with_reducible exact within_nil _
    | with_reducible refine within_cons ?_ ?_
    | with_reducible refine within_seq ?_ ?_
    | with_reducible refine within_ask fun _ => ?_
    | with_reducible refine within_each fun _ => ?_
    | with_reducible refine within_whenP ?_
    | with_reducible refine within_upd ?_
    | with_reducible refine within_ite ?_ ?_
    | with_reducible refine within_replicate ?_
    | with_reducible refine clearCnts_within ?_
    | split
    | dsimp only
  all_goals rfl
@[simp] theorem cmdGratStatus_effect_avoids {o : Nat} {r : Rec} {g : Grp} (hg : g ∉ ([.cnts] : List Grp)) : Avoids g (cmdGratStatus.effect o r) := (cmdGratStatus_effect_within (gs := [.cnts]) rfl).free hg

theorem cmdMashStatus_effect_within {o : Nat} {r : Rec} {gs : List Grp} (hgs : within [.cnts] gs = true) : Within gs (cmdMashStatus.effect o r) := by
  refine Within.lift hgs ?_
  clear hgs
  unfold cmdMashStatus
  dsimp only
  repeat' first
    | with_reducible exact within_skip _
    | with_reducible exact within_nil _
    | with_reducible refine within_cons ?_ ?_
    | with_reducible refine within_seq ?_ ?_
    | with_reducible refine within_ask fun _ => ?_
    | with_reducible refine within_each fun _ => ?_
    | with_reducible refine within_whenP ?_
    | with_reducible refine within_upd ?_
    | with_reducible refine within_ite ?_ ?_
    | with_reducible refine within_replicate ?_
    | with_reducible refine clearCnts_within ?_
    | split
    | dsimp only
  all_goals rfl
@[simp] theorem cmdMashStatus_effect_avoids {o : Nat} {r : Rec} {g : Grp} (hg : g ∉ ([.cnts] : List Grp)) : Avoids g (cmdMashStatus.effect o r) := (cmdMashStatus_effect_within (gs := [.cnts]) rfl).free hg

theorem cmdMashPortStatus_effect_within {o : Nat} {r : Rec} {gs : List Grp} (hgs : within [.cnts] gs = true) : Within gs (cmdMashPortStatus.effect o r) := by
  refine Within.lift hgs ?_
  clear hgs
  unfold cmdMashPortStatus
  dsimp only
  repeat' first
    | with_reducible exact within_skip _
    | with_reducible exact within_nil _
    | with_reducible refine within_cons ?_ ?_
    | with_reducible refine within_seq ?_ ?_
    | with_reducible refine within_ask fun _ => ?_
    | with_reducible refine within_each fun _ => ?_
    | with_reducible refine within_whenP ?_
    | with_reducible refine within_upd ?_
    | with_reducible refine within_ite ?_ ?_
    | with_reducible refine within_replicate ?_
    | with_reducible refine clearCnts_within ?_
    | split
    | dsimp only
  all_goals rfl
@[simp] theorem cmdMashPortStatus_effect_avoids {o : Nat} {r : Rec} {g : Grp} (hg : g ∉ ([.cnts] : List Grp)) : Avoids g (cmdMashPortStatus.effect o r) := (cmdMashPortStatus_effect_within (gs := [.cnts]) rfl).free hg

theorem cmdMashEstRead_effect_within {o : Nat} {r : Rec} {gs : List Grp} (hgs : within [.cnts, .ecc, .mbx, .evt] gs = true) : Within gs (cmdMashEstRead.effect o r) := by
  refine Within.lift hgs ?_
  clear hgs
  unfold cmdMashEstRead
  dsimp only
  repeat' first
    | with_reducible exact within_skip _
    | with_reducible exact within_nil _
    | with_reducible refine within_cons ?_ ?_
    | with_reducible refine within_seq ?_ ?_
    | with_reducible refine within_ask fun _ => ?_
    | with_reducible refine within_each fun _ => ?_
    | with_reducible refine within_whenP ?_
    | with_reducible refine within_upd ?_
    | with_reducible refine within_ite ?_ ?_
    | with_reducible refine within_replicate ?_
    | with_reducible refine noteRead_within ?_
    | split
    | dsimp only
  all_goals rfl
@[simp] theorem cmdMashEstRead_effect_avoids {o : Nat} {r : Rec} {g : Grp} (hg : g ∉ ([.cnts, .ecc, .mbx, .evt] : List Grp)) : Avoids g (cmdMashEstRead.effect o r) := (cmdMashEstRead_effect_within (gs := [.cnts, .ecc, .mbx, .evt]) rfl).free hg

theorem cmdConvCalSet_effect_within {o : Nat} {r : Rec} {gs : List Grp} (hgs : within [.cfg, .cnts, .mem, .ecc, .mbx, .evt, .conv] gs = true) : Within gs (cmdConvCalSet.effect o r) := by
  refine Within.lift hgs ?_
  clear hgs
  unfold cmdConvCalSet
  dsimp only
  repeat' first
    | with_reducible exact within_skip _
    | with_reducible exact within_nil _
    | with_reducible refine within_cons ?_ ?_
    | with_reducible refine within_seq ?_ ?_
    | with_reducible refine within_ask fun _ => ?_
    | with_reducible refine within_each fun _ => ?_
    | with_reducible refine within_whenP ?_
    | with_reducible refine within_upd ?_
    | with_reducible refine within_ite ?_ ?_
    | with_reducible refine within_replicate ?_
    | with_reducible refine modConverter_within ?_
    | with_reducible refine setSetting_within ?_
    | with_reducible refine visit_within ?_
    | split
    | dsimp only
  all_goals rfl
@[simp] theorem cmdConvCalSet_effect_avoids {o : Nat} {r : Rec} {g : Grp} (hg : g ∉ ([.cfg, .cnts, .mem, .ecc, .mbx, .evt, .conv] : List Grp)) : Avoids g (cmdConvCalSet.effect o r) := (cmdConvCalSet_effect_within (gs := [.cfg, .cnts, .mem, .ecc, .mbx, .evt, .conv]) rfl).free hg

theorem cmdConvStatus_effect_within {o : Nat} {r : Rec} {gs : List Grp} (hgs : within [.cnts] gs = true) : Within gs (cmdConvStatus.effect o r) := by
  refine Within.lift hgs ?_
  clear hgs
  unfold cmdConvStatus
  dsimp only
  repeat' first
    | with_reducible exact within_skip _
    | with_reducible exact within_nil _
    | with_reducible refine within_cons ?_ ?_
    | with_reducible refine within_seq ?_ ?_
    | with_reducible refine within_ask fun _ => ?_
    | with_reducible refine within_each fun _ => ?_
    | with_reducible refine within_whenP ?_
    | with_reducible refine within_upd ?_
    | with_reducible refine within_ite ?_ ?_
    | with_reducible refine within_replicate ?_
    | with_reducible refine clearCnts_within ?_
    | split
    | dsimp only
  all_goals rfl
@[simp] theorem cmdConvStatus_effect_avoids {o : Nat} {r : Rec} {g : Grp} (hg : g ∉ ([.cnts] : List Grp)) : Avoids g (cmdConvStatus.effect o r) := (cmdConvStatus_effect_within (gs := [.cnts]) rfl).free hg

theorem cmdConvSliceService_finish_within {o : Nat} {r : Rec} {ok : Bool} {data : Rec} {s : State} {gs : List Grp} (hgs : within [.cnts, .mem, .ecc, .mbx, .log, .evt, .clk, .fh, .mash, .tx, .dpd, .rx, .conv, .radio, .survey, .bias] gs = true) : Within gs (cmdConvSliceService.finish o r ok data s).2.2 := by
  refine Within.lift hgs ?_
  clear hgs
  unfold cmdConvSliceService
  dsimp only
  repeat' first
    | with_reducible exact within_skip _
    | with_reducible exact within_nil _
    | with_reducible refine within_cons ?_ ?_
    | with_reducible refine within_seq ?_ ?_
    | with_reducible refine within_ask fun _ => ?_
    | with_reducible refine within_each fun _ => ?_
    | with_reducible refine within_whenP ?_
    | with_reducible refine within_upd ?_
    | with_reducible refine within_ite ?_ ?_
    | with_reducible refine within_replicate ?_
    | with_reducible refine convCount_within ?_
    | with_reducible refine failSlice_within ?_
    | with_reducible refine returnSlice_within ?_
    | split
    | dsimp only
  all_goals rfl
@[simp] theorem cmdConvSliceService_finish_avoids {o : Nat} {r : Rec} {ok : Bool} {data : Rec} {s : State} {g : Grp} (hg : g ∉ ([.cnts, .mem, .ecc, .mbx, .log, .evt, .clk, .fh, .mash, .tx, .dpd, .rx, .conv, .radio, .survey, .bias] : List Grp)) : Avoids g (cmdConvSliceService.finish o r ok data s).2.2 := (cmdConvSliceService_finish_within (gs := [.cnts, .mem, .ecc, .mbx, .log, .evt, .clk, .fh, .mash, .tx, .dpd, .rx, .conv, .radio, .survey, .bias]) rfl).free hg

theorem cmdHkSeqSet_effect_within {o : Nat} {r : Rec} {gs : List Grp} (hgs : within [.cfg, .hk] gs = true) : Within gs (cmdHkSeqSet.effect o r) := by
  refine Within.lift hgs ?_
  clear hgs
  unfold cmdHkSeqSet
  dsimp only
  repeat' first
    | with_reducible exact within_skip _
    | with_reducible exact within_nil _
    | with_reducible refine within_cons ?_ ?_
    | with_reducible refine within_seq ?_ ?_
    | with_reducible refine within_ask fun _ => ?_
    | with_reducible refine within_each fun _ => ?_
    | with_reducible refine within_whenP ?_
    | with_reducible refine within_upd ?_
    | with_reducible refine within_ite ?_ ?_
    | with_reducible refine within_replicate ?_
    | with_reducible refine modHk_within ?_
    | with_reducible refine setSetting_within ?_
    | split
    | dsimp only
  all_goals rfl
@[simp] theorem cmdHkSeqSet_effect_avoids {o : Nat} {r : Rec} {g : Grp} (hg : g ∉ ([.cfg, .hk] : List Grp)) : Avoids g (cmdHkSeqSet.effect o r) := (cmdHkSeqSet_effect_within (gs := [.cfg, .hk]) rfl).free hg

theorem cmdHkLimitSet_effect_within {o : Nat} {r : Rec} {gs : List Grp} (hgs : within [.cfg, .hk] gs = true) : Within gs (cmdHkLimitSet.effect o r) := by
  refine Within.lift hgs ?_
  clear hgs
  unfold cmdHkLimitSet
  dsimp only
  repeat' first
    | with_reducible exact within_skip _
    | with_reducible exact within_nil _
    | with_reducible refine within_cons ?_ ?_
    | with_reducible refine within_seq ?_ ?_
    | with_reducible refine within_ask fun _ => ?_
    | with_reducible refine within_each fun _ => ?_
    | with_reducible refine within_whenP ?_
    | with_reducible refine within_upd ?_
    | with_reducible refine within_ite ?_ ?_
    | with_reducible refine within_replicate ?_
    | with_reducible refine modHk_within ?_
    | with_reducible refine setSetting_within ?_
    | split
    | dsimp only
  all_goals rfl
@[simp] theorem cmdHkLimitSet_effect_avoids {o : Nat} {r : Rec} {g : Grp} (hg : g ∉ ([.cfg, .hk] : List Grp)) : Avoids g (cmdHkLimitSet.effect o r) := (cmdHkLimitSet_effect_within (gs := [.cfg, .hk]) rfl).free hg

theorem cmdRffeXfer_effect_within {o : Nat} {r : Rec} {gs : List Grp} (hgs : within [.rffe] gs = true) : Within gs (cmdRffeXfer.effect o r) := by
  refine Within.lift hgs ?_
  clear hgs
  unfold cmdRffeXfer
  dsimp only
  repeat' first
    | with_reducible exact within_skip _
    | with_reducible exact within_nil _
    | with_reducible refine within_cons ?_ ?_
    | with_reducible refine within_seq ?_ ?_
    | with_reducible refine within_ask fun _ => ?_
    | with_reducible refine within_each fun _ => ?_
    | with_reducible refine within_whenP ?_
    | with_reducible refine within_upd ?_
    | with_reducible refine within_ite ?_ ?_
    | with_reducible refine within_replicate ?_
    | with_reducible refine modRffe_within ?_
    | with_reducible refine modMaster_within ?_
    | split
    | dsimp only
  all_goals rfl
@[simp] theorem cmdRffeXfer_effect_avoids {o : Nat} {r : Rec} {g : Grp} (hg : g ∉ ([.rffe] : List Grp)) : Avoids g (cmdRffeXfer.effect o r) := (cmdRffeXfer_effect_within (gs := [.rffe]) rfl).free hg

theorem cmdRffeXfer_finish_within {o : Nat} {r : Rec} {ok : Bool} {data : Rec} {s : State} {gs : List Grp} (hgs : within [.rffe] gs = true) : Within gs (cmdRffeXfer.finish o r ok data s).2.2 := by
  refine Within.lift hgs ?_
  clear hgs
  unfold cmdRffeXfer
  dsimp only
  repeat' first
    | with_reducible exact within_skip _
    | with_reducible exact within_nil _
    | with_reducible refine within_cons ?_ ?_
    | with_reducible refine within_seq ?_ ?_
    | with_reducible refine within_ask fun _ => ?_
    | with_reducible refine within_each fun _ => ?_
    | with_reducible refine within_whenP ?_
    | with_reducible refine within_upd ?_
    | with_reducible refine within_ite ?_ ?_
    | with_reducible refine within_replicate ?_
    | with_reducible refine modMaster_within ?_
    | split
    | dsimp only
  all_goals rfl
@[simp] theorem cmdRffeXfer_finish_avoids {o : Nat} {r : Rec} {ok : Bool} {data : Rec} {s : State} {g : Grp} (hg : g ∉ ([.rffe] : List Grp)) : Avoids g (cmdRffeXfer.finish o r ok data s).2.2 := (cmdRffeXfer_finish_within (gs := [.rffe]) rfl).free hg

theorem cmdRffeSched_effect_within {o : Nat} {r : Rec} {gs : List Grp} (hgs : within [.rffe] gs = true) : Within gs (cmdRffeSched.effect o r) := by
  refine Within.lift hgs ?_
  clear hgs
  unfold cmdRffeSched
  dsimp only
  repeat' first
    | with_reducible exact within_skip _
    | with_reducible exact within_nil _
    | with_reducible refine within_cons ?_ ?_
    | with_reducible refine within_seq ?_ ?_
    | with_reducible refine within_ask fun _ => ?_
    | with_reducible refine within_each fun _ => ?_
    | with_reducible refine within_whenP ?_
    | with_reducible refine within_upd ?_
    | with_reducible refine within_ite ?_ ?_
    | with_reducible refine within_replicate ?_
    | with_reducible refine schedGroup_within ?_
    | split
    | dsimp only
  all_goals rfl
@[simp] theorem cmdRffeSched_effect_avoids {o : Nat} {r : Rec} {g : Grp} (hg : g ∉ ([.rffe] : List Grp)) : Avoids g (cmdRffeSched.effect o r) := (cmdRffeSched_effect_within (gs := [.rffe]) rfl).free hg

theorem cmdRffeStatus_effect_within {o : Nat} {r : Rec} {gs : List Grp} (hgs : within [.cnts] gs = true) : Within gs (cmdRffeStatus.effect o r) := by
  refine Within.lift hgs ?_
  clear hgs
  unfold cmdRffeStatus
  dsimp only
  repeat' first
    | with_reducible exact within_skip _
    | with_reducible exact within_nil _
    | with_reducible refine within_cons ?_ ?_
    | with_reducible refine within_seq ?_ ?_
    | with_reducible refine within_ask fun _ => ?_
    | with_reducible refine within_each fun _ => ?_
    | with_reducible refine within_whenP ?_
    | with_reducible refine within_upd ?_
    | with_reducible refine within_ite ?_ ?_
    | with_reducible refine within_replicate ?_
    | with_reducible refine clearCnts_within ?_
    | split
    | dsimp only
  all_goals rfl
@[simp] theorem cmdRffeStatus_effect_avoids {o : Nat} {r : Rec} {g : Grp} (hg : g ∉ ([.cnts] : List Grp)) : Avoids g (cmdRffeStatus.effect o r) := (cmdRffeStatus_effect_within (gs := [.cnts]) rfl).free hg

theorem cmdSurveyRun_effect_within {o : Nat} {r : Rec} {gs : List Grp} (hgs : within [.radio, .survey] gs = true) : Within gs (cmdSurveyRun.effect o r) := by
  refine Within.lift hgs ?_
  clear hgs
  unfold cmdSurveyRun
  dsimp only
  repeat' first
    | with_reducible exact within_skip _
    | with_reducible exact within_nil _
    | with_reducible refine within_cons ?_ ?_
    | with_reducible refine within_seq ?_ ?_
    | with_reducible refine within_ask fun _ => ?_
    | with_reducible refine within_each fun _ => ?_
    | with_reducible refine within_whenP ?_
    | with_reducible refine within_upd ?_
    | with_reducible refine within_ite ?_ ?_
    | with_reducible refine within_replicate ?_
    | with_reducible refine startCamp_within ?_
    | split
    | dsimp only
  all_goals rfl
@[simp] theorem cmdSurveyRun_effect_avoids {o : Nat} {r : Rec} {g : Grp} (hg : g ∉ ([.radio, .survey] : List Grp)) : Avoids g (cmdSurveyRun.effect o r) := (cmdSurveyRun_effect_within (gs := [.radio, .survey]) rfl).free hg

theorem cmdSurveyStatus_effect_within {o : Nat} {r : Rec} {gs : List Grp} (hgs : within [.cnts] gs = true) : Within gs (cmdSurveyStatus.effect o r) := by
  refine Within.lift hgs ?_
  clear hgs
  unfold cmdSurveyStatus
  dsimp only
  repeat' first
    | with_reducible exact within_skip _
    | with_reducible exact within_nil _
    | with_reducible refine within_cons ?_ ?_
    | with_reducible refine within_seq ?_ ?_
    | with_reducible refine within_ask fun _ => ?_
    | with_reducible refine within_each fun _ => ?_
    | with_reducible refine within_whenP ?_
    | with_reducible refine within_upd ?_
    | with_reducible refine within_ite ?_ ?_
    | with_reducible refine within_replicate ?_
    | with_reducible refine clearCnts_within ?_
    | split
    | dsimp only
  all_goals rfl
@[simp] theorem cmdSurveyStatus_effect_avoids {o : Nat} {r : Rec} {g : Grp} (hg : g ∉ ([.cnts] : List Grp)) : Avoids g (cmdSurveyStatus.effect o r) := (cmdSurveyStatus_effect_within (gs := [.cnts]) rfl).free hg

theorem cmdSurveyCorrSet_apply_within {b : Nat} {r : Rec} {gs : List Grp} (hgs : within [.cnts, .survey] gs = true) : Within gs (cmdSurveyCorrSet.apply b r) := by
  refine Within.lift hgs ?_
  clear hgs
  unfold cmdSurveyCorrSet
  dsimp only
  repeat' first
    | with_reducible exact within_skip _
    | with_reducible exact within_nil _
    | with_reducible refine within_cons ?_ ?_
    | with_reducible refine within_seq ?_ ?_
    | with_reducible refine within_ask fun _ => ?_
    | with_reducible refine within_each fun _ => ?_
    | with_reducible refine within_whenP ?_
    | with_reducible refine within_upd ?_
    | with_reducible refine within_ite ?_ ?_
    | with_reducible refine within_replicate ?_
    | with_reducible refine abandonSteeps_within ?_
    | with_reducible refine countRecip_within ?_
    | with_reducible refine modElem_within ?_
    | split
    | dsimp only
  all_goals rfl
@[simp] theorem cmdSurveyCorrSet_apply_avoids {b : Nat} {r : Rec} {g : Grp} (hg : g ∉ ([.cnts, .survey] : List Grp)) : Avoids g (cmdSurveyCorrSet.apply b r) := (cmdSurveyCorrSet_apply_within (gs := [.cnts, .survey]) rfl).free hg

theorem cmdBiasSet_apply_within {b : Nat} {r : Rec} {gs : List Grp} (hgs : within [.cfg, .cnts, .bias] gs = true) : Within gs (cmdBiasSet.apply b r) := by
  refine Within.lift hgs ?_
  clear hgs
  unfold cmdBiasSet
  dsimp only
  repeat' first
    | with_reducible exact within_skip _
    | with_reducible exact within_nil _
    | with_reducible refine within_cons ?_ ?_
    | with_reducible refine within_seq ?_ ?_
    | with_reducible refine within_ask fun _ => ?_
    | with_reducible refine within_each fun _ => ?_
    | with_reducible refine within_whenP ?_
    | with_reducible refine within_upd ?_
    | with_reducible refine within_ite ?_ ?_
    | with_reducible refine within_replicate ?_
    | with_reducible refine biasSet_within ?_
    | split
    | dsimp only
  all_goals rfl
@[simp] theorem cmdBiasSet_apply_avoids {b : Nat} {r : Rec} {g : Grp} (hg : g ∉ ([.cfg, .cnts, .bias] : List Grp)) : Avoids g (cmdBiasSet.apply b r) := (cmdBiasSet_apply_within (gs := [.cfg, .cnts, .bias]) rfl).free hg

theorem cmdBiasGainSet_apply_within {b : Nat} {r : Rec} {gs : List Grp} (hgs : within [.cfg, .cnts, .bias] gs = true) : Within gs (cmdBiasGainSet.apply b r) := by
  refine Within.lift hgs ?_
  clear hgs
  unfold cmdBiasGainSet
  dsimp only
  repeat' first
    | with_reducible exact within_skip _
    | with_reducible exact within_nil _
    | with_reducible refine within_cons ?_ ?_
    | with_reducible refine within_seq ?_ ?_
    | with_reducible refine within_ask fun _ => ?_
    | with_reducible refine within_each fun _ => ?_
    | with_reducible refine within_whenP ?_
    | with_reducible refine within_upd ?_
    | with_reducible refine within_ite ?_ ?_
    | with_reducible refine within_replicate ?_
    | with_reducible refine biasRefresh_within ?_
    | with_reducible refine count_within ?_
    | with_reducible refine setSetting_within ?_
    | split
    | dsimp only
  all_goals rfl
@[simp] theorem cmdBiasGainSet_apply_avoids {b : Nat} {r : Rec} {g : Grp} (hg : g ∉ ([.cfg, .cnts, .bias] : List Grp)) : Avoids g (cmdBiasGainSet.apply b r) := (cmdBiasGainSet_apply_within (gs := [.cfg, .cnts, .bias]) rfl).free hg

theorem cmdBiasStatus_effect_within {o : Nat} {r : Rec} {gs : List Grp} (hgs : within [.cnts] gs = true) : Within gs (cmdBiasStatus.effect o r) := by
  refine Within.lift hgs ?_
  clear hgs
  unfold cmdBiasStatus
  dsimp only
  repeat' first
    | with_reducible exact within_skip _
    | with_reducible exact within_nil _
    | with_reducible refine within_cons ?_ ?_
    | with_reducible refine within_seq ?_ ?_
    | with_reducible refine within_ask fun _ => ?_
    | with_reducible refine within_each fun _ => ?_
    | with_reducible refine within_whenP ?_
    | with_reducible refine within_upd ?_
    | with_reducible refine within_ite ?_ ?_
    | with_reducible refine within_replicate ?_
    | with_reducible refine clearCnts_within ?_
    | split
    | dsimp only
  all_goals rfl
@[simp] theorem cmdBiasStatus_effect_avoids {o : Nat} {r : Rec} {g : Grp} (hg : g ∉ ([.cnts] : List Grp)) : Avoids g (cmdBiasStatus.effect o r) := (cmdBiasStatus_effect_within (gs := [.cnts]) rfl).free hg

theorem cmdBiasRestore_effect_within {o : Nat} {r : Rec} {gs : List Grp} (hgs : within [.tx, .bias] gs = true) : Within gs (cmdBiasRestore.effect o r) := by
  refine Within.lift hgs ?_
  clear hgs
  unfold cmdBiasRestore
  dsimp only
  repeat' first
    | with_reducible exact within_skip _
    | with_reducible exact within_nil _
    | with_reducible refine within_cons ?_ ?_
    | with_reducible refine within_seq ?_ ?_
    | with_reducible refine within_ask fun _ => ?_
    | with_reducible refine within_each fun _ => ?_
    | with_reducible refine within_whenP ?_
    | with_reducible refine within_upd ?_
    | with_reducible refine within_ite ?_ ?_
    | with_reducible refine within_replicate ?_
    | with_reducible refine modBias_within ?_
    | with_reducible refine biasFollow_within ?_
    | with_reducible refine endHold_within ?_
    | split
    | dsimp only
  all_goals rfl
@[simp] theorem cmdBiasRestore_effect_avoids {o : Nat} {r : Rec} {g : Grp} (hg : g ∉ ([.tx, .bias] : List Grp)) : Avoids g (cmdBiasRestore.effect o r) := (cmdBiasRestore_effect_within (gs := [.tx, .bias]) rfl).free hg

theorem cmdCoexSet_apply_within {b : Nat} {r : Rec} {gs : List Grp} (hgs : within [.tx, .coex] gs = true) : Within gs (cmdCoexSet.apply b r) := by
  refine Within.lift hgs ?_
  clear hgs
  unfold cmdCoexSet
  dsimp only
  repeat' first
    | with_reducible exact within_skip _
    | with_reducible exact within_nil _
    | with_reducible refine within_cons ?_ ?_
    | with_reducible refine within_seq ?_ ?_
    | with_reducible refine within_ask fun _ => ?_
    | with_reducible refine within_each fun _ => ?_
    | with_reducible refine within_whenP ?_
    | with_reducible refine within_upd ?_
    | with_reducible refine within_ite ?_ ?_
    | with_reducible refine within_replicate ?_
    | with_reducible refine modCoex_within ?_
    | with_reducible refine coexRelease_within ?_
    | split
    | dsimp only
  all_goals rfl
@[simp] theorem cmdCoexSet_apply_avoids {b : Nat} {r : Rec} {g : Grp} (hg : g ∉ ([.tx, .coex] : List Grp)) : Avoids g (cmdCoexSet.apply b r) := (cmdCoexSet_apply_within (gs := [.tx, .coex]) rfl).free hg

theorem cmdCoexStatus_effect_within {o : Nat} {r : Rec} {gs : List Grp} (hgs : within [.cnts] gs = true) : Within gs (cmdCoexStatus.effect o r) := by
  refine Within.lift hgs ?_
  clear hgs
  unfold cmdCoexStatus
  dsimp only
  repeat' first
    | with_reducible exact within_skip _
    | with_reducible exact within_nil _
    | with_reducible refine within_cons ?_ ?_
    | with_reducible refine within_seq ?_ ?_
    | with_reducible refine within_ask fun _ => ?_
    | with_reducible refine within_each fun _ => ?_
    | with_reducible refine within_whenP ?_
    | with_reducible refine within_upd ?_
    | with_reducible refine within_ite ?_ ?_
    | with_reducible refine within_replicate ?_
    | with_reducible refine clearCnts_within ?_
    | split
    | dsimp only
  all_goals rfl
@[simp] theorem cmdCoexStatus_effect_avoids {o : Nat} {r : Rec} {g : Grp} (hg : g ∉ ([.cnts] : List Grp)) : Avoids g (cmdCoexStatus.effect o r) := (cmdCoexStatus_effect_within (gs := [.cnts]) rfl).free hg

theorem cmdDpdPathSet_apply_within {b : Nat} {r : Rec} {gs : List Grp} (hgs : within [.mem, .ecc, .dpd] gs = true) : Within gs (cmdDpdPathSet.apply b r) := by
  refine Within.lift hgs ?_
  clear hgs
  unfold cmdDpdPathSet
  dsimp only
  repeat' first
    | with_reducible exact within_skip _
    | with_reducible exact within_nil _
    | with_reducible refine within_cons ?_ ?_
    | with_reducible refine within_seq ?_ ?_
    | with_reducible refine within_ask fun _ => ?_
    | with_reducible refine within_each fun _ => ?_
    | with_reducible refine within_whenP ?_
    | with_reducible refine within_upd ?_
    | with_reducible refine within_ite ?_ ?_
    | with_reducible refine within_replicate ?_
    | with_reducible refine dpdPathSet_within ?_
    | split
    | dsimp only
  all_goals rfl
@[simp] theorem cmdDpdPathSet_apply_avoids {b : Nat} {r : Rec} {g : Grp} (hg : g ∉ ([.mem, .ecc, .dpd] : List Grp)) : Avoids g (cmdDpdPathSet.apply b r) := (cmdDpdPathSet_apply_within (gs := [.mem, .ecc, .dpd]) rfl).free hg

theorem cmdDpdCoefWrite_effect_within {o : Nat} {r : Rec} {gs : List Grp} (hgs : within [.mem, .ecc, .dpd] gs = true) : Within gs (cmdDpdCoefWrite.effect o r) := by
  refine Within.lift hgs ?_
  clear hgs
  unfold cmdDpdCoefWrite
  dsimp only
  repeat' first
    | with_reducible exact within_skip _
    | with_reducible exact within_nil _
    | with_reducible refine within_cons ?_ ?_
    | with_reducible refine within_seq ?_ ?_
    | with_reducible refine within_ask fun _ => ?_
    | with_reducible refine within_each fun _ => ?_
    | with_reducible refine within_whenP ?_
    | with_reducible refine within_upd ?_
    | with_reducible refine within_ite ?_ ?_
    | with_reducible refine within_replicate ?_
    | with_reducible refine openSet_within ?_
    | with_reducible refine store_within ?_
    | split
    | dsimp only
  all_goals rfl
@[simp] theorem cmdDpdCoefWrite_effect_avoids {o : Nat} {r : Rec} {g : Grp} (hg : g ∉ ([.mem, .ecc, .dpd] : List Grp)) : Avoids g (cmdDpdCoefWrite.effect o r) := (cmdDpdCoefWrite_effect_within (gs := [.mem, .ecc, .dpd]) rfl).free hg

theorem cmdDpdCoefRead_effect_within {o : Nat} {r : Rec} {gs : List Grp} (hgs : within [.cnts, .ecc, .mbx, .evt] gs = true) : Within gs (cmdDpdCoefRead.effect o r) := by
  refine Within.lift hgs ?_
  clear hgs
  unfold cmdDpdCoefRead
  dsimp only
  repeat' first
    | with_reducible exact within_skip _
    | with_reducible exact within_nil _
    | with_reducible refine within_cons ?_ ?_
    | with_reducible refine within_seq ?_ ?_
    | with_reducible refine within_ask fun _ => ?_
    | with_reducible refine within_each fun _ => ?_
    | with_reducible refine within_whenP ?_
    | with_reducible refine within_upd ?_
    | with_reducible refine within_ite ?_ ?_
    | with_reducible refine within_replicate ?_
    | with_reducible refine noteRead_within ?_
    | split
    | dsimp only
  all_goals rfl
@[simp] theorem cmdDpdCoefRead_effect_avoids {o : Nat} {r : Rec} {g : Grp} (hg : g ∉ ([.cnts, .ecc, .mbx, .evt] : List Grp)) : Avoids g (cmdDpdCoefRead.effect o r) := (cmdDpdCoefRead_effect_within (gs := [.cnts, .ecc, .mbx, .evt]) rfl).free hg

theorem cmdDpdCoefSwap_apply_within {b : Nat} {r : Rec} {gs : List Grp} (hgs : within [.dpd] gs = true) : Within gs (cmdDpdCoefSwap.apply b r) := by
  refine Within.lift hgs ?_
  clear hgs
  unfold cmdDpdCoefSwap
  dsimp only
  repeat' first
    | with_reducible exact within_skip _
    | with_reducible exact within_nil _
    | with_reducible refine within_cons ?_ ?_
    | with_reducible refine within_seq ?_ ?_
    | with_reducible refine within_ask fun _ => ?_
    | with_reducible refine within_each fun _ => ?_
    | with_reducible refine within_whenP ?_
    | with_reducible refine within_upd ?_
    | with_reducible refine within_ite ?_ ?_
    | with_reducible refine within_replicate ?_
    | with_reducible refine dpdFlip_within ?_
    | split
    | dsimp only
  all_goals rfl
@[simp] theorem cmdDpdCoefSwap_apply_avoids {b : Nat} {r : Rec} {g : Grp} (hg : g ∉ ([.dpd] : List Grp)) : Avoids g (cmdDpdCoefSwap.apply b r) := (cmdDpdCoefSwap_apply_within (gs := [.dpd]) rfl).free hg

theorem cmdDpdStatus_effect_within {o : Nat} {r : Rec} {gs : List Grp} (hgs : within [.cnts] gs = true) : Within gs (cmdDpdStatus.effect o r) := by
  refine Within.lift hgs ?_
  clear hgs
  unfold cmdDpdStatus
  dsimp only
  repeat' first
    | with_reducible exact within_skip _
    | with_reducible exact within_nil _
    | with_reducible refine within_cons ?_ ?_
    | with_reducible refine within_seq ?_ ?_
    | with_reducible refine within_ask fun _ => ?_
    | with_reducible refine within_each fun _ => ?_
    | with_reducible refine within_whenP ?_
    | with_reducible refine within_upd ?_
    | with_reducible refine within_ite ?_ ?_
    | with_reducible refine within_replicate ?_
    | with_reducible refine clearCnts_within ?_
    | split
    | dsimp only
  all_goals rfl
@[simp] theorem cmdDpdStatus_effect_avoids {o : Nat} {r : Rec} {g : Grp} (hg : g ∉ ([.cnts] : List Grp)) : Avoids g (cmdDpdStatus.effect o r) := (cmdDpdStatus_effect_within (gs := [.cnts]) rfl).free hg

theorem cmdDpdPathStatus_effect_within {o : Nat} {r : Rec} {gs : List Grp} (hgs : within [.cnts, .free] gs = true) : Within gs (cmdDpdPathStatus.effect o r) := by
  refine Within.lift hgs ?_
  clear hgs
  unfold cmdDpdPathStatus
  dsimp only
  repeat' first
    | with_reducible exact within_skip _
    | with_reducible exact within_nil _
    | with_reducible refine within_cons ?_ ?_
    | with_reducible refine within_seq ?_ ?_
    | with_reducible refine within_ask fun _ => ?_
    | with_reducible refine within_each fun _ => ?_
    | with_reducible refine within_whenP ?_
    | with_reducible refine within_upd ?_
    | with_reducible refine within_ite ?_ ?_
    | with_reducible refine within_replicate ?_
    | with_reducible refine clearCnts_within ?_
    | with_reducible refine drawFree_within ?_
    | split
    | dsimp only
  all_goals rfl
@[simp] theorem cmdDpdPathStatus_effect_avoids {o : Nat} {r : Rec} {g : Grp} (hg : g ∉ ([.cnts, .free] : List Grp)) : Avoids g (cmdDpdPathStatus.effect o r) := (cmdDpdPathStatus_effect_within (gs := [.cnts, .free]) rfl).free hg

theorem cmdRsTimerSet_effect_within {o : Nat} {r : Rec} {gs : List Grp} (hgs : within [.cnts, .mbx, .evt, .tx, .rx, .conv, .radio, .survey, .rffe] gs = true) : Within gs (cmdRsTimerSet.effect o r) := by
  refine Within.lift hgs ?_
  clear hgs
  unfold cmdRsTimerSet
  dsimp only
  repeat' first
    | with_reducible exact within_skip _
    | with_reducible exact within_nil _
    | with_reducible refine within_cons ?_ ?_
    | with_reducible refine within_seq ?_ ?_
    | with_reducible refine within_ask fun _ => ?_
    | with_reducible refine within_each fun _ => ?_
    | with_reducible refine within_whenP ?_
    | with_reducible refine within_upd ?_
    | with_reducible refine within_ite ?_ ?_
    | with_reducible refine within_replicate ?_
    | with_reducible refine armTimer_within ?_
    | with_reducible refine disarmTimer_within ?_
    | split
    | dsimp only
  all_goals rfl
@[simp] theorem cmdRsTimerSet_effect_avoids {o : Nat} {r : Rec} {g : Grp} (hg : g ∉ ([.cnts, .mbx, .evt, .tx, .rx, .conv, .radio, .survey, .rffe] : List Grp)) : Avoids g (cmdRsTimerSet.effect o r) := (cmdRsTimerSet_effect_within (gs := [.cnts, .mbx, .evt, .tx, .rx, .conv, .radio, .survey, .rffe]) rfl).free hg

theorem cmdRsPatternSet_apply_within {b : Nat} {r : Rec} {gs : List Grp} (hgs : within [.radio, .rffe] gs = true) : Within gs (cmdRsPatternSet.apply b r) := by
  refine Within.lift hgs ?_
  clear hgs
  unfold cmdRsPatternSet
  dsimp only
  repeat' first
    | with_reducible exact within_skip _
    | with_reducible exact within_nil _
    | with_reducible refine within_cons ?_ ?_
    | with_reducible refine within_seq ?_ ?_
    | with_reducible refine within_ask fun _ => ?_
    | with_reducible refine within_each fun _ => ?_
    | with_reducible refine within_whenP ?_
    | with_reducible refine within_upd ?_
    | with_reducible refine within_ite ?_ ?_
    | with_reducible refine within_replicate ?_
    | with_reducible refine patternStart_within ?_
    | with_reducible refine patternStop_within ?_
    | split
    | dsimp only
  all_goals rfl
@[simp] theorem cmdRsPatternSet_apply_avoids {b : Nat} {r : Rec} {g : Grp} (hg : g ∉ ([.radio, .rffe] : List Grp)) : Avoids g (cmdRsPatternSet.apply b r) := (cmdRsPatternSet_apply_within (gs := [.radio, .rffe]) rfl).free hg

theorem cmdRsStatus_effect_within {o : Nat} {r : Rec} {gs : List Grp} (hgs : within [.cnts] gs = true) : Within gs (cmdRsStatus.effect o r) := by
  refine Within.lift hgs ?_
  clear hgs
  unfold cmdRsStatus
  dsimp only
  repeat' first
    | with_reducible exact within_skip _
    | with_reducible exact within_nil _
    | with_reducible refine within_cons ?_ ?_
    | with_reducible refine within_seq ?_ ?_
    | with_reducible refine within_ask fun _ => ?_
    | with_reducible refine within_each fun _ => ?_
    | with_reducible refine within_whenP ?_
    | with_reducible refine within_upd ?_
    | with_reducible refine within_ite ?_ ?_
    | with_reducible refine within_replicate ?_
    | with_reducible refine clearCnts_within ?_
    | split
    | dsimp only
  all_goals rfl
@[simp] theorem cmdRsStatus_effect_avoids {o : Nat} {r : Rec} {g : Grp} (hg : g ∉ ([.cnts] : List Grp)) : Avoids g (cmdRsStatus.effect o r) := (cmdRsStatus_effect_within (gs := [.cnts]) rfl).free hg

theorem cmdLoSet_apply_within {b : Nat} {r : Rec} {gs : List Grp} (hgs : within [.cnts, .mbx, .evt, .tx, .rx, .conv, .radio, .survey] gs = true) : Within gs (cmdLoSet.apply b r) := by
  refine Within.lift hgs ?_
  clear hgs
  unfold cmdLoSet
  dsimp only
  repeat' first
    | with_reducible exact within_skip _
    | with_reducible exact within_nil _
    | with_reducible refine within_cons ?_ ?_
    | with_reducible refine within_seq ?_ ?_
    | with_reducible refine within_ask fun _ => ?_
    | with_reducible refine within_each fun _ => ?_
    | with_reducible refine within_whenP ?_
    | with_reducible refine within_upd ?_
    | with_reducible refine within_ite ?_ ?_
    | with_reducible refine within_replicate ?_
    | with_reducible refine fireAction_within ?_
    | with_reducible refine modSheet_within ?_
    | split
    | dsimp only
  all_goals rfl
@[simp] theorem cmdLoSet_apply_avoids {b : Nat} {r : Rec} {g : Grp} (hg : g ∉ ([.cnts, .mbx, .evt, .tx, .rx, .conv, .radio, .survey] : List Grp)) : Avoids g (cmdLoSet.apply b r) := (cmdLoSet_apply_within (gs := [.cnts, .mbx, .evt, .tx, .rx, .conv, .radio, .survey]) rfl).free hg

theorem cmdLoSet_load_within {b : Nat} {r : Rec} {gs : List Grp} (hgs : within [.cnts, .mbx, .evt, .tx, .rx, .conv, .radio, .survey, .rffe] gs = true) : Within gs (cmdLoSet.load b r) := by
  refine Within.lift hgs ?_
  clear hgs
  unfold cmdLoSet
  dsimp only
  repeat' first
    | with_reducible exact within_skip _
    | with_reducible exact within_nil _
    | with_reducible refine within_cons ?_ ?_
    | with_reducible refine within_seq ?_ ?_
    | with_reducible refine within_ask fun _ => ?_
    | with_reducible refine within_each fun _ => ?_
    | with_reducible refine within_whenP ?_
    | with_reducible refine within_upd ?_
    | with_reducible refine within_ite ?_ ?_
    | with_reducible refine within_replicate ?_
    | with_reducible refine armTimer_within ?_
    | split
    | dsimp only
  all_goals rfl
@[simp] theorem cmdLoSet_load_avoids {b : Nat} {r : Rec} {g : Grp} (hg : g ∉ ([.cnts, .mbx, .evt, .tx, .rx, .conv, .radio, .survey, .rffe] : List Grp)) : Avoids g (cmdLoSet.load b r) := (cmdLoSet_load_within (gs := [.cnts, .mbx, .evt, .tx, .rx, .conv, .radio, .survey, .rffe]) rfl).free hg

theorem cmdSheetService_effect_within {o : Nat} {r : Rec} {gs : List Grp} (hgs : within [.cfg, .cnts, .mem, .ecc, .mbx, .log, .evt, .clk, .fh, .mash, .dpd, .rx, .conv, .radio, .survey, .bias, .rffe, .coex] gs = true) : Within gs (cmdSheetService.effect o r) := by
  refine Within.lift hgs ?_
  clear hgs
  unfold cmdSheetService
  dsimp only
  repeat' first
    | with_reducible exact within_skip _
    | with_reducible exact within_nil _
    | with_reducible refine within_cons ?_ ?_
    | with_reducible refine within_seq ?_ ?_
    | with_reducible refine within_ask fun _ => ?_
    | with_reducible refine within_each fun _ => ?_
    | with_reducible refine within_whenP ?_
    | with_reducible refine within_upd ?_
    | with_reducible refine within_ite ?_ ?_
    | with_reducible refine within_replicate ?_
    | with_reducible refine modSheet_within ?_
    | with_reducible refine outOfService_within ?_
    | with_reducible refine startTransition_within ?_
    | split
    | dsimp only
  all_goals rfl
@[simp] theorem cmdSheetService_effect_avoids {o : Nat} {r : Rec} {g : Grp} (hg : g ∉ ([.cfg, .cnts, .mem, .ecc, .mbx, .log, .evt, .clk, .fh, .mash, .dpd, .rx, .conv, .radio, .survey, .bias, .rffe, .coex] : List Grp)) : Avoids g (cmdSheetService.effect o r) := (cmdSheetService_effect_within (gs := [.cfg, .cnts, .mem, .ecc, .mbx, .log, .evt, .clk, .fh, .mash, .dpd, .rx, .conv, .radio, .survey, .bias, .rffe, .coex]) rfl).free hg

theorem cmdSheetService_finish_within {o : Nat} {r : Rec} {ok : Bool} {data : Rec} {s : State} {gs : List Grp} (hgs : within [.cnts, .mem, .ecc, .mbx, .log, .evt, .clk, .fh, .mash, .dpd, .rx, .conv, .radio, .survey, .bias, .rffe, .coex] gs = true) : Within gs (cmdSheetService.finish o r ok data s).2.2 := by
  refine Within.lift hgs ?_
  clear hgs
  unfold cmdSheetService
  dsimp only
  repeat' first
    | with_reducible exact within_skip _
    | with_reducible exact within_nil _
    | with_reducible refine within_cons ?_ ?_
    | with_reducible refine within_seq ?_ ?_
    | with_reducible refine within_ask fun _ => ?_
    | with_reducible refine within_each fun _ => ?_
    | with_reducible refine within_whenP ?_
    | with_reducible refine within_upd ?_
    | with_reducible refine within_ite ?_ ?_
    | with_reducible refine within_replicate ?_
    | with_reducible refine forceState_within ?_
    | with_reducible refine isolate_within ?_
    | with_reducible refine modSheet_within ?_
    | split
    | dsimp only
  all_goals rfl
@[simp] theorem cmdSheetService_finish_avoids {o : Nat} {r : Rec} {ok : Bool} {data : Rec} {s : State} {g : Grp} (hg : g ∉ ([.cnts, .mem, .ecc, .mbx, .log, .evt, .clk, .fh, .mash, .dpd, .rx, .conv, .radio, .survey, .bias, .rffe, .coex] : List Grp)) : Avoids g (cmdSheetService.finish o r ok data s).2.2 := (cmdSheetService_finish_within (gs := [.cnts, .mem, .ecc, .mbx, .log, .evt, .clk, .fh, .mash, .dpd, .rx, .conv, .radio, .survey, .bias, .rffe, .coex]) rfl).free hg

theorem cmdOrxStatus_effect_within {o : Nat} {r : Rec} {gs : List Grp} (hgs : within [.cnts] gs = true) : Within gs (cmdOrxStatus.effect o r) := by
  refine Within.lift hgs ?_
  clear hgs
  unfold cmdOrxStatus
  dsimp only
  repeat' first
    | with_reducible exact within_skip _
    | with_reducible exact within_nil _
    | with_reducible refine within_cons ?_ ?_
    | with_reducible refine within_seq ?_ ?_
    | with_reducible refine within_ask fun _ => ?_
    | with_reducible refine within_each fun _ => ?_
    | with_reducible refine within_whenP ?_
    | with_reducible refine within_upd ?_
    | with_reducible refine within_ite ?_ ?_
    | with_reducible refine within_replicate ?_
    | with_reducible refine clearCnts_within ?_
    | split
    | dsimp only
  all_goals rfl
@[simp] theorem cmdOrxStatus_effect_avoids {o : Nat} {r : Rec} {g : Grp} (hg : g ∉ ([.cnts] : List Grp)) : Avoids g (cmdOrxStatus.effect o r) := (cmdOrxStatus_effect_within (gs := [.cnts]) rfl).free hg

theorem cmdOrxService_effect_within {o : Nat} {r : Rec} {gs : List Grp} (hgs : within [.cnts, .mem, .ecc, .mbx, .log, .evt, .clk, .fh, .mash, .dpd, .rx, .conv, .radio, .survey, .bias] gs = true) : Within gs (cmdOrxService.effect o r) := by
  refine Within.lift hgs ?_
  clear hgs
  unfold cmdOrxService
  dsimp only
  repeat' first
    | with_reducible exact within_skip _
    | with_reducible exact within_nil _
    | with_reducible refine within_cons ?_ ?_
    | with_reducible refine within_seq ?_ ?_
    | with_reducible refine within_ask fun _ => ?_
    | with_reducible refine within_each fun _ => ?_
    | with_reducible refine within_whenP ?_
    | with_reducible refine within_upd ?_
    | with_reducible refine within_ite ?_ ?_
    | with_reducible refine within_replicate ?_
    | with_reducible refine isolate_within ?_
    | split
    | dsimp only
  all_goals rfl
@[simp] theorem cmdOrxService_effect_avoids {o : Nat} {r : Rec} {g : Grp} (hg : g ∉ ([.cnts, .mem, .ecc, .mbx, .log, .evt, .clk, .fh, .mash, .dpd, .rx, .conv, .radio, .survey, .bias] : List Grp)) : Avoids g (cmdOrxService.effect o r) := (cmdOrxService_effect_within (gs := [.cnts, .mem, .ecc, .mbx, .log, .evt, .clk, .fh, .mash, .dpd, .rx, .conv, .radio, .survey, .bias]) rfl).free hg

theorem cmdOrxService_finish_within {o : Nat} {r : Rec} {ok : Bool} {data : Rec} {s : State} {gs : List Grp} (hgs : within [.cnts, .mem, .ecc, .mbx, .log, .evt, .clk, .fh, .mash, .dpd, .rx, .conv, .radio, .survey, .bias] gs = true) : Within gs (cmdOrxService.finish o r ok data s).2.2 := by
  refine Within.lift hgs ?_
  clear hgs
  unfold cmdOrxService
  dsimp only
  repeat' first
    | with_reducible exact within_skip _
    | with_reducible exact within_nil _
    | with_reducible refine within_cons ?_ ?_
    | with_reducible refine within_seq ?_ ?_
    | with_reducible refine within_ask fun _ => ?_
    | with_reducible refine within_each fun _ => ?_
    | with_reducible refine within_whenP ?_
    | with_reducible refine within_upd ?_
    | with_reducible refine within_ite ?_ ?_
    | with_reducible refine within_replicate ?_
    | with_reducible refine isolate_within ?_
    | split
    | dsimp only
  all_goals rfl
@[simp] theorem cmdOrxService_finish_avoids {o : Nat} {r : Rec} {ok : Bool} {data : Rec} {s : State} {g : Grp} (hg : g ∉ ([.cnts, .mem, .ecc, .mbx, .log, .evt, .clk, .fh, .mash, .dpd, .rx, .conv, .radio, .survey, .bias] : List Grp)) : Avoids g (cmdOrxService.finish o r ok data s).2.2 := (cmdOrxService_finish_within (gs := [.cnts, .mem, .ecc, .mbx, .log, .evt, .clk, .fh, .mash, .dpd, .rx, .conv, .radio, .survey, .bias]) rfl).free hg

theorem cmdTunerSet_load_within {b : Nat} {r : Rec} {gs : List Grp} (hgs : within [.rffe] gs = true) : Within gs (cmdTunerSet.load b r) := by
  refine Within.lift hgs ?_
  clear hgs
  unfold cmdTunerSet
  dsimp only
  repeat' first
    | with_reducible exact within_skip _
    | with_reducible exact within_nil _
    | with_reducible refine within_cons ?_ ?_
    | with_reducible refine within_seq ?_ ?_
    | with_reducible refine within_ask fun _ => ?_
    | with_reducible refine within_each fun _ => ?_
    | with_reducible refine within_whenP ?_
    | with_reducible refine within_upd ?_
    | with_reducible refine within_ite ?_ ?_
    | with_reducible refine within_replicate ?_
    | with_reducible refine critGroup_within ?_
    | split
    | dsimp only
  all_goals rfl
@[simp] theorem cmdTunerSet_load_avoids {b : Nat} {r : Rec} {g : Grp} (hg : g ∉ ([.rffe] : List Grp)) : Avoids g (cmdTunerSet.load b r) := (cmdTunerSet_load_within (gs := [.rffe]) rfl).free hg

theorem cmdTunerStatus_effect_within {o : Nat} {r : Rec} {gs : List Grp} (hgs : within [.cnts] gs = true) : Within gs (cmdTunerStatus.effect o r) := by
  refine Within.lift hgs ?_
  clear hgs
  unfold cmdTunerStatus
  dsimp only
  repeat' first
    | with_reducible exact within_skip _
    | with_reducible exact within_nil _
    | with_reducible refine within_cons ?_ ?_
    | with_reducible refine within_seq ?_ ?_
    | with_reducible refine within_ask fun _ => ?_
    | with_reducible refine within_each fun _ => ?_
    | with_reducible refine within_whenP ?_
    | with_reducible refine within_upd ?_
    | with_reducible refine within_ite ?_ ?_
    | with_reducible refine within_replicate ?_
    | with_reducible refine clearCnts_within ?_
    | split
    | dsimp only
  all_goals rfl
@[simp] theorem cmdTunerStatus_effect_avoids {o : Nat} {r : Rec} {g : Grp} (hg : g ∉ ([.cnts] : List Grp)) : Avoids g (cmdTunerStatus.effect o r) := (cmdTunerStatus_effect_within (gs := [.cnts]) rfl).free hg

theorem cmdCaptureSet_effect_within {o : Nat} {r : Rec} {gs : List Grp} (hgs : within [.cap] gs = true) : Within gs (cmdCaptureSet.effect o r) := by
  refine Within.lift hgs ?_
  clear hgs
  unfold cmdCaptureSet
  dsimp only
  repeat' first
    | with_reducible exact within_skip _
    | with_reducible exact within_nil _
    | with_reducible refine within_cons ?_ ?_
    | with_reducible refine within_seq ?_ ?_
    | with_reducible refine within_ask fun _ => ?_
    | with_reducible refine within_each fun _ => ?_
    | with_reducible refine within_whenP ?_
    | with_reducible refine within_upd ?_
    | with_reducible refine within_ite ?_ ?_
    | with_reducible refine within_replicate ?_
    | with_reducible refine modSlot_within ?_
    | split
    | dsimp only
  all_goals rfl
@[simp] theorem cmdCaptureSet_effect_avoids {o : Nat} {r : Rec} {g : Grp} (hg : g ∉ ([.cap] : List Grp)) : Avoids g (cmdCaptureSet.effect o r) := (cmdCaptureSet_effect_within (gs := [.cap]) rfl).free hg

theorem cmdCaptureRead_effect_within {o : Nat} {r : Rec} {gs : List Grp} (hgs : within [.cnts, .ecc, .mbx, .evt] gs = true) : Within gs (cmdCaptureRead.effect o r) := by
  refine Within.lift hgs ?_
  clear hgs
  unfold cmdCaptureRead
  dsimp only
  repeat' first
    | with_reducible exact within_skip _
    | with_reducible exact within_nil _
    | with_reducible refine within_cons ?_ ?_
    | with_reducible refine within_seq ?_ ?_
    | with_reducible refine within_ask fun _ => ?_
    | with_reducible refine within_each fun _ => ?_
    | with_reducible refine within_whenP ?_
    | with_reducible refine within_upd ?_
    | with_reducible refine within_ite ?_ ?_
    | with_reducible refine within_replicate ?_
    | with_reducible refine noteRead_within ?_
    | split
    | dsimp only
  all_goals rfl
@[simp] theorem cmdCaptureRead_effect_avoids {o : Nat} {r : Rec} {g : Grp} (hg : g ∉ ([.cnts, .ecc, .mbx, .evt] : List Grp)) : Avoids g (cmdCaptureRead.effect o r) := (cmdCaptureRead_effect_within (gs := [.cnts, .ecc, .mbx, .evt]) rfl).free hg

theorem cmdCaptureRelease_effect_within {o : Nat} {r : Rec} {gs : List Grp} (hgs : within [.cap] gs = true) : Within gs (cmdCaptureRelease.effect o r) := by
  refine Within.lift hgs ?_
  clear hgs
  unfold cmdCaptureRelease
  dsimp only
  repeat' first
    | with_reducible exact within_skip _
    | with_reducible exact within_nil _
    | with_reducible refine within_cons ?_ ?_
    | with_reducible refine within_seq ?_ ?_
    | with_reducible refine within_ask fun _ => ?_
    | with_reducible refine within_each fun _ => ?_
    | with_reducible refine within_whenP ?_
    | with_reducible refine within_upd ?_
    | with_reducible refine within_ite ?_ ?_
    | with_reducible refine within_replicate ?_
    | with_reducible refine modSlot_within ?_
    | split
    | dsimp only
  all_goals rfl
@[simp] theorem cmdCaptureRelease_effect_avoids {o : Nat} {r : Rec} {g : Grp} (hg : g ∉ ([.cap] : List Grp)) : Avoids g (cmdCaptureRelease.effect o r) := (cmdCaptureRelease_effect_within (gs := [.cap]) rfl).free hg

theorem cmdAnalyse_finish_within {o : Nat} {r : Rec} {ok : Bool} {data : Rec} {s : State} {gs : List Grp} (hgs : within [.free, .cap] gs = true) : Within gs (cmdAnalyse.finish o r ok data s).2.2 := by
  refine Within.lift hgs ?_
  clear hgs
  unfold cmdAnalyse
  dsimp only
  repeat' first
    | with_reducible exact within_skip _
    | with_reducible exact within_nil _
    | with_reducible refine within_cons ?_ ?_
    | with_reducible refine within_seq ?_ ?_
    | with_reducible refine within_ask fun _ => ?_
    | with_reducible refine within_each fun _ => ?_
    | with_reducible refine within_whenP ?_
    | with_reducible refine within_upd ?_
    | with_reducible refine within_ite ?_ ?_
    | with_reducible refine within_replicate ?_
    | with_reducible refine drawFree_within ?_
    | with_reducible refine modSlot_within ?_
    | split
    | dsimp only
  all_goals rfl
@[simp] theorem cmdAnalyse_finish_avoids {o : Nat} {r : Rec} {ok : Bool} {data : Rec} {s : State} {g : Grp} (hg : g ∉ ([.free, .cap] : List Grp)) : Avoids g (cmdAnalyse.finish o r ok data s).2.2 := (cmdAnalyse_finish_within (gs := [.free, .cap]) rfl).free hg

theorem cmdTxStatus_effect_within {o : Nat} {r : Rec} {gs : List Grp} (hgs : within [.cnts] gs = true) : Within gs (cmdTxStatus.effect o r) := by
  refine Within.lift hgs ?_
  clear hgs
  unfold cmdTxStatus
  dsimp only
  repeat' first
    | with_reducible exact within_skip _
    | with_reducible exact within_nil _
    | with_reducible refine within_cons ?_ ?_
    | with_reducible refine within_seq ?_ ?_
    | with_reducible refine within_ask fun _ => ?_
    | with_reducible refine within_each fun _ => ?_
    | with_reducible refine within_whenP ?_
    | with_reducible refine within_upd ?_
    | with_reducible refine within_ite ?_ ?_
    | with_reducible refine within_replicate ?_
    | with_reducible refine clearCnts_within ?_
    | split
    | dsimp only
  all_goals rfl
@[simp] theorem cmdTxStatus_effect_avoids {o : Nat} {r : Rec} {g : Grp} (hg : g ∉ ([.cnts] : List Grp)) : Avoids g (cmdTxStatus.effect o r) := (cmdTxStatus_effect_within (gs := [.cnts]) rfl).free hg

theorem cmdRxPathSet_apply_within {b : Nat} {r : Rec} {gs : List Grp} (hgs : within [.rx] gs = true) : Within gs (cmdRxPathSet.apply b r) := by
  refine Within.lift hgs ?_
  clear hgs
  unfold cmdRxPathSet
  dsimp only
  repeat' first
    | with_reducible exact within_skip _
    | with_reducible exact within_nil _
    | with_reducible refine within_cons ?_ ?_
    | with_reducible refine within_seq ?_ ?_
    | with_reducible refine within_ask fun _ => ?_
    | with_reducible refine within_each fun _ => ?_
    | with_reducible refine within_whenP ?_
    | with_reducible refine within_upd ?_
    | with_reducible refine within_ite ?_ ?_
    | with_reducible refine within_replicate ?_
    | with_reducible refine dcChange_within ?_
    | split
    | dsimp only
  all_goals rfl
@[simp] theorem cmdRxPathSet_apply_avoids {b : Nat} {r : Rec} {g : Grp} (hg : g ∉ ([.rx] : List Grp)) : Avoids g (cmdRxPathSet.apply b r) := (cmdRxPathSet_apply_within (gs := [.rx]) rfl).free hg

theorem cmdRxStatus_effect_within {o : Nat} {r : Rec} {gs : List Grp} (hgs : within [.cnts] gs = true) : Within gs (cmdRxStatus.effect o r) := by
  refine Within.lift hgs ?_
  clear hgs
  unfold cmdRxStatus
  dsimp only
  repeat' first
    | with_reducible exact within_skip _
    | with_reducible exact within_nil _
    | with_reducible refine within_cons ?_ ?_
    | with_reducible refine within_seq ?_ ?_
    | with_reducible refine within_ask fun _ => ?_
    | with_reducible refine within_each fun _ => ?_
    | with_reducible refine within_whenP ?_
    | with_reducible refine within_upd ?_
    | with_reducible refine within_ite ?_ ?_
    | with_reducible refine within_replicate ?_
    | with_reducible refine clearCnts_within ?_
    | split
    | dsimp only
  all_goals rfl
@[simp] theorem cmdRxStatus_effect_avoids {o : Nat} {r : Rec} {g : Grp} (hg : g ∉ ([.cnts] : List Grp)) : Avoids g (cmdRxStatus.effect o r) := (cmdRxStatus_effect_within (gs := [.cnts]) rfl).free hg

theorem cmdKilnConfig_effect_within {o : Nat} {r : Rec} {gs : List Grp} (hgs : within [.cfg, .cnts, .mbx, .log, .evt, .kiln, .bias] gs = true) : Within gs (cmdKilnConfig.effect o r) := by
  refine Within.lift hgs ?_
  clear hgs
  unfold cmdKilnConfig
  dsimp only
  repeat' first
    | with_reducible exact within_skip _
    | with_reducible exact within_nil _
    | with_reducible refine within_cons ?_ ?_
    | with_reducible refine within_seq ?_ ?_
    | with_reducible refine within_ask fun _ => ?_
    | with_reducible refine within_each fun _ => ?_
    | with_reducible refine within_whenP ?_
    | with_reducible refine within_upd ?_
    | with_reducible refine within_ite ?_ ?_
    | with_reducible refine within_replicate ?_
    | with_reducible refine biasFollow_within ?_
    | with_reducible refine declare_within ?_
    | with_reducible refine setSetting_within ?_
    | split
    | dsimp only
  all_goals rfl
@[simp] theorem cmdKilnConfig_effect_avoids {o : Nat} {r : Rec} {g : Grp} (hg : g ∉ ([.cfg, .cnts, .mbx, .log, .evt, .kiln, .bias] : List Grp)) : Avoids g (cmdKilnConfig.effect o r) := (cmdKilnConfig_effect_within (gs := [.cfg, .cnts, .mbx, .log, .evt, .kiln, .bias]) rfl).free hg

theorem cmdKilnBudgetSet_effect_within {o : Nat} {r : Rec} {gs : List Grp} (hgs : within [.cfg, .cnts, .mbx, .evt, .kiln] gs = true) : Within gs (cmdKilnBudgetSet.effect o r) := by
  refine Within.lift hgs ?_
  clear hgs
  unfold cmdKilnBudgetSet
  dsimp only
  repeat' first
    | with_reducible exact within_skip _
    | with_reducible exact within_nil _
    | with_reducible refine within_cons ?_ ?_
    | with_reducible refine within_seq ?_ ?_
    | with_reducible refine within_ask fun _ => ?_
    | with_reducible refine within_each fun _ => ?_
    | with_reducible refine within_whenP ?_
    | with_reducible refine within_upd ?_
    | with_reducible refine within_ite ?_ ?_
    | with_reducible refine within_replicate ?_
    | with_reducible refine followBudget_within ?_
    | with_reducible refine setSetting_within ?_
    | split
    | dsimp only
  all_goals rfl
@[simp] theorem cmdKilnBudgetSet_effect_avoids {o : Nat} {r : Rec} {g : Grp} (hg : g ∉ ([.cfg, .cnts, .mbx, .evt, .kiln] : List Grp)) : Avoids g (cmdKilnBudgetSet.effect o r) := (cmdKilnBudgetSet_effect_within (gs := [.cfg, .cnts, .mbx, .evt, .kiln]) rfl).free hg

theorem cmdKilnModelSet_effect_within {o : Nat} {r : Rec} {gs : List Grp} (hgs : within [.cfg] gs = true) : Within gs (cmdKilnModelSet.effect o r) := by
  refine Within.lift hgs ?_
  clear hgs
  unfold cmdKilnModelSet
  dsimp only
  repeat' first
    | with_reducible exact within_skip _
    | with_reducible exact within_nil _
    | with_reducible refine within_cons ?_ ?_
    | with_reducible refine within_seq ?_ ?_
    | with_reducible refine within_ask fun _ => ?_
    | with_reducible refine within_each fun _ => ?_
    | with_reducible refine within_whenP ?_
    | with_reducible refine within_upd ?_
    | with_reducible refine within_ite ?_ ?_
    | with_reducible refine within_replicate ?_
    | with_reducible refine setSetting_within ?_
    | split
    | dsimp only
  all_goals rfl
@[simp] theorem cmdKilnModelSet_effect_avoids {o : Nat} {r : Rec} {g : Grp} (hg : g ∉ ([.cfg] : List Grp)) : Avoids g (cmdKilnModelSet.effect o r) := (cmdKilnModelSet_effect_within (gs := [.cfg]) rfl).free hg

theorem cmdKilnStatus_effect_within {o : Nat} {r : Rec} {gs : List Grp} (hgs : within [.cnts] gs = true) : Within gs (cmdKilnStatus.effect o r) := by
  refine Within.lift hgs ?_
  clear hgs
  unfold cmdKilnStatus
  dsimp only
  repeat' first
    | with_reducible exact within_skip _
    | with_reducible exact within_nil _
    | with_reducible refine within_cons ?_ ?_
    | with_reducible refine within_seq ?_ ?_
    | with_reducible refine within_ask fun _ => ?_
    | with_reducible refine within_each fun _ => ?_
    | with_reducible refine within_whenP ?_
    | with_reducible refine within_upd ?_
    | with_reducible refine within_ite ?_ ?_
    | with_reducible refine within_replicate ?_
    | with_reducible refine clearCnts_within ?_
    | split
    | dsimp only
  all_goals rfl
@[simp] theorem cmdKilnStatus_effect_avoids {o : Nat} {r : Rec} {g : Grp} (hg : g ∉ ([.cnts] : List Grp)) : Avoids g (cmdKilnStatus.effect o r) := (cmdKilnStatus_effect_within (gs := [.cnts]) rfl).free hg

theorem cmdEventRead_effect_within {o : Nat} {r : Rec} {gs : List Grp} (hgs : within [.evt] gs = true) : Within gs (cmdEventRead.effect o r) := by
  refine Within.lift hgs ?_
  clear hgs
  unfold cmdEventRead
  dsimp only
  repeat' first
    | with_reducible exact within_skip _
    | with_reducible exact within_nil _
    | with_reducible refine within_cons ?_ ?_
    | with_reducible refine within_seq ?_ ?_
    | with_reducible refine within_ask fun _ => ?_
    | with_reducible refine within_each fun _ => ?_
    | with_reducible refine within_whenP ?_
    | with_reducible refine within_upd ?_
    | with_reducible refine within_ite ?_ ?_
    | with_reducible refine within_replicate ?_
    | split
    | dsimp only
  all_goals rfl
@[simp] theorem cmdEventRead_effect_avoids {o : Nat} {r : Rec} {g : Grp} (hg : g ∉ ([.evt] : List Grp)) : Avoids g (cmdEventRead.effect o r) := (cmdEventRead_effect_within (gs := [.evt]) rfl).free hg

theorem cmdEventMaskSet_effect_within {o : Nat} {r : Rec} {gs : List Grp} (hgs : within [.cfg] gs = true) : Within gs (cmdEventMaskSet.effect o r) := by
  refine Within.lift hgs ?_
  clear hgs
  unfold cmdEventMaskSet
  dsimp only
  repeat' first
    | with_reducible exact within_skip _
    | with_reducible exact within_nil _
    | with_reducible refine within_cons ?_ ?_
    | with_reducible refine within_seq ?_ ?_
    | with_reducible refine within_ask fun _ => ?_
    | with_reducible refine within_each fun _ => ?_
    | with_reducible refine within_whenP ?_
    | with_reducible refine within_upd ?_
    | with_reducible refine within_ite ?_ ?_
    | with_reducible refine within_replicate ?_
    | with_reducible refine setSetting_within ?_
    | split
    | dsimp only
  all_goals rfl
@[simp] theorem cmdEventMaskSet_effect_avoids {o : Nat} {r : Rec} {g : Grp} (hg : g ∉ ([.cfg] : List Grp)) : Avoids g (cmdEventMaskSet.effect o r) := (cmdEventMaskSet_effect_within (gs := [.cfg]) rfl).free hg

theorem cmdCommitLogRead_effect_within {o : Nat} {r : Rec} {gs : List Grp} (hgs : within [.cnts, .mbx, .log, .evt] gs = true) : Within gs (cmdCommitLogRead.effect o r) := by
  refine Within.lift hgs ?_
  clear hgs
  unfold cmdCommitLogRead
  dsimp only
  repeat' first
    | with_reducible exact within_skip _
    | with_reducible exact within_nil _
    | with_reducible refine within_cons ?_ ?_
    | with_reducible refine within_seq ?_ ?_
    | with_reducible refine within_ask fun _ => ?_
    | with_reducible refine within_each fun _ => ?_
    | with_reducible refine within_whenP ?_
    | with_reducible refine within_upd ?_
    | with_reducible refine within_ite ?_ ?_
    | with_reducible refine within_replicate ?_
    | with_reducible refine logHigh_within ?_
    | split
    | dsimp only
  all_goals rfl
@[simp] theorem cmdCommitLogRead_effect_avoids {o : Nat} {r : Rec} {g : Grp} (hg : g ∉ ([.cnts, .mbx, .log, .evt] : List Grp)) : Avoids g (cmdCommitLogRead.effect o r) := (cmdCommitLogRead_effect_within (gs := [.cnts, .mbx, .log, .evt]) rfl).free hg

theorem cmdMbxInbandSet_effect_within {o : Nat} {r : Rec} {gs : List Grp} (hgs : within [.cfg, .cnts, .mbx] gs = true) : Within gs (cmdMbxInbandSet.effect o r) := by
  refine Within.lift hgs ?_
  clear hgs
  unfold cmdMbxInbandSet
  dsimp only
  repeat' first
    | with_reducible exact within_skip _
    | with_reducible exact within_nil _
    | with_reducible refine within_cons ?_ ?_
    | with_reducible refine within_seq ?_ ?_
    | with_reducible refine within_ask fun _ => ?_
    | with_reducible refine within_each fun _ => ?_
    | with_reducible refine within_whenP ?_
    | with_reducible refine within_upd ?_
    | with_reducible refine within_ite ?_ ?_
    | with_reducible refine within_replicate ?_
    | with_reducible refine modMbx_within ?_
    | with_reducible refine countN_within ?_
    | with_reducible refine inbandSettle_within ?_
    | with_reducible refine setSetting_within ?_
    | split
    | dsimp only
  all_goals rfl
@[simp] theorem cmdMbxInbandSet_effect_avoids {o : Nat} {r : Rec} {g : Grp} (hg : g ∉ ([.cfg, .cnts, .mbx] : List Grp)) : Avoids g (cmdMbxInbandSet.effect o r) := (cmdMbxInbandSet_effect_within (gs := [.cfg, .cnts, .mbx]) rfl).free hg

theorem cmdMbxStatus_effect_within {o : Nat} {r : Rec} {gs : List Grp} (hgs : within [.cnts] gs = true) : Within gs (cmdMbxStatus.effect o r) := by
  refine Within.lift hgs ?_
  clear hgs
  unfold cmdMbxStatus
  dsimp only
  repeat' first
    | with_reducible exact within_skip _
    | with_reducible exact within_nil _
    | with_reducible refine within_cons ?_ ?_
    | with_reducible refine within_seq ?_ ?_
    | with_reducible refine within_ask fun _ => ?_
    | with_reducible refine within_each fun _ => ?_
    | with_reducible refine within_whenP ?_
    | with_reducible refine within_upd ?_
    | with_reducible refine within_ite ?_ ?_
    | with_reducible refine within_replicate ?_
    | with_reducible refine clearCnts_within ?_
    | split
    | dsimp only
  all_goals rfl
@[simp] theorem cmdMbxStatus_effect_avoids {o : Nat} {r : Rec} {g : Grp} (hg : g ∉ ([.cnts] : List Grp)) : Avoids g (cmdMbxStatus.effect o r) := (cmdMbxStatus_effect_within (gs := [.cnts]) rfl).free hg

end Sys2Proof.Laws
end

