-- ==== Sys2Proof/Laws/Reach6.lean ====
section
/-! SUPPORT. The groups of the state that each event can reach: it answers a next state and keeps every other group. -/

namespace Sys2Proof.Laws

open Sys2Proof Sys2Proof.Machine

theorem ringTake_within {want : Rec → Bool} {f : Nat → Rec → Prog} {gs : List Grp} (hgs : gs.contains .fh = true)
    (h : ∀ a b, Within gs (f a b)) : Within gs (ringTake want f) := by
  unfold ringTake
  refine within_ask fun s => ?_
  split
  · exact within_skip _
  · exact within_seq (modFh_within hgs) (h _ _)

theorem execIncrementWrite_keeps (value : Nat) (s : State) : ∃ t, execIncrementWrite value s = .next t ∧ KeepsBut [.free, .datum] s t := by
  refine ⟨_, rfl, Within.keepsBut ?_ s⟩
  repeat' first
    | with_reducible exact within_skip _
    | with_reducible exact within_nil _
    | with_reducible refine within_cons ?_ ?_
    | with_reducible refine within_seq ?_ ?_
    | with_reducible refine within_ask fun _ => ?_
    | with_reducible refine within_each fun _ => ?_
    | with_reducible refine within_whenP ?_
    | with_reducible refine within_upd ?_
    | with_reducible refine within_ite ?_ ?_
    | with_reducible refine within_replicate ?_
    | with_reducible refine incrWrite_within ?_
    | split
    | dsimp only
  all_goals rfl

theorem execTodReferenceWrite_keeps (value : Nat) (s : State) : ∃ t, execTodReferenceWrite value s = .next t ∧ KeepsBut [.datum] s t := by
  refine ⟨_, rfl, Within.keepsBut ?_ s⟩
  repeat' first
    | with_reducible exact within_skip _
    | with_reducible exact within_nil _
    | with_reducible refine within_cons ?_ ?_
    | with_reducible refine within_seq ?_ ?_
    | with_reducible refine within_ask fun _ => ?_
    | with_reducible refine within_each fun _ => ?_
    | with_reducible refine within_whenP ?_
    | with_reducible refine within_upd ?_
    | with_reducible refine within_ite ?_ ?_
    | with_reducible refine within_replicate ?_
    | with_reducible refine todWrite_within ?_
    | split
    | dsimp only
  all_goals rfl

theorem execTodRefresh_keeps (s : State) : ∃ t, execTodRefresh s = .next t ∧ KeepsBut [.datum] s t := by
  refine ⟨_, rfl, Within.keepsBut ?_ s⟩
  repeat' first
    | with_reducible exact within_skip _
    | with_reducible exact within_nil _
    | with_reducible refine within_cons ?_ ?_
    | with_reducible refine within_seq ?_ ?_
    | with_reducible refine within_ask fun _ => ?_
    | with_reducible refine within_each fun _ => ?_
    | with_reducible refine within_whenP ?_
    | with_reducible refine within_upd ?_
    | with_reducible refine within_ite ?_ ?_
    | with_reducible refine within_replicate ?_
    | with_reducible refine modDatum_within ?_
    | with_reducible refine setInc_within ?_
    | with_reducible refine setRef_within ?_
    | split
    | dsimp only
  all_goals rfl

theorem execDatumCtrlStep_keeps (s : State) : ∃ t, execDatumCtrlStep s = .next t ∧ KeepsBut [.cnts, .mbx, .evt, .clk, .datum, .sect, .fh, .tx, .radio, .rffe] s t := by
  refine ⟨_, rfl, Within.keepsBut ?_ s⟩
  repeat' first
    | with_reducible exact within_skip _
    | with_reducible exact within_nil _
    | with_reducible refine within_cons ?_ ?_
    | with_reducible refine within_seq ?_ ?_
    | with_reducible refine within_ask fun _ => ?_
    | with_reducible refine within_each fun _ => ?_
    | with_reducible refine within_whenP ?_
    | with_reducible refine within_upd ?_
    | with_reducible refine within_ite ?_ ?_
    | with_reducible refine within_replicate ?_
    | with_reducible refine ctrlStep_within ?_
    | split
    | dsimp only
  all_goals rfl

theorem execPtpMessage_keeps (s : State) : ∃ t, execPtpMessage s = .next t ∧ KeepsBut [.cnts, .mbx, .evt, .clk, .datum, .sect, .fh, .tx, .radio, .rffe] s t := by
  refine ⟨_, rfl, Within.keepsBut ?_ s⟩
  repeat' first
    | with_reducible exact within_skip _
    | with_reducible exact within_nil _
    | with_reducible refine within_cons ?_ ?_
    | with_reducible refine within_seq ?_ ?_
    | with_reducible refine within_ask fun _ => ?_
    | with_reducible refine within_each fun _ => ?_
    | with_reducible refine within_whenP ?_
    | with_reducible refine within_upd ?_
    | with_reducible refine within_ite ?_ ?_
    | with_reducible refine within_replicate ?_
    | with_reducible refine owdRequest_within ?_
    | with_reducible refine ptpMessage_within ?_
    | with_reducible refine ringTake_within ?_ fun _ _ => ?_
    | split
    | dsimp only
  all_goals rfl

theorem execEcpriOwdResponse_keeps (s : State) : ∃ t, execEcpriOwdResponse s = .next t ∧ KeepsBut [.datum, .fh] s t := by
  refine ⟨_, rfl, Within.keepsBut ?_ s⟩
  repeat' first
    | with_reducible exact within_skip _
    | with_reducible exact within_nil _
    | with_reducible refine within_cons ?_ ?_
    | with_reducible refine within_seq ?_ ?_
    | with_reducible refine within_ask fun _ => ?_
    | with_reducible refine within_each fun _ => ?_
    | with_reducible refine within_whenP ?_
    | with_reducible refine within_upd ?_
    | with_reducible refine within_ite ?_ ?_
    | with_reducible refine within_replicate ?_
    | with_reducible refine modDatum_within ?_
    | with_reducible refine ringTake_within ?_ fun _ _ => ?_
    | split
    | dsimp only
  all_goals rfl

theorem execDelayReqSend_keeps (s : State) : ∃ t, execDelayReqSend s = .next t ∧ KeepsBut [.clk, .datum, .fh] s t := by
  refine ⟨_, rfl, Within.keepsBut ?_ s⟩
  repeat' first
    | with_reducible exact within_skip _
    | with_reducible exact within_nil _
    | with_reducible refine within_cons ?_ ?_
    | with_reducible refine within_seq ?_ ?_
    | with_reducible refine within_ask fun _ => ?_
    | with_reducible refine within_each fun _ => ?_
    | with_reducible refine within_whenP ?_
    | with_reducible refine within_upd ?_
    | with_reducible refine within_ite ?_ ?_
    | with_reducible refine within_replicate ?_
    | with_reducible refine modFh_within ?_
    | with_reducible refine ringSend_within ?_
    | with_reducible refine stamp_within ?_
    | split
    | dsimp only
  all_goals rfl

theorem execPtpTransmit_keeps (capture fecPos : Nat) (s : State) : ∃ t, execPtpTransmit capture fecPos s = .next t ∧ KeepsBut [.tots, .datum, .fh] s t := by
  refine ⟨_, rfl, Within.keepsBut ?_ s⟩
  repeat' first
    | with_reducible exact within_skip _
    | with_reducible exact within_nil _
    | with_reducible refine within_cons ?_ ?_
    | with_reducible refine within_seq ?_ ?_
    | with_reducible refine within_ask fun _ => ?_
    | with_reducible refine within_each fun _ => ?_
    | with_reducible refine within_whenP ?_
    | with_reducible refine within_upd ?_
    | with_reducible refine within_ite ?_ ?_
    | with_reducible refine within_replicate ?_
    | with_reducible refine modDatum_within ?_
    | with_reducible refine onWire_within ?_
    | split
    | dsimp only
  all_goals rfl

theorem execAnnounceTimeout_keeps (s : State) : ∃ t, execAnnounceTimeout s = .next t ∧ KeepsBut [.cnts, .mbx, .evt, .clk, .datum] s t := by
  refine ⟨_, rfl, Within.keepsBut ?_ s⟩
  repeat' first
    | with_reducible exact within_skip _
    | with_reducible exact within_nil _
    | with_reducible refine within_cons ?_ ?_
    | with_reducible refine within_seq ?_ ?_
    | with_reducible refine within_ask fun _ => ?_
    | with_reducible refine within_each fun _ => ?_
    | with_reducible refine within_whenP ?_
    | with_reducible refine within_upd ?_
    | with_reducible refine within_ite ?_ ?_
    | with_reducible refine within_replicate ?_
    | with_reducible refine modDatum_within ?_
    | with_reducible refine setServo_within ?_
    | split
    | dsimp only
  all_goals rfl

theorem execDatumHoldoverExpired_keeps (s : State) : ∃ t, execDatumHoldoverExpired s = .next t ∧ KeepsBut [.cnts, .mbx, .evt, .datum] s t := by
  refine ⟨_, rfl, Within.keepsBut ?_ s⟩
  repeat' first
    | with_reducible exact within_skip _
    | with_reducible exact within_nil _
    | with_reducible refine within_cons ?_ ?_
    | with_reducible refine within_seq ?_ ?_
    | with_reducible refine within_ask fun _ => ?_
    | with_reducible refine within_each fun _ => ?_
    | with_reducible refine within_whenP ?_
    | with_reducible refine within_upd ?_
    | with_reducible refine within_ite ?_ ?_
    | with_reducible refine within_replicate ?_
    | with_reducible refine modDatum_within ?_
    | with_reducible refine raise_within ?_
    | split
    | dsimp only
  all_goals rfl

theorem execPpsOutEdge_keeps (s : State) : ∃ t, execPpsOutEdge s = .next t ∧ KeepsBut [.datum] s t := by
  refine ⟨_, rfl, Within.keepsBut ?_ s⟩
  repeat' first
    | with_reducible exact within_skip _
    | with_reducible exact within_nil _
    | with_reducible refine within_cons ?_ ?_
    | with_reducible refine within_seq ?_ ?_
    | with_reducible refine within_ask fun _ => ?_
    | with_reducible refine within_each fun _ => ?_
    | with_reducible refine within_whenP ?_
    | with_reducible refine within_upd ?_
    | with_reducible refine within_ite ?_ ?_
    | with_reducible refine within_replicate ?_
    | with_reducible refine modDatum_within ?_
    | with_reducible refine writePpsNext_within ?_
    | split
    | dsimp only
  all_goals rfl

theorem execPpsOutFall_keeps (s : State) : ∃ t, execPpsOutFall s = .next t ∧ KeepsBut [.datum] s t := by
  refine ⟨_, rfl, Within.keepsBut ?_ s⟩
  repeat' first
    | with_reducible exact within_skip _
    | with_reducible exact within_nil _
    | with_reducible refine within_cons ?_ ?_
    | with_reducible refine within_seq ?_ ?_
    | with_reducible refine within_ask fun _ => ?_
    | with_reducible refine within_each fun _ => ?_
    | with_reducible refine within_whenP ?_
    | with_reducible refine within_upd ?_
    | with_reducible refine within_ite ?_ ?_
    | with_reducible refine within_replicate ?_
    | with_reducible refine modDatum_within ?_
    | split
    | dsimp only
  all_goals rfl

theorem execPpsInEdge_keeps (falling : Bool) (s : State) : ∃ t, execPpsInEdge falling s = .next t ∧ KeepsBut [.cnts, .mbx, .evt, .clk, .datum, .sect, .fh, .tx, .radio, .rffe] s t := by
  refine ⟨_, rfl, Within.keepsBut ?_ s⟩
  repeat' first
    | with_reducible exact within_skip _
    | with_reducible exact within_nil _
    | with_reducible refine within_cons ?_ ?_
    | with_reducible refine within_seq ?_ ?_
    | with_reducible refine within_ask fun _ => ?_
    | with_reducible refine within_each fun _ => ?_
    | with_reducible refine within_whenP ?_
    | with_reducible refine within_upd ?_
    | with_reducible refine within_ite ?_ ?_
    | with_reducible refine within_replicate ?_
    | with_reducible refine modDatum_within ?_
    | with_reducible refine applyStep_within ?_
    | with_reducible refine servoMeasure_within ?_
    | with_reducible refine setServo_within ?_
    | split
    | dsimp only
  all_goals rfl

theorem execPpsInTimeout_keeps (s : State) : ∃ t, execPpsInTimeout s = .next t ∧ KeepsBut [.cnts, .mbx, .evt, .clk, .datum] s t := by
  refine ⟨_, rfl, Within.keepsBut ?_ s⟩
  repeat' first
    | with_reducible exact within_skip _
    | with_reducible exact within_nil _
    | with_reducible refine within_cons ?_ ?_
    | with_reducible refine within_seq ?_ ?_
    | with_reducible refine within_ask fun _ => ?_
    | with_reducible refine within_each fun _ => ?_
    | with_reducible refine within_whenP ?_
    | with_reducible refine within_upd ?_
    | with_reducible refine within_ite ?_ ?_
    | with_reducible refine within_replicate ?_
    | with_reducible refine modDatum_within ?_
    | with_reducible refine setServo_within ?_
    | split
    | dsimp only
  all_goals rfl

theorem execDrainComplete_keeps (dom : Nat) (s : State) : ∃ t, execDrainComplete dom s = .next t ∧ KeepsBut [.clk, .pwr] s t := by
  refine ⟨_, rfl, Within.keepsBut ?_ s⟩
  repeat' first
    | with_reducible exact within_skip _
    | with_reducible exact within_nil _
    | with_reducible refine within_cons ?_ ?_
    | with_reducible refine within_seq ?_ ?_
    | with_reducible refine within_ask fun _ => ?_
    | with_reducible refine within_each fun _ => ?_
    | with_reducible refine within_whenP ?_
    | with_reducible refine within_upd ?_
    | with_reducible refine within_ite ?_ ?_
    | with_reducible refine within_replicate ?_
    | with_reducible refine quiesced_within ?_
    | split
    | dsimp only
  all_goals rfl

theorem execDrainTimeoutExpiry_keeps (dom : Nat) (left : List (Nat × Nat)) (s : State) : ∃ t, execDrainTimeoutExpiry dom left s = .next t ∧ KeepsBut [.cnts, .host, .mbx, .evt, .clk, .pwr, .mash, .dpd] s t := by
  refine ⟨_, rfl, Within.keepsBut ?_ s⟩
  repeat' first
    | with_reducible exact within_skip _
    | with_reducible exact within_nil _
    | with_reducible refine within_cons ?_ ?_
    | with_reducible refine within_seq ?_ ?_
    | with_reducible refine within_ask fun _ => ?_
    | with_reducible refine within_each fun _ => ?_
    | with_reducible refine within_whenP ?_
    | with_reducible refine within_upd ?_
    | with_reducible refine within_ite ?_ ?_
    | with_reducible refine within_replicate ?_
    | with_reducible refine modPwr_within ?_
    | with_reducible refine busAbort_within ?_
    | with_reducible refine count_within ?_
    | with_reducible refine failDomain_within ?_
    | with_reducible refine quiesced_within ?_
    | with_reducible refine raise_within ?_
    | with_reducible refine setDom_within ?_
    | split
    | dsimp only
  all_goals rfl

theorem execDomainOff_keeps (dom : Nat) (s : State) : ∃ t, execDomainOff dom s = .next t ∧ KeepsBut [.cfg, .regs, .cnts, .tots, .mem, .host, .mbx, .clk, .datum, .pwr, .sect, .fh, .grat, .mash, .tx, .dpd, .rx, .conv, .hk, .radio, .survey, .bias, .rffe] s t := by
  refine ⟨_, rfl, Within.keepsBut ?_ s⟩
  repeat' first
    | with_reducible exact within_skip _
    | with_reducible exact within_nil _
    | with_reducible refine within_cons ?_ ?_
    | with_reducible refine within_seq ?_ ?_
    | with_reducible refine within_ask fun _ => ?_
    | with_reducible refine within_each fun _ => ?_
    | with_reducible refine within_whenP ?_
    | with_reducible refine within_upd ?_
    | with_reducible refine within_ite ?_ ?_
    | with_reducible refine within_replicate ?_
    | with_reducible refine modHost_within ?_
    | with_reducible refine modPwr_within ?_
    | with_reducible refine saveCapture_within ?_
    | with_reducible refine setDom_within ?_
    | with_reducible refine stamp_within ?_
    | with_reducible refine wipeDomain_within ?_
    | split
    | dsimp only
  all_goals rfl

theorem execPowerSwitchClose_keeps (dom : Nat) (s : State) : ∃ t, execPowerSwitchClose dom s = .next t ∧ KeepsBut [.clk, .pwr] s t := by
  refine ⟨_, rfl, Within.keepsBut ?_ s⟩
  repeat' first
    | with_reducible exact within_skip _
    | with_reducible exact within_nil _
    | with_reducible refine within_cons ?_ ?_
    | with_reducible refine within_seq ?_ ?_
    | with_reducible refine within_ask fun _ => ?_
    | with_reducible refine within_each fun _ => ?_
    | with_reducible refine within_whenP ?_
    | with_reducible refine within_upd ?_
    | with_reducible refine within_ite ?_ ?_
    | with_reducible refine within_replicate ?_
    | with_reducible refine failDomain_within ?_
    | with_reducible refine setDom_within ?_
    | with_reducible refine stamp_within ?_
    | split
    | dsimp only
  all_goals rfl

theorem execMemoryInitDone_keeps (dom : Nat) (s : State) : ∃ t, execMemoryInitDone dom s = .next t ∧ KeepsBut [.mem, .ecc, .pwr, .sect] s t := by
  refine ⟨_, rfl, Within.keepsBut ?_ s⟩
  repeat' first
    | with_reducible exact within_skip _
    | with_reducible exact within_nil _
    | with_reducible refine within_cons ?_ ?_
    | with_reducible refine within_seq ?_ ?_
    | with_reducible refine within_ask fun _ => ?_
    | with_reducible refine within_each fun _ => ?_
    | with_reducible refine within_whenP ?_
    | with_reducible refine within_upd ?_
    | with_reducible refine within_ite ?_ ?_
    | with_reducible refine within_replicate ?_
    | with_reducible refine clearCask_within ?_
    | with_reducible refine initUncasked_within ?_
    | with_reducible refine setDom_within ?_
    | split
    | dsimp only
  all_goals rfl

theorem execWakeScrubDone_keeps (dom bad : Nat) (s : State) : ∃ t, execWakeScrubDone dom bad s = .next t ∧ KeepsBut [.cnts, .tots, .mem, .ecc, .host, .mbx, .log, .evt, .txn, .clk, .datum, .pwr, .kiln, .boot, .cap, .sect, .fh, .mash, .tx, .dpd, .rx, .conv, .radio, .survey, .bias, .rffe] s t := by
  refine ⟨_, rfl, Within.keepsBut ?_ s⟩
  repeat' first
    | with_reducible exact within_skip _
    | with_reducible exact within_nil _
    | with_reducible refine within_cons ?_ ?_
    | with_reducible refine within_seq ?_ ?_
    | with_reducible refine within_ask fun _ => ?_
    | with_reducible refine within_each fun _ => ?_
    | with_reducible refine within_whenP ?_
    | with_reducible refine within_upd ?_
    | with_reducible refine within_ite ?_ ?_
    | with_reducible refine within_replicate ?_
    | with_reducible refine modEcc_within ?_
    | with_reducible refine modPwr_within ?_
    | with_reducible refine clearCask_within ?_
    | with_reducible refine setDom_within ?_
    | with_reducible refine startReset_within ?_
    | split
    | dsimp only
  all_goals rfl

theorem execSavelistRestore_keeps (dom : Nat) (bad : List Nat) (s : State) : ∃ t, execSavelistRestore dom bad s = .next t ∧ KeepsBut [.cfg, .regs, .cnts, .host, .mbx, .evt, .clk, .datum, .pwr, .survey] s t := by
  refine ⟨_, rfl, Within.keepsBut ?_ s⟩
  repeat' first
    | with_reducible exact within_skip _
    | with_reducible exact within_nil _
    | with_reducible refine within_cons ?_ ?_
    | with_reducible refine within_seq ?_ ?_
    | with_reducible refine within_ask fun _ => ?_
    | with_reducible refine within_each fun _ => ?_
    | with_reducible refine within_whenP ?_
    | with_reducible refine within_upd ?_
    | with_reducible refine within_ite ?_ ?_
    | with_reducible refine within_replicate ?_
    | with_reducible refine count_within ?_
    | with_reducible refine raise_within ?_
    | with_reducible refine regPoke_within ?_
    | with_reducible refine setDom_within ?_
    | split
    | dsimp only
  all_goals rfl

theorem execDomainOn_keeps (dom : Nat) (s : State) : ∃ t, execDomainOn dom s = .next t ∧ KeepsBut [.cnts, .mem, .ecc, .mbx, .evt, .clk, .datum, .pwr, .kiln, .sect, .fh, .dpd, .conv, .hk, .bias] s t := by
  refine ⟨_, rfl, Within.keepsBut ?_ s⟩
  repeat' first
    | with_reducible exact within_skip _
    | with_reducible exact within_nil _
    | with_reducible refine within_cons ?_ ?_
    | with_reducible refine within_seq ?_ ?_
    | with_reducible refine within_ask fun _ => ?_
    | with_reducible refine within_each fun _ => ?_
    | with_reducible refine within_whenP ?_
    | with_reducible refine within_upd ?_
    | with_reducible refine within_ite ?_ ?_
    | with_reducible refine within_replicate ?_
    | with_reducible refine modEcc_within ?_
    | with_reducible refine modKiln_within ?_
    | with_reducible refine raise_within ?_
    | with_reducible refine setDom_within ?_
    | with_reducible refine wakeConsequences_within ?_
    | split
    | dsimp only
  all_goals rfl

theorem execWakeAfterExpiry_keeps (s : State) : ∃ t, execWakeAfterExpiry s = .next t ∧ KeepsBut [.pwr] s t := by
  refine ⟨_, rfl, Within.keepsBut ?_ s⟩
  repeat' first
    | with_reducible exact within_skip _
    | with_reducible exact within_nil _
    | with_reducible refine within_cons ?_ ?_
    | with_reducible refine within_seq ?_ ?_
    | with_reducible refine within_ask fun _ => ?_
    | with_reducible refine within_each fun _ => ?_
    | with_reducible refine within_whenP ?_
    | with_reducible refine within_upd ?_
    | with_reducible refine within_ite ?_ ?_
    | with_reducible refine within_replicate ?_
    | with_reducible refine modPwr_within ?_
    | with_reducible refine beginWake_within ?_
    | split
    | dsimp only
  all_goals rfl

theorem execFioStart_keeps (s : State) : ∃ t, execFioStart s = .next t ∧ KeepsBut [.pwr] s t := by
  refine ⟨_, rfl, Within.keepsBut ?_ s⟩
  repeat' first
    | with_reducible exact within_skip _
    | with_reducible exact within_nil _
    | with_reducible refine within_cons ?_ ?_
    | with_reducible refine within_seq ?_ ?_
    | with_reducible refine within_ask fun _ => ?_
    | with_reducible refine within_each fun _ => ?_
    | with_reducible refine within_whenP ?_
    | with_reducible refine within_upd ?_
    | with_reducible refine within_ite ?_ ?_
    | with_reducible refine within_replicate ?_
    | with_reducible refine modPwr_within ?_
    | split
    | dsimp only
  all_goals rfl

theorem execPowerUp_keeps (s : State) : ∃ t, execPowerUp s = .next t ∧ KeepsBut [.clk, .pwr] s t := by
  refine ⟨_, rfl, Within.keepsBut ?_ s⟩
  repeat' first
    | with_reducible exact within_skip _
    | with_reducible exact within_nil _
    | with_reducible refine within_cons ?_ ?_
    | with_reducible refine within_seq ?_ ?_
    | with_reducible refine within_ask fun _ => ?_
    | with_reducible refine within_each fun _ => ?_
    | with_reducible refine within_whenP ?_
    | with_reducible refine within_upd ?_
    | with_reducible refine within_ite ?_ ?_
    | with_reducible refine within_replicate ?_
    | with_reducible refine modPwr_within ?_
    | with_reducible refine stamp_within ?_
    | split
    | dsimp only
  all_goals rfl

theorem execAoLogicRelease_keeps (s : State) : ∃ t, execAoLogicRelease s = .next t ∧ KeepsBut [.cnts, .ecc, .clk, .pwr] s t := by
  refine ⟨_, rfl, Within.keepsBut ?_ s⟩
  repeat' first
    | with_reducible exact within_skip _
    | with_reducible exact within_nil _
    | with_reducible refine within_cons ?_ ?_
    | with_reducible refine within_seq ?_ ?_
    | with_reducible refine within_ask fun _ => ?_
    | with_reducible refine within_each fun _ => ?_
    | with_reducible refine within_whenP ?_
    | with_reducible refine within_upd ?_
    | with_reducible refine within_ite ?_ ?_
    | with_reducible refine within_replicate ?_
    | with_reducible refine modPwr_within ?_
    | with_reducible refine stamp_within ?_
    | with_reducible refine tmrPowerUp_within ?_
    | split
    | dsimp only
  all_goals rfl

theorem execPowerGoodHeld_keeps (rail : Nat) (s : State) : ∃ t, execPowerGoodHeld rail s = .next t ∧ KeepsBut [.cnts, .tots, .ecc, .host, .mbx, .log, .evt, .txn, .clk, .datum, .pwr, .kiln, .boot, .cap, .fh, .mash, .tx, .dpd, .rx, .conv, .radio, .survey, .bias, .rffe] s t := by
  refine ⟨_, rfl, Within.keepsBut ?_ s⟩
  repeat' first
    | with_reducible exact within_skip _
    | with_reducible exact within_nil _
    | with_reducible refine within_cons ?_ ?_
    | with_reducible refine within_seq ?_ ?_
    | with_reducible refine within_ask fun _ => ?_
    | with_reducible refine within_each fun _ => ?_
    | with_reducible refine within_whenP ?_
    | with_reducible refine within_upd ?_
    | with_reducible refine within_ite ?_ ?_
    | with_reducible refine within_replicate ?_
    | with_reducible refine modPwr_within ?_
    | with_reducible refine railsWake_within ?_
    | with_reducible refine stamp_within ?_
    | split
    | dsimp only
  all_goals rfl

theorem execRailFault_keeps (rail : Nat) (s : State) : ∃ t, execRailFault rail s = .next t ∧ KeepsBut [.cfg, .regs, .cnts, .tots, .free, .mem, .ecc, .host, .mbx, .evt, .datum, .pwr, .sect, .fh, .grat, .mash, .tx, .dpd, .rx, .conv, .hk, .radio, .survey, .bias, .rffe] s t := by
  refine ⟨_, rfl, Within.keepsBut ?_ s⟩
  repeat' first
    | with_reducible exact within_skip _
    | with_reducible exact within_nil _
    | with_reducible refine within_cons ?_ ?_
    | with_reducible refine within_seq ?_ ?_
    | with_reducible refine within_ask fun _ => ?_
    | with_reducible refine within_each fun _ => ?_
    | with_reducible refine within_whenP ?_
    | with_reducible refine within_upd ?_
    | with_reducible refine within_ite ?_ ?_
    | with_reducible refine within_replicate ?_
    | with_reducible refine modBias_within ?_
    | with_reducible refine modPwr_within ?_
    | with_reducible refine drawFree_within ?_
    | with_reducible refine forceAllOff_within ?_
    | with_reducible refine raiseFl_within ?_
    | with_reducible refine setFault_within ?_
    | with_reducible refine tmrWrite_within ?_
    | split
    | dsimp only
  all_goals rfl

theorem execRailRestartTimeout_keeps (s : State) : ∃ t, execRailRestartTimeout s = .next t ∧ KeepsBut [.clk, .pwr] s t := by
  refine ⟨_, rfl, Within.keepsBut ?_ s⟩
  repeat' first
    | with_reducible exact within_skip _
    | with_reducible exact within_nil _
    | with_reducible refine within_cons ?_ ?_
    | with_reducible refine within_seq ?_ ?_
    | with_reducible refine within_ask fun _ => ?_
    | with_reducible refine within_each fun _ => ?_
    | with_reducible refine within_whenP ?_
    | with_reducible refine within_upd ?_
    | with_reducible refine within_ite ?_ ?_
    | with_reducible refine within_replicate ?_
    | with_reducible refine modPwr_within ?_
    | with_reducible refine stamp_within ?_
    | split
    | dsimp only
  all_goals rfl

theorem execPwrCtrlRestart_keeps (s : State) : ∃ t, execPwrCtrlRestart s = .next t ∧ KeepsBut [.clk, .pwr] s t := by
  refine ⟨_, rfl, Within.keepsBut ?_ s⟩
  repeat' first
    | with_reducible exact within_skip _
    | with_reducible exact within_nil _
    | with_reducible refine within_cons ?_ ?_
    | with_reducible refine within_seq ?_ ?_
    | with_reducible refine within_ask fun _ => ?_
    | with_reducible refine within_each fun _ => ?_
    | with_reducible refine within_whenP ?_
    | with_reducible refine within_upd ?_
    | with_reducible refine within_ite ?_ ?_
    | with_reducible refine within_replicate ?_
    | with_reducible refine pwrRestart_within ?_
    | split
    | dsimp only
  all_goals rfl

theorem execPwrCtrlWake_keeps (s : State) : ∃ t, execPwrCtrlWake s = .next t ∧ KeepsBut [.cnts, .tots, .ecc, .host, .mbx, .log, .evt, .txn, .clk, .datum, .pwr, .kiln, .boot, .cap, .fh, .mash, .tx, .dpd, .rx, .conv, .radio, .survey, .bias, .rffe] s t := by
  refine ⟨_, rfl, Within.keepsBut ?_ s⟩
  repeat' first
    | with_reducible exact within_skip _
    | with_reducible exact within_nil _
    | with_reducible refine within_cons ?_ ?_
    | with_reducible refine within_seq ?_ ?_
    | with_reducible refine within_ask fun _ => ?_
    | with_reducible refine within_each fun _ => ?_
    | with_reducible refine within_whenP ?_
    | with_reducible refine within_upd ?_
    | with_reducible refine within_ite ?_ ?_
    | with_reducible refine within_replicate ?_
    | with_reducible refine pwrWake_within ?_
    | split
    | dsimp only
  all_goals rfl

theorem execReset_keeps (cause : Nat) (s : State) : ∃ t, execReset cause s = .next t ∧ KeepsBut [.cnts, .tots, .ecc, .host, .mbx, .log, .evt, .txn, .clk, .datum, .pwr, .kiln, .boot, .cap, .fh, .mash, .tx, .dpd, .rx, .conv, .radio, .survey, .bias, .rffe] s t := by
  refine ⟨_, rfl, Within.keepsBut ?_ s⟩
  repeat' first
    | with_reducible exact within_skip _
    | with_reducible exact within_nil _
    | with_reducible refine within_cons ?_ ?_
    | with_reducible refine within_seq ?_ ?_
    | with_reducible refine within_ask fun _ => ?_
    | with_reducible refine within_each fun _ => ?_
    | with_reducible refine within_whenP ?_
    | with_reducible refine within_upd ?_
    | with_reducible refine within_ite ?_ ?_
    | with_reducible refine within_replicate ?_
    | with_reducible refine startReset_within ?_
    | split
    | dsimp only
  all_goals rfl

theorem execResetNAssert_keeps (lowNs : Nat) (s : State) : ∃ t, execResetNAssert lowNs s = .next t ∧ KeepsBut [.cnts, .tots, .free, .ecc, .host, .mbx, .log, .evt, .txn, .clk, .datum, .pwr, .kiln, .boot, .cap, .fh, .mash, .tx, .dpd, .rx, .conv, .radio, .survey, .bias, .rffe] s t := by
  refine ⟨_, rfl, Within.keepsBut ?_ s⟩
  repeat' first
    | with_reducible exact within_skip _
    | with_reducible exact within_nil _
    | with_reducible refine within_cons ?_ ?_
    | with_reducible refine within_seq ?_ ?_
    | with_reducible refine within_ask fun _ => ?_
    | with_reducible refine within_each fun _ => ?_
    | with_reducible refine within_whenP ?_
    | with_reducible refine within_upd ?_
    | with_reducible refine within_ite ?_ ?_
    | with_reducible refine within_replicate ?_
    | with_reducible refine modBoot_within ?_
    | with_reducible refine drawFree_within ?_
    | with_reducible refine startReset_within ?_
    | split
    | dsimp only
  all_goals rfl

theorem execResetNRelease_keeps (prof : Nat) (s : State) : ∃ t, execResetNRelease prof s = .next t ∧ KeepsBut [.clk, .boot] s t := by
  refine ⟨_, rfl, Within.keepsBut ?_ s⟩
  repeat' first
    | with_reducible exact within_skip _
    | with_reducible exact within_nil _
    | with_reducible refine within_cons ?_ ?_
    | with_reducible refine within_seq ?_ ?_
    | with_reducible refine within_ask fun _ => ?_
    | with_reducible refine within_each fun _ => ?_
    | with_reducible refine within_whenP ?_
    | with_reducible refine within_upd ?_
    | with_reducible refine within_ite ?_ ?_
    | with_reducible refine within_replicate ?_
    | with_reducible refine modBoot_within ?_
    | with_reducible refine stamp_within ?_
    | split
    | dsimp only
  all_goals rfl

theorem execWatchdogExpiry_keeps (s : State) : ∃ t, execWatchdogExpiry s = .next t ∧ KeepsBut [.cnts, .tots, .ecc, .host, .mbx, .log, .evt, .txn, .clk, .datum, .pwr, .kiln, .boot, .cap, .fh, .mash, .tx, .dpd, .rx, .conv, .radio, .survey, .bias, .rffe] s t := by
  refine ⟨_, rfl, Within.keepsBut ?_ s⟩
  repeat' first
    | with_reducible exact within_skip _
    | with_reducible exact within_nil _
    | with_reducible refine within_cons ?_ ?_
    | with_reducible refine within_seq ?_ ?_
    | with_reducible refine within_ask fun _ => ?_
    | with_reducible refine within_each fun _ => ?_
    | with_reducible refine within_whenP ?_
    | with_reducible refine within_upd ?_
    | with_reducible refine within_ite ?_ ?_
    | with_reducible refine within_replicate ?_
    | with_reducible refine startReset_within ?_
    | split
    | dsimp only
  all_goals rfl

theorem execLockstepMismatch_keeps (s : State) : ∃ t, execLockstepMismatch s = .next t ∧ KeepsBut [.cnts, .tots, .ecc, .host, .mbx, .log, .evt, .txn, .clk, .datum, .pwr, .kiln, .boot, .cap, .fh, .mash, .tx, .dpd, .rx, .conv, .radio, .survey, .bias, .rffe] s t := by
  refine ⟨_, rfl, Within.keepsBut ?_ s⟩
  repeat' first
    | with_reducible exact within_skip _
    | with_reducible exact within_nil _
    | with_reducible refine within_cons ?_ ?_
    | with_reducible refine within_seq ?_ ?_
    | with_reducible refine within_ask fun _ => ?_
    | with_reducible refine within_each fun _ => ?_
    | with_reducible refine within_whenP ?_
    | with_reducible refine within_upd ?_
    | with_reducible refine within_ite ?_ ?_
    | with_reducible refine within_replicate ?_
    | with_reducible refine raiseFl_within ?_
    | with_reducible refine setFault_within ?_
    | with_reducible refine startReset_within ?_
    | split
    | dsimp only
  all_goals rfl

theorem execCommandResetTimeout_keeps (s : State) : ∃ t, execCommandResetTimeout s = .next t ∧ KeepsBut [.cnts, .tots, .ecc, .host, .mbx, .log, .evt, .txn, .clk, .datum, .pwr, .kiln, .boot, .cap, .fh, .mash, .tx, .dpd, .rx, .conv, .radio, .survey, .bias, .rffe] s t := by
  refine ⟨_, rfl, Within.keepsBut ?_ s⟩
  repeat' first
    | with_reducible exact within_skip _
    | with_reducible exact within_nil _
    | with_reducible refine within_cons ?_ ?_
    | with_reducible refine within_seq ?_ ?_
    | with_reducible refine within_ask fun _ => ?_
    | with_reducible refine within_each fun _ => ?_
    | with_reducible refine within_whenP ?_
    | with_reducible refine within_upd ?_
    | with_reducible refine within_ite ?_ ?_
    | with_reducible refine within_replicate ?_
    | with_reducible refine startReset_within ?_
    | split
    | dsimp only
  all_goals rfl

theorem execTestEnChange_keeps (high : Bool) (s : State) : ∃ t, execTestEnChange high s = .next t ∧ KeepsBut [.cnts, .tots, .ecc, .host, .mbx, .log, .evt, .txn, .clk, .datum, .pwr, .kiln, .boot, .cap, .fh, .mash, .tx, .dpd, .rx, .conv, .radio, .survey, .bias, .rffe, .tap] s t := by
  refine ⟨_, rfl, Within.keepsBut ?_ s⟩
  repeat' first
    | with_reducible exact within_skip _
    | with_reducible exact within_nil _
    | with_reducible refine within_cons ?_ ?_
    | with_reducible refine within_seq ?_ ?_
    | with_reducible refine within_ask fun _ => ?_
    | with_reducible refine within_each fun _ => ?_
    | with_reducible refine within_whenP ?_
    | with_reducible refine within_upd ?_
    | with_reducible refine within_ite ?_ ?_
    | with_reducible refine within_replicate ?_
    | with_reducible refine modBoot_within ?_
    | with_reducible refine modTap_within ?_
    | with_reducible refine stamp_within ?_
    | with_reducible refine startReset_within ?_
    | split
    | dsimp only
  all_goals rfl

theorem execBootRomStart_keeps (s : State) : ∃ t, execBootRomStart s = .next t ∧ KeepsBut [.cnts, .mem, .ecc, .clk, .pwr, .boot, .sect] s t := by
  refine ⟨_, rfl, Within.keepsBut ?_ s⟩
  repeat' first
    | with_reducible exact within_skip _
    | with_reducible exact within_nil _
    | with_reducible refine within_cons ?_ ?_
    | with_reducible refine within_seq ?_ ?_
    | with_reducible refine within_ask fun _ => ?_
    | with_reducible refine within_each fun _ => ?_
    | with_reducible refine within_whenP ?_
    | with_reducible refine within_upd ?_
    | with_reducible refine within_ite ?_ ?_
    | with_reducible refine within_replicate ?_
    | with_reducible refine modBoot_within ?_
    | with_reducible refine clearCask_within ?_
    | with_reducible refine stamp_within ?_
    | with_reducible refine tmrScan_within ?_
    | with_reducible refine tmrWrite_within ?_
    | with_reducible refine tryNext_within ?_
    | split
    | dsimp only
  all_goals rfl

theorem execImageHeaderCheck_keeps (flashOk : Bool) (s : State) : ∃ t, execImageHeaderCheck flashOk s = .next t ∧ KeepsBut [.ecc, .clk, .boot] s t := by
  refine ⟨_, rfl, Within.keepsBut ?_ s⟩
  repeat' first
    | with_reducible exact within_skip _
    | with_reducible exact within_nil _
    | with_reducible refine within_cons ?_ ?_
    | with_reducible refine within_seq ?_ ?_
    | with_reducible refine within_ask fun _ => ?_
    | with_reducible refine within_each fun _ => ?_
    | with_reducible refine within_whenP ?_
    | with_reducible refine within_upd ?_
    | with_reducible refine within_ite ?_ ?_
    | with_reducible refine within_replicate ?_
    | with_reducible refine modBoot_within ?_
    | with_reducible refine slotFails_within ?_
    | with_reducible refine stamp_within ?_
    | split
    | dsimp only
  all_goals rfl

theorem execImagePayloadLoaded_keeps (s : State) : ∃ t, execImagePayloadLoaded s = .next t ∧ KeepsBut [.boot] s t := by
  refine ⟨_, rfl, Within.keepsBut ?_ s⟩
  repeat' first
    | with_reducible exact within_skip _
    | with_reducible exact within_nil _
    | with_reducible refine within_cons ?_ ?_
    | with_reducible refine within_seq ?_ ?_
    | with_reducible refine within_ask fun _ => ?_
    | with_reducible refine within_each fun _ => ?_
    | with_reducible refine within_whenP ?_
    | with_reducible refine within_upd ?_
    | with_reducible refine within_ite ?_ ?_
    | with_reducible refine within_replicate ?_
    | with_reducible refine modBoot_within ?_
    | split
    | dsimp only
  all_goals rfl

theorem execSignatureVerified_keeps (s : State) : ∃ t, execSignatureVerified s = .next t ∧ KeepsBut [.ecc, .boot] s t := by
  refine ⟨_, rfl, Within.keepsBut ?_ s⟩
  repeat' first
    | with_reducible exact within_skip _
    | with_reducible exact within_nil _
    | with_reducible refine within_cons ?_ ?_
    | with_reducible refine within_seq ?_ ?_
    | with_reducible refine within_ask fun _ => ?_
    | with_reducible refine within_each fun _ => ?_
    | with_reducible refine within_whenP ?_
    | with_reducible refine within_upd ?_
    | with_reducible refine within_ite ?_ ?_
    | with_reducible refine within_replicate ?_
    | with_reducible refine modBoot_within ?_
    | with_reducible refine slotFails_within ?_
    | with_reducible refine tmrWrite_within ?_
    | split
    | dsimp only
  all_goals rfl

theorem execFirmwareStart_keeps (s : State) : ∃ t, execFirmwareStart s = .next t ∧ KeepsBut [.cfg, .cnts, .ecc, .host, .mbx, .log, .evt, .clk, .datum, .kiln, .boot, .dpd, .hk] s t := by
  refine ⟨_, rfl, Within.keepsBut ?_ s⟩
  repeat' first
    | with_reducible exact within_skip _
    | with_reducible exact within_nil _
    | with_reducible refine within_cons ?_ ?_
    | with_reducible refine within_seq ?_ ?_
    | with_reducible refine within_ask fun _ => ?_
    | with_reducible refine within_each fun _ => ?_
    | with_reducible refine within_whenP ?_
    | with_reducible refine within_upd ?_
    | with_reducible refine within_ite ?_ ?_
    | with_reducible refine within_replicate ?_
    | with_reducible refine modBoot_within ?_
    | with_reducible refine modDatum_within ?_
    | with_reducible refine modDpd_within ?_
    | with_reducible refine modEcc_within ?_
    | with_reducible refine modHk_within ?_
    | with_reducible refine modKiln_within ?_
    | with_reducible refine logCommit_within ?_
    | with_reducible refine mailboxReady_within ?_
    | with_reducible refine raise_within ?_
    | with_reducible refine raiseFl_within ?_
    | with_reducible refine setReason_within ?_
    | with_reducible refine stamp_within ?_
    | with_reducible refine tmrWrite_within ?_
    | split
    | dsimp only
  all_goals rfl

theorem execRomSafeProfile_keeps (s : State) : ∃ t, execRomSafeProfile s = .next t ∧ KeepsBut [.cfg, .host, .mbx, .clk, .pwr, .boot, .fh] s t := by
  refine ⟨_, rfl, Within.keepsBut ?_ s⟩
  repeat' first
    | with_reducible exact within_skip _
    | with_reducible exact within_nil _
    | with_reducible refine within_cons ?_ ?_
    | with_reducible refine within_seq ?_ ?_
    | with_reducible refine within_ask fun _ => ?_
    | with_reducible refine within_each fun _ => ?_
    | with_reducible refine within_whenP ?_
    | with_reducible refine within_upd ?_
    | with_reducible refine within_ite ?_ ?_
    | with_reducible refine within_replicate ?_
    | with_reducible refine modBoot_within ?_
    | with_reducible refine modFh_within ?_
    | with_reducible refine beginWake_within ?_
    | with_reducible refine mailboxReady_within ?_
    | with_reducible refine setSetting_within ?_
    | with_reducible refine stamp_within ?_
    | split
    | dsimp only
  all_goals rfl

theorem execTrialTimeout_keeps (s : State) : ∃ t, execTrialTimeout s = .next t ∧ KeepsBut [.cnts, .tots, .ecc, .host, .mbx, .log, .evt, .txn, .clk, .datum, .pwr, .kiln, .boot, .cap, .fh, .mash, .tx, .dpd, .rx, .conv, .radio, .survey, .bias, .rffe] s t := by
  refine ⟨_, rfl, Within.keepsBut ?_ s⟩
  repeat' first
    | with_reducible exact within_skip _
    | with_reducible exact within_nil _
    | with_reducible refine within_cons ?_ ?_
    | with_reducible refine within_seq ?_ ?_
    | with_reducible refine within_ask fun _ => ?_
    | with_reducible refine within_each fun _ => ?_
    | with_reducible refine within_whenP ?_
    | with_reducible refine within_upd ?_
    | with_reducible refine within_ite ?_ ?_
    | with_reducible refine within_replicate ?_
    | with_reducible refine startReset_within ?_
    | split
    | dsimp only
  all_goals rfl

theorem execCrashCountClear_keeps (s : State) : ∃ t, execCrashCountClear s = .next t ∧ KeepsBut [.ecc] s t := by
  refine ⟨_, rfl, Within.keepsBut ?_ s⟩
  repeat' first
    | with_reducible exact within_skip _
    | with_reducible exact within_nil _
    | with_reducible refine within_cons ?_ ?_
    | with_reducible refine within_seq ?_ ?_
    | with_reducible refine within_ask fun _ => ?_
    | with_reducible refine within_each fun _ => ?_
    | with_reducible refine within_whenP ?_
    | with_reducible refine within_upd ?_
    | with_reducible refine within_ite ?_ ?_
    | with_reducible refine within_replicate ?_
    | with_reducible refine tmrWrite_within ?_
    | split
    | dsimp only
  all_goals rfl

theorem execSpargeVisit_keeps (code : Nat) (s : State) : ∃ t, execSpargeVisit code s = .next t ∧ KeepsBut [.cnts, .mem, .ecc, .mbx, .evt, .clk] s t := by
  refine ⟨_, rfl, Within.keepsBut ?_ s⟩
  repeat' first
    | with_reducible exact within_skip _
    | with_reducible exact within_nil _
    | with_reducible refine within_cons ?_ ?_
    | with_reducible refine within_seq ?_ ?_
    | with_reducible refine within_ask fun _ => ?_
    | with_reducible refine within_each fun _ => ?_
    | with_reducible refine within_whenP ?_
    | with_reducible refine within_upd ?_
    | with_reducible refine within_ite ?_ ?_
    | with_reducible refine within_replicate ?_
    | with_reducible refine modEcc_within ?_
    | with_reducible refine stamp_within ?_
    | with_reducible refine visit_within ?_
    | split
    | dsimp only
  all_goals rfl

theorem execPrioritySpargeVisit_keeps (code : Nat) (s : State) : ∃ t, execPrioritySpargeVisit code s = .next t ∧ KeepsBut [.cnts, .mem, .ecc, .mbx, .evt] s t := by
  refine ⟨_, rfl, Within.keepsBut ?_ s⟩
  repeat' first
    | with_reducible exact within_skip _
    | with_reducible exact within_nil _
    | with_reducible refine within_cons ?_ ?_
    | with_reducible refine within_seq ?_ ?_
    | with_reducible refine within_ask fun _ => ?_
    | with_reducible refine within_each fun _ => ?_
    | with_reducible refine within_whenP ?_
    | with_reducible refine within_upd ?_
    | with_reducible refine within_ite ?_ ?_
    | with_reducible refine within_replicate ?_
    | with_reducible refine modEcc_within ?_
    | with_reducible refine visit_within ?_
    | split
    | dsimp only
  all_goals rfl

theorem execSpargePassEnd_keeps (code : Nat) (s : State) : ∃ t, execSpargePassEnd code s = .next t ∧ KeepsBut [.cnts, .ecc] s t := by
  refine ⟨_, rfl, Within.keepsBut ?_ s⟩
  repeat' first
    | with_reducible exact within_skip _
    | with_reducible exact within_nil _
    | with_reducible refine within_cons ?_ ?_
    | with_reducible refine within_seq ?_ ?_
    | with_reducible refine within_ask fun _ => ?_
    | with_reducible refine within_each fun _ => ?_
    | with_reducible refine within_whenP ?_
    | with_reducible refine within_upd ?_
    | with_reducible refine within_ite ?_ ?_
    | with_reducible refine within_replicate ?_
    | with_reducible refine modEcc_within ?_
    | with_reducible refine count_within ?_
    | split
    | dsimp only
  all_goals rfl

theorem execRemapCopyDone_keeps (code spare : Nat) (s : State) : ∃ t, execRemapCopyDone code spare s = .next t ∧ KeepsBut [.cnts, .mem, .ecc, .mbx, .log, .evt, .clk, .fh, .mash, .dpd, .rx, .conv, .radio, .survey, .bias] s t := by
  refine ⟨_, rfl, Within.keepsBut ?_ s⟩
  repeat' first
    | with_reducible exact within_skip _
    | with_reducible exact within_nil _
    | with_reducible refine within_cons ?_ ?_
    | with_reducible refine within_seq ?_ ?_
    | with_reducible refine within_ask fun _ => ?_
    | with_reducible refine within_each fun _ => ?_
    | with_reducible refine within_whenP ?_
    | with_reducible refine within_upd ?_
    | with_reducible refine within_ite ?_ ?_
    | with_reducible refine within_replicate ?_
    | with_reducible refine modEcc_within ?_
    | with_reducible refine isolate_within ?_
    | with_reducible refine scrubUnit_within ?_
    | split
    | dsimp only
  all_goals rfl

theorem execMemUncorr_keeps (code off requester : Nat) (s : State) : ∃ t, execMemUncorr code off requester s = .next t ∧ KeepsBut [.cnts, .ecc, .host, .mbx, .evt, .grat] s t := by
  refine ⟨_, rfl, Within.keepsBut ?_ s⟩
  repeat' first
    | with_reducible exact within_skip _
    | with_reducible exact within_nil _
    | with_reducible refine within_cons ?_ ?_
    | with_reducible refine within_seq ?_ ?_
    | with_reducible refine within_ask fun _ => ?_
    | with_reducible refine within_each fun _ => ?_
    | with_reducible refine within_whenP ?_
    | with_reducible refine within_upd ?_
    | with_reducible refine within_ite ?_ ?_
    | with_reducible refine within_replicate ?_
    | with_reducible refine modHost_within ?_
    | with_reducible refine count_within ?_
    | with_reducible refine noteUncorr_within ?_
    | with_reducible refine raise_within ?_
    | with_reducible refine weightEcc_within ?_
    | split
    | dsimp only
  all_goals rfl

theorem execPageClear_keeps (s : State) : ∃ t, execPageClear s = .next t ∧ KeepsBut [.cnts, .sect] s t := by
  refine ⟨_, rfl, Within.keepsBut ?_ s⟩
  repeat' first
    | with_reducible exact within_skip _
    | with_reducible exact within_nil _
    | with_reducible refine within_cons ?_ ?_
    | with_reducible refine within_seq ?_ ?_
    | with_reducible refine within_ask fun _ => ?_
    | with_reducible refine within_each fun _ => ?_
    | with_reducible refine within_whenP ?_
    | with_reducible refine within_upd ?_
    | with_reducible refine within_ite ?_ ?_
    | with_reducible refine within_replicate ?_
    | with_reducible refine startClear_within ?_
    | split
    | dsimp only
  all_goals rfl

theorem execPageClearComplete_keeps (page : Nat) (s : State) : ∃ t, execPageClearComplete page s = .next t ∧ KeepsBut [.cnts, .mem, .ecc, .mbx, .evt, .sect] s t := by
  refine ⟨_, rfl, Within.keepsBut ?_ s⟩
  repeat' first
    | with_reducible exact within_skip _
    | with_reducible exact within_nil _
    | with_reducible refine within_cons ?_ ?_
    | with_reducible refine within_seq ?_ ?_
    | with_reducible refine within_ask fun _ => ?_
    | with_reducible refine within_each fun _ => ?_
    | with_reducible refine within_whenP ?_
    | with_reducible refine within_upd ?_
    | with_reducible refine within_ite ?_ ?_
    | with_reducible refine within_replicate ?_
    | with_reducible refine modSect_within ?_
    | with_reducible refine placeSect_within ?_
    | split
    | dsimp only
  all_goals rfl

theorem execLaneSignalChange_keeps (signal cdr am : Nat) (s : State) : ∃ t, execLaneSignalChange signal cdr am s = .next t ∧ KeepsBut [.cnts, .mbx, .evt, .clk, .fh] s t := by
  refine ⟨_, rfl, Within.keepsBut ?_ s⟩
  repeat' first
    | with_reducible exact within_skip _
    | with_reducible exact within_nil _
    | with_reducible refine within_cons ?_ ?_
    | with_reducible refine within_seq ?_ ?_
    | with_reducible refine within_ask fun _ => ?_
    | with_reducible refine within_each fun _ => ?_
    | with_reducible refine within_whenP ?_
    | with_reducible refine within_upd ?_
    | with_reducible refine within_ite ?_ ?_
    | with_reducible refine within_replicate ?_
    | with_reducible refine modFh_within ?_
    | with_reducible refine laneStamps_within ?_
    | with_reducible refine linkSettle_within ?_
    | split
    | dsimp only
  all_goals rfl

theorem execLinkUp_keeps (s : State) : ∃ t, execLinkUp s = .next t ∧ KeepsBut [.cnts, .mbx, .evt, .clk, .fh] s t := by
  refine ⟨_, rfl, Within.keepsBut ?_ s⟩
  repeat' first
    | with_reducible exact within_skip _
    | with_reducible exact within_nil _
    | with_reducible refine within_cons ?_ ?_
    | with_reducible refine within_seq ?_ ?_
    | with_reducible refine within_ask fun _ => ?_
    | with_reducible refine within_each fun _ => ?_
    | with_reducible refine within_whenP ?_
    | with_reducible refine within_upd ?_
    | with_reducible refine within_ite ?_ ?_
    | with_reducible refine within_replicate ?_
    | with_reducible refine modFh_within ?_
    | with_reducible refine linkTo_within ?_
    | with_reducible refine raise_within ?_
    | split
    | dsimp only
  all_goals rfl

theorem execLinkDown_keeps (s : State) : ∃ t, execLinkDown s = .next t ∧ KeepsBut [.cnts, .mbx, .evt, .clk, .fh] s t := by
  refine ⟨_, rfl, Within.keepsBut ?_ s⟩
  repeat' first
    | with_reducible exact within_skip _
    | with_reducible exact within_nil _
    | with_reducible refine within_cons ?_ ?_
    | with_reducible refine within_seq ?_ ?_
    | with_reducible refine within_ask fun _ => ?_
    | with_reducible refine within_each fun _ => ?_
    | with_reducible refine within_whenP ?_
    | with_reducible refine within_upd ?_
    | with_reducible refine within_ite ?_ ?_
    | with_reducible refine within_replicate ?_
    | with_reducible refine linkSettle_within ?_
    | with_reducible refine linkTo_within ?_
    | split
    | dsimp only
  all_goals rfl

theorem execLaneFailed_keeps (lane : Nat) (s : State) : ∃ t, execLaneFailed lane s = .next t ∧ KeepsBut [.cnts, .mem, .ecc, .mbx, .log, .evt, .clk, .fh, .mash, .dpd, .rx, .conv, .radio, .survey, .bias] s t := by
  refine ⟨_, rfl, Within.keepsBut ?_ s⟩
  repeat' first
    | with_reducible exact within_skip _
    | with_reducible exact within_nil _
    | with_reducible refine within_cons ?_ ?_
    | with_reducible refine within_seq ?_ ?_
    | with_reducible refine within_ask fun _ => ?_
    | with_reducible refine within_each fun _ => ?_
    | with_reducible refine within_whenP ?_
    | with_reducible refine within_upd ?_
    | with_reducible refine within_ite ?_ ?_
    | with_reducible refine within_replicate ?_
    | with_reducible refine declareLane_within ?_
    | with_reducible refine held_within ?_
    | split
    | dsimp only
  all_goals rfl

theorem execFecWindowEnd_keeps (lane corrected received uncorr : Nat) (s : State) : ∃ t, execFecWindowEnd lane corrected received uncorr s = .next t ∧ KeepsBut [.cnts, .mem, .ecc, .mbx, .log, .evt, .clk, .fh, .mash, .dpd, .rx, .conv, .radio, .survey, .bias] s t := by
  refine ⟨_, rfl, Within.keepsBut ?_ s⟩
  repeat' first
    | with_reducible exact within_skip _
    | with_reducible exact within_nil _
    | with_reducible refine within_cons ?_ ?_
    | with_reducible refine within_seq ?_ ?_
    | with_reducible refine within_ask fun _ => ?_
    | with_reducible refine within_each fun _ => ?_
    | with_reducible refine within_whenP ?_
    | with_reducible refine within_upd ?_
    | with_reducible refine within_ite ?_ ?_
    | with_reducible refine within_replicate ?_
    | with_reducible refine modFh_within ?_
    | with_reducible refine countN_within ?_
    | with_reducible refine declareLane_within ?_
    | with_reducible refine stamp_within ?_
    | split
    | dsimp only
  all_goals rfl

theorem execFallbackTimeout_keeps (s : State) : ∃ t, execFallbackTimeout s = .next t ∧ KeepsBut [.cnts, .mem, .ecc, .mbx, .log, .evt, .clk, .fh, .mash, .dpd, .rx, .conv, .radio, .survey, .bias] s t := by
  refine ⟨_, rfl, Within.keepsBut ?_ s⟩
  repeat' first
    | with_reducible exact within_skip _
    | with_reducible exact within_nil _
    | with_reducible refine within_cons ?_ ?_
    | with_reducible refine within_seq ?_ ?_
    | with_reducible refine within_ask fun _ => ?_
    | with_reducible refine within_each fun _ => ?_
    | with_reducible refine within_whenP ?_
    | with_reducible refine within_upd ?_
    | with_reducible refine within_ite ?_ ?_
    | with_reducible refine within_replicate ?_
    | with_reducible refine linkTo_within ?_
    | with_reducible refine moveRung_within ?_
    | with_reducible refine raise_within ?_
    | with_reducible refine stamp_within ?_
    | split
    | dsimp only
  all_goals rfl

theorem execUlBankRelease_keeps (s : State) : ∃ t, execUlBankRelease s = .next t ∧ KeepsBut [.grat] s t := by
  refine ⟨_, rfl, Within.keepsBut ?_ s⟩
  repeat' first
    | with_reducible exact within_skip _
    | with_reducible exact within_nil _
    | with_reducible refine within_cons ?_ ?_
    | with_reducible refine within_seq ?_ ?_
    | with_reducible refine within_ask fun _ => ?_
    | with_reducible refine within_each fun _ => ?_
    | with_reducible refine within_whenP ?_
    | with_reducible refine within_upd ?_
    | with_reducible refine within_ite ?_ ?_
    | with_reducible refine within_replicate ?_
    | with_reducible refine modGrat_within ?_
    | split
    | dsimp only
  all_goals rfl

theorem execFrameReceived_keeps (fcsOk : Bool) (frame : Rec) (capture deskew fecPos : Nat) (s : State) : ∃ t, execFrameReceived fcsOk frame capture deskew fecPos s = .next t ∧ KeepsBut [.cnts, .tots, .mem, .ecc, .mbx, .evt, .sect, .fh] s t := by
  refine ⟨_, rfl, Within.keepsBut ?_ s⟩
  repeat' first
    | with_reducible exact within_skip _
    | with_reducible exact within_nil _
    | with_reducible refine within_cons ?_ ?_
    | with_reducible refine within_seq ?_ ?_
    | with_reducible refine within_ask fun _ => ?_
    | with_reducible refine within_each fun _ => ?_
    | with_reducible refine within_whenP ?_
    | with_reducible refine within_upd ?_
    | with_reducible refine within_ite ?_ ?_
    | with_reducible refine within_replicate ?_
    | with_reducible refine ecpriMessage_within ?_
    | with_reducible refine fhCount_within ?_
    | with_reducible refine inbandArrive_within ?_
    | with_reducible refine toPtpRing_within ?_
    | with_reducible refine total_within ?_
    | split
    | dsimp only
  all_goals rfl

theorem execSheetReady_keeps (sheet : Nat) (s : State) : ∃ t, execSheetReady sheet s = .next t ∧ KeepsBut [.tx, .radio] s t := by
  refine ⟨_, rfl, Within.keepsBut ?_ s⟩
  repeat' first
    | with_reducible exact within_skip _
    | with_reducible exact within_nil _
    | with_reducible refine within_cons ?_ ?_
    | with_reducible refine within_seq ?_ ?_
    | with_reducible refine within_ask fun _ => ?_
    | with_reducible refine within_each fun _ => ?_
    | with_reducible refine within_whenP ?_
    | with_reducible refine within_upd ?_
    | with_reducible refine within_ite ?_ ?_
    | with_reducible refine within_replicate ?_
    | with_reducible refine endHold_within ?_
    | with_reducible refine modSheet_within ?_
    | split
    | dsimp only
  all_goals rfl

theorem execHoldEnd_keeps (sheet : Nat) (s : State) : ∃ t, execHoldEnd sheet s = .next t ∧ KeepsBut [.cnts, .mbx, .evt, .fh, .tx, .rx, .coex] s t := by
  refine ⟨_, rfl, Within.keepsBut ?_ s⟩
  repeat' first
    | with_reducible exact within_skip _
    | with_reducible exact within_nil _
    | with_reducible refine within_cons ?_ ?_
    | with_reducible refine within_seq ?_ ?_
    | with_reducible refine within_ask fun _ => ?_
    | with_reducible refine within_each fun _ => ?_
    | with_reducible refine within_whenP ?_
    | with_reducible refine within_upd ?_
    | with_reducible refine within_ite ?_ ?_
    | with_reducible refine within_replicate ?_
    | with_reducible refine modTx_within ?_
    | with_reducible refine settleSymbols_within ?_
    | split
    | dsimp only
  all_goals rfl

theorem execSrsOccasionEnd_keeps (s : State) : ∃ t, execSrsOccasionEnd s = .next t ∧ KeepsBut [.cnts, .free, .mash] s t := by
  unfold execSrsOccasionEnd
  split
  all_goals refine ⟨_, rfl, Within.keepsBut ?_ s⟩
  repeat' first
    | with_reducible exact within_skip _
    | with_reducible exact within_nil _
    | with_reducible refine within_cons ?_ ?_
    | with_reducible refine within_seq ?_ ?_
    | with_reducible refine within_ask fun _ => ?_
    | with_reducible refine within_each fun _ => ?_
    | with_reducible refine within_whenP ?_
    | with_reducible refine within_upd ?_
    | with_reducible refine within_ite ?_ ?_
    | with_reducible refine within_replicate ?_
    | with_reducible refine modMash_within ?_
    | with_reducible refine estimateCtx_within ?_
    | split
    | dsimp only
  all_goals rfl

theorem execMashPrereq_keeps (s : State) : ∃ t, execMashPrereq s = .next t ∧ KeepsBut [.cnts, .mbx, .evt, .mash] s t := by
  refine ⟨_, rfl, Within.keepsBut ?_ s⟩
  repeat' first
    | with_reducible exact within_skip _
    | with_reducible exact within_nil _
    | with_reducible refine within_cons ?_ ?_
    | with_reducible refine within_seq ?_ ?_
    | with_reducible refine within_ask fun _ => ?_
    | with_reducible refine within_each fun _ => ?_
    | with_reducible refine within_whenP ?_
    | with_reducible refine within_upd ?_
    | with_reducible refine within_ite ?_ ?_
    | with_reducible refine within_replicate ?_
    | with_reducible refine modMash_within ?_
    | with_reducible refine raise_within ?_
    | split
    | dsimp only
  all_goals rfl

theorem execMashCut_keeps (s : State) : ∃ t, execMashCut s = .next t ∧ KeepsBut [.cnts, .ecc, .mbx, .evt, .mash] s t := by
  unfold execMashCut
  split
  all_goals refine ⟨_, rfl, Within.keepsBut ?_ s⟩
  repeat' first
    | with_reducible exact within_skip _
    | with_reducible exact within_nil _
    | with_reducible refine within_cons ?_ ?_
    | with_reducible refine within_seq ?_ ?_
    | with_reducible refine within_ask fun _ => ?_
    | with_reducible refine within_each fun _ => ?_
    | with_reducible refine within_whenP ?_
    | with_reducible refine within_upd ?_
    | with_reducible refine within_ite ?_ ?_
    | with_reducible refine within_replicate ?_
    | with_reducible refine modMash_within ?_
    | with_reducible refine count_within ?_
    | with_reducible refine countN_within ?_
    | with_reducible refine dropRefresh_within ?_
    | with_reducible refine targetEcc_within ?_
    | split
    | dsimp only
  all_goals rfl

theorem execMashSetReady_keeps (s : State) : ∃ t, execMashSetReady s = .next t ∧ KeepsBut [.cnts, .mem, .ecc, .mbx, .evt, .grat, .mash] s t := by
  unfold execMashSetReady
  split
  all_goals refine ⟨_, rfl, Within.keepsBut ?_ s⟩
  repeat' first
    | with_reducible exact within_skip _
    | with_reducible exact within_nil _
    | with_reducible refine within_cons ?_ ?_
    | with_reducible refine within_seq ?_ ?_
    | with_reducible refine within_ask fun _ => ?_
    | with_reducible refine within_each fun _ => ?_
    | with_reducible refine within_whenP ?_
    | with_reducible refine within_upd ?_
    | with_reducible refine within_ite ?_ ?_
    | with_reducible refine within_replicate ?_
    | with_reducible refine modMash_within ?_
    | with_reducible refine countN_within ?_
    | with_reducible refine writeSet_within ?_
    | split
    | dsimp only
  all_goals rfl

theorem execConverterInitDone_keeps (conv : Nat) (a b : List (List (Int × Int))) (s : State) : ∃ t, execConverterInitDone conv a b s = .next t ∧ KeepsBut [.cnts, .mem, .ecc, .mbx, .log, .evt, .clk, .fh, .mash, .tx, .dpd, .rx, .conv, .radio, .survey, .bias] s t := by
  refine ⟨_, rfl, Within.keepsBut ?_ s⟩
  repeat' first
    | with_reducible exact within_skip _
    | with_reducible exact within_nil _
    | with_reducible refine within_cons ?_ ?_
    | with_reducible refine within_seq ?_ ?_
    | with_reducible refine within_ask fun _ => ?_
    | with_reducible refine within_each fun _ => ?_
    | with_reducible refine within_whenP ?_
    | with_reducible refine within_upd ?_
    | with_reducible refine within_ite ?_ ?_
    | with_reducible refine within_replicate ?_
    | with_reducible refine convCountN_within ?_
    | with_reducible refine convFails_within ?_
    | with_reducible refine modConverter_within ?_
    | with_reducible refine raise_within ?_
    | with_reducible refine stamp_within ?_
    | split
    | dsimp only
  all_goals rfl

theorem execSpareVisitStart_keeps (conv : Nat) (s : State) : ∃ t, execSpareVisitStart conv s = .next t ∧ KeepsBut [.clk, .conv] s t := by
  refine ⟨_, rfl, Within.keepsBut ?_ s⟩
  repeat' first
    | with_reducible exact within_skip _
    | with_reducible exact within_nil _
    | with_reducible refine within_cons ?_ ?_
    | with_reducible refine within_seq ?_ ?_
    | with_reducible refine within_ask fun _ => ?_
    | with_reducible refine within_each fun _ => ?_
    | with_reducible refine within_whenP ?_
    | with_reducible refine within_upd ?_
    | with_reducible refine within_ite ?_ ?_
    | with_reducible refine within_replicate ?_
    | with_reducible refine modConverter_within ?_
    | with_reducible refine stamp_within ?_
    | split
    | dsimp only
  all_goals rfl

theorem execAgreementTest_keeps (conv : Nat) (aOffset bOffset aGain bGain : Int) (s : State) : ∃ t, execAgreementTest conv aOffset bOffset aGain bGain s = .next t ∧ KeepsBut [.cnts, .mem, .ecc, .mbx, .log, .evt, .clk, .fh, .mash, .tx, .dpd, .rx, .conv, .radio, .survey, .bias] s t := by
  refine ⟨_, rfl, Within.keepsBut ?_ s⟩
  repeat' first
    | with_reducible exact within_skip _
    | with_reducible exact within_nil _
    | with_reducible refine within_cons ?_ ?_
    | with_reducible refine within_seq ?_ ?_
    | with_reducible refine within_ask fun _ => ?_
    | with_reducible refine within_each fun _ => ?_
    | with_reducible refine within_whenP ?_
    | with_reducible refine within_upd ?_
    | with_reducible refine within_ite ?_ ?_
    | with_reducible refine within_replicate ?_
    | with_reducible refine convCount_within ?_
    | with_reducible refine failSlice_within ?_
    | with_reducible refine modConverter_within ?_
    | with_reducible refine modSlice_within ?_
    | with_reducible refine spareDisagrees_within ?_
    | split
    | dsimp only
  all_goals rfl

theorem execHandover_keeps (conv : Nat) (mean : Int) (meanSquare : Nat) (s : State) : ∃ t, execHandover conv mean meanSquare s = .next t ∧ KeepsBut [.cnts, .mem, .ecc, .mbx, .log, .evt, .clk, .fh, .mash, .tx, .dpd, .rx, .conv, .radio, .survey, .bias] s t := by
  refine ⟨_, rfl, Within.keepsBut ?_ s⟩
  repeat' first
    | with_reducible exact within_skip _
    | with_reducible exact within_nil _
    | with_reducible refine within_cons ?_ ?_
    | with_reducible refine within_seq ?_ ?_
    | with_reducible refine within_ask fun _ => ?_
    | with_reducible refine within_each fun _ => ?_
    | with_reducible refine within_whenP ?_
    | with_reducible refine within_upd ?_
    | with_reducible refine within_ite ?_ ?_
    | with_reducible refine within_replicate ?_
    | with_reducible refine modConv_within ?_
    | with_reducible refine convCount_within ?_
    | with_reducible refine exchange_within ?_
    | with_reducible refine failSlice_within ?_
    | with_reducible refine modConverter_within ?_
    | with_reducible refine stamp_within ?_
    | split
    | dsimp only
  all_goals rfl

theorem execCellVisit_keeps (conv : Nat) (a b : Int) (s : State) : ∃ t, execCellVisit conv a b s = .next t ∧ KeepsBut [.cnts, .mem, .ecc, .mbx, .log, .evt, .clk, .fh, .mash, .tx, .dpd, .rx, .conv, .radio, .survey, .bias] s t := by
  refine ⟨_, rfl, Within.keepsBut ?_ s⟩
  repeat' first
    | with_reducible exact within_skip _
    | with_reducible exact within_nil _
    | with_reducible refine within_cons ?_ ?_
    | with_reducible refine within_seq ?_ ?_
    | with_reducible refine within_ask fun _ => ?_
    | with_reducible refine within_each fun _ => ?_
    | with_reducible refine within_whenP ?_
    | with_reducible refine within_upd ?_
    | with_reducible refine within_ite ?_ ?_
    | with_reducible refine within_replicate ?_
    | with_reducible refine convCount_within ?_
    | with_reducible refine exchange_within ?_
    | with_reducible refine failSlice_within ?_
    | with_reducible refine modSlice_within ?_
    | with_reducible refine spareDisagrees_within ?_
    | with_reducible refine stamp_within ?_
    | split
    | dsimp only
  all_goals rfl

theorem execEstimationWindowEnd_keeps (conv pos : Nat) (samples : List (List (Int × Int × Int))) (s : State) : ∃ t, execEstimationWindowEnd conv pos samples s = .next t ∧ KeepsBut [.cnts, .mem, .ecc, .mbx, .log, .evt, .clk, .fh, .mash, .tx, .dpd, .rx, .conv, .radio, .survey, .bias] s t := by
  refine ⟨_, rfl, Within.keepsBut ?_ s⟩
  repeat' first
    | with_reducible exact within_skip _
    | with_reducible exact within_nil _
    | with_reducible refine within_cons ?_ ?_
    | with_reducible refine within_seq ?_ ?_
    | with_reducible refine within_ask fun _ => ?_
    | with_reducible refine within_each fun _ => ?_
    | with_reducible refine within_whenP ?_
    | with_reducible refine within_upd ?_
    | with_reducible refine within_ite ?_ ?_
    | with_reducible refine within_replicate ?_
    | with_reducible refine modConv_within ?_
    | with_reducible refine convCount_within ?_
    | with_reducible refine countN_within ?_
    | with_reducible refine failSlice_within ?_
    | with_reducible refine modSlice_within ?_
    | with_reducible refine stamp_within ?_
    | split
    | dsimp only
  all_goals rfl

theorem execRffeMessageStart_keeps (master : Nat) (s : State) : ∃ t, execRffeMessageStart master s = .next t ∧ KeepsBut [.cnts, .mbx, .evt, .rffe] s t := by
  refine ⟨_, rfl, Within.keepsBut ?_ s⟩
  repeat' first
    | with_reducible exact within_skip _
    | with_reducible exact within_nil _
    | with_reducible refine within_cons ?_ ?_
    | with_reducible refine within_seq ?_ ?_
    | with_reducible refine within_ask fun _ => ?_
    | with_reducible refine within_each fun _ => ?_
    | with_reducible refine within_whenP ?_
    | with_reducible refine within_upd ?_
    | with_reducible refine within_ite ?_ ?_
    | with_reducible refine within_replicate ?_
    | with_reducible refine dropDue_within ?_
    | with_reducible refine lateTrigger_within ?_
    | with_reducible refine modMaster_within ?_
    | split
    | dsimp only
  all_goals rfl

theorem execRffeMessageDone_keeps (master : Nat) (parityGood : Bool) (data : Rec) (s : State) : ∃ t, execRffeMessageDone master parityGood data s = .next t ∧ KeepsBut [.cnts, .rffe] s t := by
  refine ⟨_, rfl, Within.keepsBut ?_ s⟩
  repeat' first
    | with_reducible exact within_skip _
    | with_reducible exact within_nil _
    | with_reducible refine within_cons ?_ ?_
    | with_reducible refine within_seq ?_ ?_
    | with_reducible refine within_ask fun _ => ?_
    | with_reducible refine within_each fun _ => ?_
    | with_reducible refine within_whenP ?_
    | with_reducible refine within_upd ?_
    | with_reducible refine within_ite ?_ ?_
    | with_reducible refine within_replicate ?_
    | with_reducible refine count_within ?_
    | with_reducible refine modMaster_within ?_
    | split
    | dsimp only
  all_goals rfl

end Sys2Proof.Laws
end

