-- ==== Sys2Proof/Laws/Reach7.lean ====
section
/-! SUPPORT. The groups of the state that each event can reach: it answers a next state and keeps every other group. -/

namespace Sys2Proof.Laws

open Sys2Proof Sys2Proof.Machine

theorem execQuickSurveyStart_keeps (sheets : Nat) (s : State) : ∃ t, execQuickSurveyStart sheets s = .next t ∧ KeepsBut [.radio, .survey] s t := by
  refine ⟨_, rfl, Within.keepsBut ?_ s⟩
  repeat' first
    | with_reducible exact within_skip _
    | with_reducible exact within_nil _
    | with_reducible refine within_cons ?_ ?_
    | with_reducible refine within_seq ?_ ?_
    | with_reducible refine within_ask fun _ => ?_
    | with_reducible refine within_each fun _ => ?_
    | with_reducible refine within_whenP ?_
    | with_reducible refine within_upd ?_
    | with_reducible refine within_ite ?_ ?_
    | with_reducible refine within_replicate ?_
    | with_reducible refine startCamp_within ?_
    | split
    | dsimp only
  all_goals rfl

theorem execQsRetry_keeps (sheet : Nat) (s : State) : ∃ t, execQsRetry sheet s = .next t ∧ KeepsBut [.radio, .survey] s t := by
  refine ⟨_, rfl, Within.keepsBut ?_ s⟩
  repeat' first
    | with_reducible exact within_skip _
    | with_reducible exact within_nil _
    | with_reducible refine within_cons ?_ ?_
    | with_reducible refine within_seq ?_ ?_
    | with_reducible refine within_ask fun _ => ?_
    | with_reducible refine within_each fun _ => ?_
    | with_reducible refine within_whenP ?_
    | with_reducible refine within_upd ?_
    | with_reducible refine within_ite ?_ ?_
    | with_reducible refine within_replicate ?_
    | with_reducible refine modSheet_within ?_
    | with_reducible refine startCamp_within ?_
    | split
    | dsimp only
  all_goals rfl

theorem execSurveySolveDone_keeps (campaign : Nat) (bench paths : List Reading) (orx : List (Nat × List (Int × Int))) (s : State) : ∃ t, execSurveySolveDone campaign bench paths orx s = .next t ∧ KeepsBut [.cnts, .mem, .ecc, .host, .mbx, .log, .evt, .clk, .pwr, .fh, .mash, .dpd, .rx, .conv, .radio, .survey, .bias] s t := by
  refine ⟨_, rfl, Within.keepsBut ?_ s⟩
  repeat' first
    | with_reducible exact within_skip _
    | with_reducible exact within_nil _
    | with_reducible refine within_cons ?_ ?_
    | with_reducible refine within_seq ?_ ?_
    | with_reducible refine within_ask fun _ => ?_
    | with_reducible refine within_each fun _ => ?_
    | with_reducible refine within_whenP ?_
    | with_reducible refine within_upd ?_
    | with_reducible refine within_ite ?_ ?_
    | with_reducible refine within_replicate ?_
    | with_reducible refine modRx_within ?_
    | with_reducible refine modSurvey_within ?_
    | with_reducible refine countN_within ?_
    | with_reducible refine dropCamp_within ?_
    | with_reducible refine modCamp_within ?_
    | with_reducible refine modSheet_within ?_
    | with_reducible refine raise_within ?_
    | with_reducible refine rejectSheet_within ?_
    | with_reducible refine requeue_within ?_
    | with_reducible refine streak_within ?_
    | with_reducible refine surveyDone_within ?_
    | split
    | dsimp only
  all_goals rfl

theorem execTempCompare_keeps (s : State) : ∃ t, execTempCompare s = .next t ∧ KeepsBut [.cnts, .mbx, .log, .evt, .fh, .survey, .bias] s t := by
  refine ⟨_, rfl, Within.keepsBut ?_ s⟩
  repeat' first
    | with_reducible exact within_skip _
    | with_reducible exact within_nil _
    | with_reducible refine within_cons ?_ ?_
    | with_reducible refine within_seq ?_ ?_
    | with_reducible refine within_ask fun _ => ?_
    | with_reducible refine within_each fun _ => ?_
    | with_reducible refine within_whenP ?_
    | with_reducible refine within_upd ?_
    | with_reducible refine within_ite ?_ ?_
    | with_reducible refine within_replicate ?_
    | with_reducible refine modSurvey_within ?_
    | with_reducible refine latchSheet_within ?_
    | split
    | dsimp only
  all_goals rfl

theorem execTrackEvaluate_keeps (sheet dir : Nat) (s : State) : ∃ t, execTrackEvaluate sheet dir s = .next t ∧ KeepsBut [.cnts, .mbx, .evt, .survey] s t := by
  refine ⟨_, rfl, Within.keepsBut ?_ s⟩
  repeat' first
    | with_reducible exact within_skip _
    | with_reducible exact within_nil _
    | with_reducible refine within_cons ?_ ?_
    | with_reducible refine within_seq ?_ ?_
    | with_reducible refine within_ask fun _ => ?_
    | with_reducible refine within_each fun _ => ?_
    | with_reducible refine within_whenP ?_
    | with_reducible refine within_upd ?_
    | with_reducible refine within_ite ?_ ?_
    | with_reducible refine within_replicate ?_
    | with_reducible refine modSurvey_within ?_
    | with_reducible refine count_within ?_
    | with_reducible refine countN_within ?_
    | with_reducible refine raise_within ?_
    | split
    | dsimp only
  all_goals rfl

theorem execBiasClearPhaseEnd_keeps (dac : Nat) (s : State) : ∃ t, execBiasClearPhaseEnd dac s = .next t ∧ KeepsBut [.bias] s t := by
  refine ⟨_, rfl, Within.keepsBut ?_ s⟩
  repeat' first
    | with_reducible exact within_skip _
    | with_reducible exact within_nil _
    | with_reducible refine within_cons ?_ ?_
    | with_reducible refine within_seq ?_ ?_
    | with_reducible refine within_ask fun _ => ?_
    | with_reducible refine within_each fun _ => ?_
    | with_reducible refine within_whenP ?_
    | with_reducible refine within_upd ?_
    | with_reducible refine within_ite ?_ ?_
    | with_reducible refine within_replicate ?_
    | with_reducible refine modDac_within ?_
    | split
    | dsimp only
  all_goals rfl

theorem execSpanSwitch_keeps (dac : Nat) (s : State) : ∃ t, execSpanSwitch dac s = .next t ∧ KeepsBut [.bias] s t := by
  refine ⟨_, rfl, Within.keepsBut ?_ s⟩
  repeat' first
    | with_reducible exact within_skip _
    | with_reducible exact within_nil _
    | with_reducible refine within_cons ?_ ?_
    | with_reducible refine within_seq ?_ ?_
    | with_reducible refine within_ask fun _ => ?_
    | with_reducible refine within_each fun _ => ?_
    | with_reducible refine within_whenP ?_
    | with_reducible refine within_upd ?_
    | with_reducible refine within_ite ?_ ?_
    | with_reducible refine within_replicate ?_
    | with_reducible refine modDac_within ?_
    | split
    | dsimp only
  all_goals rfl

theorem execBiasSettled_keeps (dac : Nat) (s : State) : ∃ t, execBiasSettled dac s = .next t ∧ KeepsBut [.bias] s t := by
  refine ⟨_, rfl, Within.keepsBut ?_ s⟩
  repeat' first
    | with_reducible exact within_skip _
    | with_reducible exact within_nil _
    | with_reducible refine within_cons ?_ ?_
    | with_reducible refine within_seq ?_ ?_
    | with_reducible refine within_ask fun _ => ?_
    | with_reducible refine within_each fun _ => ?_
    | with_reducible refine within_whenP ?_
    | with_reducible refine within_upd ?_
    | with_reducible refine within_ite ?_ ?_
    | with_reducible refine within_replicate ?_
    | with_reducible refine modDac_within ?_
    | split
    | dsimp only
  all_goals rfl

theorem execBiasclrNAccept_keeps (lowNs : Nat) (s : State) : ∃ t, execBiasclrNAccept lowNs s = .next t ∧ KeepsBut [.cnts, .mbx, .evt, .tx, .radio, .survey, .bias] s t := by
  refine ⟨_, rfl, Within.keepsBut ?_ s⟩
  repeat' first
    | with_reducible exact within_skip _
    | with_reducible exact within_nil _
    | with_reducible refine within_cons ?_ ?_
    | with_reducible refine within_seq ?_ ?_
    | with_reducible refine within_ask fun _ => ?_
    | with_reducible refine within_each fun _ => ?_
    | with_reducible refine within_whenP ?_
    | with_reducible refine within_upd ?_
    | with_reducible refine within_ite ?_ ?_
    | with_reducible refine within_replicate ?_
    | with_reducible refine modBias_within ?_
    | with_reducible refine biasClear_within ?_
    | with_reducible refine raise_within ?_
    | split
    | dsimp only
  all_goals rfl

theorem execBiasSuperviseSample_keeps (dac : Nat) (excess far : Bool) (s : State) : ∃ t, execBiasSuperviseSample dac excess far s = .next t ∧ KeepsBut [.cnts, .mem, .ecc, .mbx, .log, .evt, .clk, .fh, .mash, .dpd, .rx, .conv, .radio, .survey, .bias] s t := by
  refine ⟨_, rfl, Within.keepsBut ?_ s⟩
  repeat' first
    | with_reducible exact within_skip _
    | with_reducible exact within_nil _
    | with_reducible refine within_cons ?_ ?_
    | with_reducible refine within_seq ?_ ?_
    | with_reducible refine within_ask fun _ => ?_
    | with_reducible refine within_each fun _ => ?_
    | with_reducible refine within_whenP ?_
    | with_reducible refine within_upd ?_
    | with_reducible refine within_ite ?_ ?_
    | with_reducible refine within_replicate ?_
    | with_reducible refine biasIsolate_within ?_
    | with_reducible refine count_within ?_
    | with_reducible refine modDac_within ?_
    | with_reducible refine raise_within ?_
    | split
    | dsimp only
  all_goals rfl

theorem execCoexRoleTakeEffect_keeps (s : State) : ∃ t, execCoexRoleTakeEffect s = .next t ∧ KeepsBut [.coex] s t := by
  refine ⟨_, rfl, Within.keepsBut ?_ s⟩
  repeat' first
    | with_reducible exact within_skip _
    | with_reducible exact within_nil _
    | with_reducible refine within_cons ?_ ?_
    | with_reducible refine within_seq ?_ ?_
    | with_reducible refine within_ask fun _ => ?_
    | with_reducible refine within_each fun _ => ?_
    | with_reducible refine within_whenP ?_
    | with_reducible refine within_upd ?_
    | with_reducible refine within_ite ?_ ?_
    | with_reducible refine within_replicate ?_
    | with_reducible refine modCoex_within ?_
    | split
    | dsimp only
  all_goals rfl

theorem execCoexReqRaise_keeps (s : State) : ∃ t, execCoexReqRaise s = .next t ∧ KeepsBut [.cnts, .coex] s t := by
  refine ⟨_, rfl, Within.keepsBut ?_ s⟩
  repeat' first
    | with_reducible exact within_skip _
    | with_reducible exact within_nil _
    | with_reducible refine within_cons ?_ ?_
    | with_reducible refine within_seq ?_ ?_
    | with_reducible refine within_ask fun _ => ?_
    | with_reducible refine within_each fun _ => ?_
    | with_reducible refine within_whenP ?_
    | with_reducible refine within_upd ?_
    | with_reducible refine within_ite ?_ ?_
    | with_reducible refine within_replicate ?_
    | with_reducible refine modCoex_within ?_
    | with_reducible refine count_within ?_
    | split
    | dsimp only
  all_goals rfl

theorem execCoexReqDrop_keeps (s : State) : ∃ t, execCoexReqDrop s = .next t ∧ KeepsBut [.coex] s t := by
  refine ⟨_, rfl, Within.keepsBut ?_ s⟩
  repeat' first
    | with_reducible exact within_skip _
    | with_reducible exact within_nil _
    | with_reducible refine within_cons ?_ ?_
    | with_reducible refine within_seq ?_ ?_
    | with_reducible refine within_ask fun _ => ?_
    | with_reducible refine within_each fun _ => ?_
    | with_reducible refine within_whenP ?_
    | with_reducible refine within_upd ?_
    | with_reducible refine within_ite ?_ ?_
    | with_reducible refine within_replicate ?_
    | with_reducible refine modCoex_within ?_
    | split
    | dsimp only
  all_goals rfl

theorem execCoexGntSample_keeps (s : State) : ∃ t, execCoexGntSample s = .next t ∧ KeepsBut [.cnts, .tx, .coex] s t := by
  refine ⟨_, rfl, Within.keepsBut ?_ s⟩
  repeat' first
    | with_reducible exact within_skip _
    | with_reducible exact within_nil _
    | with_reducible refine within_cons ?_ ?_
    | with_reducible refine within_seq ?_ ?_
    | with_reducible refine within_ask fun _ => ?_
    | with_reducible refine within_each fun _ => ?_
    | with_reducible refine within_whenP ?_
    | with_reducible refine within_upd ?_
    | with_reducible refine within_ite ?_ ?_
    | with_reducible refine within_replicate ?_
    | with_reducible refine modCoex_within ?_
    | with_reducible refine coexHold_within ?_
    | with_reducible refine count_within ?_
    | split
    | dsimp only
  all_goals rfl

theorem execCoexGntChange_keeps (level : Bool) (s : State) : ∃ t, execCoexGntChange level s = .next t ∧ KeepsBut [.tx, .coex] s t := by
  refine ⟨_, rfl, Within.keepsBut ?_ s⟩
  repeat' first
    | with_reducible exact within_skip _
    | with_reducible exact within_nil _
    | with_reducible refine within_cons ?_ ?_
    | with_reducible refine within_seq ?_ ?_
    | with_reducible refine within_ask fun _ => ?_
    | with_reducible refine within_each fun _ => ?_
    | with_reducible refine within_whenP ?_
    | with_reducible refine within_upd ?_
    | with_reducible refine within_ite ?_ ?_
    | with_reducible refine within_replicate ?_
    | with_reducible refine modCoex_within ?_
    | with_reducible refine coexHold_within ?_
    | with_reducible refine coexRelease_within ?_
    | split
    | dsimp only
  all_goals rfl

theorem execCoexReqChange_keeps (req pri : Bool) (s : State) : ∃ t, execCoexReqChange req pri s = .next t ∧ KeepsBut [.cnts, .tx, .coex] s t := by
  refine ⟨_, rfl, Within.keepsBut ?_ s⟩
  repeat' first
    | with_reducible exact within_skip _
    | with_reducible exact within_nil _
    | with_reducible refine within_cons ?_ ?_
    | with_reducible refine within_seq ?_ ?_
    | with_reducible refine within_ask fun _ => ?_
    | with_reducible refine within_each fun _ => ?_
    | with_reducible refine within_whenP ?_
    | with_reducible refine within_upd ?_
    | with_reducible refine within_ite ?_ ?_
    | with_reducible refine within_replicate ?_
    | with_reducible refine modCoex_within ?_
    | with_reducible refine coexGrant_within ?_
    | with_reducible refine coexRelease_within ?_
    | with_reducible refine count_within ?_
    | split
    | dsimp only
  all_goals rfl

theorem execDpdSolveDone_keeps (path : Nat) (s : State) : ∃ t, execDpdSolveDone path s = .next t ∧ KeepsBut [.cnts, .free, .mem, .ecc, .mbx, .log, .evt, .clk, .fh, .mash, .dpd, .rx, .conv, .radio, .survey, .bias] s t := by
  refine ⟨_, rfl, Within.keepsBut ?_ s⟩
  repeat' first
    | with_reducible exact within_skip _
    | with_reducible exact within_nil _
    | with_reducible refine within_cons ?_ ?_
    | with_reducible refine within_seq ?_ ?_
    | with_reducible refine within_ask fun _ => ?_
    | with_reducible refine within_each fun _ => ?_
    | with_reducible refine within_whenP ?_
    | with_reducible refine within_upd ?_
    | with_reducible refine within_ite ?_ ?_
    | with_reducible refine within_replicate ?_
    | with_reducible refine modDpd_within ?_
    | with_reducible refine count_within ?_
    | with_reducible refine dpdRefresh_within ?_
    | with_reducible refine dpdReject_within ?_
    | with_reducible refine drawFree_within ?_
    | with_reducible refine modPath_within ?_
    | with_reducible refine writeSet__within ?_
    | split
    | dsimp only
  all_goals rfl

theorem execDpdStarved_keeps (path : Nat) (s : State) : ∃ t, execDpdStarved path s = .next t ∧ KeepsBut [.cnts, .mbx, .evt, .dpd] s t := by
  refine ⟨_, rfl, Within.keepsBut ?_ s⟩
  repeat' first
    | with_reducible exact within_skip _
    | with_reducible exact within_nil _
    | with_reducible refine within_cons ?_ ?_
    | with_reducible refine within_seq ?_ ?_
    | with_reducible refine within_ask fun _ => ?_
    | with_reducible refine within_each fun _ => ?_
    | with_reducible refine within_whenP ?_
    | with_reducible refine within_upd ?_
    | with_reducible refine within_ite ?_ ?_
    | with_reducible refine within_replicate ?_
    | with_reducible refine dpdRefresh_within ?_
    | with_reducible refine modPath_within ?_
    | with_reducible refine raise_within ?_
    | split
    | dsimp only
  all_goals rfl

theorem execDpdCoefEcc_keeps (path : Nat) (s : State) : ∃ t, execDpdCoefEcc path s = .next t ∧ KeepsBut [.cnts, .mbx, .evt, .dpd] s t := by
  refine ⟨_, rfl, Within.keepsBut ?_ s⟩
  repeat' first
    | with_reducible exact within_skip _
    | with_reducible exact within_nil _
    | with_reducible refine within_cons ?_ ?_
    | with_reducible refine within_seq ?_ ?_
    | with_reducible refine within_ask fun _ => ?_
    | with_reducible refine within_each fun _ => ?_
    | with_reducible refine within_whenP ?_
    | with_reducible refine within_upd ?_
    | with_reducible refine within_ite ?_ ?_
    | with_reducible refine within_replicate ?_
    | with_reducible refine modDpd_within ?_
    | with_reducible refine count_within ?_
    | with_reducible refine modPath_within ?_
    | with_reducible refine raise_within ?_
    | split
    | dsimp only
  all_goals rfl

theorem execAirSymbolUl_keeps (carrier : Nat) (s : State) : ∃ t, execAirSymbolUl carrier s = .next t ∧ KeepsBut [.cnts, .ecc, .mbx, .evt, .datum, .fh, .tx] s t := by
  refine ⟨_, rfl, Within.keepsBut ?_ s⟩
  repeat' first
    | with_reducible exact within_skip _
    | with_reducible exact within_nil _
    | with_reducible refine within_cons ?_ ?_
    | with_reducible refine within_seq ?_ ?_
    | with_reducible refine within_ask fun _ => ?_
    | with_reducible refine within_each fun _ => ?_
    | with_reducible refine within_whenP ?_
    | with_reducible refine within_upd ?_
    | with_reducible refine within_ite ?_ ?_
    | with_reducible refine within_replicate ?_
    | with_reducible refine modFh_within ?_
    | with_reducible refine armFrom_within ?_
    | with_reducible refine armMissing_within ?_
    | with_reducible refine coveringEcc_within ?_
    | split
    | dsimp only
  all_goals rfl

theorem execUplaneMessageBuild_keeps (carrier : Nat) (codes : List (Nat × List (Int × Int))) (s : State) : ∃ t, execUplaneMessageBuild carrier codes s = .next t ∧ KeepsBut [.cnts, .ecc, .mbx, .evt, .fh, .grat, .mash, .tx, .rx, .coex] s t := by
  refine ⟨_, rfl, Within.keepsBut ?_ s⟩
  repeat' first
    | with_reducible exact within_skip _
    | with_reducible exact within_nil _
    | with_reducible refine within_cons ?_ ?_
    | with_reducible refine within_seq ?_ ?_
    | with_reducible refine within_ask fun _ => ?_
    | with_reducible refine within_each fun _ => ?_
    | with_reducible refine within_whenP ?_
    | with_reducible refine within_upd ?_
    | with_reducible refine within_ite ?_ ?_
    | with_reducible refine within_replicate ?_
    | with_reducible refine modFh_within ?_
    | with_reducible refine modMash_within ?_
    | with_reducible refine modRx_within ?_
    | with_reducible refine count_within ?_
    | with_reducible refine countN_within ?_
    | with_reducible refine countWeights_within ?_
    | with_reducible refine noteStates_within ?_
    | with_reducible refine sendSection_within ?_
    | with_reducible refine settleSymbols_within ?_
    | split
    | dsimp only
  all_goals rfl

theorem execEgressLaunch_keeps (queue : Nat) (s : State) : ∃ t, execEgressLaunch queue s = .next t ∧ KeepsBut [.cnts, .fh] s t := by
  refine ⟨_, rfl, Within.keepsBut ?_ s⟩
  repeat' first
    | with_reducible exact within_skip _
    | with_reducible exact within_nil _
    | with_reducible refine within_cons ?_ ?_
    | with_reducible refine within_seq ?_ ?_
    | with_reducible refine within_ask fun _ => ?_
    | with_reducible refine within_each fun _ => ?_
    | with_reducible refine within_whenP ?_
    | with_reducible refine within_upd ?_
    | with_reducible refine within_ite ?_ ?_
    | with_reducible refine within_replicate ?_
    | with_reducible refine headTest_within ?_
    | with_reducible refine modQueue_within ?_
    | split
    | dsimp only
  all_goals rfl

theorem execMacFrameStart_keeps (s : State) : ∃ t, execMacFrameStart s = .next t ∧ KeepsBut [.cnts, .tots, .mbx, .fh] s t := by
  refine ⟨_, rfl, Within.keepsBut ?_ s⟩
  repeat' first
    | with_reducible exact within_skip _
    | with_reducible exact within_nil _
    | with_reducible refine within_cons ?_ ?_
    | with_reducible refine within_seq ?_ ?_
    | with_reducible refine within_ask fun _ => ?_
    | with_reducible refine within_each fun _ => ?_
    | with_reducible refine within_whenP ?_
    | with_reducible refine within_upd ?_
    | with_reducible refine within_ite ?_ ?_
    | with_reducible refine within_replicate ?_
    | with_reducible refine modMbx_within ?_
    | with_reducible refine flushEligible_within ?_
    | with_reducible refine modQueue_within ?_
    | with_reducible refine onWire_within ?_
    | with_reducible refine total_within ?_
    | split
    | dsimp only
  all_goals rfl

theorem execSynthCalStart_keeps (sheet : Nat) (s : State) : ∃ t, execSynthCalStart sheet s = .next t ∧ KeepsBut [.cnts, .mbx, .evt, .mash, .tx, .dpd, .rx, .radio, .survey] s t := by
  refine ⟨_, rfl, Within.keepsBut ?_ s⟩
  repeat' first
    | with_reducible exact within_skip _
    | with_reducible exact within_nil _
    | with_reducible refine within_cons ?_ ?_
    | with_reducible refine within_seq ?_ ?_
    | with_reducible refine within_ask fun _ => ?_
    | with_reducible refine within_each fun _ => ?_
    | with_reducible refine within_whenP ?_
    | with_reducible refine within_upd ?_
    | with_reducible refine within_ite ?_ ?_
    | with_reducible refine within_replicate ?_
    | with_reducible refine calStart_within ?_
    | split
    | dsimp only
  all_goals rfl

theorem execSynthLock_keeps (sheet txBand rxBand : Nat) (s : State) : ∃ t, execSynthLock sheet txBand rxBand s = .next t ∧ KeepsBut [.radio] s t := by
  refine ⟨_, rfl, Within.keepsBut ?_ s⟩
  repeat' first
    | with_reducible exact within_skip _
    | with_reducible exact within_nil _
    | with_reducible refine within_cons ?_ ?_
    | with_reducible refine within_seq ?_ ?_
    | with_reducible refine within_ask fun _ => ?_
    | with_reducible refine within_each fun _ => ?_
    | with_reducible refine within_whenP ?_
    | with_reducible refine within_upd ?_
    | with_reducible refine within_ite ?_ ?_
    | with_reducible refine within_replicate ?_
    | with_reducible refine modSheet_within ?_
    | split
    | dsimp only
  all_goals rfl

theorem execRsTransitionEnd_keeps (sheet : Nat) (s : State) : ∃ t, execRsTransitionEnd sheet s = .next t ∧ KeepsBut [.cnts, .mbx, .evt, .conv, .radio, .survey, .coex] s t := by
  refine ⟨_, rfl, Within.keepsBut ?_ s⟩
  repeat' first
    | with_reducible exact within_skip _
    | with_reducible exact within_nil _
    | with_reducible refine within_cons ?_ ?_
    | with_reducible refine within_seq ?_ ?_
    | with_reducible refine within_ask fun _ => ?_
    | with_reducible refine within_each fun _ => ?_
    | with_reducible refine within_whenP ?_
    | with_reducible refine within_upd ?_
    | with_reducible refine within_ite ?_ ?_
    | with_reducible refine within_replicate ?_
    | with_reducible refine hopEnd_within ?_
    | with_reducible refine hopStart_within ?_
    | with_reducible refine modSheet_within ?_
    | with_reducible refine nextDeferred_within ?_
    | split
    | dsimp only
  all_goals rfl

theorem execRsTimerFire_keeps (sheet timer : Nat) (s : State) : ∃ t, execRsTimerFire sheet timer s = .next t ∧ KeepsBut [.cnts, .mbx, .evt, .tx, .rx, .conv, .radio, .survey] s t := by
  refine ⟨_, rfl, Within.keepsBut ?_ s⟩
  repeat' first
    | with_reducible exact within_skip _
    | with_reducible exact within_nil _
    | with_reducible refine within_cons ?_ ?_
    | with_reducible refine within_seq ?_ ?_
    | with_reducible refine within_ask fun _ => ?_
    | with_reducible refine within_each fun _ => ?_
    | with_reducible refine within_whenP ?_
    | with_reducible refine within_upd ?_
    | with_reducible refine within_ite ?_ ?_
    | with_reducible refine within_replicate ?_
    | with_reducible refine fireAction_within ?_
    | with_reducible refine modSheet_within ?_
    | split
    | dsimp only
  all_goals rfl

theorem execPatternArm_keeps (sheet : Nat) (s : State) : ∃ t, execPatternArm sheet s = .next t ∧ KeepsBut [.cnts, .mbx, .evt, .tx, .rx, .conv, .radio, .survey, .rffe] s t := by
  refine ⟨_, rfl, Within.keepsBut ?_ s⟩
  repeat' first
    | with_reducible exact within_skip _
    | with_reducible exact within_nil _
    | with_reducible refine within_cons ?_ ?_
    | with_reducible refine within_seq ?_ ?_
    | with_reducible refine within_ask fun _ => ?_
    | with_reducible refine within_each fun _ => ?_
    | with_reducible refine within_whenP ?_
    | with_reducible refine within_upd ?_
    | with_reducible refine within_ite ?_ ?_
    | with_reducible refine within_replicate ?_
    | with_reducible refine armTimer_within ?_
    | with_reducible refine modSheet_within ?_
    | split
    | dsimp only
  all_goals rfl

theorem execStrobeEdge_keeps (sheet strobe : Nat) (s : State) : ∃ t, execStrobeEdge sheet strobe s = .next t ∧ KeepsBut [.radio] s t := by
  refine ⟨_, rfl, Within.keepsBut ?_ s⟩
  repeat' first
    | with_reducible exact within_skip _
    | with_reducible exact within_nil _
    | with_reducible refine within_cons ?_ ?_
    | with_reducible refine within_seq ?_ ?_
    | with_reducible refine within_ask fun _ => ?_
    | with_reducible refine within_each fun _ => ?_
    | with_reducible refine within_whenP ?_
    | with_reducible refine within_upd ?_
    | with_reducible refine within_ite ?_ ?_
    | with_reducible refine within_replicate ?_
    | with_reducible refine modSheet_within ?_
    | split
    | dsimp only
  all_goals rfl

theorem execSynthCalTimeout_keeps (sheet : Nat) (s : State) : ∃ t, execSynthCalTimeout sheet s = .next t ∧ KeepsBut [.cfg, .cnts, .mem, .ecc, .mbx, .log, .evt, .clk, .fh, .mash, .tx, .dpd, .rx, .conv, .radio, .survey, .bias, .rffe, .coex] s t := by
  refine ⟨_, rfl, Within.keepsBut ?_ s⟩
  repeat' first
    | with_reducible exact within_skip _
    | with_reducible exact within_nil _
    | with_reducible refine within_cons ?_ ?_
    | with_reducible refine within_seq ?_ ?_
    | with_reducible refine within_ask fun _ => ?_
    | with_reducible refine within_each fun _ => ?_
    | with_reducible refine within_whenP ?_
    | with_reducible refine within_upd ?_
    | with_reducible refine within_ite ?_ ?_
    | with_reducible refine within_replicate ?_
    | with_reducible refine calStart_within ?_
    | with_reducible refine calStop_within ?_
    | with_reducible refine forceState_within ?_
    | with_reducible refine modSheet_within ?_
    | with_reducible refine outOfService_within ?_
    | with_reducible refine raise_within ?_
    | split
    | dsimp only
  all_goals rfl

theorem execLoUnlock_keeps (sheet which : Nat) (s : State) : ∃ t, execLoUnlock sheet which s = .next t ∧ KeepsBut [.cfg, .cnts, .mem, .ecc, .mbx, .log, .evt, .clk, .fh, .mash, .tx, .dpd, .rx, .conv, .radio, .survey, .bias, .rffe, .coex] s t := by
  refine ⟨_, rfl, Within.keepsBut ?_ s⟩
  repeat' first
    | with_reducible exact within_skip _
    | with_reducible exact within_nil _
    | with_reducible refine within_cons ?_ ?_
    | with_reducible refine within_seq ?_ ?_
    | with_reducible refine within_ask fun _ => ?_
    | with_reducible refine within_each fun _ => ?_
    | with_reducible refine within_whenP ?_
    | with_reducible refine within_upd ?_
    | with_reducible refine within_ite ?_ ?_
    | with_reducible refine within_replicate ?_
    | with_reducible refine count_within ?_
    | with_reducible refine leaveReady_within ?_
    | with_reducible refine modSheet_within ?_
    | with_reducible refine outOfService_within ?_
    | with_reducible refine raise_within ?_
    | with_reducible refine setHold_within ?_
    | split
    | dsimp only
  all_goals rfl

theorem execRecalAfterUnlock_keeps (sheet : Nat) (s : State) : ∃ t, execRecalAfterUnlock sheet s = .next t ∧ KeepsBut [.cnts, .mbx, .evt, .mash, .tx, .dpd, .rx, .radio, .survey] s t := by
  refine ⟨_, rfl, Within.keepsBut ?_ s⟩
  repeat' first
    | with_reducible exact within_skip _
    | with_reducible exact within_nil _
    | with_reducible refine within_cons ?_ ?_
    | with_reducible refine within_seq ?_ ?_
    | with_reducible refine within_ask fun _ => ?_
    | with_reducible refine within_each fun _ => ?_
    | with_reducible refine within_whenP ?_
    | with_reducible refine within_upd ?_
    | with_reducible refine within_ite ?_ ?_
    | with_reducible refine within_replicate ?_
    | with_reducible refine calStart_within ?_
    | with_reducible refine modSheet_within ?_
    | split
    | dsimp only
  all_goals rfl

theorem execLeaseStart_keeps (orx : Nat) (s : State) : ∃ t, execLeaseStart orx s = .next t ∧ KeepsBut [.cnts, .free, .dpd, .radio, .survey, .rffe] s t := by
  refine ⟨_, rfl, Within.keepsBut ?_ s⟩
  repeat' first
    | with_reducible exact within_skip _
    | with_reducible exact within_nil _
    | with_reducible refine within_cons ?_ ?_
    | with_reducible refine within_seq ?_ ?_
    | with_reducible refine within_ask fun _ => ?_
    | with_reducible refine within_each fun _ => ?_
    | with_reducible refine within_whenP ?_
    | with_reducible refine within_upd ?_
    | with_reducible refine within_ite ?_ ?_
    | with_reducible refine within_replicate ?_
    | with_reducible refine dpdRefresh_within ?_
    | with_reducible refine drawFree_within ?_
    | with_reducible refine grantCampaign_within ?_
    | with_reducible refine grantDpd_within ?_
    | with_reducible refine grantTap_within ?_
    | with_reducible refine grantTrack_within ?_
    | with_reducible refine held_within ?_
    | with_reducible refine modOrx_within ?_
    | split
    | dsimp only
  all_goals rfl

theorem execLeaseEnd_keeps (orx : Nat) (s : State) : ∃ t, execLeaseEnd orx s = .next t ∧ KeepsBut [.dpd, .radio, .survey, .rffe] s t := by
  refine ⟨_, rfl, Within.keepsBut ?_ s⟩
  repeat' first
    | with_reducible exact within_skip _
    | with_reducible exact within_nil _
    | with_reducible refine within_cons ?_ ?_
    | with_reducible refine within_seq ?_ ?_
    | with_reducible refine within_ask fun _ => ?_
    | with_reducible refine within_each fun _ => ?_
    | with_reducible refine within_whenP ?_
    | with_reducible refine within_upd ?_
    | with_reducible refine within_ite ?_ ?_
    | with_reducible refine within_replicate ?_
    | with_reducible refine modSurvey_within ?_
    | with_reducible refine couplerWrite_within ?_
    | with_reducible refine dpdRefresh_within ?_
    | with_reducible refine leaseTurn_within ?_
    | with_reducible refine modOrx_within ?_
    | split
    | dsimp only
  all_goals rfl

theorem execOrxFailed_keeps (orx : Nat) (s : State) : ∃ t, execOrxFailed orx s = .next t ∧ KeepsBut [.cnts, .mem, .ecc, .mbx, .log, .evt, .clk, .fh, .mash, .dpd, .rx, .conv, .radio, .survey, .bias] s t := by
  refine ⟨_, rfl, Within.keepsBut ?_ s⟩
  repeat' first
    | with_reducible exact within_skip _
    | with_reducible exact within_nil _
    | with_reducible refine within_cons ?_ ?_
    | with_reducible refine within_seq ?_ ?_
    | with_reducible refine within_ask fun _ => ?_
    | with_reducible refine within_each fun _ => ?_
    | with_reducible refine within_whenP ?_
    | with_reducible refine within_upd ?_
    | with_reducible refine within_ite ?_ ?_
    | with_reducible refine within_replicate ?_
    | with_reducible refine orxFail_within ?_
    | split
    | dsimp only
  all_goals rfl

theorem execMismatchInterval_keeps (path : Nat) (s : State) : ∃ t, execMismatchInterval path s = .next t ∧ KeepsBut [.rffe] s t := by
  refine ⟨_, rfl, Within.keepsBut ?_ s⟩
  repeat' first
    | with_reducible exact within_skip _
    | with_reducible exact within_nil _
    | with_reducible refine within_cons ?_ ?_
    | with_reducible refine within_seq ?_ ?_
    | with_reducible refine within_ask fun _ => ?_
    | with_reducible refine within_each fun _ => ?_
    | with_reducible refine within_whenP ?_
    | with_reducible refine within_upd ?_
    | with_reducible refine within_ite ?_ ?_
    | with_reducible refine within_replicate ?_
    | with_reducible refine modRffe_within ?_
    | split
    | dsimp only
  all_goals rfl

theorem execCaptureStart_keeps (slot firstNs : Nat) (s : State) : ∃ t, execCaptureStart slot firstNs s = .next t ∧ KeepsBut [.cap, .dpd] s t := by
  refine ⟨_, rfl, Within.keepsBut ?_ s⟩
  repeat' first
    | with_reducible exact within_skip _
    | with_reducible exact within_nil _
    | with_reducible refine within_cons ?_ ?_
    | with_reducible refine within_seq ?_ ?_
    | with_reducible refine within_ask fun _ => ?_
    | with_reducible refine within_each fun _ => ?_
    | with_reducible refine within_whenP ?_
    | with_reducible refine within_upd ?_
    | with_reducible refine within_ite ?_ ?_
    | with_reducible refine within_replicate ?_
    | with_reducible refine capAbort_within ?_
    | with_reducible refine modOrx_within ?_
    | with_reducible refine modSlot_within ?_
    | split
    | dsimp only
  all_goals rfl

theorem execCaptureDone_keeps (slot samples : Nat) (data : Rec) (s : State) : ∃ t, execCaptureDone slot samples data s = .next t ∧ KeepsBut [.mem, .ecc, .cap, .dpd] s t := by
  refine ⟨_, rfl, Within.keepsBut ?_ s⟩
  repeat' first
    | with_reducible exact within_skip _
    | with_reducible exact within_nil _
    | with_reducible refine within_cons ?_ ?_
    | with_reducible refine within_seq ?_ ?_
    | with_reducible refine within_ask fun _ => ?_
    | with_reducible refine within_each fun _ => ?_
    | with_reducible refine within_whenP ?_
    | with_reducible refine within_upd ?_
    | with_reducible refine within_ite ?_ ?_
    | with_reducible refine within_replicate ?_
    | with_reducible refine modOrx_within ?_
    | with_reducible refine modSlot_within ?_
    | with_reducible refine store_within ?_
    | split
    | dsimp only
  all_goals rfl

theorem execCaptureAbort_keeps (slot : Nat) (s : State) : ∃ t, execCaptureAbort slot s = .next t ∧ KeepsBut [.cap] s t := by
  refine ⟨_, rfl, Within.keepsBut ?_ s⟩
  repeat' first
    | with_reducible exact within_skip _
    | with_reducible exact within_nil _
    | with_reducible refine within_cons ?_ ?_
    | with_reducible refine within_seq ?_ ?_
    | with_reducible refine within_ask fun _ => ?_
    | with_reducible refine within_each fun _ => ?_
    | with_reducible refine within_whenP ?_
    | with_reducible refine within_upd ?_
    | with_reducible refine within_ite ?_ ?_
    | with_reducible refine within_replicate ?_
    | with_reducible refine capAbort_within ?_
    | split
    | dsimp only
  all_goals rfl

theorem execCaptureLeaseTimeout_keeps (slot : Nat) (s : State) : ∃ t, execCaptureLeaseTimeout slot s = .next t ∧ KeepsBut [.cap] s t := by
  refine ⟨_, rfl, Within.keepsBut ?_ s⟩
  repeat' first
    | with_reducible exact within_skip _
    | with_reducible exact within_nil _
    | with_reducible refine within_cons ?_ ?_
    | with_reducible refine within_seq ?_ ?_
    | with_reducible refine within_ask fun _ => ?_
    | with_reducible refine within_each fun _ => ?_
    | with_reducible refine within_whenP ?_
    | with_reducible refine within_upd ?_
    | with_reducible refine within_ite ?_ ?_
    | with_reducible refine within_replicate ?_
    | with_reducible refine capAbort_within ?_
    | split
    | dsimp only
  all_goals rfl

theorem execTxmuteNFall_keeps (s : State) : ∃ t, execTxmuteNFall s = .next t ∧ KeepsBut [.cnts, .mbx, .evt, .tx, .radio] s t := by
  refine ⟨_, rfl, Within.keepsBut ?_ s⟩
  repeat' first
    | with_reducible exact within_skip _
    | with_reducible exact within_nil _
    | with_reducible refine within_cons ?_ ?_
    | with_reducible refine within_seq ?_ ?_
    | with_reducible refine within_ask fun _ => ?_
    | with_reducible refine within_each fun _ => ?_
    | with_reducible refine within_whenP ?_
    | with_reducible refine within_upd ?_
    | with_reducible refine within_ite ?_ ?_
    | with_reducible refine within_replicate ?_
    | with_reducible refine modTx_within ?_
    | with_reducible refine count_within ?_
    | with_reducible refine gateStrobes_within ?_
    | with_reducible refine raise_within ?_
    | with_reducible refine setHold_within ?_
    | split
    | dsimp only
  all_goals rfl

theorem execTxmuteNRise_keeps (s : State) : ∃ t, execTxmuteNRise s = .next t ∧ KeepsBut [.tx] s t := by
  refine ⟨_, rfl, Within.keepsBut ?_ s⟩
  repeat' first
    | with_reducible exact within_skip _
    | with_reducible exact within_nil _
    | with_reducible refine within_cons ?_ ?_
    | with_reducible refine within_seq ?_ ?_
    | with_reducible refine within_ask fun _ => ?_
    | with_reducible refine within_each fun _ => ?_
    | with_reducible refine within_whenP ?_
    | with_reducible refine within_upd ?_
    | with_reducible refine within_ite ?_ ?_
    | with_reducible refine within_replicate ?_
    | with_reducible refine modTx_within ?_
    | split
    | dsimp only
  all_goals rfl

theorem execTxmuteRelease_keeps (s : State) : ∃ t, execTxmuteRelease s = .next t ∧ KeepsBut [.tx] s t := by
  refine ⟨_, rfl, Within.keepsBut ?_ s⟩
  repeat' first
    | with_reducible exact within_skip _
    | with_reducible exact within_nil _
    | with_reducible refine within_cons ?_ ?_
    | with_reducible refine within_seq ?_ ?_
    | with_reducible refine within_ask fun _ => ?_
    | with_reducible refine within_each fun _ => ?_
    | with_reducible refine within_whenP ?_
    | with_reducible refine within_upd ?_
    | with_reducible refine within_ite ?_ ?_
    | with_reducible refine within_replicate ?_
    | with_reducible refine modTx_within ?_
    | with_reducible refine endHold_within ?_
    | split
    | dsimp only
  all_goals rfl

theorem execHalfSubframeLevel_keeps (codes : List (Nat × List (Int × Int))) (s : State) : ∃ t, execHalfSubframeLevel codes s = .next t ∧ KeepsBut [.cnts, .free, .rx] s t := by
  refine ⟨_, rfl, Within.keepsBut ?_ s⟩
  repeat' first
    | with_reducible exact within_skip _
    | with_reducible exact within_nil _
    | with_reducible refine within_cons ?_ ?_
    | with_reducible refine within_seq ?_ ?_
    | with_reducible refine within_ask fun _ => ?_
    | with_reducible refine within_each fun _ => ?_
    | with_reducible refine within_whenP ?_
    | with_reducible refine within_upd ?_
    | with_reducible refine within_ite ?_ ?_
    | with_reducible refine within_replicate ?_
    | with_reducible refine modRx_within ?_
    | with_reducible refine countN_within ?_
    | with_reducible refine drawFree_within ?_
    | with_reducible refine noteStates_within ?_
    | split
    | dsimp only
  all_goals rfl

theorem execDcAcqEnd_keeps (path : Nat) (s : State) : ∃ t, execDcAcqEnd path s = .next t ∧ KeepsBut [.rx] s t := by
  refine ⟨_, rfl, Within.keepsBut ?_ s⟩
  repeat' first
    | with_reducible exact within_skip _
    | with_reducible exact within_nil _
    | with_reducible refine within_cons ?_ ?_
    | with_reducible refine within_seq ?_ ?_
    | with_reducible refine within_ask fun _ => ?_
    | with_reducible refine within_each fun _ => ?_
    | with_reducible refine within_whenP ?_
    | with_reducible refine within_upd ?_
    | with_reducible refine within_ite ?_ ?_
    | with_reducible refine within_replicate ?_
    | with_reducible refine modRx_within ?_
    | with_reducible refine noteStates_within ?_
    | split
    | dsimp only
  all_goals rfl

theorem execFoSlotEnd_keeps (carrier : Nat) (s : State) : ∃ t, execFoSlotEnd carrier s = .next t ∧ KeepsBut [.free, .rx] s t := by
  refine ⟨_, rfl, Within.keepsBut ?_ s⟩
  repeat' first
    | with_reducible exact within_skip _
    | with_reducible exact within_nil _
    | with_reducible refine within_cons ?_ ?_
    | with_reducible refine within_seq ?_ ?_
    | with_reducible refine within_ask fun _ => ?_
    | with_reducible refine within_each fun _ => ?_
    | with_reducible refine within_whenP ?_
    | with_reducible refine within_upd ?_
    | with_reducible refine within_ite ?_ ?_
    | with_reducible refine within_replicate ?_
    | with_reducible refine modRx_within ?_
    | with_reducible refine drawFree_within ?_
    | split
    | dsimp only
  all_goals rfl

theorem execPrachOccasionDone_keeps (flow id k slot startSym rep : Nat) (codes : List (Nat × List (Int × Int))) (s : State) : ∃ t, execPrachOccasionDone flow id k slot startSym rep codes s = .next t ∧ KeepsBut [.cnts, .ecc, .mbx, .evt, .fh, .grat, .rx] s t := by
  refine ⟨_, rfl, Within.keepsBut ?_ s⟩
  repeat' first
    | with_reducible exact within_skip _
    | with_reducible exact within_nil _
    | with_reducible refine within_cons ?_ ?_
    | with_reducible refine within_seq ?_ ?_
    | with_reducible refine within_ask fun _ => ?_
    | with_reducible refine within_each fun _ => ?_
    | with_reducible refine within_whenP ?_
    | with_reducible refine within_upd ?_
    | with_reducible refine within_ite ?_ ?_
    | with_reducible refine within_replicate ?_
    | with_reducible refine modRx_within ?_
    | with_reducible refine count_within ?_
    | with_reducible refine countN_within ?_
    | with_reducible refine countWeights_within ?_
    | with_reducible refine eccHit_within ?_
    | with_reducible refine noteStates_within ?_
    | with_reducible refine raise_within ?_
    | with_reducible refine sendSection_within ?_
    | split
    | dsimp only
  all_goals rfl

theorem execKilnEvaluate_keeps (s : State) : ∃ t, execKilnEvaluate s = .next t ∧ KeepsBut [.cfg, .cnts, .host, .mbx, .log, .evt, .clk, .pwr, .kiln, .conv, .radio, .survey, .bias, .rffe, .coex] s t := by
  refine ⟨_, rfl, Within.keepsBut ?_ s⟩
  repeat' first
    | with_reducible exact within_skip _
    | with_reducible exact within_nil _
    | with_reducible refine within_cons ?_ ?_
    | with_reducible refine within_seq ?_ ?_
    | with_reducible refine within_ask fun _ => ?_
    | with_reducible refine within_each fun _ => ?_
    | with_reducible refine within_whenP ?_
    | with_reducible refine within_upd ?_
    | with_reducible refine within_ite ?_ ?_
    | with_reducible refine within_replicate ?_
    | with_reducible refine modKiln_within ?_
    | with_reducible refine feedCheck_within ?_
    | with_reducible refine followBudget_within ?_
    | with_reducible refine kilnDecide_within ?_
    | with_reducible refine kilnLevels_within ?_
    | with_reducible refine stamp_within ?_
    | with_reducible refine thermal_within ?_
    | split
    | dsimp only
  all_goals rfl

theorem execHkConversion_keeps (conversions : List Nat) (s : State) : ∃ t, execHkConversion conversions s = .next t ∧ KeepsBut [.cfg, .cnts, .host, .mbx, .evt, .clk, .pwr, .kiln, .tx, .conv, .hk, .radio, .survey, .bias, .rffe, .coex] s t := by
  refine ⟨_, rfl, Within.keepsBut ?_ s⟩
  repeat' first
    | with_reducible exact within_skip _
    | with_reducible exact within_nil _
    | with_reducible refine within_cons ?_ ?_
    | with_reducible refine within_seq ?_ ?_
    | with_reducible refine within_ask fun _ => ?_
    | with_reducible refine within_each fun _ => ?_
    | with_reducible refine within_whenP ?_
    | with_reducible refine within_upd ?_
    | with_reducible refine within_ite ?_ ?_
    | with_reducible refine within_replicate ?_
    | with_reducible refine hkConvert_within ?_
    | with_reducible refine supplyJudge_within ?_
    | with_reducible refine thermal_within ?_
    | split
    | dsimp only
  all_goals rfl

theorem execSheetTempUpdate_keeps (sheet : Nat) (t0 t1 : Int) (s : State) : ∃ t, execSheetTempUpdate sheet t0 t1 s = .next t ∧ KeepsBut [.cfg, .cnts, .host, .mbx, .evt, .clk, .pwr, .kiln, .conv, .hk, .radio, .survey, .rffe, .coex] s t := by
  refine ⟨_, rfl, Within.keepsBut ?_ s⟩
  repeat' first
    | with_reducible exact within_skip _
    | with_reducible exact within_nil _
    | with_reducible refine within_cons ?_ ?_
    | with_reducible refine within_seq ?_ ?_
    | with_reducible refine within_ask fun _ => ?_
    | with_reducible refine within_each fun _ => ?_
    | with_reducible refine within_whenP ?_
    | with_reducible refine within_upd ?_
    | with_reducible refine within_ite ?_ ?_
    | with_reducible refine within_replicate ?_
    | with_reducible refine sheetTemps_within ?_
    | with_reducible refine thermal_within ?_
    | split
    | dsimp only
  all_goals rfl

theorem execClockWindow_keeps (good : Nat) (s : State) : ∃ t, execClockWindow good s = .next t ∧ KeepsBut [.cfg, .cnts, .host, .mbx, .evt, .clk, .pwr, .fh, .mash, .tx, .dpd, .conv, .radio, .survey, .rffe, .coex] s t := by
  refine ⟨_, rfl, Within.keepsBut ?_ s⟩
  repeat' first
    | with_reducible exact within_skip _
    | with_reducible exact within_nil _
    | with_reducible refine within_cons ?_ ?_
    | with_reducible refine within_seq ?_ ?_
    | with_reducible refine within_ask fun _ => ?_
    | with_reducible refine within_each fun _ => ?_
    | with_reducible refine within_whenP ?_
    | with_reducible refine within_upd ?_
    | with_reducible refine within_ite ?_ ?_
    | with_reducible refine within_replicate ?_
    | with_reducible refine clockWindow_within ?_
    | with_reducible refine stamp_within ?_
    | split
    | dsimp only
  all_goals rfl

theorem execCpuClockSwitch_keeps (s : State) : ∃ t, execCpuClockSwitch s = .next t ∧ KeepsBut [.clk] s t := by
  refine ⟨_, rfl, Within.keepsBut ?_ s⟩
  repeat' first
    | with_reducible exact within_skip _
    | with_reducible exact within_nil _
    | with_reducible refine within_cons ?_ ?_
    | with_reducible refine within_seq ?_ ?_
    | with_reducible refine within_ask fun _ => ?_
    | with_reducible refine within_each fun _ => ?_
    | with_reducible refine within_whenP ?_
    | with_reducible refine within_upd ?_
    | with_reducible refine within_ite ?_ ?_
    | with_reducible refine within_replicate ?_
    | with_reducible refine modClk_within ?_
    | split
    | dsimp only
  all_goals rfl

theorem execArmAlignment_keeps (s : State) : ∃ t, execArmAlignment s = .next t ∧ KeepsBut [.clk] s t := by
  refine ⟨_, rfl, Within.keepsBut ?_ s⟩
  repeat' first
    | with_reducible exact within_skip _
    | with_reducible exact within_nil _
    | with_reducible refine within_cons ?_ ?_
    | with_reducible refine within_seq ?_ ?_
    | with_reducible refine within_ask fun _ => ?_
    | with_reducible refine within_each fun _ => ?_
    | with_reducible refine within_whenP ?_
    | with_reducible refine within_upd ?_
    | with_reducible refine within_ite ?_ ?_
    | with_reducible refine within_replicate ?_
    | with_reducible refine armAlign_within ?_
    | split
    | dsimp only
  all_goals rfl

theorem execDasync_keeps (dist : List Nat) (s : State) : ∃ t, execDasync dist s = .next t ∧ KeepsBut [.cnts, .mem, .ecc, .host, .mbx, .log, .evt, .clk, .pwr, .fh, .mash, .dpd, .rx, .conv, .radio, .survey, .bias] s t := by
  refine ⟨_, rfl, Within.keepsBut ?_ s⟩
  repeat' first
    | with_reducible exact within_skip _
    | with_reducible exact within_nil _
    | with_reducible refine within_cons ?_ ?_
    | with_reducible refine within_seq ?_ ?_
    | with_reducible refine within_ask fun _ => ?_
    | with_reducible refine within_each fun _ => ?_
    | with_reducible refine within_whenP ?_
    | with_reducible refine within_upd ?_
    | with_reducible refine within_ite ?_ ?_
    | with_reducible refine within_replicate ?_
    | with_reducible refine modClk_within ?_
    | with_reducible refine alignJudge_within ?_
    | with_reducible refine residFollow_within ?_
    | with_reducible refine slipNote_within ?_
    | with_reducible refine swapLanes_within ?_
    | with_reducible refine trimApply_within ?_
    | split
    | dsimp only
  all_goals rfl

theorem execElasticBufferReset_keeps (s : State) : ∃ t, execElasticBufferReset s = .next t ∧ KeepsBut [.clk] s t := by
  refine ⟨_, rfl, Within.keepsBut ?_ s⟩
  repeat' first
    | with_reducible exact within_skip _
    | with_reducible exact within_nil _
    | with_reducible refine within_cons ?_ ?_
    | with_reducible refine within_seq ?_ ?_
    | with_reducible refine within_ask fun _ => ?_
    | with_reducible refine within_each fun _ => ?_
    | with_reducible refine within_whenP ?_
    | with_reducible refine within_upd ?_
    | with_reducible refine within_ite ?_ ?_
    | with_reducible refine within_replicate ?_
    | with_reducible refine modClk_within ?_
    | split
    | dsimp only
  all_goals rfl

theorem execD2dCrcFail_keeps (link group : Nat) (s : State) : ∃ t, execD2dCrcFail link group s = .next t ∧ KeepsBut [.cnts, .clk] s t := by
  refine ⟨_, rfl, Within.keepsBut ?_ s⟩
  repeat' first
    | with_reducible exact within_skip _
    | with_reducible exact within_nil _
    | with_reducible refine within_cons ?_ ?_
    | with_reducible refine within_seq ?_ ?_
    | with_reducible refine within_ask fun _ => ?_
    | with_reducible refine within_each fun _ => ?_
    | with_reducible refine within_whenP ?_
    | with_reducible refine within_upd ?_
    | with_reducible refine within_ite ?_ ?_
    | with_reducible refine within_replicate ?_
    | with_reducible refine modClk_within ?_
    | with_reducible refine count_within ?_
    | split
    | dsimp only
  all_goals rfl

theorem execD2dLaneTestDone_keeps (link lane : Nat) (s : State) : ∃ t, execD2dLaneTestDone link lane s = .next t ∧ KeepsBut [.cfg, .cnts, .mem, .ecc, .mbx, .log, .evt, .clk, .fh, .mash, .dpd, .rx, .conv, .radio, .survey, .bias, .rffe, .coex] s t := by
  refine ⟨_, rfl, Within.keepsBut ?_ s⟩
  repeat' first
    | with_reducible exact within_skip _
    | with_reducible exact within_nil _
    | with_reducible refine within_cons ?_ ?_
    | with_reducible refine within_seq ?_ ?_
    | with_reducible refine within_ask fun _ => ?_
    | with_reducible refine within_each fun _ => ?_
    | with_reducible refine within_whenP ?_
    | with_reducible refine within_upd ?_
    | with_reducible refine within_ite ?_ ?_
    | with_reducible refine within_replicate ?_
    | with_reducible refine modClk_within ?_
    | with_reducible refine outOfService_within ?_
    | split
    | dsimp only
  all_goals rfl

theorem execPortStatus_keeps (s : State) : ∃ t, execPortStatus s = .next t ∧ KeepsBut [.host] s t := by
  refine ⟨_, rfl, Within.keepsBut ?_ s⟩
  repeat' first
    | with_reducible exact within_skip _
    | with_reducible exact within_nil _
    | with_reducible refine within_cons ?_ ?_
    | with_reducible refine within_seq ?_ ?_
    | with_reducible refine within_ask fun _ => ?_
    | with_reducible refine within_each fun _ => ?_
    | with_reducible refine within_whenP ?_
    | with_reducible refine within_upd ?_
    | with_reducible refine within_ite ?_ ?_
    | with_reducible refine within_replicate ?_
    | with_reducible refine modHost_within ?_
    | split
    | dsimp only
  all_goals rfl

theorem execHostPortRead_keeps (addr words : Nat) (s : State) : ∃ t, execHostPortRead addr words s = .next t ∧ KeepsBut [.cnts, .ecc, .host, .mbx, .evt] s t := by
  refine ⟨_, rfl, Within.keepsBut ?_ s⟩
  repeat' first
    | with_reducible exact within_skip _
    | with_reducible exact within_nil _
    | with_reducible refine within_cons ?_ ?_
    | with_reducible refine within_seq ?_ ?_
    | with_reducible refine within_ask fun _ => ?_
    | with_reducible refine within_each fun _ => ?_
    | with_reducible refine within_whenP ?_
    | with_reducible refine within_upd ?_
    | with_reducible refine within_ite ?_ ?_
    | with_reducible refine within_replicate ?_
    | with_reducible refine modHost_within ?_
    | with_reducible refine readWord_within ?_
    | split
    | dsimp only
  all_goals rfl

theorem execShadowLoRead_keeps (cpu : Bool) (addr : Nat) (s : State) : ∃ t, execShadowLoRead cpu addr s = .next t ∧ KeepsBut [.cnts, .ecc, .host, .mbx, .evt] s t := by
  refine ⟨_, rfl, Within.keepsBut ?_ s⟩
  repeat' first
    | with_reducible exact within_skip _
    | with_reducible exact within_nil _
    | with_reducible refine within_cons ?_ ?_
    | with_reducible refine within_seq ?_ ?_
    | with_reducible refine within_ask fun _ => ?_
    | with_reducible refine within_each fun _ => ?_
    | with_reducible refine within_whenP ?_
    | with_reducible refine within_upd ?_
    | with_reducible refine within_ite ?_ ?_
    | with_reducible refine within_replicate ?_
    | with_reducible refine modHost_within ?_
    | with_reducible refine readWord_within ?_
    | split
    | dsimp only
  all_goals rfl

theorem execShadowHiRead_keeps (cpu : Bool) (addr : Nat) (s : State) : ∃ t, execShadowHiRead cpu addr s = .next t ∧ KeepsBut [.cnts, .ecc, .host, .mbx, .evt] s t := by
  refine ⟨_, rfl, Within.keepsBut ?_ s⟩
  repeat' first
    | with_reducible exact within_skip _
    | with_reducible exact within_nil _
    | with_reducible refine within_cons ?_ ?_
    | with_reducible refine within_seq ?_ ?_
    | with_reducible refine within_ask fun _ => ?_
    | with_reducible refine within_each fun _ => ?_
    | with_reducible refine within_whenP ?_
    | with_reducible refine within_upd ?_
    | with_reducible refine within_ite ?_ ?_
    | with_reducible refine within_replicate ?_
    | with_reducible refine modHost_within ?_
    | with_reducible refine readWord_within ?_
    | split
    | dsimp only
  all_goals rfl

theorem execFaultStatusClear_keeps (mask : Nat) (s : State) : ∃ t, execFaultStatusClear mask s = .next t ∧ KeepsBut [.host] s t := by
  refine ⟨_, rfl, Within.keepsBut ?_ s⟩
  repeat' first
    | with_reducible exact within_skip _
    | with_reducible exact within_nil _
    | with_reducible refine within_cons ?_ ?_
    | with_reducible refine within_seq ?_ ?_
    | with_reducible refine within_ask fun _ => ?_
    | with_reducible refine within_each fun _ => ?_
    | with_reducible refine within_whenP ?_
    | with_reducible refine within_upd ?_
    | with_reducible refine within_ite ?_ ?_
    | with_reducible refine within_replicate ?_
    | with_reducible refine faultClear_within ?_
    | split
    | dsimp only
  all_goals rfl

theorem execFaultBitSet_keeps (source : Nat) (s : State) : ∃ t, execFaultBitSet source s = .next t ∧ KeepsBut [.host, .pwr] s t := by
  refine ⟨_, rfl, Within.keepsBut ?_ s⟩
  repeat' first
    | with_reducible exact within_skip _
    | with_reducible exact within_nil _
    | with_reducible refine within_cons ?_ ?_
    | with_reducible refine within_seq ?_ ?_
    | with_reducible refine within_ask fun _ => ?_
    | with_reducible refine within_each fun _ => ?_
    | with_reducible refine within_whenP ?_
    | with_reducible refine within_upd ?_
    | with_reducible refine within_ite ?_ ?_
    | with_reducible refine within_replicate ?_
    | with_reducible refine setFault_within ?_
    | split
    | dsimp only
  all_goals rfl

theorem execEventRaise_keeps (code unit : Nat) (data : List Nat) (s : State) : ∃ t, execEventRaise code unit data s = .next t ∧ KeepsBut [.cnts, .mbx, .evt] s t := by
  refine ⟨_, rfl, Within.keepsBut ?_ s⟩
  repeat' first
    | with_reducible exact within_skip _
    | with_reducible exact within_nil _
    | with_reducible refine within_cons ?_ ?_
    | with_reducible refine within_seq ?_ ?_
    | with_reducible refine within_ask fun _ => ?_
    | with_reducible refine within_each fun _ => ?_
    | with_reducible refine within_whenP ?_
    | with_reducible refine within_upd ?_
    | with_reducible refine within_ite ?_ ?_
    | with_reducible refine within_replicate ?_
    | with_reducible refine raise_within ?_
    | split
    | dsimp only
  all_goals rfl

theorem execDoneAcknowledge_keeps (mask : Nat) (s : State) : ∃ t, execDoneAcknowledge mask s = .next t ∧ KeepsBut [.mbx] s t := by
  refine ⟨_, rfl, Within.keepsBut ?_ s⟩
  repeat' first
    | with_reducible exact within_skip _
    | with_reducible exact within_nil _
    | with_reducible refine within_cons ?_ ?_
    | with_reducible refine within_seq ?_ ?_
    | with_reducible refine within_ask fun _ => ?_
    | with_reducible refine within_each fun _ => ?_
    | with_reducible refine within_whenP ?_
    | with_reducible refine within_upd ?_
    | with_reducible refine within_ite ?_ ?_
    | with_reducible refine within_replicate ?_
    | with_reducible refine doneAck_within ?_
    | split
    | dsimp only
  all_goals rfl

theorem execDirectWriteCaptureDrain_keeps (s : State) : ∃ t, execDirectWriteCaptureDrain s = .next t ∧ KeepsBut [.cnts, .mbx, .log, .evt] s t := by
  refine ⟨_, rfl, Within.keepsBut ?_ s⟩
  repeat' first
    | with_reducible exact within_skip _
    | with_reducible exact within_nil _
    | with_reducible refine within_cons ?_ ?_
    | with_reducible refine within_seq ?_ ?_
    | with_reducible refine within_ask fun _ => ?_
    | with_reducible refine within_each fun _ => ?_
    | with_reducible refine within_whenP ?_
    | with_reducible refine within_upd ?_
    | with_reducible refine within_ite ?_ ?_
    | with_reducible refine within_replicate ?_
    | with_reducible refine logCommit_within ?_
    | split
    | dsimp only
  all_goals rfl

theorem execTxnExpire_keeps (id : Nat) (s : State) : ∃ t, execTxnExpire id s = .next t ∧ KeepsBut [.txn] s t := by
  refine ⟨_, rfl, Within.keepsBut ?_ s⟩
  repeat' first
    | with_reducible exact within_skip _
    | with_reducible exact within_nil _
    | with_reducible refine within_cons ?_ ?_
    | with_reducible refine within_seq ?_ ?_
    | with_reducible refine within_ask fun _ => ?_
    | with_reducible refine within_each fun _ => ?_
    | with_reducible refine within_whenP ?_
    | with_reducible refine within_upd ?_
    | with_reducible refine within_ite ?_ ?_
    | with_reducible refine within_replicate ?_
    | with_reducible refine closeTxn_within ?_
    | split
    | dsimp only
  all_goals rfl

theorem execDpdCaptureStart_keeps (orx : Nat) (s : State) : ∃ t, execDpdCaptureStart orx s = .next t ∧ KeepsBut [.dpd] s t := by
  refine ⟨_, rfl, Within.keepsBut ?_ s⟩
  repeat' first
    | with_reducible exact within_skip _
    | with_reducible exact within_nil _
    | with_reducible refine within_cons ?_ ?_
    | with_reducible refine within_seq ?_ ?_
    | with_reducible refine within_ask fun _ => ?_
    | with_reducible refine within_each fun _ => ?_
    | with_reducible refine within_whenP ?_
    | with_reducible refine within_upd ?_
    | with_reducible refine within_ite ?_ ?_
    | with_reducible refine within_replicate ?_
    | with_reducible refine modOrx_within ?_
    | with_reducible refine modPath_within ?_
    | with_reducible refine touchLeases_within ?_
    | split
    | dsimp only
  all_goals rfl

theorem execDpdCaptureComplete_keeps (orx path start samples : Nat) (i q : List Int) (s : State) : ∃ t, execDpdCaptureComplete orx path start samples i q s = .next t ∧ KeepsBut [.cnts, .mem, .ecc, .mbx, .log, .evt, .clk, .fh, .mash, .tx, .dpd, .rx, .conv, .radio, .survey, .bias] s t := by
  refine ⟨_, rfl, Within.keepsBut ?_ s⟩
  repeat' first
    | with_reducible exact within_skip _
    | with_reducible exact within_nil _
    | with_reducible refine within_cons ?_ ?_
    | with_reducible refine within_seq ?_ ?_
    | with_reducible refine within_ask fun _ => ?_
    | with_reducible refine within_each fun _ => ?_
    | with_reducible refine within_whenP ?_
    | with_reducible refine within_upd ?_
    | with_reducible refine within_ite ?_ ?_
    | with_reducible refine within_replicate ?_
    | with_reducible refine modDpd_within ?_
    | with_reducible refine dpdRefresh_within ?_
    | with_reducible refine dpdReject_within ?_
    | with_reducible refine held_within ?_
    | with_reducible refine modOrx_within ?_
    | with_reducible refine modPath_within ?_
    | with_reducible refine store_within ?_
    | with_reducible refine touchLeases_within ?_
    | with_reducible refine txRun_within ?_
    | split
    | dsimp only
  all_goals rfl

theorem execTrackCapture_keeps (orx : Nat) (blocks : List (Nat × List (Int × Int))) (i q : List Int) (s : State) : ∃ t, execTrackCapture orx blocks i q s = .next t ∧ KeepsBut [.cnts, .tx, .dpd, .survey] s t := by
  refine ⟨_, rfl, Within.keepsBut ?_ s⟩
  repeat' first
    | with_reducible exact within_skip _
    | with_reducible exact within_nil _
    | with_reducible refine within_cons ?_ ?_
    | with_reducible refine within_seq ?_ ?_
    | with_reducible refine within_ask fun _ => ?_
    | with_reducible refine within_each fun _ => ?_
    | with_reducible refine within_whenP ?_
    | with_reducible refine within_upd ?_
    | with_reducible refine within_ite ?_ ?_
    | with_reducible refine within_replicate ?_
    | with_reducible refine modOrx_within ?_
    | with_reducible refine touchLeases_within ?_
    | with_reducible refine trackRx_within ?_
    | with_reducible refine trackTx_within ?_
    | with_reducible refine txRun_within ?_
    | split
    | dsimp only
  all_goals rfl

theorem execMismatchResult_keeps (path orx : Nat) (forward reverse : List (Int × Int)) (s : State) : ∃ t, execMismatchResult path orx forward reverse s = .next t ∧ KeepsBut [.cnts, .mem, .ecc, .mbx, .log, .evt, .clk, .fh, .mash, .tx, .dpd, .rx, .conv, .radio, .survey, .bias, .rffe] s t := by
  refine ⟨_, rfl, Within.keepsBut ?_ s⟩
  repeat' first
    | with_reducible exact within_skip _
    | with_reducible exact within_nil _
    | with_reducible refine within_cons ?_ ?_
    | with_reducible refine within_seq ?_ ?_
    | with_reducible refine within_ask fun _ => ?_
    | with_reducible refine within_each fun _ => ?_
    | with_reducible refine within_whenP ?_
    | with_reducible refine within_upd ?_
    | with_reducible refine within_ite ?_ ?_
    | with_reducible refine within_replicate ?_
    | with_reducible refine modRffe_within ?_
    | with_reducible refine count_within ?_
    | with_reducible refine isolate_within ?_
    | with_reducible refine modOrx_within ?_
    | with_reducible refine raise_within ?_
    | with_reducible refine streak_within ?_
    | with_reducible refine touchLeases_within ?_
    | with_reducible refine txRun_within ?_
    | split
    | dsimp only
  all_goals rfl

theorem execAirSymbolDl_keeps (carrier : Nat) (s : State) : ∃ t, execAirSymbolDl carrier s = .next t ∧ KeepsBut [.cnts, .ecc, .mbx, .evt, .datum, .fh, .grat, .tx] s t := by
  refine ⟨_, rfl, Within.keepsBut ?_ s⟩
  repeat' first
    | with_reducible exact within_skip _
    | with_reducible exact within_nil _
    | with_reducible refine within_cons ?_ ?_
    | with_reducible refine within_seq ?_ ?_
    | with_reducible refine within_ask fun _ => ?_
    | with_reducible refine within_each fun _ => ?_
    | with_reducible refine within_whenP ?_
    | with_reducible refine within_upd ?_
    | with_reducible refine within_ite ?_ ?_
    | with_reducible refine within_replicate ?_
    | with_reducible refine modFh_within ?_
    | with_reducible refine modTx_within ?_
    | with_reducible refine armFrom_within ?_
    | with_reducible refine armMissing_within ?_
    | with_reducible refine count_within ?_
    | with_reducible refine countN_within ?_
    | with_reducible refine countWeights_within ?_
    | with_reducible refine coveringEcc_within ?_
    | with_reducible refine held_within ?_
    | with_reducible refine putAir_within ?_
    | with_reducible refine txRun_within ?_
    | split
    | dsimp only
  all_goals rfl

theorem execProfileApply_keeps (s : State) : ∃ t, execProfileApply s = .next t ∧ KeepsBut [.cfg, .cnts, .mbx, .evt, .txn, .clk, .pwr, .boot, .fh, .conv, .radio, .survey, .rffe, .coex] s t := by
  refine ⟨_, rfl, Within.keepsBut ?_ s⟩
  repeat' first
    | with_reducible exact within_skip _
    | with_reducible exact within_nil _
    | with_reducible refine within_cons ?_ ?_
    | with_reducible refine within_seq ?_ ?_
    | with_reducible refine within_ask fun _ => ?_
    | with_reducible refine within_each fun _ => ?_
    | with_reducible refine within_whenP ?_
    | with_reducible refine within_upd ?_
    | with_reducible refine within_ite ?_ ?_
    | with_reducible refine within_replicate ?_
    | with_reducible refine modBoot_within ?_
    | with_reducible refine beginWake_within ?_
    | with_reducible refine firmwareArm_within ?_
    | with_reducible refine profFail_within ?_
    | with_reducible refine stamp_within ?_
    | split
    | dsimp only
  all_goals rfl

theorem execProfileWaitExpiry_keeps (s : State) : ∃ t, execProfileWaitExpiry s = .next t ∧ KeepsBut [.boot] s t := by
  refine ⟨_, rfl, Within.keepsBut ?_ s⟩
  repeat' first
    | with_reducible exact within_skip _
    | with_reducible exact within_nil _
    | with_reducible refine within_cons ?_ ?_
    | with_reducible refine within_seq ?_ ?_
    | with_reducible refine within_ask fun _ => ?_
    | with_reducible refine within_each fun _ => ?_
    | with_reducible refine within_whenP ?_
    | with_reducible refine within_upd ?_
    | with_reducible refine within_ite ?_ ?_
    | with_reducible refine within_replicate ?_
    | with_reducible refine modBoot_within ?_
    | split
    | dsimp only
  all_goals rfl

theorem execProfileRefTimeout_keeps (s : State) : ∃ t, execProfileRefTimeout s = .next t ∧ KeepsBut [.cfg, .cnts, .mbx, .evt, .txn, .clk, .pwr, .boot, .fh, .conv, .radio, .survey, .rffe, .coex] s t := by
  refine ⟨_, rfl, Within.keepsBut ?_ s⟩
  repeat' first
    | with_reducible exact within_skip _
    | with_reducible exact within_nil _
    | with_reducible refine within_cons ?_ ?_
    | with_reducible refine within_seq ?_ ?_
    | with_reducible refine within_ask fun _ => ?_
    | with_reducible refine within_each fun _ => ?_
    | with_reducible refine within_whenP ?_
    | with_reducible refine within_upd ?_
    | with_reducible refine within_ite ?_ ?_
    | with_reducible refine within_replicate ?_
    | with_reducible refine profFail_within ?_
    | split
    | dsimp only
  all_goals rfl

theorem execTapTckEdge_keeps (tms tdi trstN : Bool) (inputs : Nat) (s : State) : ∃ t, execTapTckEdge tms tdi trstN inputs s = .next t ∧ KeepsBut [.free, .tap] s t := by
  refine ⟨_, rfl, Within.keepsBut ?_ s⟩
  repeat' first
    | with_reducible exact within_skip _
    | with_reducible exact within_nil _
    | with_reducible refine within_cons ?_ ?_
    | with_reducible refine within_seq ?_ ?_
    | with_reducible refine within_ask fun _ => ?_
    | with_reducible refine within_each fun _ => ?_
    | with_reducible refine within_whenP ?_
    | with_reducible refine within_upd ?_
    | with_reducible refine within_ite ?_ ?_
    | with_reducible refine within_replicate ?_
    | with_reducible refine modTap_within ?_
    | with_reducible refine drawFree_within ?_
    | split
    | dsimp only
  all_goals rfl

end Sys2Proof.Laws
end

