-- ==== Sys2Proof/Laws/Tables.lean ====
section
/-! SUPPORT. Tables by key: reading a key after it, or another, was set, changed or deleted. -/

namespace Sys2Proof.Laws

open Sys2Proof Sys2Proof.Machine

@[simp] theorem tfind_nil {α : Type} (k : Nat) : tfind ([] : Tab α) k = none := rfl

@[simp] theorem tfind_tset_same {α : Type} (t : Tab α) (k : Nat) (v : α) : tfind (tset t k v) k = some v := by
  induction t with
  | nil => simp [tset, tfind]
  | cons p t ih =>
    obtain ⟨a, b⟩ := p
    simp only [tset]
    split
    · simp [tfind]
    · split
      · simp [tfind]
      · have : a ≠ k := fun e => by simp_all
        simp [tfind, this, ih]

@[simp] theorem tfind_tset_ne {α : Type} (t : Tab α) {k j : Nat} (v : α) (h : k ≠ j) : tfind (tset t k v) j = tfind t j := by
  induction t with
  | nil => simp [tset, tfind, h]
  | cons p t ih =>
    obtain ⟨a, b⟩ := p
    simp only [tset]
    split
    · simp [tfind, h]
    · split
      · rename_i e
        subst e
        simp [tfind, h]
      · simp [tfind, ih]

theorem tfind_tset {α : Type} (t : Tab α) (k j : Nat) (v : α) : tfind (tset t k v) j = if k = j then some v else tfind t j := by
  by_cases h : k = j
  · subst h; simp
  · simp [h]

@[simp] theorem tget_tset_same {α : Type} (d : α) (t : Tab α) (k : Nat) (v : α) : tget d (tset t k v) k = v := by
  simp [tget]

@[simp] theorem tget_tset_ne {α : Type} (d : α) (t : Tab α) {k j : Nat} (v : α) (h : k ≠ j) : tget d (tset t k v) j = tget d t j := by
  simp [tget, h]

@[simp] theorem tget_tmod_same {α : Type} (d : α) (t : Tab α) (k : Nat) (f : α → α) : tget d (tmod d t k f) k = f (tget d t k) := by
  simp [tmod]

@[simp] theorem tfind_tmod_same {α : Type} (d : α) (t : Tab α) (k : Nat) (f : α → α) : tfind (tmod d t k f) k = some (f (tget d t k)) := by
  simp [tmod]

@[simp] theorem tget_tmod_ne {α : Type} (d : α) (t : Tab α) {k j : Nat} (f : α → α) (h : k ≠ j) : tget d (tmod d t k f) j = tget d t j := by
  simp [tmod, h]

@[simp] theorem tfind_tdel_ne {α : Type} (t : Tab α) {k j : Nat} (h : k ≠ j) : tfind (tdel t k) j = tfind t j := by
  induction t with
  | nil => rfl
  | cons p t ih =>
    obtain ⟨a, b⟩ := p
    simp only [tdel]
    split
    · rename_i e
      subst e
      simp [tfind, h, ih]
    · simp [tfind, ih]

@[simp] theorem tfind_tdel_same {α : Type} (t : Tab α) (k : Nat) : tfind (tdel t k) k = none := by
  induction t with
  | nil => rfl
  | cons p t ih =>
    obtain ⟨a, b⟩ := p
    simp only [tdel]
    split
    · exact ih
    · rename_i e
      simp [tfind, e, ih]

@[simp] theorem tget_tdel_same {α : Type} (d : α) (t : Tab α) (k : Nat) : tget d (tdel t k) k = d := by
  simp [tget]

@[simp] theorem tget_tdel_ne {α : Type} (d : α) (t : Tab α) {k j : Nat} (h : k ≠ j) : tget d (tdel t k) j = tget d t j := by
  simp [tget, h]

/-- An entry of a table after a key was set is the new one or an old one. -/
theorem mem_tset {α : Type} {t : Tab α} {k : Nat} {v : α} {p : Nat × α} (h : p ∈ tset t k v) : p = (k, v) ∨ p ∈ t := by
  induction t with
  | nil => simpa [tset] using h
  | cons q t ih =>
    obtain ⟨a, b⟩ := q
    simp only [tset] at h
    split at h
    · simpa using h
    · split at h
      · rcases List.mem_cons.1 h with h | h
        · exact .inl h
        · exact .inr (List.mem_cons_of_mem _ h)
      · rcases List.mem_cons.1 h with h | h
        · exact .inr (h ▸ List.mem_cons_self ..)
        · rcases ih h with h | h
          · exact .inl h
          · exact .inr (List.mem_cons_of_mem _ h)

theorem mem_tdel {α : Type} {t : Tab α} {k : Nat} {p : Nat × α} (h : p ∈ tdel t k) : p ∈ t := by
  induction t with
  | nil => exact h
  | cons q t ih =>
    obtain ⟨a, b⟩ := q
    simp only [tdel] at h
    split at h
    · exact List.mem_cons_of_mem _ (ih h)
    · rcases List.mem_cons.1 h with h | h
      · exact h ▸ List.mem_cons_self ..
      · exact List.mem_cons_of_mem _ (ih h)

/-- The value of a key is an entry's or the default. -/
theorem tget_mem {α : Type} (d : α) (t : Tab α) (k : Nat) : tget d t k = d ∨ (k, tget d t k) ∈ t := by
  induction t with
  | nil => exact .inl rfl
  | cons q t ih =>
    obtain ⟨a, b⟩ := q
    by_cases h : a = k
    · subst h; simp [tget, tfind]
    · rcases ih with ih | ih
      · left; simpa [tget, tfind, h] using ih
      · right; simpa [tget, tfind, h] using .inr ih

end Sys2Proof.Laws
end

