-- ==== Sys2Proof/Tests/Slice0.lean ====
section
/-! SUPPORT. Small checks of the model: ill-formed commands that WellFormed refuses, witnesses that meet the hypotheses of every
clause of the statements, and steps whose results the specification gives. -/

namespace Sys2Proof.Tests

set_option Elab.async false -- one evaluation by the kernel at a time

open Sys2Proof Sys2Proof.Machine

/-- A device with every domain ON, firmware running, the mailbox ready and REF aligned, at 1 ms of datum time. -/
def live : State :=
  { State.reset with
    pwr := { State.reset.pwr with
      aoUp := true, fio := true, pseqEn := 0x7F, pseqPg := 0x7F
      dom := (List.range 20).map fun d => (d + 1, DomState.on) }
    boot := { State.reset.boot with held := false, step := 5, stage := 4, cause := 1 }
    mbx := { State.reset.mbx with ready := true }
    clk := { State.reset.clk with aligned := true, cpuPll := true, stage := 3 }
    datum := { State.reset.datum with cnt := 1000000, ref := (0, 0, 0) } }

/-- A command answers a state of which a property holds. -/
def ran (i : Instr) (s : State) (p : State → Bool) : Bool :=
  match exec i s with
  | .next t => p t
  | _ => false

/-- A domain in a given state. -/
def inDom (d : Nat) (x : DomState) (s : State) : State := { s with pwr := { s.pwr with dom := tset s.pwr.dom d x } }

/-- A model time began under a key. -/
def stamp_ (k t : Nat) (s : State) : State := { s with clk := { s.clk with stamps := tset s.clk.stamps k t } }

/-- So many ns of the model's clock since reset. -/
def at_ (ns : Nat) (s : State) : State := { s with tick := (ns * 1536 + 3124) / 3125 }

def boot_ (f : BootSt → BootSt) : State := { live with boot := f live.boot }

def clk_ (f : ClkSt → ClkSt) : State := { live with clk := f live.clk }

def datum_ (f : DatumSt → DatumSt) : State := { live with datum := f live.datum }

def pwr_ (f : PwrSt → PwrSt) : State := { live with pwr := f live.pwr }

def fh_ (f : FhSt → FhSt) : State := { live with fh := f live.fh }

def mbx_ (f : MbxSt → MbxSt) : State := { live with mbx := f live.mbx }

def ecc_ (f : EccSt → EccSt) : State := { live with ecc := f live.ecc }

def tx_ (f : TxSt → TxSt) : State := { live with tx := f live.tx }

def dpd_ (f : DpdSt → DpdSt) : State := { live with dpd := f live.dpd }

def rx_ (f : RxSt → RxSt) : State := { live with rx := f live.rx }

def hk_ (f : HkSt → HkSt) : State := { live with hk := f live.hk }

def host_ (f : HostSt → HostSt) : State := { live with host := f live.host }

def mash_ (f : MashSt → MashSt) : State := { live with mash := f live.mash }

def grat_ (f : GratSt → GratSt) : State := { live with grat := f live.grat }

def survey_ (f : SurveySt → SurveySt) : State := { live with survey := f live.survey }

def bias_ (f : BiasSt → BiasSt) : State := { live with bias := f live.bias }

def rffe_ (f : RffeSt → RffeSt) : State := { live with rffe := f live.rffe }

def coex_ (f : CoexSt → CoexSt) : State := { live with coex := f live.coex }

def conv_ (f : ConvSt → ConvSt) : State := { live with conv := f live.conv }

def cap_ (f : CapSt → CapSt) : State := { live with cap := f live.cap }

def sect_ (f : SectSt → SectSt) : State := { live with sect := f live.sect }

def txn_ (f : TxnSt → TxnSt) : State := { live with txn := f live.txn }

/-- A sheet's radio record changed. -/
def sheet_ (n : Nat) (f : Sheet → Sheet) (s : State) : State :=
  { s with radio := { s.radio with sheet := tmod sheet0 s.radio.sheet n f } }

/-- The settings store holds a record. -/
def with_ (op unit : Nat) (r : Rec) (s : State) : State := { s with cfg := tset s.cfg (cfgKey op unit) r }

/-- A PTP message of a kind and sequence in an untagged frame, of domain 24 and the zero port. -/
def ptpFrame (kind flags seq : Nat) : Rec :=
  zeros 12 ++ ([0x88, 0xF7, kind, 2, 0, 44, 24, 0, flags] : Rec) ++ zeros 23 ++ ([seq / 256, seq % 256] : Rec) ++ zeros 12

/-- SOURCE 1, and a ring that holds one frame received at 5. -/
def ringed (f : Rec) : State := with_ 0x0302 0 (putAt datumReset 0 [1, 24]) (fh_ fun x => { x with ptpRing := [(5, f)] })

/-- The link established. -/
def up : State := fh_ fun f => { f with link := 3 }

/-- Carrier 0 committed in both directions with its default shape. -/
def carried (s : State) : State := with_ 0x0701 0 (putAt (txCarReset 0) 1 [1]) (with_ 0x0801 0 (putAt (rxCarReset 0) 1 [1]) s)

/-- Two rungs: four lanes at mode 3 and lane 0 alone, with FALLBACK_EN. -/
def ladder (s : State) : State := with_ 0x0401 0 (putAt (putAt linkReset 0 [1, 2, 3, 90]) 8 [3, 1, 0, 0, 15, 1]) s

/-- HK converting, and every channel that the kiln reads at a value. -/
def warm (v : Int) (s : State) : State :=
  { s with
    conv := { s.conv with conv := tset s.conv.conv 144 { conv0 with state := 2 } }
    hk := { s.hk with chan := (List.range 40).map fun i => (i, { chan0 with value := v }) } }

/-- The two-rung ladder in a state of the link, with signal on some lanes, lock and markers on all. -/
def laddered (link signal : Nat) : State := ladder (fh_ fun f => { f with link := link, signal := signal, cdr := 15, am := 15 })

/-- A frame of an Ethernet type and payload, of the zero addresses the reset link holds, 60 octets before the FCS. -/
def frame60 (ty : Rec) (pay : Rec) : Rec := zeros 12 ++ ty ++ pay ++ zeros (46 - pay.length)

/-- A type 1 section of one PRB on flow 7 over a whole slot. -/
def sect1 : Section :=
  { state := 1, type := 1, id := 0, flow := 7, carrier := 0, slot := 0, startSym := 0, numSym := 14, flags := 0, startPrb := 0, numPrb := 1
    reMask := 0xFFF, beam := 0, comp := 0x91, extLen := 0, freqOff := 0, airNs := 0, ueId := 0, cpSeq := 0, upMatched := 0, ext := []
    conts := [], bund := 0, wts := none }

/-- A flow: its flags, eAxC and layer. -/
def flow_ (n flags eaxc layer : Nat) (s : State) : State :=
  with_ 0x0403 n (putAt (putAt (flowReset n) 1 (leBytes 1 flags ++ leBytes 2 eaxc)) 5 [layer]) s

/-- The link established with a peer whose MAC ends in 1. -/
def peered : State := with_ 0x0401 0 (putAt linkReset 22 [2, 0, 0, 0, 0, 1]) up

/-- A frame of that peer. -/
def fromPeer_ (ty pay : Rec) : Rec := putAt (frame60 ty pay) 6 [2, 0, 0, 0, 0, 1]

/-- An eCPRI message of a type for eAxC 0 with its application bytes. -/
def ecpri_ (type : Nat) (app : Rec) : Rec := fromPeer_ [0xAE, 0xFE] ([0x10] ++ leBytes 1 type ++ [0, 42, 0, 0, 0, 0x80] ++ app)

/-- A committed transaction that sets one record at a datum time. -/
def commitAt (t op : Nat) (r : Rec) (s : State) : State :=
  { s with txn := { s.txn with live :=
    [{ id := 1, state := .committed, origin := 1, label := 0, items := [{ op := op, req := r, addr := 0, value := 0, mask := 0 }], boundary := 0
       refCarrier := 0, applyNs := t, failStatus := 0, failIndex := 0, busErr := [], loaded := true, lead := 0, lost := 0 }] } }

/-- A state at the time of the next downlink comparator of carrier 0, with its transaction at the air time of that symbol. -/
def symDueWith (s : State) : State :=
  match tfind (runP armMissing s).datum.cmpDl 0 with
  | some x =>
    { s with
      datum := { s.datum with cnt := BitVec.ofNat 32 x.target, cmpDl := [(0, x)] }
      txn := { s.txn with live := s.txn.live.map fun y => { y with applyNs := x.target + 1 } } }
  | none => s

/-- The next downlink and uplink comparators of carrier 0, armed and come due. -/
def symDue (dl : Bool) : State :=
  let s := runP armMissing (carried live)
  match tfind (if dl then s.datum.cmpDl else s.datum.cmpUl) 0 with
  | some x => { s with datum := { s.datum with cnt := BitVec.ofNat 32 x.target } }
  | none => live

/-- An uplink symbol of carrier 0 that has ended, with its sections. -/
def ended (l : List Section) : State :=
  fh_ fun f => { f with ulSyms :=
    [{ carrier := 0, half := 0, sym := 0, air := 999000, len := 1000, sects := l, late := false, stateMask := 0, readyMask := 0, view := none }] }

/-- An egress descriptor of queue 3 due at a time. -/
def desc (launch : Nat) (eligible tested : Bool) : EgDesc :=
  { launch := launch, flow := 0, prb := 0, sect := 0, frame := zeros 60, late := false, eligible := eligible, tested := tested }

/-- Descriptors in queue 3. -/
def queued (l : List EgDesc) (s : State) : State := { s with fh := { s.fh with egress := [(3, l)] } }

/-- Every sheet aligned, with skew and LO phase current. -/
def current_ (s : State) : State :=
  let s := [0, 1, 2, 3].foldl (fun s n => sheet_ n (fun r => { r with done := true }) s) s
  { s with mash := { s.mash with skewCur := 15 }, survey := { s.survey with recip := 15, align := 15 } }

/-- A refresh cut at 960,000 ns at a stage. -/
def refresh1 (stage : Nat) : Refresh :=
  { tEnd := 960000, fresh := [0], stage := stage, recip := [], boundary := 0, kind := 0, car := 0, target := (0, 0), ready := 0
    deferred := false, set := [], solves := 0, sat := 0, fail := 0 }

/-- The refreshes outstanding. -/
def refreshing (l : List Refresh) : State := mash_ fun m => { m with refresh := l }

/-- A quick survey of sheet 0 whose leases are over. -/
def camp1 : Camp :=
  { number := 1, full := false, skipOrx := false, sheets := 1, setting := true, partner := none, parent := none, start := 0, leases := [(0, 2)], starts := [], rxMeas := []
    temps := [], solved := false, accepted := 0, boundary := 0, result := set0, cfg := [] }

/-- Sheet 0 in TX and ready, with path 0 in MODE 2 and its coupler known. -/
def adapting (s : State) : State := with_ 0x0909 0 [0, 1, 0, 0, 0, 0, 0, 0, 0, 0, 0, 0] (with_ 0x0902 0 (putAt (dpdPathRec live 0) 1 [2]) (sheet_ 0 (fun r => { r with state := .tx, txReady := true }) s))

/-- Sheet 0 in a state, its synthesizer calibrated since a datum time and in lock. -/
def aligned_ (done : Nat) (f : Sheet → Sheet) (s : State) : State :=
  sheet_ 0 (fun r => f { r with done := true, tDone := done, txLock := true, rxLock := true }) s

/-- Receiver 0 with its record changed. -/
def orx_ (f : Orx → Orx) (s : State) : State := { s with dpd := { s.dpd with orx := [(0, f orx0)] } }

/-- Path 0 of predistortion with its record changed. -/
def dpath_ (f : DpdPath → DpdPath) (s : State) : State := { s with dpd := { s.dpd with path := [(0, f dpd0)] } }

/-- A converter running with its last slice spare, at a step of a visit. -/
def running (n visit : Nat) : State := conv_ fun c => { c with conv := [(n, { conv0 with
  state := 2, visit := visit
  slices := (List.range (posCount n + 1)).map fun i =>
    { pos := if i = posCount n then 0xFF else i, failed := false, offset := 0, gain := 0, skew := 0, thresh := [0, 0, 0, 0] } })] }

/-- The converters of receiver 0 running with a spare each, in wide mode or not, under a lease for predistortion. -/
def observing (wide : Bool) : State :=
  let c : Tab Conv := [128, 129].map fun n => (n, convOf (running n 0) n)
  { live with
    conv := { live.conv with conv := c }
    dpd := { live.dpd with orx := [(0, { orx0 with owner := 1, source := 1, wide := wide, path := some 0 })] } }

/-- The state in which that survey is solved, with every element of sheet 0 isolated and carrier 0 committed. -/
def surveying : State := carried { (clk_ fun k => { k with isoTx := 0xFFFF, isoRx := 0xFFFF }) with survey := { live.survey with camps := [camp1] } }

/-- Bias output 0 enabled, as `b`. -/
def biased (b : Bias) : State := { (bias_ fun x => { x with dac := [(0, b)] }) with cfg := [(cfgKey 0x0C01 0, [0, 1, 0, 0, 0, 0, 0, 0, 0, 0, 0xFF, 0x0F])] }

/-- Sheet 0 on its way into TX, to be there at a datum time. -/
def entering (te : Nat) (s : State) : State := sheet_ 0 (fun r => { r with state := .rx, trans := some (.tx, te) }) s

/-- A message of a master: a transfer in the immediate queue. -/
def msg1 : Rffe := { origin := 0, due := 0, trigger := false, item := [0, 1, 2, 3, 1, 0, 0, 0], group := 1, tag := 0 }

/-- Master 0 enabled, with its record changed. -/
def master_ (f : RffeMaster → RffeMaster) : State := with_ 0x0C10 0 [0, 1, 38, 0] (rffe_ fun r => { r with master := [(0, f master0)] })

/-- Capture slot 3 in a state, at a tap. -/
def slot_ (state tap : Nat) : State := carried (cap_ fun c => { c with slots := [(3, { slot0 with state := state, req := putAt (zeros 32) 1 [tap] })] })

/-- A call of channel 0 with SEQ 1. -/
def hc (txn : Nat) (req : Rec) : Call := { src := .host 0, seq := 1, txn := txn, req := req }

/-- An OPEN transaction of the host. -/
def open1 : Txn :=
  { id := 1, state := .opened, origin := 1, label := 0, items := [], boundary := 0, refCarrier := 0xFF, applyNs := 0, failStatus := 0
    failIndex := 0xFFFF, busErr := [], loaded := false, lead := 0, lost := 0 }

/-- A state with that transaction. -/
def opened1 : State := txn_ fun t => { t with live := [open1], next := 2 }

/-- QueueStep: a queue with one command, and one with two. -/
theorem witness_QueueStep :
    (({ live with pending := [.portStatus] } : State).pending = .portStatus :: []) ∧
    (({ live with pending := [.portStatus, .ppsOutFall] } : State).pending = .portStatus :: [.ppsOutFall]) :=
  by
    iterate 1 refine And.intro (by decide +kernel) ?_
    decide +kernel

/-- EmptyQueueStep: an empty queue, with DATUM ON, with an increment waiting and with none. -/
theorem witness_EmptyQueueStep :
    (live.pending = [] ∧ domOn live dDATUM = true ∧ live.datum.incNext = none) ∧
    (let s := datum_ fun d => { d with incNext := some (3, 5) }
    s.pending = [] ∧ domOn s dDATUM = true ∧ s.datum.incNext = some (3, 5)) :=
  by
    iterate 1 refine And.intro (by decide +kernel) ?_
    decide +kernel

/-- ResetCauses: each clause; boundary values of the cause, of the low level and of the times; firmware and boot ROM. -/
theorem witness_ResetCauses :
    (domOn live dCTRL = true ∧ domMoving (inDom dCTRL .waiting live) dCTRL = true ∧ (255 : Nat) < 256) ∧
    (1000 ≤ (1000 : Nat)) ∧
    (let s := at_ 1000000000 (stamp_ tkBoot 0 live)
    live.boot.held = false ∧ fwRuns s = true ∧ elapsed s tkBoot 1000000000 = true ∧ elapsed (at_ 999999990 s) tkBoot 1000000000 = false) ∧
    (let s := at_ 5000000000 (stamp_ tkBoot 0 (boot_ fun b => { b with step := 1 }))
    domOn s dCTRL = true ∧ s.boot.held = false ∧ fwRuns s = false ∧ elapsed s tkBoot 5000000000 = true) ∧
    (let s := at_ 1000000 (stamp_ tkCommand 0 (boot_ fun b => { b with resetPending := true }))
    s.boot.resetPending = true ∧ elapsed s tkCommand 1000000 = true) ∧
    (let s := ecc_ fun e => { e with tmr := [(2, 2, 2, 2)] }
    fwRuns s = true ∧ slotState (tmrWord s 2) s.boot.slot = 2 ∧ elapsed s tkBoot (1000000000 * s.boot.trialTimeout) = true) ∧
    (domOn live dCTRL = true ∧ live.boot.testEn = false) :=
  by
    iterate 6 refine And.intro (by decide +kernel) ?_
    decide +kernel

/-- ResetPinReleased: each clause, at the bounds of the low. -/
theorem witness_ResetPinReleased :
    ((99 : Nat) < 100) ∧
    (domOn live dCTRL = true ∧ 100 ≤ (100 : Nat) ∧ (999 : Nat) < 1000) ∧
    (domOn (inDom dCTRL .off live) dCTRL = false ∧ 1000 ≤ (1000 : Nat)) ∧
    ((boot_ fun b => { b with resetLow := true }).boot.resetLow = true) ∧
    ((boot_ fun b => { b with testEn := true }).boot.testEn = true) :=
  by
    iterate 4 refine And.intro (by decide +kernel) ?_
    decide +kernel

/-- BootSteps: each clause; a reset of cause PIN and one of another cause after 10 us, with and without ROM safe mode; the
first slot and a later one. -/
theorem witness_BootSteps :
    (let s := boot_ fun b => { b with held := true, step := 0, cause := 2 }
    domOn s dCTRL = true ∧ leavesReset s = true ∧ s.boot.romSafe = false) ∧
    (let s := at_ 10000 (stamp_ tkBoot 0 (boot_ fun b => { b with held := true, step := 0, romSafe := true }))
    domOn s dCTRL = true ∧ leavesReset s = true ∧ leavesReset (at_ 9990 s) = false) ∧
    (let s := boot_ fun b => { b with step := 1 }
    s.boot.step = 1 ∧ s.boot.held = false ∧ s.boot.romSafe = false ∧ elapsed s tkBoot 1200000 = true ∧ imgHeaderReason s 1 (tget [] s.boot.slotImg s.boot.trying) true ≠ 0) ∧
    (let s := stamp_ tkBoot 0 (boot_ fun b => { b with step := 1, tried := 1, trying := 1 })
    s.boot.tried ≠ 0 ∧ elapsed s tkBoot 1200000 = false) ∧
    (let s := boot_ fun b => { b with step := 2 }
    s.boot.step = 2 ∧ s.boot.held = false ∧ elapsed s tkBoot (50 * (512 + imgLen (tget [] s.boot.slotImg s.boot.trying))) = true) ∧
    (let s := boot_ fun b => { b with step := 3 }
    s.boot.step = 3 ∧ s.boot.held = false) ∧
    (fwRuns live = true ∧ elapsed live tkBoot 600000000000 = true) :=
  by
    iterate 6 refine And.intro (by decide +kernel) ?_
    decide +kernel

/-- FirmwareStarts: each clause, with DATUM ON and OFF, the domains of the safe link OFF and ON, and both ways into ROM
safe mode. -/
theorem witness_FirmwareStarts :
    (let s := boot_ fun b => { b with step := 4 }
    s.boot.step = 4 ∧ s.boot.held = false ∧ domOn s dCTRL = true ∧ domOn s dDATUM = true ∧ domOn (inDom dDATUM .off s) dDATUM = false) ∧
    (let s := inDom dDATUM .retention (inDom dFH .off (boot_ fun b => { b with step := 7 }))
    domOn s dCTRL = true ∧ s.boot.held = false ∧ s.boot.step = 7 ∧ domSt s dFH = .off ∧ domSt s dDATUM = .retention) ∧
    (let s := boot_ fun b => { b with step := 1, romSafe := true }
    s.boot.step = 1 ∧ s.boot.romSafe = true ∧ domOn s dFH = true) :=
  by
    iterate 2 refine And.intro (by decide +kernel) ?_
    decide +kernel

/-- SupplyRises: each clause, at the bounds of its time. -/
theorem witness_SupplyRises :
    (State.reset.pwr.aoUp = false ∧ State.reset.pwr.aoRising = false) ∧
    (let s := at_ 1000000 (stamp_ tkRise 0 (pwr_ fun p => { p with aoUp := false, aoRising := true }))
    s.pwr.aoRising = true ∧ s.pwr.aoUp = false ∧ elapsed s tkRise 1000000 = true ∧ elapsed (at_ 999990 s) tkRise 1000000 = false) ∧
    (let s := at_ 100000 (stamp_ tkRail 0 (pwr_ fun p => { p with pseqEn := 0x3F, pseqPg := 0x1F }))
    (5 : Nat) < 6 ∧ s.pwr.pseqEn.testBit 5 = true ∧ s.pwr.pseqPg.testBit 5 = false ∧ elapsed s tkRail 100000 = true) ∧
    (let s := pwr_ fun p => { p with pseqPg := 0x3F, dom := [] }
    s.pwr.pseqEn.testBit 6 = true ∧ s.pwr.pseqPg.testBit 6 = false ∧ elapsed s tkRail 100000 = true ∧ domSt s dCTRL = .off ∧ domSt s dMBX = .off ∧ domSt s dHK = .off) ∧
    (let s := at_ 100000000 (pwr_ fun p => { p with railWait := true, railTimes := [0] })
    s.pwr.railWait = true ∧ s.pwr.railHeld = false ∧ (∀ f ∈ s.pwr.railTimes.head?, f + 100000000 ≤ upNs s)) :=
  by
    iterate 4 refine And.intro (by decide +kernel) ?_
    decide +kernel

/-- SupplyFalls: each clause; a first rail fault, and a third within 10 minutes. -/
theorem witness_SupplyFalls :
    (live.pwr.aoUp = true ∧ (pwr_ fun p => { p with aoUp := false, aoRising := true }).pwr.aoRising = true) ∧
    ((6 : Nat) < 7 ∧ live.pwr.pseqEn.testBit 6 = true ∧ ((upNs live :: live.pwr.railTimes).take 3).length ≠ 3) ∧
    (let s := pwr_ fun p => { p with railTimes := [0, 0] }
    s.pwr.pseqEn.testBit 0 = true ∧ ((upNs s :: s.pwr.railTimes).take 3).length = 3 ∧ upNs s - ((upNs s :: s.pwr.railTimes).take 3).getLastD 0 ≤ 600000000000) :=
  by
    iterate 2 refine And.intro (by decide +kernel) ?_
    decide +kernel

/-- DatumRegisterWrites: the values 0, 3, 4 and 15 of INT, DATUM ON and OFF, a slew that has run out and one that has not. -/
theorem witness_DatumRegisterWrites :
    (domOn live dDATUM = true ∧ slice 0x3ABC 15 12 ≤ 3 ∧ slice 0 15 12 ≤ 3) ∧
    (3 < slice 0x4000 15 12 ∧ 3 < slice 0xFFFF 15 12) ∧
    (domOn (inDom dDATUM .off live) dDATUM = false) ∧
    (fwRuns live = true ∧ live.datum.slew = 0) ∧
    (let s := datum_ fun d => { d with slew := 5, cnt := 2000000000 }
    s.datum.slew ≠ 0 ∧ slewLeft s = 0) ∧
    (let s := datum_ fun d => { d with slew := -5, cnt := 10 }
    s.datum.slew ≠ 0 ∧ slewLeft s ≠ 0) :=
  by
    iterate 5 refine And.intro (by decide +kernel) ?_
    decide +kernel

/-- CounterStep: a step that nothing bars, one that a sheet in TX bars, and DATUM OFF. -/
theorem witness_CounterStep :
    (domOn live dDATUM = true ∧ stepBarred live = false) ∧
    (stepBarred (sheet_ 0 (fun r => { r with state := .tx }) live) = true) ∧
    (domOn (inDom dDATUM .off live) dDATUM = false) :=
  by
    iterate 2 refine And.intro (by decide +kernel) ?_
    decide +kernel

/-- PtpRing: each kind of Sync and its Follow_Up, a message of another domain, a request with time valid and not, a
response to a request that was sent, a Delay_Req that is due, and the transmit ring with a message of each kind. -/
theorem witness_PtpRing :
    (∀ g ∈ [0, 2], let s := ringed (ptpFrame 0 g 7)
    let f := ptpFrame 0 g 7
    fwRuns s = true ∧ (s.fh.ptpRing.find? fun e => !isOwdResponse e.2) = some (5, f) ∧ etherType f = 0x88F7 ∧
      datumSource s = 1 ∧ bfld (payload f) 4 1 = fld (datumRec s) 1 1 ∧ bfld (payload f) 20 10 = s.datum.gmPort ∧
      bfld (payload f) 0 1 % 16 = 0 ∧ (bfld (payload f) 6 1).testBit 1 = (g == 2)) ∧
    (let f := ptpFrame 8 0 7
    let s := { ringed f with datum := { live.datum with syncSeq := 7, sync := some (-1, 100) } }
    fwRuns s = true ∧ bfld (payload f) 0 1 % 16 = 8 ∧ bfld (payload f) 30 2 = s.datum.syncSeq ∧ s.datum.sync = some (-1, 100)) ∧
    (etherType (ptpFrame 0 0 7) = 0x88F7 ∧ bfld (payload (ptpFrame 0 0 7)) 4 1 ≠ fld (datumRec (with_ 0x0302 0 (putAt datumReset 1 [25]) live)) 1 1) ∧
    (let f : Rec := zeros 12 ++ [0xAE, 0xFE] ++ [0x10, 5, 0, 20, 7, 0] ++ zeros 18
    fwRuns (ringed f) = true ∧ ((ringed f).fh.ptpRing.find? fun e => !isOwdResponse e.2) = some (5, f) ∧ etherType f ≠ 0x88F7 ∧ bfld (payload f) 5 1 = 0) ∧
    (let resp : Rec := zeros 12 ++ [0xAE, 0xFE] ++ [0x10, 5, 0, 16, 7, 2] ++ zeros 14
    let s := { (fh_ fun f => { f with ptpRing := [(9, resp)] }) with datum := { live.datum with owdSent := [(7, 0, 100)] } }
    fwRuns s = true ∧ (s.fh.ptpRing.find? fun e => isOwdResponse e.2) = some (9, resp) ∧
      (s.datum.owdSent.find? fun q => q.1 == bfld (payload resp) 4 1 && q.2.2 != -1) = some (7, 0, 100)) ∧
    (let s := at_ 1000000000 (stamp_ tkDelayReq 0 (with_ 0x0302 0 (putAt datumReset 0 [1]) (datum_ fun d => { d with gmBest := [1, 2] })))
    fwRuns s = true ∧ domOn s dDATUM = true ∧ datumSource s = 1 ∧ s.datum.gmBest ≠ [] ∧ elapsed s tkDelayReq (delayReqNs s) = true) ∧
    (let f : Rec := zeros 12 ++ [0x88, 0xF7] ++ zeros 46
    let s := { (fh_ fun x => { x with link := 3 }) with datum := { live.datum with ptpTx := [f] } }
    s.fh.link = 3 ∧ domOn s dDATUM = true ∧ s.datum.ptpTx = f :: [] ∧ isOwdRequest f = false ∧ etherType f ≠ 0xAEFE) ∧
    (let f : Rec := zeros 12 ++ [0xAE, 0xFE] ++ [0x10, 5, 0, 20, 7, 0] ++ zeros 18
    let s (l : Nat) (v : Bool) := { (fh_ fun x => { x with link := 3 }) with datum := { live.datum with ptpTx := [f], timeValid := v, tod := (l, 0, 0) } }
    let age (l : Nat) := int32Diff (txStamp (s l true) 0 0 / 256) l
    isOwdRequest f = true ∧ etherType f = 0xAEFE ∧ (s 0 false).datum.timeValid = false ∧ age 2000000 < 0 ∧ 0 ≤ age 0 ∧ age 0 < 1000000000 ∧
      1000000000 ≤ age 3200000000) :=
  by
    iterate 7 refine And.intro (by decide +kernel) ?_
    decide +kernel

/-- ServoEvents: each clause. -/
theorem witness_ServoEvents :
    (let s := at_ 1000000000 (stamp_ tkSync 0 (with_ 0x0302 0 (putAt datumReset 0 [1]) (datum_ fun d => { d with servo := 2 })))
    fwRuns s = true ∧ datumSource s = 1 ∧ (s.datum.servo = 1 ∨ s.datum.servo = 2) ∧ elapsed s tkSync 1000000000 = true) ∧
    (let s := with_ 0x0302 0 (putAt datumReset 0 [2]) (datum_ fun d => { d with servo := 1, last := 999998, ppsLimit := some 1000000 })
    fwRuns s = true ∧ datumSource s = 2 ∧ (s.datum.servo = 1 ∨ s.datum.servo = 2) ∧ s.datum.ppsLimit.any (crosses s) = true) ∧
    (let s := datum_ fun d => { d with servo := 3 }
    fwRuns s = true ∧ s.datum.servo = 3 ∧ s.datum.holdExpired = false ∧ elapsed s tkHoldover (1000000000 * fld (datumRec s) 12 4) = true) ∧
    (let s := datum_ fun d => { d with last := 999998, ppsLimit := some 1000000 }
    s.datum.ppsLimit.any (crosses s) = true ∧ datumSource s ≠ 2 ∧ live.datum.ppsLimit.any (crosses live) = false) ∧
    (datumSource live ≠ 1 ∧ live.datum.servo ≠ 3) :=
  by
    iterate 4 refine And.intro (by decide +kernel) ?_
    decide +kernel

/-- PulsePerSecond: each clause. -/
theorem witness_PulsePerSecond :
    (let s := with_ 0x0302 0 (putAt datumReset 3 [1]) (datum_ fun d => { d with timeValid := true, ppsNext := 1000000, last := 999998 })
    domOn s dDATUM = true ∧ s.datum.timeValid = true ∧ fbit (datumRec s) 3 1 0 = true ∧ crosses s s.datum.ppsNext = true) ∧
    (let s := datum_ fun d => { d with ppsOut := true, cnt := 500000000 }
    s.datum.ppsOut = true ∧ due s (add32 s.datum.ppsRise (1000000 * fld (datumRec s) 24 2 : Nat)) = true) ∧
    (domOn live dDATUM = true ∧ fbit (datumRec live) 3 1 2 = false ∧ live.datum.atPps = none ∧ datumSource live ≠ 2) ∧
    (let s := datum_ fun d => { d with atPps := some 7 }
    fwRuns s = true ∧ s.datum.atPps = some 7 ∧ stepBarred s = false ∧ stepBarred (sheet_ 0 (fun r => { r with state := .rx }) s) = true) ∧
    (let s := with_ 0x0302 0 (putAt datumReset 0 [2]) live
    fwRuns s = true ∧ s.datum.atPps = none ∧ datumSource s = 2 ∧ (ppsOffset s).natAbs ≤ 1000000 ∧ s.datum.servo = 0) ∧
    (let s := with_ 0x0302 0 (putAt datumReset 0 [2]) (datum_ fun d => { d with timeValid := true, cnt := 500000000 })
    1000000 < (ppsOffset s).natAbs) ∧
    (domOn (inDom dDATUM .off live) dDATUM = false ∧ fbit (datumRec live) 3 1 2 ≠ true) :=
  by
    iterate 6 refine And.intro (by decide +kernel) ?_
    decide +kernel

/-- DomainLeaves: each clause; FORCE set and clear, with a host transfer; CTRL with MBX and a domain alone; OFF and
RETENTION. -/
theorem witness_DomainLeaves :
    (let s := inDom dGRAT .quiescing live
    domSt s dGRAT = .quiescing ∧ drainBlocked s dGRAT = false) ∧
    (let s := inDom dMASH .quiescing (inDom dGRAT .quiescing live)
    drainBlocked s dGRAT = true ∧ drainBlocked s dMASH = false ∧ dGRAT < 21 ∧ dGRAT ≠ dMASH) ∧
    (let s (f : Bool) := stamp_ dGRAT 0 (at_ 10 (inDom dGRAT .quiescing (pwr_ fun p => { p with req := some { mask := 2 ^ dGRAT, target := 1, force := f, failed := 0, failStatus := 0 } })))
    ∀ f : Bool, domSt (s f) dGRAT = .quiescing ∧ drainBlocked (s f) dGRAT = false ∧ elapsed (s f) dGRAT (drainNs (s f) dGRAT) = f.not.and f ∧
      elapsed (at_ 3000 (s f)) dGRAT (drainNs (s f) dGRAT) = true ∧ (((s f).pwr.req.map fun r => r.force && r.mask.testBit dGRAT).getD false) = f ∧
      [(5, 2)] ≠ ([] : List (Nat × Nat)) ∧ dGRAT ≠ dCTRL ∧ dGRAT ≠ dMBX) ∧
    (domSt (inDom dMBX .quiescing live) dMBX = .quiescing ∧ live.pwr.req = none) ∧
    (let s := inDom dGRAT .drained live
    domSt s dGRAT = .drained ∧ tget 2 s.pwr.to_ dGRAT ≠ 0 ∧ tget 2 (tset s.pwr.to_ dGRAT 0) dGRAT = 0) ∧
    (let s := inDom dMBX .drained (inDom dCTRL .drained live)
    domSt s dCTRL = .drained ∧ ∀ k ∈ [dCTRL, dMBX], domSt s k = .drained ∨ domSt s k = .off ∨ domSt s k = .retention) :=
  by
    iterate 5 refine And.intro (by decide +kernel) ?_
    decide +kernel

/-- DomainWakes: each clause; with and without GRAT; from RETENTION and OFF; failing casks of CTRL and of another domain;
a domain with casks and one without. -/
theorem witness_DomainWakes :
    (let s := at_ 5000 (stamp_ tkSwitch 0 (inDom dMASH .waiting live))
    domSt s dMASH = .waiting ∧ s.pwr.fio = true ∧ switchBlocked s dMASH = false ∧ needsGrat s dMASH = false ∧ elapsed s tkSwitch 5000 = true ∧ elapsed (at_ 4990 s) tkSwitch 5000 = false) ∧
    (let s := inDom dGRAT .off (inDom dMASH .waiting live)
    domSt s dMASH = .waiting ∧ switchBlocked s dMASH = false ∧ needsGrat s dMASH = true ∧ domMoving s dGRAT = false ∧ domMoving (inDom dGRAT .switched s) dGRAT = true) ∧
    (let s := inDom dGRAT .switched live
    domSt s dGRAT = .switched ∧ elapsed s dGRAT (initNs s dGRAT) = true ∧ 24 ∈ initCasks s dGRAT) ∧
    (let s := inDom dGRAT .inited live
    domSt s dGRAT = .inited ∧ elapsed s dGRAT (((keptCasks s dGRAT).length + 3) / 4 * 204800) = true ∧ (keptCasks s dGRAT).filter (fun i => (0 : Nat).testBit i) = []) ∧
    (let s := { (inDom dCTRL .inited live) with pwr := { (inDom dCTRL .inited live).pwr with keep := tset live.pwr.keep dCTRL 0xFFFFFFFF } }
    domSt s dCTRL = .inited ∧ (keptCasks s dCTRL).filter (fun i => (0xFFFFFFFF : Nat).testBit i) ≠ []) ∧
    (domSt (inDom dGRAT .scrubbed live) dGRAT = .scrubbed ∧ live.pwr.save = []) ∧
    (domSt (inDom dDATUM .restored live) dDATUM = .restored ∧ domSt (inDom dFH .restored live) dFH = .restored ∧ domSt (inDom (dSHEET 3) .inited live) (dSHEET 3) = .inited ∧ (casksOf (dSHEET 3)).2 = 0 ∧ (casksOf dHK).2 = 0) :=
  by
    iterate 6 refine And.intro (by decide +kernel) ?_
    decide +kernel

/-- PowerControl: each clause. -/
theorem witness_PowerControl :
    ((20 : Nat) < 21 ∧ domSt (inDom 20 .waiting live) 20 = .waiting) ∧
    (let s := pwr_ fun p => { p with dom := [] }
    s.pwr.aoUp = true ∧ ∀ k, k < 20 → domSt s (k + 1) = .off ∨ domSt s (k + 1) = .retention) ∧
    ((∀ k, k < 21 → domSt live k ≠ .waiting) ∧ domSt live (0 + 1) ≠ .off ∧ domSt live (0 + 1) ≠ .retention) ∧
    (let s := at_ 5000000 (stamp_ tkRetention 0 (inDom dMBX .retention (inDom dCTRL .retention (pwr_ fun p => { p with wakeAfter := some 5 }))))
    s.pwr.wakeAfter = some 5 ∧ elapsed s tkRetention (1000000 * 5) = true ∧ domSt s dCTRL = .retention ∧ domSt s dMBX = .retention) ∧
    (let s := inDom dCTRL .off live
    domSt s dCTRL = .off ∧ railsUp s = true ∧ domSt live dCTRL ≠ .retention ∧ domSt live dCTRL ≠ .off) ∧
    ((pwr_ fun p => { p with railHeld := true }).pwr.railHeld = true ∧ live.pwr.railHeld = false) :=
  by
    iterate 5 refine And.intro (by decide +kernel) ?_
    decide +kernel

/-- KilnAndTemperatures: CTRL ON and off, the times, the trip temperature, the converter running and idle, a sheet in
SYNTH and in SLEEP. -/
theorem witness_KilnAndTemperatures :
    (let s := at_ 1000000 (stamp_ tkKiln 0 live)
    domOn s dCTRL = true ∧ elapsed s tkKiln 1000000 = true ∧ elapsed (at_ 999990 s) tkKiln 1000000 = false ∧ domOn (inDom dCTRL .off live) dCTRL = false ∧ 944 ≤ tHotNow (warm 944 live) ∧ tHotNow (warm 839 live) < 840) ∧
    (hkReady (warm 0 live) (List.replicate 16 100) = true ∧ hkReady (warm 0 live) [100] = false ∧ hkReady (inDom dHK .off (warm 0 live)) (List.replicate 16 100) = false) ∧
    (let s := at_ 100000 (stamp_ (tkTemp 3) 0 (sheet_ 3 (fun r => { r with state := .synth }) live))
    3 < nSheets s ∧ domOn s (dSHEET 3) = true ∧ (sh s 3).state ≠ .sleep ∧ elapsed s (tkTemp 3) 100000 = true ∧ elapsed (at_ 99990 s) (tkTemp 3) 100000 = false) ∧
    ((sh live 3).state = .sleep) :=
  by
    iterate 3 refine And.intro (by decide +kernel) ?_
    decide +kernel

/-- ProfileRuns: an accepted copy and none, the end entry running and first, a WAIT entry, and each phase. -/
theorem witness_ProfileRuns :
    (let s := boot_ fun b => { b with stage := 2, profPhase := 0 }
    fwRuns s = true ∧ s.boot.stage = 2 ∧ s.boot.profPhase = 0 ∧ profCurrent s s.boot.profile = none) ∧
    (let s (p : Nat) := boot_ fun b => { b with profPhase := p, profTxn := 0, profRest := [0xFF, 0xFF] }
    fwRuns (s 2) = true ∧ (s 2).boot.profPhase = 2 ∧ (s 1).clk.aligned = true ∧ domOn (s 1) dDATUM = true ∧ (s 1).boot.profTxn = 0 ∧ fld (s 1).boot.profRest 0 2 = 0xFFFF) ∧
    (let s := boot_ fun b => { b with profPhase := 2, profTxn := 0, profRest := [0, 0, 10, 0, 0, 0] }
    fwRuns s = true ∧ s.boot.profPhase = 2 ∧ s.boot.profTxn = 0 ∧ fld s.boot.profRest 0 2 = 0) ∧
    (let s := at_ 10000 (stamp_ tkProfile 0 (boot_ fun b => { b with profPhase := 3, profWait := 10 }))
    fwRuns s = true ∧ s.boot.profPhase = 3 ∧ elapsed s tkProfile (1000 * s.boot.profWait) = true ∧ elapsed (at_ 9990 s) tkProfile (1000 * s.boot.profWait) = false) ∧
    (let s := at_ 2000000000 (stamp_ tkProfile 0 (stamp_ tkRef 0 { (boot_ fun b => { b with profPhase := 1 }) with clk := { live.clk with lost := 1 } }))
    fwRuns s = true ∧ s.boot.profPhase = 1 ∧ s.clk.lost.testBit 0 = true ∧ elapsed s tkRef 2000000000 = true ∧ elapsed s tkProfile 2000000000 = true) :=
  by
    iterate 4 refine And.intro (by decide +kernel) ?_
    decide +kernel

/-- ClockMonitor: each clause; the first and the last clock, the window and before its end. -/
theorem witness_ClockMonitor :
    (live.pwr.fio = true ∧ elapsed live tkWindow 1000 = true ∧ elapsed (stamp_ tkWindow 0 live) tkWindow 1000 = false ∧ (0 : Nat) < 4 ∧ (3 : Nat) < 4) ∧
    (let s := clk_ fun c => { c with bad := [(0, 1)] }
    s.pwr.fio = true ∧ (14 : Nat).testBit 0 = false ∧ s.clk.lost.testBit 0 = false ∧ 1 ≤ tget 0 s.clk.bad 0) ∧
    ((pwr_ fun p => { p with fio := false }).pwr.fio = false) ∧
    (fwRuns live = true ∧ live.clk.lost.testBit 0 = false ∧ live.clk.lost.testBit 2 = false ∧ (clk_ fun c => { c with lost := 4 }).clk.lost.testBit 2 = true) :=
  by
    iterate 3 refine And.intro (by decide +kernel) ?_
    decide +kernel

/-- Alignment: each clause; every crossing at 4, the DATUM crossing off it, and a sheet off it. -/
theorem witness_Alignment :
    (domOn live dCTRL = true ∧ anyRxTx (sheet_ 0 (fun r => { r with state := .rx }) live) = true ∧ anyRxTx live = false ∧ domOn (inDom dCTRL .off live) dCTRL = false) ∧
    (let s := clk_ fun c => { c with stage := 4, armed := true }
    domOn s dDATUM = true ∧ s.clk.lost.testBit 0 = false ∧ s.clk.stage = 4 ∧ s.clk.armed = true ∧ s.clk.laneSwap = []) ∧
    ((clk_ fun c => { c with stage := 1 }).clk.stage = 1 ∧ live.clk.stage ≠ 1) ∧
    (let s := clk_ fun c => { c with stage := 2 }
    domOn s dDATUM = true ∧ s.clk.lost.testBit 0 = false ∧ s.clk.stage = 2 ∧
      (∀ i, i < 5 → (i = 4 ∨ i < nSheets s) → [4, 4, 4, 4, 4].getD i 4 = 4)) ∧
    (live.clk.stage = 3 ∧ domOn live dDATUM = true ∧ live.clk.lost.testBit 0 = false ∧ [4, 4, 4, 4, 5].getD 4 4 ≠ 4 ∧ 0 < nSheets live ∧ [3, 4, 4, 4, 4].getD 0 4 ≠ 4) ∧
    (domOn (inDom dDATUM .off live) dDATUM = false ∧ (clk_ fun c => { c with stage := 0 }).clk.stage = 0) :=
  by
    iterate 5 refine And.intro (by decide +kernel) ?_
    decide +kernel

/-- DieLinks: the 15 failures before the sixteenth, fewer, a sheet that is not powered, the lane of a running test with a
spare left and with none. -/
theorem witness_DieLinks :
    (let s := clk_ fun c => { c with crcTimes := [(7 * 32, List.replicate 15 0)] }
    sheetFit s 3 = true ∧ 0 < linkGroups 7 ∧ domOn s (dSHEET 3) = true ∧
      15 ≤ ((tget [] s.clk.crcTimes (7 * 32)).filter fun t => decide (upNs s < t + 1000000)).length ∧ s.clk.laneTest.contains (7 * 32) = false) ∧
    (((tget [] live.clk.crcTimes 0).filter fun t => decide (upNs live < t + 1000000)).length < 15 ∧ 0 < linkGroups 0 ∧ sheetFit live 0 = true ∧ domOn live (dSHEET 0) = true) ∧
    (linkGroups 1 ≤ 14 ∧ domOn (inDom (dSHEET 0) .off live) (dSHEET 0) = false ∧ sheetFit live 4 = false) ∧
    (let s (n : Nat) := carried (clk_ fun c => { c with laneTest := [7 * 32], spareUsed := [(7, n)] })
    (s 7).clk.laneTest.contains (7 * 32 + 15 / 16) = true ∧ 15 < linkLanes 7 ∧ tget 0 (s 7).clk.spareUsed 7 < 8 ∧
      8 ≤ tget 0 (s 8).clk.spareUsed 7 ∧ cars (s 8) ≠ [] ∧ isoWaits (s 8) 3 = false ∧ (s 8).clk.isoSheet.testBit 3 = false) :=
  by
    iterate 3 refine And.intro (by decide +kernel) ?_
    decide +kernel

/-- MemoryScrubbing: a clean unit, a unit with an error that cannot be mended, a visit not due, an absent quarter, a
domain that is OFF, the queue, the end, a row copy. -/
theorem witness_MemoryScrubbing :
    (mayVisit live 4 (tget 0 live.ecc.pos 4) = true ∧ elapsed live (tkSparge 4) 64000 = true ∧ (∀ f ∈ (unitWords 4 0).map (wordFound live 4), f = .clean ∨ f = .poison)) ∧
    (let s := stamp_ (tkSparge 4) 0 live
    elapsed s (tkSparge 4) (if fullRate s 4 then 1000 else 64000) = false ∧ mayVisit (inDom dGRAT .off live) 4 0 = false) ∧
    (let s := ecc_ fun e => { e with err := [(4 * 2 ^ 32, 3)] }
    mayVisit s 4 (tget 0 s.ecc.pos 4) = true ∧ Found.uncorr ∈ (unitWords 4 0).map (wordFound s 4)) ∧
    (let s := ecc_ fun e => { e with prio := [(4, [9, 10])] }
    tget [] s.ecc.prio 4 = 9 :: [10] ∧ mayVisit s 4 9 = true) ∧
    (let s := { (ecc_ fun e => { e with pos := [(6, 0x10000)] }) with fuse := { live.fuse with variant := 1 } }
    sheetFit s (tget 0 s.ecc.pos 6 * 8 / 0x40000) = false ∧ tget 0 s.ecc.pos 6 < memUnits 6) ∧
    (let s := ecc_ fun e => { e with pos := [(7, memUnits 7)] }
    (7 : Nat) < 8 ∧ memUnits 7 ≤ tget 0 s.ecc.pos 7) ∧
    (let r : Remap := { spare := 15, row := 3, inUse := true, copied := false, switchNs := 0 }
    let s := ecc_ fun e => { e with remaps := [(4, [r])] }
    (tget [] s.ecc.remaps 4).find? (fun x => x.spare == r.spare && !x.copied) = some r) :=
  by
    iterate 6 refine And.intro (by decide +kernel) ?_
    decide +kernel

/-- UncorrectableReads: a word with two errors, noted before and not, and a clean one. -/
theorem witness_UncorrectableReads :
    (let s := ecc_ fun e => { e with err := [(0, 3)] }
    (8 : Nat) < 9 ∧ badByte s 0 0 = true ∧ badByte live 0 0 = false ∧ (tget [] s.ecc.ueSeen 0).contains 0 = false) ∧
    ((tget [] (ecc_ fun e => { e with ueSeen := [(0, [0])] }).ecc.ueSeen 0).contains 0 = true ∧ (9 : Nat) ≤ 9) :=
  by
    iterate 1 refine And.intro (by decide +kernel) ?_
    decide +kernel

/-- LinkStates: the levels in every state of the link; each condition of LINK_UP, of a failing lane and of a due fallback
met and missed at its bound; a lane whose failure leaves a later rung, none, or no fallback. -/
theorem witness_LinkStates :
    (domOn live dFH = true ∧ domOn (inDom dFH .off live) dFH = false ∧ live.fh.link ∉ [1, 2, 3] ∧ ∀ k ∈ [1, 2, 3], (laddered k 15).fh.link = k ∧ domOn (laddered k 15) dFH = true) ∧
    (let s (k : Nat) := laddered k 15
    allLanes (s 1) (signalSeen (s 1) 15) = true ∧ eligibleRung (s 1) (s 1).fh.rung = true ∧ allLanes (s 2) (signalSeen (s 2) 7) = false ∧
      (rungSet (s 3)).all (fun l => !((signalSeen (s 3) 0).testBit l && (15 : Nat).testBit l)) = true ∧ signalSeen { s 1 with clk := { (s 1).clk with lost := 2 } } 15 = 0) ∧
    (LinkComesUp (at_ 1000000 (stamp_ tkAlign 0 (laddered 2 15)))) ∧
    (¬LinkComesUp (at_ 999990 (stamp_ tkAlign 0 (laddered 2 15))) ∧ ¬LinkComesUp (laddered 2 14) ∧ ¬LinkComesUp live) ∧
    (domOn up dFH = true ∧ up.fh.link = 3 ∧ live.fh.link ≠ 3) ∧
    (let s := at_ 100000 (stamp_ (tkLock 3) 0 (stamp_ (tkSignal 0) 0 (laddered 3 7)))
    LaneFails s 3 ∧ fallbackEn s = true ∧
      ((List.range 4).filter fun i => decide (s.fh.rung < i) && eligibleRung { s with fh := { s.fh with laneFailed := 8 } } i).head? = some 1) ∧
    (¬LaneFails (at_ 99990 (stamp_ (tkLock 3) 0 (laddered 3 7))) 3 ∧ ¬LaneFails live 0) ∧
    (let s := at_ 1000000 (stamp_ (tkAm 0) 0 { (laddered 3 15) with fh := { (laddered 3 15).fh with am := 14 } })
    LaneFails s 0 ∧ s.fh.laneFailed = 0 ∧
      ((List.range 4).filter fun i => decide (s.fh.rung < i) && eligibleRung { s with fh := { s.fh with laneFailed := 1 } } i).head? = none) ∧
    (LaneFails (with_ 0x0401 0 (putAt (putAt (putAt linkReset 0 [1, 2, 2, 90]) 8 [3, 1]) 12 [15, 1]) (laddered 3 7)) 3) ∧
    (let s := at_ 10000000 (stamp_ (tkFec 3) 0 { (laddered 3 15) with fh := { (laddered 3 15).fh with fecBad := [(3, 2)] } })
    domOn s dFH = true ∧ (s.fh.link = 2 ∨ s.fh.link = 3) ∧ 3 ∈ rungSet s ∧ elapsed s (tkFec 3) 10000000 = true ∧ elapsed (at_ 9999990 s) (tkFec 3) 10000000 = false ∧
      laneAtRisk s 3 = true ∧ 20000 < 3 * 10000 ∧ 3 ≤ tget 0 s.fh.fecBad 3 + 1 ∧ ¬(3 ≤ tget 0 s.fh.fecBad 0 + 1) ∧ ¬(30000 < 3 * 10000)) ∧
    (let s (bad : Nat) := at_ 50000000 (stamp_ tkFall 0 { (laddered 1 15) with fh := { (laddered 1 15).fh with falling := true, laneFailed := bad } })
    (∀ bad ∈ [8, 0, 1], domOn (s bad) dFH = true ∧ (s bad).fh.falling = true ∧ fallbackEn (s bad) = true ∧ (s bad).fh.link = 1 ∧
        elapsed (s bad) tkFall (1000000 * fld (linkRec (s bad)) 6 2) = true ∧ elapsed (at_ 49999990 (s bad)) tkFall (1000000 * fld (linkRec (s bad)) 6 2) = false) ∧
      (let el := (List.range 4).filter (eligibleRung (s 8))
       (el.find? fun i => decide ((s 8).fh.rung < i)).or el.head? = some 1 ∧ 1 ≠ (s 8).fh.rung) ∧
      (List.range 4).filter (eligibleRung (s 1)) = [] ∧
      (let u := with_ 0x0401 0 (putAt (putAt linkReset 0 [1, 1, 3, 90]) 12 [15]) (s 0)
       let el := (List.range 4).filter (eligibleRung u)
       (el.find? fun i => decide (u.fh.rung < i)).or el.head? = some u.fh.rung)) :=
  by
    iterate 10 refine And.intro (by (try unfold LinkComesUp); (try unfold LaneFails); decide +kernel) ?_
    (try unfold LinkComesUp); (try unfold LaneFails); decide +kernel

/-- ReceivedFrames: each step of reception met and failed; the lengths 63, 64 and one beyond the MTU; a management frame
taken and one not; a message with no flow, an unacceptable header of each type, an inactive layer; a page that is
cleared, one that is kept, and a clear that ends with and without a section waiting. -/
theorem witness_ReceivedFrames :
    (¬LinkTakes live ∧ LinkTakes up ∧ ¬LengthOk up (zeros 59) ∧ LengthOk up (zeros 60) ∧ LengthOk up (zeros (mtu up + 18)) ∧ ¬LengthOk up (zeros (mtu up + 19))) ∧
    (let pause := putAt (frame60 [0x88, 0x08] []) 0 [0x01, 0x80, 0xC2, 0, 0, 0x01]
    LengthOk up pause ∧ isPause pause = true ∧ isPause (zeros 60) = false ∧ addrOk up (putAt (zeros 60) 0 [2]) = false ∧ addrOk up (zeros 60) = true ∧
      vlanOk up (frame60 [0x81, 0] []) = false ∧ addrOk up (frame60 [0x81, 0] []) = true ∧ isPause (frame60 [0x81, 0] []) = false) ∧
    (FrameAddressed up (frame60 [0x88, 0xF7] []) ∧ etherType (frame60 [0x88, 0xF7] []) = 0x88F7 ∧ FrameAddressed up (frame60 [8, 0] []) ∧ etherType (frame60 [8, 0] []) ∉ [0x88F7, 0xAEFE, 0x88B5]) ∧
    (FrameAddressed up (frame60 [0x88, 0xB5] []) ∧ etherType (frame60 [0x88, 0xB5] []) ∈ [0xAEFE, 0x88B5] ∧ fromPeer up (frame60 [0x88, 0xB5] []) = false) ∧
    (let f := fromPeer_ [0x88, 0xB5] [1, 1]
    let s := { peered with mbx := { peered.mbx with inband := true } }
    FrameAddressed s f ∧ fromPeer s f = true ∧ etherType f = 0x88B5 ∧ fld (payload f) 0 1 = 1 ∧ fld (payload f) 1 1 = 1 ∧ s.mbx.inband = true ∧
      s.mbx.queue31.length < 32 ∧ peered.mbx.inband = false) ∧
    (let f := ecpri_ 5 []
    FrameAddressed peered f ∧ etherType f = 0xAEFE ∧ fromPeer peered f = true ∧ ecpriOk (payload f) = true ∧ bfld (payload f) 1 1 = 5 ∧
      ecpriOk (payload (fromPeer_ [0xAE, 0xFE] [0x20])) = false ∧ FrameAddressed peered (fromPeer_ [0xAE, 0xFE] [0x20])) ∧
    (RadioMessage peered (ecpri_ 0 []) ∧ flowNamed peered (payload (ecpri_ 0 [])) = none) ∧
    (let s := flow_ 7 3 0 0 (carried peered)
    ∀ k ∈ [0, 2], let p := payload (ecpri_ k [])
      RadioMessage s (ecpri_ k []) ∧ flowNamed s p = some (7, flowRec s 7) ∧ appOk s (flowRec s 7) (appOf (p.drop 8)) = false ∧ bfld p 1 1 = k) ∧
    (let s := flow_ 7 1 0 16 (carried peered)
    let p := payload (ecpri_ 0 [0x90, 0, 0, 0])
    RadioMessage s (ecpri_ 0 [0x90, 0, 0, 0]) ∧ flowNamed s p = some (7, flowRec s 7) ∧ appOk s (flowRec s 7) (appOf (p.drop 8)) = true ∧
      flowKind (flowRec s 7) = 0 ∧ layerActive s 0 (flowLayer (flowRec s 7)) = false) ∧
    (let k := (subframeNow live + 2560 - 3) % 2560
    let s := sect_ fun x => { x with pageSub := [(pageOf 0 k, k), (pageOf 1 k, k + 1)] }
    domOn s dFH = true ∧ domOn s dDATUM = true ∧ subframeStarts s = true ∧ (subframeNow s + 2560 - 3) % 2560 = k ∧
      (pageOf 0 k ∈ [pageOf 0 k, pageOf 1 k] ∧ pageSub s (pageOf 0 k) = k) ∧ ¬(pageOf 1 k ∈ [pageOf 0 k, pageOf 1 k] ∧ pageSub s (pageOf 1 k) = k)) ∧
    (subframeStarts (datum_ fun d => { d with last := 1000000 }) = false) ∧
    (let s := sect_ fun x => { x with clearing := [(3, 5)] }
    (tfind s.sect.clearing 3).isSome = true ∧ (∀ w ∈ s.sect.waiting, w.page ≠ 3) ∧ tfind live.sect.clearing 3 = none) ∧
    (let w : Arrival := { page := 3, sub := 19, sect := sect1, words := [], sat := 0, cut := false, occ := none }
    let s := sect_ fun x => { x with clearing := [(3, 5)], waiting := [w] }
    (tfind s.sect.clearing 3).isSome = true ∧ (s.sect.waiting.find? fun w => w.page == 3) = some w) :=
  by
    iterate 12 refine And.intro (by (try unfold RadioMessage); (try unfold FrameAddressed); (try unfold LinkTakes); (try unfold LengthOk); decide +kernel) ?_
    (try unfold RadioMessage); (try unfold FrameAddressed); (try unfold LinkTakes); (try unfold LengthOk); decide +kernel

/-- SymbolsAndEgress: both comparators due and none armed; a symbol with nothing and one with missing PRBs; an ended
symbol without sections, with a section of a flow and one not ended; a head behind an eligible frame: tested before
and at its time, not tested before its time, at it and beyond LATE_MAX; a peer and none, frames waiting and none. -/
theorem witness_SymbolsAndEgress :
    (let s := symDue true
    let r := runP armMissing s
    let l := symSects r 0 0 0
    (tfind r.datum.cmpDl 0).all (fun x => x.armed && reached r x.target) = true ∧ (tfind r.datum.cmpDl 0).isSome = true ∧ domOn r dDATUM = true ∧
      carValid (txCar r 0) = true ∧ l = [] ∧ symWhole r 0 5000 [sect1] = false ∧ symWhole r 0 5000 l = true) ∧
    (let r := runP armMissing (symDue true)
    ∃ x ∈ (tfind r.datum.cmpDl 0).toList,
      let h := halfNear r x.half
      let air := (symAir r (carMu (txCar r 0)) h x.sym).1
      let v := dlView r air
      let next := symAfter (carMu (txCar r 0)) h x.sym
      carValid (txCar v 0) = true ∧ carMu (txCar v 0) = carMu (txCar r 0) ∧ ltx v 0 = ltx r 0 ∧
        int32Diff (now r) (symTarget r 0 0 next.1 next.2) ≤ (r.datum.airWindow : Nat)) ∧
    (let s (r : Rec) := symDueWith (commitAt 1000000 0x0701 r (carried live))
    let air (r : Rec) := (tfind (runP armMissing (s r)).datum.cmpDl 0).map fun x => (symAir (runP armMissing (s r)) 0 (halfNear (runP armMissing (s r)) x.half) x.sym).1
    let gone := txCarReset 0
    let wider := putAt (txCarReset 0) 1 [1, 50]
    (air gone).any (fun a => !carValid (txCar (dlView (runP armMissing (s gone)) a) 0)) = true ∧
      (air wider).any (fun a =>
        let v := dlView (runP armMissing (s wider)) a
        carValid (txCar v 0) && carMu (txCar v 0) == carMu (txCar (runP armMissing (s wider)) 0) && ltx v 0 != ltx (runP armMissing (s wider)) 0) = true) ∧
    ((tfind (runP armMissing live).datum.cmpDl 0).isNone = true ∧ (tfind (runP armMissing live).datum.cmpUl 0).isNone = true) ∧
    (let r := runP armMissing (symDue false)
    (tfind r.datum.cmpUl 0).all (fun x => x.armed && reached r x.target) = true ∧ (tfind r.datum.cmpUl 0).isSome = true ∧
      domOn r dDATUM = true ∧ carValid (rxCar r 0) = true) ∧
    (let s := flow_ 7 3 0 0 (carried (ended [sect1]))
    let r := runP (.seq noteStates settleSymbols) s
    ∃ u ∈ r.fh.ulSyms, (r.fh.ulSyms.find? fun y => y.carrier == 0) = some u ∧ due r (add32 u.air u.len) = true ∧ u.sects = [sect1] ∧ sect1.type = 1 ∧
      flowValid (flowRec (ulView r u) 7) = true ∧ layerActive (ulView r u) 1 (flowLayer (flowRec (ulView r u) 7)) = true ∧ 0 < sect1.numPrb ∧
      (compWidth (flowComp (flowRec s 7))).isSome = true) ∧
    (let r := runP (.seq noteStates settleSymbols) (ended [])
    ∃ u ∈ r.fh.ulSyms, (r.fh.ulSyms.find? fun y => y.carrier == 0) = some u ∧ due r (add32 u.air u.len) = true ∧ ∀ y ∈ u.sects, y.type ≠ 1) ∧
    (let r := runP (.seq noteStates settleSymbols) { (ended []) with datum := { live.datum with cnt := 999999 } }
    (r.fh.ulSyms.find? fun y => y.carrier == 0).all (fun u => !due r (add32 u.air u.len)) = true) ∧
    (∀ h ∈ [desc 1000000 false true, desc 1000001 false true, desc 1000001 false false, desc 1000000 false false, desc 999999 false false],
      queueOf (queued [desc 0 true true, h] live) 3 = [desc 0 true true] ++ h :: [] ∧ (∀ d ∈ [desc 0 true true], d.eligible = true) ∧ h.eligible = false) ∧
    (reached live 1000000 = true ∧ reached live 1000001 = false ∧ int32Diff (now live) 1000001 < 0 ∧ int32Diff (now live) 1000000 = 0 ∧
      int32Diff (now live) 999999 ≤ (tget 0 ({ live with regs := [(0x4010000C, 1)] } : State).regs 0x4010000C : Nat) ∧
      (tget 0 live.regs 0x4010000C : Nat) < int32Diff (now live) 999999) ∧
    (∀ d ∈ queueOf (queued [desc 0 true true] live) 3, d.eligible = true) ∧
    (let s := queued [desc 1000000 true true] peered
    LinkTakes s ∧ s.datum.ptpTx = [] ∧ peerMac s ≠ zeros 6 ∧ (∃ a ∈ starts s, starts s = a :: [] ∧ a.queue = 3)) ∧
    (let s := { peered with mbx := { peered.mbx with queue63 := [(5, zeros 12)] } }
    peerMac s ≠ zeros 6 ∧ (∃ a ∈ starts s, starts s = a :: [] ∧ a.queue = 63)) ∧
    (LinkTakes up ∧ up.datum.ptpTx = [] ∧ peerMac up = zeros 6 ∧ peerMac peered ≠ zeros 6 ∧ starts peered = [] ∧ ¬LinkTakes live ∧ (datum_ fun d => { d with ptpTx := [[]] }).datum.ptpTx ≠ []) :=
  by
    iterate 13 refine And.intro (by (try unfold LinkTakes); decide +kernel) ?_
    (try unfold LinkTakes); decide +kernel

/-- GraticuleAndMash: each clause and its complement; a last symbol not ended, an occasion complete and none; two
refreshes waiting and one; a lapsed condition and none; a cut with nothing to write and one with a set; a ready set,
one held by its old bank. -/
theorem witness_GraticuleAndMash :
    (let s := grat_ fun g => { g with ulBusy := true, ulRelease := 1000000 }
    domOn s dGRAT = true ∧ due s s.grat.ulRelease = true ∧ domOn (inDom dGRAT .off live) dGRAT = false) ∧
    (let y : SrsSym := { carrier := 0, slot := 5, sym := 13, tEnd := 1000000, zero := 0, ctxs := [(2, ctxReset 2)], re := [] }
    let s := mash_ fun m => { m with staged := [y] }
    let l := s.mash.staged.filter fun z => z.slot == y.slot
    s.mash.staged = y :: [] ∧ domOn s dMASH = true ∧ engineLost s = false ∧
      due s (l.foldl (fun t z => if 0 ≤ int32Diff z.tEnd t then z.tEnd else t) y.tEnd) = true ∧
      ((distinct (l.flatMap (·.ctxs))).filter fun p => decide ((l.filter fun z => z.ctxs.contains p).length = ctxNsym p.2)) = [(2, ctxReset 2)] ∧
      occasionZero (l.filter fun z => z.ctxs.contains (2, ctxReset 2)) = 0) ∧
    (let y : SrsSym := { carrier := 0, slot := 5, sym := 13, tEnd := 1000001, zero := 1, ctxs := [], re := [] }
    due (mash_ fun m => { m with staged := [y] }) y.tEnd = false ∧ (([y].filter fun z => z.slot == y.slot).flatMap (·.ctxs)) = [] ∧ live.mash.staged = []) ∧
    (domOn live dMASH = true ∧ domOn (inDom dMASH .off live) dMASH = false ∧ fwRuns live = true) ∧
    (∀ l ∈ [[refresh1 2, refresh1 2, refresh1 0], [refresh1 2, refresh1 0]],
      ((refreshing l).mash.refresh.find? fun q => q.stage == 0) = some (refresh1 0) ∧ domOn (refreshing l) dMASH = true ∧ engineLost (refreshing l) = false ∧
      due (refreshing l) (add32 (cutOf (refreshing l) (refresh1 0)).tEnd 40000) = true) ∧
    (2 ≤ ([refresh1 2, refresh1 2, refresh1 0].filter fun p => p.stage != 0).length ∧ ([refresh1 2, refresh1 0].filter fun p => p.stage != 0).length < 2 ∧
      ((List.range 3).all fun k => (liveSheets live).all (prereq live k)) = false ∧
      due { live with datum := { live.datum with cnt := 999999 } } (add32 960000 40000) = false) ∧
    (let s := with_ 0x0501 0 (putAt (gratRec live 0) 1 [1]) (current_ (carried (refreshing [refresh1 0])))
    ((List.range 3).all fun k => (liveSheets s).all (prereq s k)) = true ∧
      (touched s (cutOf s (refresh1 0))).flatMap (fun g => (groupSets s (cutOf s (refresh1 0)) g.1 g.2).1) ≠ []) ∧
    (let s := current_ (refreshing [{ refresh1 0 with fresh := [] }])
    ((List.range 3).all fun k => (liveSheets s).all (prereq s k)) = true ∧
      (touched s (cutOf s { refresh1 0 with fresh := [] })).flatMap (fun g => (groupSets s (cutOf s { refresh1 0 with fresh := [] }) g.1 g.2).1) = []) ∧
    (∀ q ∈ live.mash.refresh, q.stage ≠ 0 ∧ q.stage ≠ 1) ∧
    (let x : SlotSet := { dir := 1, slot := 5, words := List.replicate 1024 7 }
    let q := { refresh1 1 with set := [x] }
    let s (old : List (Nat × Nat)) := with_ 0x0501 0 (putAt (gratRec live 0) 0 [3]) { (refreshing [q]) with grat := { live.grat with ulOld := old, ulBusy := true } }
    ((s []).mash.refresh.find? fun q => q.stage == 1) = some q ∧ domOn (s []) dMASH = true ∧ domOn (s []) dGRAT = true ∧ engineLost (s []) = false ∧
      (q.set.filter fun x => layerSrc (s []) x.dir == 1) = [x] ∧ slotHeld (s []) 1 5 = false ∧ slotHeld (s [(5, 2000000)]) 1 5 = true ∧
      Memory.wf (s []).mem = true ∧ 0 < nLayers (s []) ∧ 64 * 0 + nPaths (s []) ≤ x.words.length) :=
  by
    iterate 9 refine And.intro (by decide +kernel) ?_
    decide +kernel

/-- HostReads: a failed access, a register, a LO word and a HI word, a hidden word, words of the mailbox SRAM and of the
weight memory delivered and not, a burst, AO without its supply. -/
theorem witness_HostReads :
    (accessError live 0x00000000 = some 1 ∧ live.pwr.aoUp = true) ∧
    (accessError live 0x40110000 = none ∧ windowMem 0x40110000 = none ∧ isHi 0x40110000 = false) ∧
    (accessError live 0x61000000 = none ∧ hiddenWord live 0x61000000 = true) ∧
    (accessError live 0x20000FFC = none ∧ hiddenWord live 0x20000FFC = false ∧ windowMem 0x20000FFC = some 1 ∧ codeMem 1 = some .mailbox ∧
      isHi 0x20000FFC = false ∧ live.ecc.err = [] ∧ live.ecc.poison = []) ∧
    (accessError live 0x70000000 = none ∧ hiddenWord live 0x70000000 = false ∧ windowMem 0x70000000 = some 3 ∧ codeMem 3 = some .weight ∧ isLo 0x70000000 = true) ∧
    (accessError live 0x40010000 = none ∧ windowMem 0x40010000 = none ∧ isLo 0x40010000 = true ∧ isHi 0x40010004 = true ∧ accessError live 0x40010004 = none ∧ hiddenWord live 0x40010004 = false) ∧
    (ran (.hostPortRead 0x40010000 1) live fun _ => true) ∧
    (accessError live 0x40110000 = none ∧ isLo 0x70000000 = true ∧ (accessError (inDom dGRAT .off live) 0x70000000).isSome = true ∧ isHi 0x70000004 = true ∧ accessError live 0x70000004 = none ∧ hiddenWord live 0x70000004 = false) ∧
    (let s := ecc_ fun e => { e with err := [(2 ^ 32 + 0xFF8, 3 * 2 ^ 52)] }
    accessError s 0x20000FFC = none ∧ hiddenWord s 0x20000FFC = false ∧ badRange s 1 0xFFC 4 = true ∧ badRange live 1 0xFFC 4 = false ∧ s.host.err = 0) ∧
    (let s := ecc_ fun e => { e with err := [(3 * 2 ^ 32, 3)] }
    isLo 0x70000000 = true ∧ accessError s 0x70000000 = none ∧ hiddenWord s 0x70000000 = false ∧ windowMem 0x70000000 = some 3 ∧ badRange s 3 0 8 = true ∧ badRange live 3 0 8 = false) ∧
    ((pwr_ fun p => { p with aoUp := false }).pwr.aoUp = false ∧ isLo 0x40110000 = false ∧ isHi 0x40110000 = false ∧ hiddenWord live 0x40010000 = false) :=
  by
    iterate 10 refine And.intro (by decide +kernel) ?_
    decide +kernel

/-- HostWritesToDatum: the nine registers, DATUM ON. -/
theorem witness_HostWritesToDatum :
    (∀ a ∈ [0x40110004, 0x40110008, 0x4011000C, 0x40110010, 0x40110018, 0x4011001C, 0x40110020, 0x40110024, 0x40110028], accessError live a = none) ∧
    (live.pwr.aoUp = true ∧ domOn live dDATUM = true ∧ (0x100 : Nat).testBit 0 = false ∧ (1 : Nat).testBit 0 = true) :=
  by
    iterate 1 refine And.intro (by decide +kernel) ?_
    decide +kernel

/-- DirectWrites: 15 writes held and 16, a path, taper, advance and survey register, a command area, the drain. -/
theorem witness_DirectWrites :
    (accessError live 0x40301000 = none ∧ addrLogged 0x40301000 = true ∧ regHeld live 0x40301000 = false ∧ txPathReg 0x40301000 = some (0, 0)) ∧
    (txPathReg 0x403017F0 = some (63, 4) ∧ taperReg 0x402010FC = some 63 ∧ advanceReg 0x40300304 = some 3 ∧ surveyReg 0x40A011F8 = some (63, 0) ∧
      surveyReg 0x40A014FC = some (63, 1) ∧ ∀ a ∈ [0x403017F0, 0x402010FC, 0x40300304, 0x40A011F8, 0x40A014FC], accessError live a = none ∧ regHeld live a = false) ∧
    (let s (n : Nat) := { live with log := { live.log with capture := List.replicate n (0x40301000, 0, 0) } }
    (s 15).log.capture.length < 16 ∧ 16 ≤ (s 16).log.capture.length ∧ (s 16).log.capture.length ≤ 16 ∧ fwRuns (s 16) = true) ∧
    ((7 : Nat) < 8 ∧ (0x3F : Nat) < 0x40 ∧ accessError live (0x20000000 + cmdArea 7) = none ∧ live.mbx.ring.testBit 7 = false ∧ Memory.wf live.mem = true) ∧
    (accessError live (0x20000000 + cmdArea 0) = none ∧ (mbx_ fun m => { m with ring := 1 }).mbx.ring.testBit 0 = true) ∧
    (accessError live 0x20001000 = none ∧ windowMem 0x20001000 = some 1 ∧ windowMem 0x70000000 = some 3 ∧ accessError live 0x70000000 = none ∧ windowMem 0x20000100 = some 1 ∧ 0x100 ≤ 0x20000100 % 0x200 ∧ accessError live 0x20000100 = none) ∧
    (domOn live dMBX = true ∧ domOn live dCTRL = true ∧ accessError live 0x00000000 = some 1 ∧ fwRuns (boot_ fun b => { b with held := true }) = false ∧ (pwr_ fun p => { p with aoUp := false }).pwr.aoUp = false) :=
  by
    iterate 6 refine And.intro (by decide +kernel) ?_
    decide +kernel

/-- FaultsEventsAndDone: CTRL ON and in RETENTION, a bit whose condition holds, the first and last events, an empty and a
full log. -/
theorem witness_FaultsEventsAndDone :
    (live.pwr.aoUp = true ∧ (8 : Nat) < 9 ∧ domSt live dCTRL ≠ .retention ∧ domSt (inDom dCTRL .retention live) dCTRL = .retention ∧
      (faultEnEff live).testBit 0 = true ∧ (faultEnEff { live with host := { live.host with faultEn := 0 } }).testBit 1 = false) ∧
    (let s := { (clk_ fun c => { c with lost := 1 }) with host := { live.host with fault := 3 } }
    s.pwr.aoUp = true ∧ faultHolds s 0 = true ∧ faultHolds s 1 = false) ∧
    (fwRuns live = true ∧ (0 : Nat) < 14 ∧ 1 ≤ classEvents.getD 0 0 ∧ 1 ≤ classEvents.getD 13 0 ∧ live.evt.recs.length < 2048) ∧
    (let r : EvtRec := { seq := 0, timeS := 0, timeNs := 0, flags := 0, code := 1, unit := 0, d0 := 0, d1 := 0, d2 := 0 }
    ({ live with evt := { live.evt with recs := List.replicate 2048 r } } : State).evt.recs.length = 2048) ∧
    (domOn live dMBX = true) ∧
    ((9 : Nat) ≤ 9 ∧ 0x0600 % 256 = 0 ∧ classEvents.getD (0x06FF / 256) 0 < 0x06FF % 256 ∧ domOn (inDom dMBX .off live) dMBX = false ∧ fwRuns (boot_ fun b => { b with held := true }) = false) ∧
    ((pwr_ fun p => { p with aoUp := false }).pwr.aoUp = false) :=
  by
    iterate 6 refine And.intro (by decide +kernel) ?_
    decide +kernel

/-- MuteAndReadiness: the pin high and low, a strobe gated by TX mute; a rise 1,000 ns old and one not; a hold whose
release has come with a symbol begun before it; T_done 4,000 ns, 3,000 ns and less old, in lock and not, with a LO
hold; a held path. -/
theorem witness_MuteAndReadiness :
    (live.tx.mutePin = true ∧ 0 ∈ sheets live ∧ (tx_ fun t => { t with mutePin := false }).tx.mutePin = false) ∧
    (let s := tx_ fun t => { t with rise := some 999000, hold := [(0, 2 ^ holdPin)] }
    s.tx.rise = some 999000 ∧ s.tx.mutePin = true ∧ due s (add32 999000 1000) = true ∧ due s (add32 999001 1000) = false ∧ (holds s 0).testBit holdPin = true ∧ 0 ∈ sheets s) ∧
    (let w : Wave := { rate := 0, air := 999999, len := 10, mute := none, out := { base := 0, v := [] } }
    let s := tx_ fun t => { t with hold := [(0, 2 ^ holdPin)], release := [(holdPin, 1000000)], wave := [(0, [w])] }
    holdPin < 8 ∧ (tfind s.tx.release (8 * 0 + holdPin)).any (fun x => due s (firstSymbol s x)) = true ∧ int32Diff w.air 1000000 < 0) ∧
    (let s (t : Nat) := aligned_ t (fun r => r) (tx_ fun x => { x with hold := [(0, 2 ^ holdLo)] })
    sheetFit (s 0) 0 = true ∧ (sh (s 0) 0).done = true ∧ (sh (s 0) 0).txReady = false ∧ (holds (s 0) 0).testBit holdLo = true ∧
      due (s 0) (add32 996000 4000) = true ∧ due (s 0) (add32 996001 4000) = false ∧ due (s 0) (add32 997000 3000) = true ∧ due (s 0) (add32 997001 3000) = false) ∧
    (sheetFit { live with fuse := { live.fuse with variant := 1 } } 3 = false ∧ (sh live 0).done = false) ∧
    (pathHeld (tx_ fun t => { t with pathHold := 1 }) 0 = true ∧ sheetHeld (tx_ fun t => { t with hold := [(3, 2 ^ holdPin)] }) (63 / 16) = true ∧ stimOf (tx_ fun t => { t with hold := [(3, 2 ^ holdPin)] }) 63 = none) :=
  by
    iterate 5 refine And.intro (by decide +kernel) ?_
    decide +kernel

/-- ReceiverLeases: each priority, a lease that the kiln does not grant, a lease of 50 µs and one before its end, a
capture due, complete with each code, and of a path that no longer adapts; a failing receiver; each complement. -/
theorem witness_ReceiverLeases :
    (orxLive live 0 = true ∧ orxLive live 7 = true ∧ (orxOf live 0).owner = 0 ∧ (live.survey.camps.find? fun c => c.sheets.testBit 0 && due live c.start) = none ∧
      dpdNext live 0 = none ∧ trackWants live 0 = none ∧ tapNext live 0 = none) ∧
    (let s := { live with survey := { live.survey with camps := [{ camp1 with start := 1000000 }] } }
    orxLive s 0 = true ∧ (orxOf s 0).owner = 0 ∧ (s.survey.camps.find? fun c => c.sheets.testBit (0 / 2) && due s c.start) = some { camp1 with start := 1000000 } ∧
      0 = bench s (0 / 2) ∧ camp1.partner ≠ some (0 / 2)) ∧
    (let s := adapting (orx_ (fun o => { o with index := 15 }) (dpath_ (fun d => { d with state := 3 }) live))
    orxLive s 0 = true ∧ (orxOf s 0).owner = 0 ∧ dpdNext s 0 = some 0 ∧ granted s 2 = true ∧ leaseReserved s (orxOf s 0) = true ∧ (orxOf s 0).index = 15) ∧
    (let s := adapting (orx_ (fun o => { o with reserved := 16 }) live)
    (orxOf s 0).owner = 0 ∧ trackWants s 0 = some 1 ∧ granted s 3 = true ∧ dpdNext s 0 = none) ∧
    (let s := adapting { (dpath_ (fun d => { d with state := 3 }) live) with kiln := { live.kiln with level := 2 } }
    dpdNext s 0 = some 0 ∧ granted s 2 = false ∧ (trackWants s 0).isSome = true ∧ granted s 3 = false) ∧
    (let s := adapting { live with cap := { live.cap with slots := [(0, { slot0 with state := 1, req := putAt (putAt (zeros 32) 1 [5]) 4 [1] })] } }
    (tapNext s 0).isSome = true ∧ granted s 5 = true ∧ dpdNext s 0 = none) ∧
    (orxLive (inDom dDPDE .off live) 0 = false ∧ (orxOf (orx_ (fun o => { o with owner := 1 }) live) 0).owner ≠ 0) ∧
    (let s := orx_ (fun o => { o with owner := 2, leaseStart := 950000 }) live
    (orxOf s 0).owner = 2 ∧ 0 = bench s (0 / 2) ∧ due s (add32 950000 50000) = true ∧ due s (add32 950001 50000) = false) ∧
    (let s (m : Bool) := orx_ (fun o => { o with owner := 1, path := some 0, leaseStart := 900000, mismatch := m }) live
    (∀ m : Bool, (orxOf (s m) 0).path = some 0 ∧ (orxOf (s m) 0).owner = 1 ∧ (orxOf (s m) 0).capture = 0 ∧ (orxOf (s m) 0).mismatch = m ∧
      due (s m) (add32 900000 (settleDelay (s m))) = true) ∧ due (s false) (add32 1000000 (settleDelay (s false))) = false ∧ (orxOf live 0).path = none) ∧
    (let s (k : Nat) := adapting (orx_ (fun o => { o with owner := 1, path := some 0, leaseStart := 900000, capture := 1 }) (dpath_ (fun d => { d with state := k }) (with_ 0x0901 0 (putAt dpdReset 4 (leBytes 2 64)) live)))
    let r (k : Nat) := runP (.seq (txRun none) (.seq touchLeases dpdRefresh)) (s k)
    ∀ k ∈ [3, 4], CaptureOver (r k) 0 0 (dpdOf (r k) 0).captureNs 64 ∧ (dpdOf (r k) 0).state = k ∧ granted (r k) 2 = true ∧ Memory.wf (s k).mem = true ∧
      captureCode (r k) 0 0 [] = 2) ∧
    (let x := List.replicate 32 ((0 : Int), (0 : Int)) ++ [(30000, 0)] ++ List.replicate 31 (0, 0)
    let y (v : Int) := List.replicate 32 ((0 : Int), (0 : Int)) ++ [(v, 0)] ++ List.replicate 31 (0, 0)
    let s := adapting (orx_ (fun o => { o with owner := 1, path := some 0, leaseStart := 900000, capture := 1 })
      (dpath_ (fun d => { d with state := 3, captureNs := 999900 }) (with_ 0x0901 0 (putAt dpdReset 4 (leBytes 2 64))
        (carried (tx_ fun t => { t with
          pos := some (txIndex live 1000000 + 1024), pipe := [(0, { pipe0 (dpIndex live 999900 / 2) with d := { base := dpIndex live 999900, v := x } })] })))))
    let r := runP (.seq (txRun none) (.seq touchLeases dpdRefresh)) s
    CaptureOver r 0 0 999900 64 ∧ captureX r 0 0 = x ∧ captureCode r 0 0 (y 1000) = 0 ∧ captureCode r 0 0 (y 2016) = 3 ∧ captureCode r 0 0 (List.replicate 64 (1000, 0)) = 4) ∧
    (let s := orx_ (fun o => { o with owner := 1, path := some 0, leaseStart := 999999, capture := 1, touched := true }) live
    let r := runP (.seq (txRun none) (.seq touchLeases dpdRefresh)) s
    ¬CaptureOver { r with datum := { r.datum with cnt := 0 } } 0 0 0 64 ∧ ¬CaptureOver r 1 0 0 64 ∧ captureCode r 0 0 [] = 1 ∧ ¬((dpdOf r 0).state = 3 ∨ (dpdOf r 0).state = 4)) ∧
    (let s := dpd_ fun d => { d with orx := [(0, { orx0 with recent := [(0, 4), (1, 4), (2, 4), (3, 4)] }), (1, { orx0 with recent := [(3, 0)] })] }
    OrxFails s 0 ∧ ¬OrxFails live 0 ∧ ¬OrxFails s 8) :=
  by
    iterate 12 refine And.intro (by (try unfold CaptureOver); (try unfold OrxFails); decide +kernel) ?_
    (try unfold CaptureOver); (try unfold OrxFails); decide +kernel

/-- PredistortionCycle: a capture to solve and none, a starved path and one before its limit, a bad word of a table in use
in MODE 2 and in MODE 1. -/
theorem witness_PredistortionCycle :
    (let c : DpdCapture := { path := 0, z := [(1, 0)], x := [(1, 0)], nbr := [] }
    let s := dpd_ fun d => { d with path := [(0, { dpd0 with state := 4, gT := some (1, 0, 1), solving := true })], capture := [c] }
    let r := runP dpdRefresh s
    (dpdOf r 0).gT = some (1, 0, 1) ∧ r.dpd.capture.head? = some c ∧ c.path = 0 ∧ (dpdOf r 0).solving = true ∧ (dpdOf r 0).state = 4 ∧
      Memory.wf s.mem = true ∧ (∀ tab ∈ dpdTables (dpdPathRec s 0), tab.1 < 32)) ∧
    ((dpdOf (runP dpdRefresh live) 0).gT = none) ∧
    (let s (t : Nat) := { (dpath_ (fun d => { d with state := 3 }) live) with tick := t }
    let r := runP dpdRefresh (s (10 ^ 12))
    (dpdOf r 0).state = 3 ∧ (dpdOf r 0).starved = false ∧ fld (dpdRec (s 0)) 14 2 * 1000000000 ≤ upNs (s (10 ^ 12)) - (dpdOf r 0).since ∧ granted r 2 = true ∧
      ¬(fld (dpdRec (s 0)) 14 2 * 1000000000 ≤ upNs (s 0) - (dpdOf (runP dpdRefresh (s 0)) 0).since)) ∧
    (let s (m : Nat) := with_ 0x0902 63 (putAt (dpdPathRec live 63) 1 [m]) (ecc_ fun e => { e with err := [(6 * 2 ^ 32 + coefOff 63 0 (((dpdTables (putAt (dpdPathRec live 63) 1 [m])).head?.map (·.1)).getD 0), 3)] })
    (∀ m ∈ [1, 2], pathFit (s m) 63 = true ∧ domOn (s m) (dTXD (63 / 16)) = true ∧ tablesBad (s m) 63 = true ∧ (dpdOf (s m) 63).bypass = false ∧ dpdMode (dpdPathRec (s m) 63) = m) ∧
      tablesBad live 63 = false) :=
  by
    iterate 3 refine And.intro (by decide +kernel) ?_
    decide +kernel

/-- ReceiveMeasurements: a half-subframe not yet reported and one reported, a sheet in RX throughout and one not; a DC
blocker that has run out and one that has not; a slot with an accumulator and one without; a PRACH section whose
repetition has passed with its entry good and bad, and none. -/
theorem witness_ReceiveMeasurements :
    (let s := rx_ fun r => { r with states := [(0, [(0, 0)])] }
    let u := sheet_ 0 (fun r => { r with state := .rx, rxReady := true }) s
    let h := halfOf live (extNow live) - 1
    live.rx.outHalf ≠ some ((h + 1) % 20480).toNat ∧ (rx_ fun r => { r with outHalf := some ((h + 1) % 20480).toNat }).rx.outHalf = some ((h + 1) % 20480).toNat ∧
      0 ∈ paths live ∧ domOn live (dRXD 0) = true ∧ worstCode (runP noteStates u) 0 (h * 983040) ((h + 1) * 983040) = 0 ∧
      worstCode (runP noteStates live) 0 (h * 983040) ((h + 1) * 983040) ≠ 0) ∧
    (let s := rx_ fun r => { r with dcAcq := 2 ^ 63 }
    let r := runP noteStates s
    pathFit s 63 = true ∧ s.rx.dcAcq.testBit 63 = true ∧ dcLeftAfter r 63 (halfNow r) (dpIndex r (now r) - halfNow r * 983040).toNat = 0 ∧ live.rx.dcAcq.testBit 63 = false) ∧
    (let s := carried (rx_ fun r => { r with foAcc := [(0, (3, 4, 25))] })
    carValid (rxCar s 0) = true ∧ carValid (rxCar live 0) = false ∧ 0 ∈ sheets s ∧ 1 ∈ sheets s ∧ tfind s.rx.foAcc (8 * 0 + 0) = some (3, 4, 25) ∧ tfind s.rx.foAcc (8 * 1 + 0) = none) ∧
    ((live.sect.entries.find? fun e => inPage (pageOf 1 0) e.1 && sectLive e.2 && e.2.type == 3) = none) ∧
    (let k := (subframeOf (halfOf live (extNow live)) + 2559) % 2560
    let p := pageOf 1 k
    let e : Section := { sect1 with type := 3, id := 7, flow := 0, numSym := 1, numPrb := 12, comp := 0 }
    let o : Occasion := { page := p, flow := 0, slot := 0, carrier := 0, filter := 3, timeOffset := 0, cpLength := 0, frameStr := 0, starts := (k, 0) }
    let s (l : Tab Nat) := with_ 0x0403 0 [0, 7, 0, 0, 0, 0, 0, 0x91, 250, 0, 7, 0, 0, 0, 0, 0]
      (carried { (sect_ fun x => { x with pageSub := [(p, k)], entries := [(sectKey p 0, e)], occ := [o] }) with ecc := { live.ecc with err := l } })
    let hs := symAt (s []) (carMu (rxCar (s []) 0)) k 0 0 (extNow (s []))
    ((s []).sect.entries.find? fun e => inPage p e.1 && sectLive e.2 && e.2.type == 3 && e.2.flow == 0 && e.2.id == 7 &&
      e.2.slot == 0 && e.2.startSym == 0) = some (sectKey p 0, e) ∧ occasionAt (s []) p 0 0 = some o ∧ pageSub (s []) p = k ∧
      entryGood (s []) (sectKey p 0) = true ∧ entryGood (s [(2 * 2 ^ 32 + sectKey p 0 * 64, 3)]) (sectKey p 0) = false ∧
      carValid (rxCar (s []) 0) = true ∧ flowValid (flowRec (s []) 0) = true ∧ domOn (s []) dFH = true ∧
      (compWidth (flowComp (flowRec (s []) 0))).isSome = true ∧
      due (s []) (counterAt (s []) ((symStart (s []) (carMu (rxCar (s []) 0)) hs.1 hs.2 + (o.timeOffset * 12500 : Nat) +
        ((o.cpLength + 0 * (prachShape o.filter).useful + (prachShape o.filter).useful) * 12500 : Nat) + 383) / 384)) = true) :=
  by
    iterate 4 refine And.intro (by decide +kernel) ?_
    decide +kernel

/-- ConverterUpkeep: INIT with no slice failed, within the limit and beyond it; each step of a visit due and not, for an
ADC, the housekeeping ADC and a DAC; measurements that agree within the range and beyond it, and that do not, with the
eighth in a row; a handover at both bounds and beyond each, and the fourth refusal; a window new, kept, not valid, and
one whose second estimate moves a trim; a receiver in wide mode. -/
theorem witness_ConverterUpkeep :
    ((convOf (conv_ fun c => { c with conv := [(0, { conv0 with state := 1 })] }) 0).state = 1 ∧ (convOf live 0).state ≠ 1 ∧ (383 : Nat) < 384) ∧
    (let s := conv_ fun c => { c with conv := [(0, { conv0 with state := 1 })] }
    let good := List.replicate 17 [((0 : Int), (0 : Int))]
    ((List.range (sliceCount 0)).filter fun k => (initOf 0 (attemptsOf good good k)).2.isNone) = [] ∧
      ((List.range (sliceCount 0)).filter fun k => (initOf 0 (attemptsOf good (good.take 16) k)).2.isNone).length = 1 ∧
      1 < ((List.range (sliceCount 0)).filter fun k => (initOf 0 (attemptsOf (good.take 15) good k)).2.isNone).length ∧ (sliceBefore s 0 0).failed = false) ∧
    (convStateNow (running 0 0) 0 = 2 ∧ (convOf (running 0 0) 0).visit = 0 ∧ (spareOf (convOf (running 0 0) 0)).isSome = true ∧
      (∀ n ∈ [0, 144, 319], elapsed (at_ (visitNs n) (stamp_ (tkVisit n) 0 live)) (tkVisit n) (visitNs n) = true ∧
        elapsed (at_ (visitNs n - 10) (stamp_ (tkVisit n) 0 live)) (tkVisit n) (visitNs n) = false)) ∧
    (∀ n ∈ [0, 144], convStateNow (running n 1) n = 2 ∧ (convOf (running n 1) n).visit = 1 ∧ isDac n = false ∧ spareOf (convOf (running n 1) n) = some (posCount n) ∧
      posCount n < sliceCount n ∧ (convOf (running n 1) n).disagree < 7 ∧ elapsed (running n 1) (tkVisit n) 104000 = true) ∧
    (agreesAt 0 (2, 0, 4, 0) = true ∧ inTrim 0 (pairMean (2, 0, 4, 0)) = true ∧ agreesAt 0 (3, 0, 0, 0) = false ∧ agreesAt 0 (0, 0, 5, 0) = false ∧
      agreesAt 0 (256, 256, 0, 0) = true ∧ inTrim 0 (pairMean (256, 256, 0, 0)) = false ∧ inTrim 0 (pairMean (255, 255, 511, 511)) = true ∧ inTrim 0 (pairMean (0, 0, 512, 512)) = false) ∧
    (let s (k : Nat) := runP (modConverter 0 fun c => { c with disagree := k, refusals := k }) (running 0 2)
    (convOf (s 6) 0).disagree < 7 ∧ 7 ≤ (convOf (s 7) 0).disagree ∧ (convOf (s 2) 0).refusals < 3 ∧ 3 ≤ (convOf (s 3) 0).refusals ∧ cars (s 3) = [] ∧
      cars (carried (s 3)) ≠ [] ∧ failedSlices (convOf (s 3) 0) = 0) ∧
    (let s := running 0 2
    convStateNow s 0 = 2 ∧ (convOf s 0).visit = 2 ∧ spareOf (convOf s 0) = some 16 ∧ holderOf (convOf s 0) (((convOf s 0).lastPos + 1) % posCount 0) = some 1 ∧
      (1024 : Int).natAbs ≤ 1024 ∧ (16384 : Nat) ≤ 16384 ∧ 1024 < (1025 : Int).natAbs ∧ elapsed s (tkVisit 0) 128000 = true) ∧
    (let s := running 319 0
    convStateNow s 319 = 2 ∧ isDac 319 = true ∧ spareOf (convOf s 319) = some 63 ∧ (holderOf (convOf s 319) (((convOf s 319).lastPos + 1) % posCount 319)).isSome = true ∧
      agreesAt 319 (2, 0, 0, 0) = true ∧ inTrim 319 (pairMean (31, 31, 0, 0)) = true ∧ inTrim 319 (pairMean (32, 32, 0, 0)) = false ∧ agreesAt 319 (3, 0, 0, 0) = false) ∧
    (let s := sheet_ 0 (fun r => { r with state := .rx, rxReady := true }) (running 0 0)
    wideRuns s 0 = false ∧ windowOver s 0 0 = true ∧ windowOver s 0 16 = false ∧ windowOver live 0 0 = false ∧ tfind s.conv.window (0 * 32 + 0) = none ∧
      skewEstimate s 0 0 [] = none ∧ windowOver (observing false) 128 0 = true ∧ wideRuns (observing false) 128 = false) ∧
    (let s := { (sheet_ 0 (fun r => { r with state := .rx, rxReady := true }) (running 0 0)) with conv := { (running 0 0).conv with window := [(0, (some 400, [none, none, none, none]))] } }
    let l : List (Int × Int × Int) := List.replicate 256 (-8000, 2, 8000)
    (tfind s.conv.window (0 * 32 + 0)).isSome = true ∧ holderOf (convOf s 0) 0 = some 0 ∧ ((convOf s 0).slices[0]?).isSome = true ∧ (0 : Nat) < sliceCount 0 ∧
      (skewEstimate s 0 0 l).isSome = true ∧ skewMove s 0 (some 400) (some 399) = 1 ∧ ((2047 : Int) - 0).natAbs ≤ 2047 ∧ ¬(((-2047 : Int) - 1).natAbs ≤ 2047)) ∧
    (let l : List (List (Int × Int × Int)) := (List.range 32).map fun i => List.replicate 256 (-8000, if i % 2 = 1 then 40 else -40, 8000)
    wideRuns (observing true) 128 = true ∧ wideRuns (observing true) 129 = true ∧ (wideEstimate (observing true) 0 l).isSome = true ∧ wideEstimate (observing true) 0 [] = none ∧
      tfind (observing true).conv.wideWindow 0 = none) :=
  by
    iterate 10 refine And.intro (by decide +kernel) ?_
    decide +kernel

/-- RadioStateSteps: a pattern entry ahead, late within RS_WINDOW and later, no pattern and no free timer; timers firing
alone, in a transition, for a channel and before their time; steps of a transition, ended and not, the last and
another, with a deferred one behind it; a strobe. -/
theorem witness_RadioStateSteps :
    (let x (h : Int) := sheet_ 0 (fun r => { r with patternOn := true, pat := some (h, 0) }) live
    let d (h : Int) := int32Diff (now live) (add32 (counterAt live (entryTe live (patRec live 0) h 0)) (-(actionDelta (stateAhead (sh (x h) 0) (counterAt live (entryTe live (patRec live 0) h 0))) ((patEntries (patRec live 0)).getD 0 (0, 2)).2 : Int)))
    let h := halfOf live (extNow live)
    (sh (x h) 0).patternOn = true ∧ domOn (x h) dDATUM = true ∧ ((List.range 6).find? fun t => (tfind (sh (x h) 0).timers t).isNone) = some 0 ∧
      d (h + 5) < 0 ∧ 0 ≤ d (h - 2) ∧ rsWindow live < d (h - 2) ∧ d (h - 2) ≤ rsWindow (datum_ fun q => { q with rsWindow := 16383 * 1000 })) ∧
    (let x : RsTimer := { tE := 1000000, action := 2, pat := false }
    (sh live 0).patternOn = false ∧ ((List.range 6).find? fun t => (tfind (sh (sheet_ 0 (fun r => { r with timers := (List.range 6).map fun i => (i, x) }) live) 0).timers t).isNone) = none ∧
      tfind (sh live 0).timers 5 = none) ∧
    (let x : RsTimer := { tE := 1000000, action := 2, pat := false }
    let s := sheet_ 0 (fun r => { r with timers := [(5, x)], state := .tx }) live
    let u := sheet_ 0 (fun r => { r with trans := some (.rx, 1000000) }) s
    tfind (sh s 0).timers 5 = some x ∧ reached s (add32 x.tE (-(actionDelta (stateSoon (sh s 0)) x.action : Int))) = true ∧ x.action ≠ 5 ∧
      (sh s 0).trans = none ∧ (sh u 0).trans.isSome = true ∧ reached u (add32 x.tE (-(actionDelta (stateSoon (sh u 0)) x.action : Int))) = true ∧
      reached { s with datum := { s.datum with cnt := 0 } } (add32 x.tE (-(actionDelta (stateSoon (sh s 0)) x.action : Int))) = false) ∧
    (let x : RsTimer := { tE := 1000000, action := 5, pat := false }
    let s (a : Radio) := sheet_ 0 (fun r => { r with timers := [(0, x)], state := a }) live
    tfind (sh (s .synth) 0).timers 0 = some x ∧ reached (s .synth) (add32 x.tE (-(actionDelta (stateSoon (sh (s .synth) 0)) x.action : Int))) = true ∧
      beyondStandby (sh (s .synth) 0).state = true ∧ beyondStandby (sh (s .standby) 0).state = false ∧ live.clk.cpuPll = true) ∧
    (let s (a b : Radio) (te : Nat) := sheet_ 0 (fun r => { r with state := a, trans := some (b, te), deferred := [(2, 1000000, 1000000)] }) live
    (sh (s .tx .rx 1000000) 0).trans = some (.rx, 1000000) ∧ due (s .tx .rx 1000000) (add32 1000000 (-(deltaOf (nextHop .tx .rx) .rx : Int))) = true ∧ nextHop .rx .tx = .tx ∧
      nextHop .tx .rx = .rx ∧ nextHop .sleep .tx ≠ .tx ∧ due (s .sleep .tx 1100000) (add32 1100000 (-(deltaOf (nextHop .sleep .tx) .tx : Int))) = true ∧
      due (s .rx .tx 2000000) (add32 2000000 (-(deltaOf (nextHop .rx .tx) .tx : Int))) = false ∧ dropSame .rx [(2, 1000000, 1000000)] = [(2, 1000000, 1000000)] ∧
      dropSame .synth [(2, 1000000, 1000000)] = [] ∧ (sh live 0).trans = none) ∧
    (∀ m ∈ sheets live, m ≠ 0 → (sh live m).state ≠ .tx) ∧
    (nextHop .standby .tx = .synth ∧ nextHop .synth .sleep = .standby ∧ nextHop .standby .sleep = .sleep) ∧
    (sheetFit live 3 = true ∧ (3 : Nat) < 4 ∧ sheetFit { live with fuse := { live.fuse with variant := 1 } } 3 = false ∧ (4 : Nat) ≤ 4) :=
  by
    iterate 7 refine And.intro (by decide +kernel) ?_
    decide +kernel

/-- SynthesizerSteps: a calibration due and not; lock at both ends of its time; the first and the second failure to lock,
of a sheet in service and of one that returns; a loss alone and the third, of each synthesizer; 1 us after a loss and
before. -/
theorem witness_SynthesizerSteps :
    (let s := sheet_ 3 (fun r => { r with state := .synth, calDue := some 1000000 }) live
    (sh s 3).calDue = some 1000000 ∧ due s 1000000 = true ∧ due s 1000001 = false ∧ domOn s (dSHEET 3) = true ∧ domOn (inDom (dSHEET 3) .off s) (dSHEET 3) = false) ∧
    (let s (t : Nat) := sheet_ 0 (fun r => { r with txCal := true, rxCal := true, calStart := t }) live
    (sh (s 0) 0).txCal = true ∧ (sh (s 0) 0).rxCal = true ∧ lockTime (s 896000) 0 = true ∧ lockTime (s 896001) 0 = false ∧ lockTime (s 500000) 0 = true ∧
      lockTime (s 499999) 0 = false ∧ (sh live 0).txCal = false) ∧
    (let s (try_ : Nat) (back : Bool) := sheet_ 0 (fun r => { r with txCal := true, rxCal := true, calStart := 500000, calTry := try_, returning := back }) live
    (sh (s 1 false) 0).txCal = true ∧ due (s 1 false) (add32 (sh (s 1 false) 0).calStart 500000) = true ∧ (sh (s 1 false) 0).calTry = 1 ∧ (sh (s 2 true) 0).calTry ≠ 1 ∧
      (sh (s 2 true) 0).returning = true ∧ (sh (s 2 false) 0).returning = false ∧ cars (s 2 false) = [] ∧ cars (carried (s 2 false)) ≠ [] ∧ isoWaits (s 2 false) 0 = false ∧
      (s 2 false).clk.isoSheet.testBit 0 = false ∧ due (s 1 false) (add32 500001 500000) = false) ∧
    (let s (l : List Nat) := sheet_ 0 (fun r => { r with state := .rx, txLock := true, rxLock := true, losses := l }) live
    (sh (s []) 0).txLock = true ∧ (sh (s []) 0).rxLock = true ∧ beyondStandby (sh (s []) 0).state = true ∧ beyondStandby (sh live 0).state = false ∧
      ∀ l ∈ [[], [0, 0]], (((sh (s l) 0).losses.filter fun t => decide (upNs (s l) < t + 10000000000)) ++ [upNs (s l)]).length = l.length + 1) ∧
    (let s := sheet_ 0 (fun r => { r with state := .synth, unlocked := some 999000 }) live
    (sh s 0).unlocked = some 999000 ∧ due s (add32 999000 1000) = true ∧ due s (add32 999001 1000) = false ∧ beyondStandby (sh s 0).state = true ∧ (sh live 0).unlocked = none) :=
  by
    iterate 4 refine And.intro (by decide +kernel) ?_
    decide +kernel

/-- SurveyCampaigns: the start and sheets that may not, a repetition due and not, a solution that rejects all and one that
accepts, of a quick survey and of a full campaign; both boundaries reached and not; tracking captures of both
arrangements, touched, and none; a first and a second measurement; an evaluation within the deadband and beyond it;
temperatures with a carrier, without, and near the latched one. -/
theorem witness_SurveyCampaigns :
    (let s := sheet_ 0 (fun r => { r with txLock := true, rxLock := true, changing := true }) live
    setBits 4 1 ≠ [] ∧ engineLost s = false ∧ (setBits 4 1).all (surveyReady s) = true ∧ (setBits 4 3).all (surveyReady s) = false) ∧
    (let s (t : Nat) := sheet_ 3 (fun r => { r with txLock := true, rxLock := true, qsFail := true, retryAt := t }) live
    ((sh (s 0) 3).qsFail && (sh (s 0) 3).txLock && (sh (s 0) 3).rxLock && surveyed (s 0) 3 && (campOf (s 0) 3).isNone && !engineLost (s 0)) = true ∧
      due (s 1000000) (sh (s 1000000) 3).retryAt = true ∧ due (s 1000001) (sh (s 1000001) 3).retryAt = false) ∧
    ((surveying.survey.camps.find? fun c => c.number == 1 && !c.solved) = some camp1 ∧ campTaken surveying camp1 = true ∧ engineLost surveying = false ∧
      campSet surveying camp1 [] = [] ∧ (live.survey.camps.find? fun c => c.number == 1 && !c.solved) = none ∧
      tget 0 surveying.survey.qsReject 0 + 1 < 4) ∧
    (let c : Camp := { camp1 with full := true, leases := [(0, 6)], skipOrx := true }
    let s := { surveying with survey := { surveying.survey with camps := [c] } }
    (s.survey.camps.find? fun x => x.number == 1 && !x.solved) = some c ∧ campTaken s c = true ∧ campSet s c [] = [] ∧
      4 ≤ tget 0 ({ s with survey := { s.survey with qsReject := [(0, 3)] } } : State).survey.qsReject 0 + 1) ∧
    (let c (full : Bool) : Camp := { camp1 with solved := true, full := full, accepted := 1, boundary := 1000000 }
    let s (full : Bool) : State := { live with survey := { live.survey with camps := [c full] } }
    ∀ full : Bool, ((s full).survey.camps.find? fun c => c.number == 1 && c.solved && c.full == full) = some (c full) ∧
      due (s full) (c full).boundary = true ∧ due { s full with datum := { live.datum with cnt := 999999 } } (c full).boundary = false ∧
      ((c full).result.elems.map (·.1)).Nodup ∧ ((s full).survey.camps.find? fun c => c.number == 1 && c.solved && c.full == !full) = none) ∧
    (let s (a : Nat) := adapting { (dpd_ fun d => { d with orx := [(0, { orx0 with owner := 2 })] }) with survey := { live.survey with fSurvDl := 3500000, arr := [(0, a)] } }
    let r (a : Nat) := runP (.seq (txRun none) touchLeases) (s a)
    trackOver (r 3) 0 = true ∧ tget 0 (r 3).survey.arr (0 / 2) = 3 ∧ trackOver (r 1) 0 = true ∧ tget 0 (r 1).survey.arr (0 / 2) = 1 ∧ (orxOf (r 1) 0).touched = false ∧
      trackOver (runP (.seq (txRun none) touchLeases) live) 0 = false ∧ tget 0 (r 2).survey.arr (0 / 2) ≠ 3 ∧ tget 0 (r 2).survey.arr (0 / 2) ≠ 1) ∧
    (let f : Fit := zeroFit 3500000
    fitsAgree live f f = true ∧ fitsAgree live f { f with mag := 128 * fxOne } = false ∧ tfind live.survey.trackA (64 * 1 + 63) = none ∧
      tfind ({ live with survey := { live.survey with trackA := [(127, f)] } } : State).survey.trackA (64 * 1 + 63) = some f) ∧
    (let f : Fit := zeroFit 3500000
    let s := { surveying with
      clk := { live.clk with isoTx := 0xFFFC, isoRx := 0xFFFF }
      survey := { live.survey with base := [(0, (0, 0, 0)), (1, (0, 0, 0))], tracked := [(0, (f, 0)), (1, (f, 0))] } }
    let far := { s with survey := { s.survey with base := [(0, (0, 128 * fxOne, 0)), (1, (0, 0, 0))] } }
    let eps (u : State) :=
      let raw := (sheetEls u 0 0).map fun e => (e, trackError u 0 e)
      raw.map fun x => (x.1, x.2.1 - fxMean (raw.map fun x => x.2.1), fxWrap (x.2.2 - circMean (raw.map fun x => x.2.2)))
    let beyond (u : State) (o : Nat) := (eps u).any fun x =>
      decide ((fld (surveyRec u) o 1 : Int) * fxOne < x.2.1.natAbs) || decide ((fld (surveyRec u) (o + 1) 1 : Int) * fxOne < x.2.2.natAbs)
    (∀ u ∈ [s, far], fbit (surveyRec u) 0 1 0 = true ∧ trackFull u 0 0 = true ∧ steeping u 0 0 = false) ∧ beyond s 8 = false ∧ beyond far 8 = true ∧
      beyond far 10 = true ∧ trackFull live 0 0 = false) ∧
    (let s := warm 400 (sheet_ 0 (fun r => { r with state := .synth }) live)
    fwRuns s = true ∧ 0 ∈ liveSheets s ∧ (sh s 0).state ≠ .sleep ∧ tfind s.survey.latchPend 0 = none ∧
      fld (surveyRec s) 18 1 ≤ (sheetTemp s 0 - tget 0 s.survey.latched 0).natAbs ∧ surveyCar s (surveyRef s) = none ∧
      surveyCar (carried s) (surveyRef (carried s)) ≠ none ∧ (sh s 1).state = .sleep ∧ fwRuns (boot_ fun b => { b with held := true }) = false) :=
  by
    iterate 8 refine And.intro (by decide +kernel) ?_
    decide +kernel

/-- BiasAndCoexistence: the clear phase of an enabled and a disabled output, each half of a swap, each due and not; an
output that rests; 39 ns and 40 ns; every branch of a judgement; a short, compliance and open load new and old, with
an isolation asked and not, and a sample that comes too soon; both roles with the request, the grant and their times,
each due and not. -/
theorem witness_BiasAndCoexistence :
    (let s (n t : Nat) := bias_ fun x => { x with dac := [(n, { bias0 with phase := some t })] }
    let on := biased { bias0 with phase := some 980000 }
    (biasDac on 0).phase = some 980000 ∧ due on (add32 980000 20000) = true ∧ due on (add32 980001 20000) = false ∧ biasEnable on 0 = true ∧ (biasDac (s 1 0) 1).phase = some 0 ∧
      biasEnable (s 1 0) 1 = false ∧ (biasDac live 0).phase = none) ∧
    (let s (t : Nat) (done : Bool) := biased { bias0 with swap := some (t, 1, done) }
    (∀ done : Bool, (biasDac (s 978000 done) 0).swap = some (978000, 1, done) ∧ due (s 978000 done) (add32 978000 (if done then 22000 else 2000)) = true ∧
      due (s 999000 done) (add32 999000 (if done then 22000 else 2000)) = false) ∧ (biasDac live 0).swap = none) ∧
    (let s := biased { bias0 with configured := true }
    ((biasDac s 0).configured && biasEnable s 0 && !biasCleared (biasDac s 0) && biasOut s 0 == (biasDac s 0).target) = true ∧ (biasDac live 0).configured = false ∧ domOn s dAO = true ∧ 0 ∈ sheets s ∧ dacSheet 0 = 0) ∧
    ((39 : Nat) < 40 ∧ (40 : Nat) ≤ 40 ∧ domOn (pwr_ fun p => { p with aoUp := false, dom := [] }) dAO = false ∧ camp1.sheets.testBit 0 = true) ∧
    (judgeSample 1 false 0 true = (true, 0) ∧ judgeSample 3 false 1 true = (false, 2) ∧ judgeSample 3 false 2 true = (true, 0) ∧ judgeSample 3 true 2 false = (false, 0) ∧ judgeSample 3 true 2 true = (true, 0)) ∧
    (let d : Bias := { bias0 with configured := true, nComp := 2, nOpen := 2 }
    let s (f : Nat) := carried { (bias_ fun b => { b with dac := [(127, d), (128, d), (191, { d with nComp := 1, sampled := some 0 })] }) with
      cfg := [(cfgKey 0x0C01 127, [127, f, 0, 0, 0, 0, 0, 0]), (cfgKey 0x0C01 128, [128, f, 0, 0, 8, 0, 0, 0])] }
    (∀ f ∈ [1, 0x19], (biasDac (s f) 127).configured = true ∧ (127 : Nat) < 128 ∧ (judgeSample 1 (biasDac (s f) 127).short (biasDac (s f) 127).nShort true).1 = true ∧
      (biasDac (s f) 127).short = false ∧ fbit (biasRec (s f) 127) 1 1 3 = (f == 0x19) ∧ (biasDac (s f) 128).configured = true ∧ (biasDac (s f) 128).sampled = none ∧
      (judgeSample 3 (biasDac (s f) 128).compliance (biasDac (s f) 128).nComp true).1 = true ∧ (biasDac (s f) 128).compliance = false ∧ 8 ≤ fld (biasRec (s f) 128) 4 2 ∧
      (judgeSample 3 (biasDac (s f) 128).openLoad (biasDac (s f) 128).nOpen true).1 = true ∧ fbit (biasRec (s f) 128) 1 1 4 = (f == 0x19) ∧ cars (s f) ≠ []) ∧
      (biasDac (s 1) 191).sampled.all (fun t => decide (t + 50000 ≤ upNs (s 1))) = false) ∧
    (let s := coex_ fun c => { c with next := some (1, 990000) }
    s.coex.next = some (1, 990000) ∧ due s (add32 990000 10000) = true ∧ due s (add32 990001 10000) = false ∧ live.coex.next = none) ∧
    (let s := entering 1000000 (coex_ fun c => { c with role := 1 })
    s.coex.role = 1 ∧ s.coex.req = false ∧ coexLead s = true ∧ coexLead (entering 5000000 s) = false ∧
      ((firstTx s).any fun te => s.coex.sampled != some te && due s (add32 te (-1000 * (fld (coexRec s) 4 2 : Int)))) = true ∧ s.coex.gnt = false ∧
      denyMute s = true ∧ denyMute (with_ 0x0C30 0 (putAt (coexRec live) 1 [0]) s) = false ∧ 0 ∈ sheets s ∧
      ((firstTx (entering 5000000 s)).any fun te => s.coex.sampled != some te && due s (add32 te (-1000 * (fld (coexRec s) 4 2 : Int)))) = false) ∧
    (let s (t : Nat) := coex_ fun c => { c with role := 1, left := some t }
    (s 999000).coex.role = 1 ∧ someTx (s 999000) = false ∧ coexLead (s 999000) = false ∧ (s 999000).coex.left.any (fun te => due (s 999000) (add32 te (1000 * (fld (coexRec (s 999000)) 6 2 : Int)))) = true ∧
      (s 999001).coex.left.any (fun te => due (s 999001) (add32 te (1000 * (fld (coexRec (s 999001)) 6 2 : Int)))) = false ∧ someTx (sheet_ 0 (fun r => { r with state := .tx }) (s 0)) = true) ∧
    (let s := sheet_ 0 (fun r => { r with state := .tx }) (coex_ fun c => { c with role := 1, gnt := true })
    s.coex.role = 1 ∧ s.coex.gnt ≠ false ∧ someTx s = true ∧ denyMute s = true ∧ (coex_ fun c => { c with role := 1 }).coex.gnt ≠ true ∧ live.coex.role ≠ 1 ∧ live.coex.role ≠ 2 ∧ someTx live = false) ∧
    (let s := coex_ fun c => { c with role := 2, req := true }
    s.coex.role = 2 ∧ s.coex.req = true ∧ (coex_ fun c => { c with role := 2 }).coex.req = false ∧ coexClear s = true ∧ coexClear (entering 1000000 s) = false) :=
  by
    iterate 10 refine And.intro (by decide +kernel) ?_
    decide +kernel

/-- BusesCapturesAndTap: a master with a message, with a trigger on time and late, disabled, busy, and one that may not
drive; the end of a transfer reached and not; a tuner that asks and one that does not; a measurement over and not; a
capture armed at each kind of tap, before its first sample, without a grant, running, over and not, aborted for each
reason and timed out; TEST_EN high and low with the states of the controller. -/
theorem witness_BusesCapturesAndTap :
    (let s := master_ fun x => { x with imm := [msg1] }
    masterLive s 0 = true ∧ masterOn s 0 = true ∧ (masterOf s 0).busy = none ∧ pickMsg s (masterOf s 0) = some msg1 ∧ pickMsg s master0 = none ∧ masterOn live 0 = false ∧
      (masterOf (master_ fun x => { x with busy := some msg1 }) 0).busy ≠ none) ∧
    (let r (t : Nat) : Rffe := { msg1 with trigger := true, due := t }
    let s (t : Nat) := master_ fun x => { x with crit := [r t] }
    pickMsg (s 999997) (masterOf (s 999997) 0) = some (r 999997) ∧ 2 < int32Diff (now live) 999997 ∧ ¬(2 < int32Diff (now live) 999998) ∧
      pickMsg (s 999998) (masterOf (s 999998) 0) = some (r 999998) ∧ (s 0).rffe.lateSlot ≠ some ((slotOf (s 0) (now (s 0))).getD 0)) ∧
    (let s := inDom (dSHEET 0) .off (master_ fun x => { x with crit := [{ msg1 with trigger := true }] })
    masterLive s 0 = false ∧ (((masterOf s 0).crit ++ (masterOf s 0).sched).filter fun r => r.trigger && due s r.due) ≠ []) ∧
    (let s := master_ fun x => { x with busy := some msg1, doneAt := 5 }
    (masterOf s 0).busy = some msg1 ∧ msg1.origin = 0 ∧ upNs s < (masterOf s 0).doneAt ∧ (masterOf (at_ 5 s) 0).doneAt ≤ upNs (at_ 5 s) ∧ (masterOf live 0).busy = none) ∧
    (let s := with_ 0x0C20 0 (putAt (tunerRec live 0) 1 [3]) live
    (pathFit s 0 && fbit (tunerRec s 0) 1 1 1 && intervalOver s 0) = true ∧ (pathFit live 0 && fbit (tunerRec live 0) 1 1 1 && intervalOver live 0) = false) ∧
    (let s (t : Nat) := dpd_ fun d => { d with orx := [(7, { orx0 with owner := 1, mismatch := true, path := some 48, capture := 1, leaseStart := t })] }
    let r (t : Nat) := runP (.seq (txRun none) touchLeases) (s t)
    mismatchOver (r 900000) 48 7 = true ∧ mismatchOver (r 990000) 48 7 = false ∧ mismatchOver (r 900000) 47 7 = false ∧ mismatchOver (r 900000) 48 6 = false ∧ mismatchOver (r 900000) 48 8 = false ∧
      fbit (tunerRec (with_ 0x0C20 48 (putAt (tunerRec live 48) 1 [4]) live) 48) 1 1 2 = true ∧ fbit (tunerRec live 48) 1 1 2 = false) ∧
    (∀ k ∈ [2, 3], (capOf (slot_ 1 k) 3).state = 1 ∧ due (slot_ 1 k) (fld (capOf (slot_ 1 k) 3).req 16 4) = true ∧ granted (slot_ 1 k) 5 = true ∧ capTap (capOf (slot_ 1 k) 3).req = k) ∧
    (let s := slot_ 1 3
    (due s 1 && decide (0 ≤ int32Diff 1 (fld (capOf s 3).req 16 4)) && decide (int32Diff 1 (fld (capOf s 3).req 16 4) * (tapRate s (capOf s 3).req : Nat) ≤ 1000000000 + (tapRate s (capOf s 3).req : Nat))) = true ∧
      due s 1000001 = false ∧ granted { s with kiln := { live.kiln with level := 1 } } 5 = false) ∧
    (let b := nextBoundary (slot_ 1 2) 1 0 (extTotal (slot_ 1 2).datum.ref 0)
    due (slot_ 1 2) (counterAt (slot_ 1 2) b.2.2) = true ∧ due { slot_ 1 2 with datum := { live.datum with cnt := 0 } } (counterAt live b.2.2 + 1) = false) ∧
    (let s (o : Nat) := { slot_ 1 5 with dpd := { live.dpd with orx := [(0, { orx0 with owner := o, leaseStart := 900000, path := none })] } }
    let leased (o : Nat) := (orxOf (s o) 0).owner == 3 && (orxOf (s o) 0).capture == 0 && (orxOf (s o) 0).path == (capPaths (capOf (s o) 3).req).head? && due (s o) (add32 900000 (settleDelay (s o)))
    leased 3 = true ∧ leased 1 = false ∧ capTap (capOf (s 3) 3).req = 5 ∧ fld (capOf (s 3) 3).req 12 1 = 0) ∧
    (let s := slot_ 2 0
    (capOf s 3).state = 2 ∧ 0 = capLen (capOf s 3).req ∧ 1 ≠ capLen (capOf s 3).req ∧ Memory.wf s.mem = true ∧ due s (add32 (capOf s 3).firstNs (capSpan s (capOf s 3))) = true ∧
      capBase (capOf s 3).req * 0x10000 + capBytes (capOf s 3) ≤ 0x2000000 ∧ capTap (capOf s 3).req ≠ 5 ∧ capTap (capOf (slot_ 2 5) 3).req = 5 ∧ (capOf live 3).state ≠ 1 ∧ (capOf live 3).state ≠ 2 ∧
      due { s with datum := { live.datum with cnt := 0 } } 1 = false) ∧
    (let c (s : State) := (dGRAT :: capDoms (capOf s 3).req).all fun d => domOn s d
    c (slot_ 1 3) = true ∧ c (inDom dGRAT .off (slot_ 1 3)) = false ∧ granted (slot_ 1 3) 5 = true ∧ granted { slot_ 1 3 with kiln := { live.kiln with level := 1 } } 5 = false) ∧
    (let s (t : Nat) := { slot_ 1 5 with datum := { live.datum with cnt := BitVec.ofNat 32 t } }
    ((capOf (s 100000000) 3).state == 1 && capTap (capOf (s 100000000) 3).req == 5 && due (s 100000000) (add32 (fld (capOf (s 0) 3).req 16 4) 100000000)) = true ∧
      due (s 99999999) (add32 0 100000000) = false) ∧
    (live.boot.testEn = false ∧ (boot_ fun b => { b with testEn := true }).boot.testEn = true ∧ tapStep false .shiftDr = .shiftDr ∧ tapStep true .exit1Ir = .updateIr ∧ tapStep true .exit1Dr = .updateDr ∧ tapStep true .selectIr = .testLogicReset ∧ live.tap.st ≠ .captureDr) :=
  by
    iterate 13 refine And.intro (by decide +kernel) ?_
    decide +kernel

/-- CommandIndex: a mailbox command of each kind. -/
theorem witness_CommandIndex :
    ((Instr.sysCapRead (hc 0 [])).call = some (0x0101, hc 0 []) ∧ (Instr.txnBegin (hc 0 [])).call = some (0x0F01, hc 0 [])) :=
  by decide +kernel

/-- HostCommandTaken: the first channel, and the last with the stream off. -/
theorem witness_HostCommandTaken :
    (Sent (.sysCapRead (hc 0 [])) 0x0101 (hc 0 []) 0 live) ∧
    (Sent (.sysReset { hc 0 [0, 0, 0, 0] with src := .host 7 }) 0x0102 { hc 0 [0, 0, 0, 0] with src := .host 7 } 7 (mbx_ fun m => { m with inband := false })) :=
  by
    iterate 1 refine And.intro (by (try unfold Sent); (try unfold Passes); (try unfold ChannelFree); decide +kernel) ?_
    (try unfold Sent); (try unfold Passes); (try unfold ChannelFree); decide +kernel

/-- ReadAndSetCommandsRun and ReadsChangeNothing: a command of kind R and one of kind N. -/
theorem witness_ReadAndSetCommandsRun :
    (Sent (.sysCapRead (hc 0 [])) 0x0101 (hc 0 []) 0 live ∧ Passes 0x0101 (hc 0 []) 0 live ∧ 0x0101 ∈ readOps ++ setOps) ∧
    (Sent (.kilnModelSet (hc 0 (zeros 8))) 0x0212 (hc 0 (zeros 8)) 0 live ∧ Passes 0x0212 (hc 0 (zeros 8)) 0 live ∧ 0x0212 ∈ readOps ++ setOps) :=
  by
    iterate 1 refine And.intro (by (try unfold Sent); (try unfold Passes); (try unfold ChannelFree); decide +kernel) ?_
    (try unfold Sent); (try unfold Passes); (try unfold ChannelFree); decide +kernel

/-- SettingsTaken: a command of each clause. -/
theorem witness_SettingsTaken :
    (Sent (.eventMaskSet (hc 0 (zeros 4))) 0x0109 (hc 0 (zeros 4)) 0 live ∧ Passes 0x0109 (hc 0 (zeros 4)) 0 live) ∧
    (Sent (.hkLimitSet (hc 0 (zeros 8))) 0x0D03 (hc 0 (zeros 8)) 0 live ∧ Passes 0x0D03 (hc 0 (zeros 8)) 0 live) ∧
    (Sent (.datumFreqSet (hc 0 (zeros 4))) 0x0305 (hc 0 (zeros 4)) 0 live ∧ Passes 0x0305 (hc 0 (zeros 4)) 0 live) ∧
    (Sent (.memTmrWrite (hc 0 [8, 0, 0, 0, 0xFF, 0xFF, 0xFF, 0xFF])) 0x0E06 (hc 0 [8, 0, 0, 0, 0xFF, 0xFF, 0xFF, 0xFF]) 0 live ∧ Passes 0x0E06 (hc 0 [8, 0, 0, 0, 0xFF, 0xFF, 0xFF, 0xFF]) 0 live) ∧
    (Sent (.sysReset (hc 0 [1, 0, 0, 0])) 0x0102 (hc 0 [1, 0, 0, 0]) 0 live ∧ Passes 0x0102 (hc 0 [1, 0, 0, 0]) 0 live) ∧
    (Sent (.pwrCaskClear (hc 0 (zeros 4))) 0x0203 (hc 0 (zeros 4)) 0 live ∧ Passes 0x0203 (hc 0 (zeros 4)) 0 live) :=
  by
    iterate 5 refine And.intro (by (try unfold Sent); (try unfold Passes); (try unfold ChannelFree); decide +kernel) ?_
    (try unfold Sent); (try unfold Passes); (try unfold ChannelFree); decide +kernel

/-- ParkedCommands: a parked command that starts, one that can complete, one whose unit is gone, one that cannot complete
yet, and none. -/
theorem witness_ParkedCommands :
    (Sent (.sysFuseProgram (hc 0 (zeros 56))) 0x0107 (hc 0 (zeros 56)) 0 live ∧ Passes 0x0107 (hc 0 (zeros 56)) 0 live ∧ 0x0107 ∈ parkOps) ∧
    (let k : Cmd := { src := .host 7, op := 0x0107, seq := 1, txn := 0, req := zeros 56 }
    let s := mbx_ fun m => { m with parked := [{ cmd := k }] }
    s.mbx.parked[0]? = some { cmd := k } ∧ ((cmdOf k.op).any fun d => d.ready k.req s && decide ((d.finish 1 k.req true [] s).2.1.length ≤ 248)) = true ∧
      s.mbx.ready = true ∧ Memory.wf s.mem = true) ∧
    (live.mbx.parked[0]? = none) ∧
    (let k : Cmd := { src := .host 7, op := 0x0B09, seq := 1, txn := 0, req := [3, 0, 0, 0] }
    let s := { (mbx_ fun m => { m with parked := [{ cmd := k }] }) with clk := { live.clk with reason := [(8, 3)] } }
    s.mbx.parked[0]? = some { cmd := k } ∧ ((cmdOf 0x090C).any fun d => goneUnit s d [0, 0, 0, 0]) = true ∧
      ((cmdOf 0x0107).any fun d => goneUnit live d (zeros 56)) = false) ∧
    (((cmdOf 0x0201).any fun d => !d.ready [2, 0, 0, 0, 2, 0, 0, 0] (inDom 1 .waiting live)) = true ∧
      (mbx_ fun m => { m with ready := false }).mbx.ready = false) :=
  by
    iterate 4 refine And.intro (by (try unfold Sent); (try unfold Passes); (try unfold ChannelFree); decide +kernel) ?_
    (try unfold Sent); (try unfold Passes); (try unfold ChannelFree); decide +kernel

/-- CommandsAreStaged: TX_PATH_SET into an OPEN transaction, and into a full one. -/
theorem witness_CommandsAreStaged :
    (Sent (.txPathSet (hc 1 (zeros 24))) 0x0703 (hc 1 (zeros 24)) 0 opened1 ∧ Passes 0x0703 (hc 1 (zeros 24)) 0 opened1 ∧ 0x0703 ∈ itemOps ++ swapOps) ∧
    (txnOf opened1 1 = some open1 ∧ itemsFit opened1 open1 [itemFor 0x0703 (hc 1 (zeros 24))] = true) ∧
    (let s := txn_ fun t => { t with live := [{ open1 with items := List.replicate 1024 (itemFor 0x0703 (hc 1 (zeros 24))) }], next := 2 }
    itemsFit s (s.txn.live.headD open1) [itemFor 0x0703 (hc 1 (zeros 24))] = false ∧ 0x0507 ∈ itemOps ++ swapOps) :=
  by
    iterate 2 refine And.intro (by (try unfold Sent); (try unfold Passes); (try unfold ChannelFree); decide +kernel) ?_
    (try unfold Sent); (try unfold Passes); (try unfold ChannelFree); decide +kernel

/-- OneItemTransactions: one that passes validation and one that fails it. -/
theorem witness_OneItemTransactions :
    (Sent (.txPathSet (hc 0 (zeros 24))) 0x0703 (hc 0 (zeros 24)) 0 live ∧ Passes 0x0703 (hc 0 (zeros 24)) 0 live ∧ 0x0703 ∈ itemOps) ∧
    (cars live = [] ∧ (txnsIn live .opened).length < 8 ∧ (txnsIn live .committed).length < 16 ∧ txnOf live live.txn.next = none ∧
      ((txnOf (opened 0x0703 (hc 0 (zeros 24)) 0 live) live.txn.next).any fun x => (validate (opened 0x0703 (hc 0 (zeros 24)) 0 live) x).isNone) = true ∧
      ((txnOf (loadedOne 0x0703 (hc 0 (zeros 24)) 0 live) live.txn.next).any fun y => (applyFail (loadedOne 0x0703 (hc 0 (zeros 24)) 0 live) y).isNone) = true) ∧
    (txnOf live 0 = none ∧ ((cmdOf 0x0703).any fun d => d.stores) = true ∧
      sumN ((itemFor 0x0703 (hc 0 (zeros 24)) :: live.txn.live.flatMap (·.items)).map fun x => (itemBytes x).length) ≤ 192 * 1024) ∧
    (let c := hc 0 ([8, 1] ++ zeros 5 ++ [0x91, 250, 0, 7] ++ zeros 5)
    Sent (.fhFlowSet c) 0x0403 c 0 live ∧ Passes 0x0403 c 0 live ∧
      ((txnOf (opened 0x0403 c 0 live) live.txn.next).any fun x => (validate (opened 0x0403 c 0 live) x).any fun p => p.1 != stOK) = true) :=
  by
    iterate 3 refine And.intro (by (try unfold Sent); (try unfold Passes); (try unfold ChannelFree); decide +kernel) ?_
    (try unfold Sent); (try unfold Passes); (try unfold ChannelFree); decide +kernel

/-- TransactionCommands: each command; eight open transactions and fewer; a commit that applies at once, one with a
boundary ahead and one refused; an abort of an OPEN transaction, too near its boundary, and of another origin; a known
and an unknown transaction. -/
theorem witness_TransactionCommands :
    (Sent (.txnBegin (hc 0 (zeros 4))) 0x0F01 (hc 0 (zeros 4)) 0 live ∧ Passes 0x0F01 (hc 0 (zeros 4)) 0 live ∧ (txnsIn live .opened).length < 8) ∧
    (let c := hc 0 ([1, 0, 0, 0, 1, 0, 0, 0] ++ leBytes 4 0x40301000 ++ leBytes 4 5 ++ leBytes 4 0xFFFF)
    Sent (.txnStageReg c) 0x0F02 c 0 opened1 ∧ Passes 0x0F02 c 0 opened1 ∧ txnCheck opened1 1 1 = stOK ∧
      (∀ i ∈ regItems (taken 0x0F02 c).req, ownFail opened1 open1 i = stOK) ∧
      keysHeld opened1 1 ((regItems (taken 0x0F02 c).req).map (·.addr)) = false ∧ itemsFit opened1 open1 (regItems (taken 0x0F02 c).req) = true) ∧
    (let c := hc 0 (1 :: zeros 11)
    let s := opened1
    Sent (.txnCommit c) 0x0F03 c 0 s ∧ Passes 0x0F03 c 0 s ∧ txnOf s 1 = some open1 ∧ txnCheck s 1 1 = stOK) ∧
    (Sent (.txnAbort (hc 0 [1, 0, 0, 0])) 0x0F04 (hc 0 [1, 0, 0, 0]) 0 opened1 ∧ Passes 0x0F04 (hc 0 [1, 0, 0, 0]) 0 opened1 ∧ open1.origin = 1 ∧ open1.loaded = false) ∧
    (Sent (.txnStatus (hc 0 [9, 0, 0, 0])) 0x0F05 (hc 0 [9, 0, 0, 0]) 0 live ∧ Passes 0x0F05 (hc 0 [9, 0, 0, 0]) 0 live ∧ txnAny live 9 = none) ∧
    (Sent (.ownerSet (hc 0 (zeros 8))) 0x0F06 (hc 0 (zeros 8)) 0 live ∧ Passes 0x0F06 (hc 0 (zeros 8)) 0 live) ∧
    (let s := txn_ fun t => { t with live := (List.range 8).map fun i => { open1 with id := i + 1 }, next := 9 }
    Sent (.txnBegin (hc 0 (zeros 4))) 0x0F01 (hc 0 (zeros 4)) 0 s ∧ Passes 0x0F01 (hc 0 (zeros 4)) 0 s ∧ 8 ≤ (txnsIn (entered 0x0F01 (hc 0 (zeros 4)) 0 s) .opened).length) ∧
    (let u := entered 0x0F03 (hc 0 (1 :: zeros 11)) 0 opened1
    (judgeCommit u open1 0 0 0 false false).1 = stOK ∧ (judgeCommit u open1 0 0 0 false false).2.2.2 = true ∧ (judgeCommit u open1 1 0 0 false false).1 ≠ stOK ∧
      (judgeCommit (carried u) open1 0 0 0 true false).1 = stOK ∧ (judgeCommit (carried u) open1 0 0 0 true false).2.2.2 = false) ∧
    (let q (o : Nat) : Txn := { open1 with state := .committed, origin := o, applyNs := 1000000 }
    let c := hc 0 [1, 0, 0, 0]
    let s (o : Nat) := txn_ fun t => { t with live := [q o], next := 2 }
    (∀ o ∈ [1, 2], Sent (.txnAbort c) 0x0F04 c 0 (s o) ∧ Passes 0x0F04 c 0 (s o) ∧ txnOf (entered 0x0F04 c 0 (s o)) 1 = some (q o)) ∧ inLead (s 1) (q 1).applyNs (q 1).lead = false) ∧
    (Sent (.txnStatus (hc 0 [1, 0, 0, 0])) 0x0F05 (hc 0 [1, 0, 0, 0]) 0 opened1 ∧ Passes 0x0F05 (hc 0 [1, 0, 0, 0]) 0 opened1 ∧
      txnAny (entered 0x0F05 (hc 0 [1, 0, 0, 0]) 0 opened1) 1 = some open1) :=
  by
    iterate 9 refine And.intro (by (try unfold Sent); (try unfold Passes); (try unfold ChannelFree); decide +kernel) ?_
    (try unfold Sent); (try unfold Passes); (try unfold ChannelFree); decide +kernel

/-- TransactionEvents: a transaction named 10 s ago and since; one committed and not loaded; a boundary reached and not
yet, and DATUM off. -/
theorem witness_TransactionEvents :
    (txnOf opened1 1 = some open1 ∧ open1.state = .opened) ∧
    (let q : Txn := { open1 with state := .committed, applyNs := 2000000 }
    let s := txn_ fun t => { t with live := [q] }
    txnOf s 1 = some q ∧ q.state = .committed ∧ q.loaded = false) ∧
    (domOn live dDATUM = true ∧ reached live 1000000 = true ∧ live.mbx.fifo = [] ∧ live.mbx.queue31 = [] ∧ reached live 1000001 = false ∧ domOn (inDom dDATUM .off live) dDATUM = false) ∧
    (open1.named + 10000000000 ≤ upNs (at_ 10000000000 opened1) ∧ upNs (at_ 9999999990 opened1) < open1.named + 10000000000 ∧ due live 1000000 = true ∧ due live 1000001 = false ∧ txnOf live 1 = none) :=
  by
    iterate 3 refine And.intro (by decide +kernel) ?_
    decide +kernel

/-- FailedChecks: a field that fails, a record too long, an opcode outside the safe list. -/
theorem witness_FailedChecks :
    (let c := hc 0 (zeros 16)
    Sent (.fhFlowSet c) 0x0403 c 0 live ∧ badRange (rung 0x0403 c 0 live) 1 (cmdArea 0) (8 + c.req.length) = false ∧
      checkAll (entered 0x0403 c 0 live) (taken 0x0403 c) = some (stBAD_PARAM, 8) ∧ fullRecord (taken 0x0403 c) stBAD_PARAM = false ∧
      tfind live.mbx.last 0 ≠ some (c.seq, 0x0403)) ∧
    (romSafeRuns live = false ∧ ((cmdOf 0x0101).any fun d => (zeros 1).length != d.len (zeros 1)) = true) ∧
    (romSafeRuns (boot_ fun b => { b with mode := 2, step := 6 }) = true ∧ romSafeOps.contains 0x0403 = false ∧ (cmdOf 0x0403).isSome = true) :=
  by
    iterate 2 refine And.intro (by (try unfold Sent); (try unfold Passes); (try unfold ChannelFree); decide +kernel) ?_
    (try unfold Sent); (try unfold Passes); (try unfold ChannelFree); decide +kernel

/-- RepeatedCommand: a command that has completed and one that has not. -/
theorem witness_RepeatedCommand :
    (let u := rung 0x0101 (hc 0 []) 0 live
    let s := { u with mbx := { u.mbx with ring := 0, last := [(0, (1, 0x0101))] } }
    ChannelFree 0 s ∧ Memory.wf s.mem = true ∧ badRange s 1 (cmdArea 0) (8 + (areaCmd s (.host 0)).req.length) = false ∧
      tfind s.mbx.last 0 = some ((areaCmd s (.host 0)).seq, (areaCmd s (.host 0)).op)) ∧
    (let s := mbx_ fun m => { m with ring := 0x80, inband := false }
    accessError s 0x40030000 = none ∧ s.mbx.ring.testBit 7 = true ∧ s.mbx.inband = false ∧ s.mbx.fifo = []) ∧
    (domOn live dCTRL = true) ∧
    ((mbx_ fun m => { m with ring := 1 }).mbx.ring.testBit 0 = true ∧ (mbx_ fun m => { m with ring := 1 }).mbx.fifo = []) :=
  by
    iterate 3 refine And.intro (by (try unfold Sent); (try unfold Passes); (try unfold ChannelFree); decide +kernel) ?_
    (try unfold Sent); (try unfold Passes); (try unfold ChannelFree); decide +kernel

/-- HostPortRefuses: the first and last words of a ringing area, channel 7 with the stream on, READY 0. -/
theorem witness_HostPortRefuses :
    (let s := mbx_ fun m => { m with ring := 1 }
    s.pwr.aoUp = true ∧ accessError s (0x20000000 + cmdArea 0) = none ∧ accessError s (0x20000000 + respArea 0 - 4) = none ∧
      0x20000000 + cmdArea 0 ≤ 0x20000000 + respArea 0 - 4 ∧ 0x20000000 + respArea 0 - 4 < 0x20000000 + respArea 0 ∧ s.mbx.ring.testBit 0 = true) ∧
    (let s := mbx_ fun m => { m with inband := true }
    accessError s 0x40030000 = none ∧ s.mbx.ready = true ∧ s.mbx.inband = true ∧ s.mbx.fifo = []) ∧
    ((mbx_ fun m => { m with ready := false }).mbx.ready = false ∧ accessError (mbx_ fun m => { m with ready := false }) 0x40030000 = none) ∧
    (domOn live dCTRL = true ∧ (boot_ fun b => { b with step := 7 }).boot.step = 7 ∧ live.boot.held = false) :=
  by
    iterate 3 refine And.intro (by decide +kernel) ?_
    decide +kernel

/-- InbandAndFirmwareCommands: a frame waiting, firmware, a link that is up and one that is not, the stream on and off. -/
theorem witness_InbandAndFirmwareCommands :
    (let s := mbx_ fun m => { m with queue31 := [(5, [1, 1, 1, 0, 0, 0, 0, 0])] }
    s.mbx.ready = true ∧ s.mbx.waiting = none ∧ s.mbx.queue31 = (5, [1, 1, 1, 0, 0, 0, 0, 0]) :: []) ∧
    (let c : Call := { hc 0 [] with src := .firmware }
    (Instr.sysCapRead c).call = some (0x0101, c) ∧ callOk c = true ∧ fwRuns live = true ∧ live.mbx.waiting = none) ∧
    (let c : Call := { hc 0 [] with src := .baseband 4294967295 }
    (Instr.sysCapRead c).call = some (0x0101, c) ∧ callOk c = true ∧ live.fh.link ≠ 3 ∧ up.fh.link = 3 ∧ domOn up dFH = true ∧ up.mbx.inband = false ∧
      ({ up with mbx := { up.mbx with inband := true } } : State).mbx.inband = true ∧ up.mbx.queue31 = [] ∧ up.mbx.ready = true ∧ up.mbx.waiting = none) :=
  by
    iterate 2 refine And.intro (by decide +kernel) ?_
    decide +kernel

/-- FusesOnlyAdvance: a step that answers. -/
theorem witness_FusesOnlyAdvance :
    (ran .portStatus State.reset fun _ => true) :=
  by decide +kernel

/-- Ill-formed mailbox commands: a channel 8, a TAG of 33 bits, a SEQ of nine bits, a TXN_ID of 33 bits, a record of 249
bytes; a well-formed one. -/
theorem test_wf_call :
    ((Instr.sysCapRead { hc 0 [] with src := .host 8 }).wf = false ∧ (Instr.sysCapRead { hc 0 [] with src := .baseband (2 ^ 32) }).wf = false) ∧
    ((Instr.sysCapRead { hc 0 [] with seq := 256 }).wf = false ∧ (Instr.sysCapRead (hc (2 ^ 32) [])).wf = false) ∧
    ((Instr.sysCapRead (hc 0 (zeros 249))).wf = false ∧ (Instr.sysCapRead (hc (2 ^ 32 - 1) (zeros 248))).wf = true) :=
  by
    iterate 2 refine And.intro (by decide +kernel) ?_
    decide +kernel

/-- Operands one beyond their range, which the check refuses: power, reset, host port and domains. -/
theorem test_wf_boot_power :
    (∀ i ∈ ([.powerGoodHeld 7, .railFault 7, .reset 256, .resetNRelease 4, .hostPortRead (2 ^ 32) 1, .shadowLoRead true (2 ^ 32), .shadowHiRead true (2 ^ 32), .registerWrite true (2 ^ 32) 0 false, .registerWrite true 0 (2 ^ 32) false, .doorbellRing 256, .doneAcknowledge 256, .faultStatusClear (2 ^ 32), .faultBitSet 9, .eventRaise 65536 0 [], .eventRaise 0 65536 [], .eventRaise 0 0 [2 ^ 32], .drainComplete 21, .drainTimeoutExpiry 21 [], .powerSwitchClose 21, .memoryInitDone 21, .wakeScrubDone 21 0, .savelistRestore 21 [], .domainOn 21, .domainOff 21] : List Instr), i.wf = false) :=
  by decide +kernel

/-- Operands one beyond their range, which the check refuses: time, transactions, the link, transmit and predistortion. -/
theorem test_wf_time_link :
    (∀ i ∈ ([.incrementWrite (2 ^ 32), .todReferenceWrite (2 ^ 32), .clockWindow 16, .dasync [8], .d2dCrcFail 8 0, .d2dCrcFail 0 32, .d2dLaneTestDone 8 0, .d2dLaneTestDone 0 448, .commitBoundary (2 ^ 32), .txnShadowLoad (2 ^ 32), .txnExpire (2 ^ 32), .laneSignalChange 16 0 0, .laneSignalChange 0 16 0, .laneSignalChange 0 0 16, .laneFailed 4, .fecWindowEnd 4 0 0 0, .frameReceived true (zeros 16385) 0 0 0, .pageClearComplete 32, .airSymbolDl 8, .airSymbolUl 8, .uplaneMessageBuild 8 [], .egressLaunch 64, .holdEnd 4, .sheetReady 4, .leaseStart 8, .dpdCaptureStart 8, .dpdCaptureComplete 8 0 0 0 [] [], .dpdCaptureComplete 0 64 0 0 [] [], .dpdCaptureComplete 0 0 0 0 [0] [], .dpdCaptureComplete 0 0 0 0 [2048] [0], .leaseEnd 8, .dpdSolveDone 64, .dpdStarved 64, .orxFailed 8, .dpdCoefEcc 64] : List Instr), i.wf = false) :=
  by decide +kernel

/-- Operands one beyond their range, which the check refuses: receive, converters and radio states. -/
theorem test_wf_receive :
    (∀ i ∈ ([.halfSubframeLevel [(64, [])], .halfSubframeLevel [(0, [(2048, 0)])], .halfSubframeLevel [(0, [(-2049, 0)])], .halfSubframeLevel [(0, [(0, 2048)])], .halfSubframeLevel [(0, [(0, -2049)])], .foSlotEnd 8, .prachOccasionDone 256 0 0 0 0 0 [], .prachOccasionDone 0 (2 ^ 32) 0 0 0 0 [], .prachOccasionDone 0 0 0 4 0 0 [], .prachOccasionDone 0 0 0 0 14 0 [], .converterInitDone 384 [] [], .spareVisitStart 384, .agreementTest 384 0 0 0 0, .handover 384 0 0, .cellVisit 384 0 0, .estimationWindowEnd 384 0 [], .estimationWindowEnd 0 32 [], .hkConversion [4096], .sheetTempUpdate 4 0 0, .patternArm 4, .rsTimerFire 4 0, .rsTimerFire 0 8, .rsTransitionEnd 4, .strobeEdge 4 0, .strobeEdge 0 4] : List Instr), i.wf = false) :=
  by decide +kernel

/-- Operands one beyond their range, which the check refuses: synthesizers, survey, front end, memories and captures. -/
theorem test_wf_front_end :
    (∀ i ∈ ([.synthCalStart 4, .synthLock 4 0 0, .synthLock 0 256 0, .synthLock 0 0 256, .synthCalTimeout 4, .loUnlock 4 0, .loUnlock 0 2, .recalAfterUnlock 4, .quickSurveyStart 16, .qsRetry 4, .trackCapture 8 [] [] [], .trackCapture 0 [] [0] [], .trackEvaluate 4 0, .trackEvaluate 0 2, .biasClearPhaseEnd 144, .biasSettled 144, .spanSwitch 144, .biasSuperviseSample 144 false false, .rffeMessageStart 8, .rffeMessageDone 8 false [], .mismatchInterval 64, .mismatchResult 64 0 [] [], .mismatchResult 0 8 [] [], .spargeVisit 8, .prioritySpargeVisit 8, .spargePassEnd 8, .remapCopyDone 9 0, .memUncorr 9 0 0, .memUncorr 0 0 9, .captureStart 4 0, .captureDone 4 0 [], .captureAbort 4, .captureLeaseTimeout 4, .dcAcqEnd 64] : List Instr), i.wf = false) :=
  by decide +kernel

/-- No row of the table has bits: no word spells a command, and withFetchWord leaves the state. -/
theorem test_decode_table_word :
    (decodeTableWord 16 0 = none ∧ State.reset.withFetchWord 16 0 = State.reset) :=
  by decide +kernel

/-- The worked composition of 02_contour_bearing_units, its conversion, and the clamping and null examples of R46. -/
theorem test_cb16_worked :
    (cbCompose [cbMk (-12) 0, cbMk 0 438, cbMk 5 442, cbMk (-1) 9] = (0xF179, false)) ∧
    (cbCart 0xF179 = (-279, -3242)) ∧
    (cbCompose [cbMk 40 0, cbMk 30 0] = (cbMk 63 0, true) ∧ cbCompose [cbMk 40 0, cbMk 30 0, cbMk (-20) 0] = (cbMk 50 0, false) ∧ cbCompose [0x8000, cbMk 0 438] = (0x8000, false)) ∧
    (cbCompose [cbMk (-12) 64, cbMk 2 (-70)] = (cbMk (-10) 506, false)) :=
  by
    iterate 3 refine And.intro (by decide +kernel) ?_
    decide +kernel

/-- The rotation example of 06_graticule_beamforming, and the address of a weight. -/
theorem test_graticule_worked :
    (rotator 48000 20 = (65418, 3925)) ∧
    (cdiv (cmul (-2232000, -25936000) (65418, 3925)) (2 ^ 28) = (-165, -6353)) ∧
    (0x70000000 + layerOff 0 1 79 3 41 = 0x703279D2) :=
  by
    iterate 2 refine And.intro (by decide +kernel) ?_
    decide +kernel

/-- The compression example of R88: exponent 7 for 20,000 at width 9. -/
theorem test_compress_worked :
    (compressPrb 9 (20000 :: List.replicate 23 0) = (7, 156 :: List.replicate 23 0)) :=
  by decide +kernel

/-- The AIR_NS example of R101. -/
theorem test_air_time_worked :
    ((symAir live 1 (halfOf live 0) 5).1 = 178906) :=
  by decide +kernel

/-- The latency example of R177: eight 100 MHz carriers. -/
theorem test_latency_worked :
    (let r : Rec := [0, 3, 100, 0] ++ leBytes 2 273 ++ zeros 10
    ltxOf (List.replicate 8 r) r = 48600) :=
  by decide +kernel

/-- The load example of R80. -/
theorem test_flow_load_worked :
    (let s := with_ 0x0403 0 [0, 1, 0, 0, 0, 0, 0, 0x91, 250, 0, 7, 0, 0, 0, 0, 0] (with_ 0x0701 0 ([0, 3, 100, 0] ++ leBytes 2 273 ++ zeros 10) live)
    flowLoad s (flowRec s 0) = 28000 * 61648) :=
  by decide +kernel

/-- The phase compensation example of R169. -/
theorem test_phase_comp_worked :
    (phaseComp [0, 0x0B, 100, 0, 17, 1, 0, 0, 0, 0, 0, 0, 0, 0, 0, 0] 3600015 0 3 = 3456000) :=
  by decide +kernel

/-- The example of R186: table value (8,405, 253) and output (20,520, 618). -/
theorem test_predistortion_worked :
    (let t := (List.range 64).map fun i => if i = 39 then ((8400 : Int), (250 : Int)) else if i = 40 then (8480, 290) else (0, 0)
    tableAt t 20000 = (8405, 253) ∧ cdiv (cmul (20000, 0) (tableAt t 20000)) 8192 = (20520, 618)) :=
  by decide +kernel

/-- The first step of the steeping example of R294. -/
theorem test_steeping_worked :
    (steepWord (cbMk 5 442) (cbMk 3 6) 1 4 = cbMk 4 461) :=
  by decide +kernel

/-- The transition time of R268 from STANDBY to TX, and the synthesizer words of R258. -/
theorem test_radio_worked :
    (deltaOf .standby .tx = 184000) ∧
    ((synthWords 3500000 0).1 = 2 + 256 * 28 ∧ (synthWords 3500000 0).2 = 118720) :=
  by
    iterate 1 refine And.intro (by decide +kernel) ?_
    decide +kernel

/-- The message time of R315 at DIV 38: 68 cycles. -/
theorem test_rffe_worked :
    (sclkNs live 0 68 = 2629) :=
  by decide +kernel

/-- The command example of 18_mailbox_commands: the response head of TX_PATH_GET for path 41 on channel 1, and its bits. -/
theorem test_path_get_worked :
    (ran (.txPathGet { src := .host 1, seq := 0x2A, txn := 0, req := [41] }) live fun t =>
      peek t .mailbox 0x300 9 == [0x04, 0x07, 0x2A, 0x18, 0, 0, 0xFF, 0xFF, 41] && t.mbx.done.testBit 1 && !t.mbx.ring.testBit 1) ∧
    (peek (runP (store .mailbox 1 (cmdArea 1) (cmdBytes 0x0704 { src := .host 1, seq := 0x2A, txn := 0, req := [41] })) live) .mailbox 0x200 9 = [0x04, 0x07, 0x2A, 1, 0, 0, 0, 0, 41]) :=
  by
    iterate 1 refine And.intro (by decide +kernel) ?_
    decide +kernel

/-- The example of R426: the HI word of a pair comes from the shadow of its LO read, whatever happens between. -/
theorem test_shadow_pair_worked :
    (ran (.hostPortRead 0x40200008 1) live fun t => t.host.lastRead == [0xFFFFFFFF] &&
      ran (.hostPortRead 0x4020000C 1) { t with clk := { t.clk with isoTx := 0x8000800080008000 } } fun u => u.host.lastRead == [0xFFFFFFFF]) ∧
    (ran (.hostPortRead 0x40200008 2) { live with clk := { live.clk with isoTx := 0x8000800080008000 } } fun u => u.host.lastRead == [0x7FFF7FFF, 0x7FFF7FFF]) :=
  by
    iterate 1 refine And.intro (by decide +kernel) ?_
    decide +kernel

/-- ReadsChangeNothing: a command of each clause. -/
theorem witness_ReadsChangeNothing :
    (Sent (.commitLogRead (hc 0 (zeros 8))) 0x0120 (hc 0 (zeros 8)) 0 live ∧ 0x0120 ∈ readOps) ∧
    (Sent (.sysCapRead (hc 0 [])) 0x0101 (hc 0 []) 0 live ∧ Passes 0x0101 (hc 0 []) 0 live ∧ 0x0101 ∈ readOps) :=
  by
    iterate 1 refine And.intro (by (try unfold Sent); (try unfold Passes); (try unfold ChannelFree); decide +kernel) ?_
    (try unfold Sent); (try unfold Passes); (try unfold ChannelFree); decide +kernel

/-- Two equal fits agree. -/
theorem fitsAgree_self (s : State) (a : Fit) : fitsAgree s a a = true := by
  have h : fxWrap 0 = 0 := by decide
  simp [fitsAgree, h, fxOne] <;> omega

/-- The values of an empty block do not depend on where it begins. -/
theorem leaseValues_silent (s : State) (kind src : Nat) (fs : List Nat) (n m : Int) :
    leaseValues s kind src fs n [[]] = leaseValues s kind src fs m [[]] := by
  simp [leaseValues, toneValue, toneSum]

/-- The loop reading of sheet 0 with silent blocks. -/
def silent : List Reading := [⟨3, 0, 0, [[]], [[]]⟩]

/-- SurveyCampaigns: a reading whose two blocks agree has its sheet accepted. -/
theorem witness_SurveyCampaigns_accepts :
    campTaken surveying camp1 = true ∧ campSet surveying camp1 silent = [0] := by
  refine ⟨by decide +kernel, ?_⟩
  have hr : ∃ q, reading (campView surveying camp1) camp1 silent 3 0 0 = some q ∧ q.agrees = true := by
    refine ⟨_, rfl, ?_⟩
    simp only [Machine.measure]
    rw [leaseValues_silent _ _ _ _ _ 0, leaseValues_silent _ _ _ _ (blockStarts _ _ _ _ _).2 0, fitsAgree_self]
    decide +kernel
  have ht : tieGood (campView surveying camp1) camp1 silent 3 0 0 = true := by
    obtain ⟨q, hq, ha⟩ := hr
    have hn : noSignal [q] q = false := by
      simp [noSignal, fxMean, sumI, fxOne, divRna]
      omega
    simp [tieGood, hq, ha, hn, show setBits 4 camp1.sheets = [0] from by decide]
  have hc : rejectCode (campView surveying camp1) camp1 silent 0 = 0 := by
    have h1 : noReceiver (campView surveying camp1) 0 = false := by decide +kernel
    have h2 : tiesOf camp1 0 = [(3, 0, 0)] := by decide +kernel
    have h3 : ∀ dir ∈ [0, 1], sheetEls (campView surveying camp1) dir 0 = [] := by decide +kernel
    simp [rejectCode, h1, h2, ht, txReused, h3 0 (by simp), h3 1 (by simp)]
  simp [campSet, campCodes, hc, show setBits 4 camp1.sheets = [0] from by decide, show camp1.full = false from rfl]

/-- StepKeepsInvariant: a state with a counter and a total at their ends and an event in its log meets the invariant. -/
theorem witness_StepKeepsInvariant :
    Inv { live with
      cnts := [(0, 0xFFFFFFFF)], tots := [(0, 2 ^ 64 - 1)]
      evt := { recs := [{ seq := 2 ^ 32 - 1, timeS := 0, timeNs := 0, flags := 0, code := 1, unit := 0, d0 := 0, d1 := 0, d2 := 0 }], next := 0 } } := by
  iterate 5 refine And.intro (by decide +kernel) ?_
  refine And.intro ?_ ?_
  · intro i r h
    simp [live, State.reset] at h
  iterate 2 refine And.intro (by decide +kernel) ?_
  intro i r h
  cases i with
  | zero => simp at h; subst h; decide
  | succ n => simp at h

end Sys2Proof.Tests
end

section
/-! Writes through the window to the registers of DATUM (05 R97): the nine that the control processor alone writes, and what of
datum time a write of the host can reach. -/

namespace Sys2Proof.Proofs.DatumWrites

open Sys2Proof Sys2Proof.Machine Sys2Proof.Laws

/-! ### The nine registers that the control processor alone writes -/

/-- The nine registers lie in the block of DATUM. -/
theorem cpuReg_bounds {a : Nat} (h : cpuReg a = true) :
    0x40110004 ≤ a ∧ a ≤ 0x40110028 ∧ a % 4 = 0 := by
  simp [cpuReg] at h
  omega

theorem windowMem_cpuReg {a : Nat} (h : cpuReg a = true) : windowMem a = none := by
  obtain ⟨lo, hi, -⟩ := cpuReg_bounds h
  simp only [windowMem]
  repeat rw [if_neg (by omega)]

theorem addrDom_cpuReg {a : Nat} (h : cpuReg a = true) : addrDom a = dDATUM := by
  obtain ⟨lo, hi, -⟩ := cpuReg_bounds h
  have hb : a / 65536 = 0x4011 := by omega
  simp [addrDom, hb]

theorem addrLogged_cpuReg {a : Nat} (h : cpuReg a = true) : addrLogged a = false := by
  obtain ⟨lo, hi, -⟩ := cpuReg_bounds h
  have hb : a / 65536 = 0x4011 := by omega
  simp [addrLogged, hb]

/-- While DATUM is ON an access to one of the nine reaches it (19 R424). -/
theorem accessError_cpuReg {s : State} {a : Nat} (h : cpuReg a = true) (hon : domOn s dDATUM = true) :
    accessError s a = none := by
  obtain ⟨lo, hi, hal⟩ := cpuReg_bounds h
  have hm : mapped a = true := by simp [mapped]; omega
  simp [accessError, hal, hm, windowDom, windowMem_cpuReg h, addrDom_cpuReg h, hon]

theorem blockWrite_cpuReg {cpu : Bool} {a v : Nat} (h : cpuReg a = true) :
    blockWrite cpu a v = whenP cpu (datumWrite a v) := by
  obtain ⟨lo, hi, -⟩ := cpuReg_bounds h
  simp only [blockWrite]
  repeat rw [if_neg (by omega)]
  rw [if_pos h]

/-- A write that reaches one of the nine acts for the control processor and does nothing for the host (05 R97). -/
theorem exec_registerWrite_cpuReg {cpu : Bool} {s : State} {a : Nat} (v : Nat) (h : cpuReg a = true)
    (hacc : accessError s a = none) : exec (.registerWrite cpu a v false) s =
      .next (if s.pwr.aoUp = true ∧ cpu = true then runP (datumWrite a (v % 2 ^ 32)) s else s) := by
  obtain ⟨lo, hi, -⟩ := cpuReg_bounds h
  have ha : a % 2 ^ 32 = a := Nat.mod_eq_of_lt (by omega)
  have hw : runP (writeWord cpu a (v % 2 ^ 32)) s = if cpu = true then runP (datumWrite a (v % 2 ^ 32)) s else s := by
    simp [writeWord, windowMem_cpuReg h, addrLogged_cpuReg h, blockWrite_cpuReg h]
  simp only [exec, execRegisterWrite, done, ha, hacc, Bool.false_and, Bool.false_eq_true, if_false, runP_whenP, hw]
  cases s.pwr.aoUp <;> simp

/-- The control processor's write of one of the nine, DATUM ON. -/
theorem exec_registerWrite_processor {s : State} {a v : Nat} (h : cpuReg a = true) (hup : s.pwr.aoUp = true)
    (hon : domOn s dDATUM = true) (hv : v < 2 ^ 32) :
    exec (.registerWrite true a v false) s = .next (runP (datumWrite a v) s) := by
  rw [exec_registerWrite_cpuReg v h (accessError_cpuReg h hon), if_pos ⟨hup, rfl⟩, Nat.mod_eq_of_lt hv]

/-! ### What of datum time the host's writes leave -/

/-- Datum time without what is the host's to write: the two windows of LATE and the mark of PPS_IN. -/
def apartFromHost (d : DatumSt) : DatumSt := { d with airWindow := 0, rsWindow := 0, ppsInSeen := false }

/-- The counter, its increment, the reference triple and the TOD reference. -/
def timeOf (d : DatumSt) :
    BitVec 32 × BitVec 44 × Nat × Nat × Option (Nat × Nat) × (Nat × Nat × Nat) × (Nat × Nat × Nat) :=
  (d.cnt, d.frac, d.incInt, d.incFrac, d.incNext, d.ref, d.tod)

/-- Two states of datum time that agree apart from what is the host's differ in the three host fields only. -/
theorem eq_of_apartFromHost_eq {d e : DatumSt} (h : apartFromHost d = apartFromHost e) :
    d = { e with airWindow := d.airWindow, rsWindow := d.rsWindow, ppsInSeen := d.ppsInSeen } := by
  calc d = { apartFromHost d with airWindow := d.airWindow, rsWindow := d.rsWindow, ppsInSeen := d.ppsInSeen } := rfl
    _ = { apartFromHost e with airWindow := d.airWindow, rsWindow := d.rsWindow, ppsInSeen := d.ppsInSeen } := by rw [h]

section
variable {α : Type} (f : DatumSt → α)

/-- A program that avoids the group of datum time leaves every reading of it. -/
theorem leaves_of_avoids_datum {p : Prog} (hp : Avoids .datum p) : Leaves (fun s => f s.datum) p :=
  leaves_datum (fun _ => rfl) hp

theorem leaves_modDatum {g : DatumSt → DatumSt} (hg : ∀ d, f (g d) = f d) : Leaves (fun s => f s.datum) (modDatum g) :=
  fun s => hg s.datum

end

/-- What leaves all that is not the host's leaves the counter, its increment and both references. -/
theorem leaves_time {p : Prog} (h : Leaves (fun s => apartFromHost s.datum) p) : Leaves (fun s => timeOf s.datum) p :=
  fun s => show timeOf (apartFromHost (runP p s).datum) = timeOf (apartFromHost s.datum) from congrArg timeOf (h s)

/-- The writable fields of a register: of datum time only the two windows. -/
theorem regPoke_leaves (a v m : Nat) : Leaves (fun s => apartFromHost s.datum) (regPoke a v m) := by
  have other : ∀ {p : Prog}, Avoids .datum p → Leaves (fun s => apartFromHost s.datum) p :=
    leaves_of_avoids_datum apartFromHost
  refine leaves_ask fun s => ?_
  dsimp only
  split
  · exact other (by simp)
  split
  · exact other (by simp)
  split
  · exact other (by simp)
  split
  · exact other (by simp)
  exact leaves_ite (other (by simp)) (leaves_ite (other (by simp))
    (leaves_ite (leaves_modDatum apartFromHost fun _ => rfl) (other (by simp))))

/-- What a register's write does beyond its fields, but for PWR.CTRL: of datum time only the mark of PPS_IN. -/
theorem regAct_leaves {a : Nat} (v : Nat) (ha : a ≠ 0x4001000C) : Leaves (fun s => apartFromHost s.datum) (regAct a v) := by
  have other : ∀ {p : Prog}, Avoids .datum p → Leaves (fun s => apartFromHost s.datum) p :=
    leaves_of_avoids_datum apartFromHost
  have ppsInSeen : Leaves (fun s => apartFromHost s.datum) (modDatum fun d => { d with ppsInSeen := false }) :=
    leaves_modDatum apartFromHost fun _ => rfl
  simp only [regAct, if_neg ha]
  exact leaves_ite (other (by simp)) (leaves_ite (other (by simp)) (leaves_ite (other (by simp))
    (leaves_ite (leaves_whenP ppsInSeen) (other (by simp)))))

theorem regStore_leaves {a : Nat} (v m : Nat) (ha : a ≠ 0x4001000C) :
    Leaves (fun s => apartFromHost s.datum) (regStore a v m) :=
  leaves_ask fun _ => leaves_whenP (leaves_seq (regPoke_leaves a v m) (regAct_leaves _ ha))

/-! ### A write of PWR.CTRL -/

/-- The start of a reset leaves the counter, its increment and both references (17 R381). -/
theorem startReset_leaves_time (cause : Nat) : Leaves (fun s => timeOf s.datum) (startReset cause) := by
  unfold startReset
  repeat' refine leaves_cons ?_ ?_
  any_goals exact leaves_modDatum timeOf fun _ => rfl
  all_goals exact leaves_of_avoids_datum timeOf (by simp)

theorem pwrWake_leaves_time : Leaves (fun s => timeOf s.datum) pwrWake := by
  refine leaves_ask fun s => leaves_ite (leaves_of_avoids_datum timeOf (by simp)) (leaves_whenP ?_)
  exact leaves_cons (startReset_leaves_time _) (leaves_of_avoids_datum timeOf (by simp))

theorem regStore_leaves_time (a v m : Nat) : Leaves (fun s => timeOf s.datum) (regStore a v m) := by
  by_cases ha : a = 0x4001000C
  · subst ha
    exact leaves_ask fun _ => leaves_whenP (leaves_seq (leaves_time (regPoke_leaves _ _ _))
      (leaves_seq (leaves_whenP pwrWake_leaves_time) (leaves_of_avoids_datum timeOf (by simp))))
  · exact leaves_time (regStore_leaves v m ha)

/-! ### A write of the host, wherever it goes -/

section
variable {α : Type} {f : DatumSt → α} {a : Nat}

/-- A host write of a block register, but for a ring of the doorbell, leaves of datum time what a plain register write leaves. -/
theorem blockWrite_host_leaves (v : Nat) (ha : a ≠ 0x40030000) (hreg : ∀ m, Leaves (fun s => f s.datum) (regStore a v m)) :
    Leaves (fun s => f s.datum) (blockWrite false a v) := by
  have other : ∀ {p : Prog}, Avoids .datum p → Leaves (fun s => f s.datum) p := leaves_of_avoids_datum f
  simp only [blockWrite, if_neg ha]
  exact leaves_ite (other (by simp)) (leaves_ite (other (by simp)) (leaves_ite (other (by simp)) (leaves_ite (other (by simp))
    (leaves_ite (other (by simp)) (leaves_ite (other (by simp)) (hreg _))))))

theorem writeWord_host_leaves (v : Nat) (ha : a ≠ 0x40030000) (hreg : ∀ m, Leaves (fun s => f s.datum) (regStore a v m)) :
    Leaves (fun s => f s.datum) (writeWord false a v) := by
  unfold writeWord
  split
  · exact leaves_of_avoids_datum f (by simp)
  · exact leaves_of_avoids_datum f (by simp)
  · exact leaves_cons (leaves_of_avoids_datum f (by simp)) (leaves_cons (blockWrite_host_leaves v ha hreg)
      (leaves_of_avoids_datum f (by simp)))

/-- The answer to a host write, whether the word is cut, fails or reaches its location. -/
theorem registerWrite_host_answers (v : Nat) (cut : Bool) (hlt : a < 2 ^ 32) (ha : a ≠ 0x40030000)
    (hreg : ∀ v m, Leaves (fun s => f s.datum) (regStore a v m)) (s : State) :
    Answers (.registerWrite false a v cut) s fun t => f t.datum = f s.datum := by
  refine ⟨_, rfl, ?_⟩
  rw [Nat.mod_eq_of_lt hlt]
  refine leaves_whenP (f := fun s => f s.datum) (leaves_ite ?_ ?_) s
  · exact leaves_of_avoids_datum f (by simp)
  · split
    · exact leaves_of_avoids_datum f (by simp)
    · exact writeWord_host_leaves _ ha (hreg _)

end

/-- Settles O34: the nine registers by the one form of a write that reaches them, the frame of every host write by what each part of
it leaves of datum time. -/
theorem hostWritesToDatum : Obligations.HostWritesToDatum := by
  refine ⟨fun s a v hacc ha => ?_, fun s v hup hon hv => ?_, fun s a v cut hlt ha => ?_⟩
  · have hcpu : cpuReg a = true := by simpa [cpuReg] using ha
    simpa using exec_registerWrite_cpuReg (cpu := false) v hcpu hacc
  · have write : ∀ {a}, cpuReg a = true → exec (.registerWrite true a v false) s = .next (runP (datumWrite a v) s) :=
      fun h => exec_registerWrite_processor h hup hon hv
    refine ⟨write rfl, write rfl, write rfl, ?_, write rfl, write rfl, write rfl, write rfl, write rfl⟩
    rw [write rfl]
    cases hstep : v.testBit 0
    · simp [datumWrite, hstep, modDatum_run]
    · simp only [datumWrite, runP_seq, runP_whenP, modDatum_run, hstep, if_true]
      rfl
  · obtain ⟨t, ht, time⟩ := registerWrite_host_answers (f := timeOf) v cut hlt ha (regStore_leaves_time a) s
    refine ⟨t, ht, fun hctrl => ?_, ?_⟩
    · obtain ⟨u, hu, apart⟩ :=
        registerWrite_host_answers (f := apartFromHost) v cut hlt ha (fun v m => regStore_leaves v m hctrl) s
      obtain rfl : t = u := by simpa [ht] using hu
      exact eq_of_apartFromHost_eq apart
    · simpa [timeOf] using time

end Sys2Proof.Proofs.DatumWrites
end

section
/-! Rings of the doorbell and the commands they repeat (18 R403 to R405): what a ring of one channel sets going, what a repetition
leaves, what the start of a reset leaves of the mailbox, and which writes of the host the mailbox refuses. -/

namespace Sys2Proof.Proofs.MailboxRings

open Sys2Proof Sys2Proof.Machine Sys2Proof.Laws

/-! ### Masks of channels -/

theorem setBits_two_pow {ch : Nat} (h : ch < 8) : setBits 8 (2 ^ ch) = [ch] := by
  have all : ∀ c < 8, setBits 8 (2 ^ c) = [c] := by decide
  exact all ch h

theorem two_pow_mod_256 {ch : Nat} (h : ch < 8) : 2 ^ ch % 256 = 2 ^ ch :=
  Nat.mod_eq_of_lt (Nat.pow_lt_pow_right (a := 2) (m := ch) (n := 8) (by decide) h)

/-- A mask with one bit of it kept. -/
theorem and_single_bit (m k : Nat) : m &&& 2 ^ k = if m.testBit k = true then 2 ^ k else 0 := by
  refine Nat.eq_of_testBit_eq fun i => ?_
  by_cases hik : k = i
  · subst hik
    rw [Nat.testBit_and, Nat.testBit_two_pow_self, Bool.and_true]
    cases hbit : m.testBit k with
    | false => exact (Nat.zero_testBit k).symm
    | true => exact Nat.testBit_two_pow_self.symm
  · have hother : (2 ^ k).testBit i = false := Nat.testBit_two_pow_of_ne hik
    rw [Nat.testBit_and, hother, Bool.and_false]
    split
    · exact hother.symm
    · exact (Nat.zero_testBit i).symm

/-- The bit that is taken out of a mask reads 0. -/
theorem testBit_andNot_two_pow (m k : Nat) : (andNot m (2 ^ k)).testBit k = false := by
  rw [andNot, and_single_bit]
  cases hbit : m.testBit k with
  | false => exact hbit
  | true =>
    have hodd : m / 2 ^ k % 2 = 1 := by rwa [Nat.testBit_eq_decide_div_mod_eq, decide_eq_true_eq] at hbit
    have hdiv : (m - 2 ^ k * 1) / 2 ^ k = m / 2 ^ k - 1 := Nat.sub_mul_div m (2 ^ k) 1
    rw [Nat.mul_one] at hdiv
    rw [if_pos rfl, Nat.testBit_eq_decide_div_mod_eq, hdiv, decide_eq_false_iff_not]
    omega

/-! ### Bytes of a memory -/

theorem getD_memRead (i : MemId) (m : Mem) {n j : Nat} (h : j < n) (a : Nat) (d : Byte) :
    (memRead i m a n).getD j d = memGet i m (a + j) := by
  induction n generalizing a j with
  | zero => omega
  | succ n ih =>
    cases j with
    | zero => simp [memRead]
    | succ j =>
      rw [memRead, List.getD_cons_succ, ih (by omega)]
      congr 1
      omega

@[simp] theorem length_memRead (i : MemId) (m : Mem) (a n : Nat) : (memRead i m a n).length = n := by
  induction n generalizing a with
  | zero => rfl
  | succ n ih => simp [memRead, ih]

theorem getD_peek (s : State) (i : MemId) (a : Nat) {n j : Nat} (h : j < n) (d : Byte) :
    (peek s i a n).getD j d = memGet i (s.mem.get i) (a + j) :=
  getD_memRead i _ h a d

/-- One byte stored: its address reads the byte, every other what it read before. -/
theorem memGet_store_byte (i : MemId) (code a x : Nat) (b : Byte) {s : State} (hwf : Memory.wf s.mem = true) :
    memGet i ((runP (store i code a [b]) s).mem.get i) x = if x = a then b else memGet i (s.mem.get i) x := by
  have hmem : (runP (store i code a [b]) s).mem = s.mem.poke i a b := by
    simp only [store, pokes, runP_seq, runP_skip]
    rw [keeps_mem (by simp)]
    rfl
  rw [hmem, MemSt.poke, get_put, if_pos rfl]
  exact memGet_memSet i a x b ((wf_get s.mem).1 hwf i)

/-! ### A ring of one channel -/

/-- A host write of the doorbell, the domain of the mailbox ON. -/
theorem exec_doorbellRing {s : State} (mask : Nat) (h : accessError s 0x40030000 = none) :
    exec (.doorbellRing mask) s = .next (runP (ringMask (mask % 256)) s) := by
  simp only [exec, execDoorbellRing, h, done]

/-- With no command waiting none is taken. -/
theorem drainAll_empty {s : State} (h : s.mbx.fifo = []) : runP drainAll s = s := by
  simp [drainAll, h, drain]

/-- The one command that waits is taken. -/
theorem drainAll_one {s : State} {c : Cmd} (hfifo : s.mbx.fifo = [c]) (hwaiting : s.mbx.waiting = none) :
    runP drainAll s = runP (takeCmd c) { s with mbx := { s.mbx with fifo := [] } } := by
  simp [drainAll, hfifo, drain, hwaiting, modMbx_run]

/-- A ring that is not of channel 7 while the in-band stream is on is not blocked (18 R404). -/
theorem ring_not_blocked {ch : Nat} {inband : Bool} (h : ch = 7 → inband = false) :
    (inband && (2 ^ ch).testBit 7) = false ∧ (ch == 7 && inband) = false := by
  by_cases h7 : ch = 7
  · simp [h h7]
  · simp [h7]

/-- READY 0: a ring is ignored (18 R404). -/
theorem ringMask_notReady {s : State} (mask : Nat) (h : s.mbx.ready = false) : runP (ringMask mask) s = s := by
  simp [ringMask, h]

/-- A ring of channel 7 while the in-band stream is on sets BLOCKED alone (18 R404). -/
theorem ringMask_inband {s : State} (hready : s.mbx.ready = true) (hinband : s.mbx.inband = true) (hfifo : s.mbx.fifo = []) :
    runP (ringMask 0x80) s = { s with mbx := { s.mbx with blocked := s.mbx.blocked ||| 0x80 } } := by
  have hchannels : setBits 8 0x80 = [7] := setBits_two_pow (ch := 7) (by decide)
  have hbit : Nat.testBit 0x80 7 = true := by decide
  simp [ringMask, hready, hinband, hchannels, hbit, modMbx_run, drainAll_empty, hfifo]

/-- A ring of a channel that rings already sets nothing going. -/
theorem ringMask_ringing {s : State} {ch : Nat} (hch : ch < 8) (hring : s.mbx.ring.testBit ch = true)
    (hinband : ch = 7 → s.mbx.inband = false) (hfifo : s.mbx.fifo = []) : runP (ringMask (2 ^ ch)) s = s := by
  obtain ⟨hblock, -⟩ := ring_not_blocked hinband
  simp [ringMask, setBits_two_pow hch, hring, hblock, drainAll_empty hfifo]

/-- What the ring of a channel leaves of the mailbox once its command is taken: RING set, DONE clear. -/
def ringUp (ch : Nat) : Prog := modMbx fun m => { m with ring := m.ring ||| 2 ^ ch, done := andNot m.done (2 ^ ch) }

/-- The command of a free channel that rings is taken at once (18 R403). -/
theorem ringMask_free {s : State} {ch : Nat} (h : ChannelFree ch s) :
    runP (ringMask (2 ^ ch)) s = runP (takeCmd (areaCmd s (.host ch))) (runP (ringUp ch) s) := by
  obtain ⟨hch, -, -, hready, hring, hfifo, hwaiting, hinband⟩ := h
  obtain ⟨hblock, hopen⟩ := ring_not_blocked hinband
  have hrings : ((setBits 8 (2 ^ ch)).filter fun c => !s.mbx.ring.testBit c && !(c == 7 && s.mbx.inband)) = [ch] := by
    rw [setBits_two_pow hch, List.filter_cons_of_pos (by rw [hring, hopen]; rfl), List.filter_nil]
  simp only [ringMask, runP_ask, runP_whenP, runP_seqs_cons, runP_seqs_nil, hready, hblock, hrings, runP_each_cons,
    runP_each_nil, modMbx_run, hfifo, List.nil_append, if_true, Bool.false_eq_true, if_false, ringUp]
  exact drainAll_one rfl hwaiting

/-! ### A repetition (18 R405) -/

/-- A command of a host channel that repeats the pair kept for the channel is answered from the stored response. -/
theorem takeCmd_repeated {s : State} {c : Cmd} {ch : Nat} (hsrc : c.src = .host ch)
    (hread : badRange s 1 (cmdArea ch) (8 + c.req.length) = false) (hlast : tfind s.mbx.last ch = some (c.seq, c.op)) :
    runP (takeCmd c) s = runP (replay (.host ch)) s := by
  simp [takeCmd, hsrc, srcChannel, hread, hlast]

/-- Byte 5 of a response with REPLAYED set. -/
theorem getD_putAt_replayed {v : Rec} (hv : 5 < v.length) (d : Byte) :
    (putAt v 5 (leBytes 1 (fld v 5 1 ||| 1))).getD 5 d = v.getD 5 0 ||| 1 := by
  have hfld : fld v 5 1 = v[5].toNat := by
    rw [fld, List.drop_eq_getElem_cons hv, List.take_succ_cons, List.take_zero]
    rfl
  have hbyte : BitVec.ofNat 8 (v[5].toNat ||| 1) = v[5] ||| 1 := by
    rw [BitVec.ofNat_or, BitVec.ofNat_toNat, BitVec.setWidth_eq]
    rfl
  have hlen : (v.take 5).length = 5 := by simp; omega
  have hat : (v.take 5 ++ [v[5] ||| 1] ++ v.drop 6)[5]? = some (v[5] ||| 1) := by
    rw [List.append_assoc, List.getElem?_append_right (by omega)]
    simp [hlen]
  simp only [putAt, leBytes, hfld, hbyte, List.length_singleton]
  rw [List.getD_eq_getElem?_getD, List.getElem?_take_of_lt hv, hat, List.getD_eq_getElem?_getD, List.getElem?_eq_getElem hv,
    Option.getD_some, Option.getD_some]

/-- A repetition on a host channel: REPLAYED is set in the stored response, MBX.REPLAYS counts, RING clears and DONE is set. -/
theorem replay_host (s : State) (ch : Nat) : runP (replay (.host ch)) s =
    runP (seqs [store .mailbox 1 (respArea ch + 5) [(peek s .mailbox (respArea ch) 256).getD 5 0 ||| 1],
      count blkMbx 0 2, ringDone ch]) s := by
  have hlen : 5 < (peek s .mailbox (respArea ch) 256).length := by simp [peek]
  simp only [replay, srcChannel, runP_ask, getD_putAt_replayed hlen]

theorem peek_replay_host {s : State} (hwf : Memory.wf s.mem = true) (ch : Nat) {j : Nat} (hj : j < 256) :
    (peek (runP (replay (.host ch)) s) .mailbox (respArea ch) 256).getD j 0 =
      (peek s .mailbox (respArea ch) 256).getD j 0 ||| (if j = 5 then 1 else 0) := by
  have hmem : ∀ t, (runP (seqs [count blkMbx 0 2, ringDone ch]) t).mem = t.mem := fun t => keeps_mem (by simp)
  rw [getD_peek _ _ _ hj, replay_host, runP_seqs_cons, hmem, memGet_store_byte _ _ _ _ _ hwf, getD_peek _ _ _ hj,
    getD_peek _ _ _ (by decide)]
  by_cases h5 : j = 5
  · simp [h5]
  · simp [h5]

theorem replay_host_mbx (s : State) (ch : Nat) : (runP (replay (.host ch)) s).mbx =
    { s.mbx with ring := andNot s.mbx.ring (2 ^ ch), done := s.mbx.done ||| 2 ^ ch } := by
  rw [replay_host]
  simp [ringDone]

theorem replay_host_counts (s : State) (ch : Nat) :
    cntVal (runP (replay (.host ch)) s) blkMbx 0 2 = satAdd (cntVal s blkMbx 0 2) 1 := by
  rw [replay_host]
  simp [cntVal, count, runP_upd]

/-- A ring of a free channel that repeats the pair kept for the channel. -/
theorem exec_doorbellRing_repeated {s : State} {ch : Nat} (hfree : ChannelFree ch s)
    (hread : badRange s 1 (cmdArea ch) (8 + (areaCmd s (.host ch)).req.length) = false)
    (hlast : tfind s.mbx.last ch = some ((areaCmd s (.host ch)).seq, (areaCmd s (.host ch)).op)) :
    exec (.doorbellRing (2 ^ ch)) s = .next (runP (.seq (ringUp ch) (replay (.host ch))) s) := by
  have ⟨hch, _, hport, _⟩ := hfree
  rw [exec_doorbellRing _ hport, two_pow_mod_256 hch, ringMask_free hfree, runP_seq]
  congr 1
  exact takeCmd_repeated rfl hread hlast

/-- A command that completes is kept as the pair of its channel. -/
theorem last_answer_host (k : Cmd) {ch : Nat} (st : Nat) (r : Rec) (s : State) (hsrc : k.src = .host ch) :
    tfind (runP (answer k st r) s).mbx.last ch = some (k.seq, k.op) := by
  simp [answer, respond, noteLast, deliver, hsrc, srcChannel, ringDone]

/-! ### The start of a reset and the mailbox made ready -/

/-- Of programs in a row, the first alone reaches the mailbox. -/
theorem mbx_seqs_cons {p : Prog} {l : List Prog} (hl : Avoids .mbx (seqs l)) (s : State) :
    (runP (seqs (p :: l)) s).mbx = (runP p s).mbx := by
  rw [runP_seqs_cons, keeps_mbx hl]

/-- The start of a reset clears READY and drops the commands that have not completed and the pairs kept (17 R381). -/
theorem startReset_mbx (cause : Nat) (s : State) :
    (runP (startReset cause) s).mbx.ready = false ∧ (runP (startReset cause) s).mbx.fifo = [] ∧
      (runP (startReset cause) s).mbx.parked = [] ∧ (runP (startReset cause) s).mbx.waiting = none ∧
      (runP (startReset cause) s).mbx.queue31 = [] ∧ (runP (startReset cause) s).mbx.last = [] := by
  unfold startReset
  iterate 10 rw [runP_seqs_cons]
  rw [mbx_seqs_cons (by simp)]
  exact ⟨rfl, rfl, rfl, rfl, rfl, rfl⟩

theorem exec_reset {s : State} (cause : Nat) (h : domOn s dCTRL = true) :
    exec (.reset cause) s = .next (runP (startReset (cause % 256)) s) := by
  simp [exec, execReset, done, h]

/-- Settles O58: a repetition is the ring of a free channel followed by the replay of its response; the pair of a command is noted
when it is answered, and dropped where a reset starts. -/
theorem repeatedCommand : Obligations.RepeatedCommand := by
  refine ⟨fun s ch hfree hwf => ?_, fun s k ch st r => last_answer_host k st r s, fun s cause hon => ?_,
    fun s ch hport hring hch hinband hfifo => ?_⟩
  · intro k hread hlast
    have hmbx := replay_host_mbx (runP (ringUp ch) s) ch
    refine ⟨_, exec_doorbellRing_repeated hfree hread hlast, fun j hj => peek_replay_host (s := runP (ringUp ch) s) hwf ch hj, ?_, ?_, ?_,
      replay_host_counts _ ch, ?_⟩
    · rw [runP_seq, hmbx]
      simp
    · rw [runP_seq, hmbx]
      exact testBit_andNot_two_pow _ ch
    · rw [runP_seq, hmbx]
      rfl
    · exact (within_seq (modMbx_within rfl) (replay_within rfl)).keepsBut s
  · obtain ⟨-, -, -, -, -, hlast⟩ := startReset_mbx (cause % 256) s
    exact ⟨_, exec_reset cause hon, hlast⟩
  · rw [exec_doorbellRing _ hport, two_pow_mod_256 hch, ringMask_ringing hch hring hinband hfifo]

/-! ### Writes that the mailbox refuses (18 R404) -/

/-- A host write in the command area of a channel that rings sets the channel's BLOCKED bit alone. -/
theorem mailboxWrite_ringing {s : State} {ch off : Nat} (v : Nat) (hch : ch < 8) (hlo : cmdArea ch ≤ off) (hhi : off < respArea ch)
    (hring : s.mbx.ring.testBit ch = true) :
    runP (mailboxWrite false off v) s = { s with mbx := { s.mbx with blocked := s.mbx.blocked ||| 2 ^ ch } } := by
  simp only [cmdArea, respArea] at hlo hhi
  have hchannel : off / 0x200 = ch := by omega
  have hcommand : (decide (off < 0x1000) && decide (off % 0x200 < 0x100)) = true := by
    rw [Bool.and_eq_true, decide_eq_true_eq, decide_eq_true_eq]
    omega
  simp [mailboxWrite, hcommand, hchannel, hring, modMbx_run]

/-- A word the host writes in the command area of a channel reaches mailbox SRAM, its domain ON. -/
theorem exec_registerWrite_cmdArea {s : State} {addr ch : Nat} (value : Nat) (hup : s.pwr.aoUp = true) (hch : ch < 8)
    (hlo : 0x20000000 + cmdArea ch ≤ addr) (hhi : addr < 0x20000000 + respArea ch) (hacc : accessError s addr = none) :
    exec (.registerWrite false addr value false) s =
      .next (runP (mailboxWrite false (addr - 0x20000000) (value % 2 ^ 32)) s) := by
  have hresp : respArea ch < 0x1000 := by
    unfold respArea
    omega
  have haddr : addr % 2 ^ 32 = addr := Nat.mod_eq_of_lt (by omega)
  have hmem : windowMem addr = some 1 := if_pos ⟨by omega, by omega⟩
  simp only [exec, execRegisterWrite, done, haddr, hacc, hup, Bool.false_and, Bool.false_eq_true, if_false, whenP, if_true,
    writeWord, hmem]

/-! ### Commands taken again (18 R404) -/

/-- Making the mailbox ready sets READY with every RING and DONE bit clear. -/
theorem mailboxReady_mbx (inband : Bool) (s : State) : (runP (mailboxReady inband) s).mbx =
    { s.mbx with ready := true, ring := 0, done := 0, inband := inband, fifo := [], waiting := none } := rfl

/-- Settles O59: each refusal by the one form of the write that meets it; READY by what the start of a reset leaves of the mailbox,
and by the mailbox made ready, which is the last that firmware and the ROM safe mode do when they start. -/
theorem hostPortRefuses : Obligations.HostPortRefuses := by
  refine ⟨fun s addr value ch hup hch hlo hhi hacc hring => ?_, fun s hport hready hinband hfifo => ?_,
    fun s mask hport hready => ?_, fun s cause hon => ?_, fun s hstep hheld hon => ?_, fun s hon hheld hstep => ?_⟩
  · rw [exec_registerWrite_cmdArea value hup hch hlo hhi hacc,
      mailboxWrite_ringing _ hch (by omega) (by omega) hring]
  · rw [exec_doorbellRing _ hport, ringMask_inband hready hinband hfifo]
  · rw [exec_doorbellRing _ hport, ringMask_notReady _ hready]
  · obtain ⟨hready, hfifo, hparked, hwaiting, hqueue, -⟩ := startReset_mbx (cause % 256) s
    exact ⟨_, exec_reset cause hon, hready, hfifo, hparked, hwaiting, hqueue⟩
  · refine ⟨_, rfl, ?_⟩
    simp only [hstep, hheld, hon, beq_self_eq_true, Bool.not_false, Bool.and_self, runP_whenP, if_true, runP_seqs_cons,
      runP_seqs_nil, mailboxReady_mbx, and_self]
  · refine ⟨_, rfl, ?_⟩
    simp only [hstep, hheld, hon, beq_self_eq_true, Bool.not_false, Bool.and_self, Bool.true_or, runP_whenP, if_true,
      runP_seqs_cons, runP_seqs_nil, mailboxReady_mbx, and_self]

end Sys2Proof.Proofs.MailboxRings
end
